-- ==== Sys2Proof/Word.lean ====
section
/-!
DEFINITION. The word and byte types of the block: a host word is 32 bits (R88), the smallest addressed unit is
a byte.
-/

namespace Sys2Proof

/-- One byte. -/
abbrev Byte := BitVec 8

/-- One 32-bit word: every register and every window word (R88). -/
abbrev Word := BitVec 32

end Sys2Proof
end

