-- ==== Sys2Proof/Syntax.lean ====
section
/-!
DEFINITION. The commands of the block: one constructor of Instr for each row of spec/opcode_table.json, with the
operands the event or access carries (log entry 6), and the types of those operands.
-/

namespace Sys2Proof

/-- The two host ports (R101). -/
inductive HostId where
  | a | b
deriving DecidableEq, Repr

/-- The core supplies whose fall is a reset (R52). -/
inductive CoreSupply where
  | vdd08 | vdd18
deriving DecidableEq, Repr

/-- The phase-locked loops (R68). -/
inductive Pll where
  | eng | lnk | bus | afe
deriving DecidableEq, Repr

/-- Who asks for STANDBY (R73). -/
inductive StandbySrc where
  | host (h : HostId)
  | timetable
deriving DecidableEq, Repr

/-- The blocks the control-die watchdog watches (R83). -/
inductive WatchedBlock where
  | engine | ordering | logbook | arbiter
deriving DecidableEq, Repr

/-- The two rings of the crossing (R329). -/
inductive Ring where
  | p | s
deriving DecidableEq, Repr

/-- The two safety channels (R14). -/
inductive SafetyCh where
  | a | b
deriving DecidableEq, Repr

/-- A point index (R28). -/
abbrev PointIdx := BitVec 17
/-- A group number (R28). -/
abbrev GroupIdx := BitVec 12
/-- A copy or slot of NOR that the node reads and checks as a whole (R262, R404): copy 1 or 2 of the base image, store A
or B of a timetable slot, copy A or B of a safety configuration slot. -/
inductive NorRegion where
  | image (two : Bool)
  | store (b : Bool) (slot : BitVec 4)
  | safe (b : Bool) (slot : BitVec 3)
deriving DecidableEq, Repr

/-- What the index rebuild of the logbook finds in the array (R433, R437): how many writes were cut short, the slots
that cannot be read, and the keys (tally, node) of the records that stood in those. -/
structure ArrayFind where
  torn : Nat
  unread : List (BitVec 17)
  lost : List (BitVec 64 × BitVec 10)
  /-- The slots at which writes of the merge that follows fail for good: the place of the record in the order of the
  merge, and the slot (R433, R487). -/
  worn : List (Nat × BitVec 17) := []
deriving DecidableEq, Repr

/-- An array with every write whole and every slot readable and sound. -/
abbrev ArrayFind.whole : ArrayFind := { torn := 0, unread := [], lost := [] }

/-- How a read of NOR ends: good at once, good at its return trip, or bad for good (R262). -/
inductive NorRead where
  | ok | retryOk | bad
deriving DecidableEq, Repr

/-- How a mirror or counter write in the MRAM bank ends: at once, at its return trip, or as a lasting fault that moves its
row to a spare one (R366). -/
inductive MramWrite where
  | ok | retryOk | lasting
deriving DecidableEq, Repr

/-- What a start finds of a copy of the tally ceiling, and how the write of the new ceiling to it ends (R355, R357). -/
inductive CeilFind where
  | good
  /-- The copy cannot be used. -/
  | unusable
  /-- The write succeeds at its return trip, or fails for good. -/
  | retryOk | lasting
deriving DecidableEq, Repr

/-- What a start finds in the MRAM bank: the two ceiling copies, and how the write of the power-cycle count ends (R58). -/
structure MramFind where
  ceilA : CeilFind := .good
  ceilB : CeilFind := .good
  cycles : MramWrite := .ok
deriving DecidableEq, Repr

/-- An MRAM bank without a fault. -/
abbrev MramFind.sound : MramFind := { }

/-- A node ID (R28). -/
abbrev NodeIdx := BitVec 10

/-- What the excitation monitor measures (R134): the words MON_X and MON_Y show, and what R135 decides from. -/
structure MonReading where
  /-- Delivered current of source X and its output voltage, as MON_X holds them (R142). -/
  xIdel : BitVec 16
  xVout : BitVec 16
  /-- As above for source Y. -/
  yIdel : BitVec 16
  yVout : BitVec 16
  /-- V_driven − V_return in mV, signed (R134). -/
  vForce : BitVec 16
  /-- V_SP − V_SN in µV, signed: what the phase converts where SP is sensed against SN, before any clamp of CODE
  (R135). -/
  vSense : BitVec 32
  /-- V_SN in mV, signed: the reference electrode of a cell. -/
  vSn : BitVec 16
  /-- The bridge supply is in current limit (R135). -/
  limit : Bool
deriving DecidableEq, Repr

/-- What a conversion phase delivers (R126, R138, R145): the code, and for each frame of 16 samples that crossed,
oldest first, whether its check code failed at the first and at the second read. -/
structure ConvReading where
  code : BitVec 24
  frames : List (Bool × Bool)
  /-- SP was in its ±30 mA limit during the conversion (R130, R156). -/
  limited : Bool
deriving DecidableEq, Repr

/-- A CAN frame (R296). -/
structure CanFrame where
  ide : Bool
  id : BitVec 29
  fdf : Bool
  brs : Bool
  rtr : Bool
  esi : Bool
  data : List Byte
  /-- The DLC as sent: a remote frame's, or 9 to 15 in a classical frame, says more than the payload does. -/
  dlc : BitVec 4
deriving DecidableEq, Repr

/-- How a transmission attempt ends (R300, R301, R307). -/
inductive TxOutcome where
  | completed
  | arbLost
  /-- A protocol error: its LEC code, whether it was a bit error in the DLC, data or CRC field, and how many times ISO
  11898-1 adds a further 8 to TEC over its error flag (a bit error in an active flag, each run of dominant bits after it). -/
  | error (lec : BitVec 3) (bitError : Bool) (eights : BitVec 4)
deriving DecidableEq, Repr

/-- The PHY registers the node polls (R319). -/
structure PhyRegs where
  r1 : BitVec 16
  r4 : BitVec 16
  r5 : BitVec 16
  r9 : BitVec 16
  r10 : BitVec 16
deriving DecidableEq, Repr

/-- One sample of the safety inputs and readbacks (R382): bit levels. -/
structure SafetyLevels where
  /-- SI0A to SI15A in bits 0 to 15, SI0B to SI15B in bits 16 to 31. -/
  si : BitVec 32
  /-- Readbacks SB0A to SB7A in bits 0 to 7, SB0B to SB7B in bits 8 to 15. -/
  sb : BitVec 16
  edm : BitVec 8
  sack : BitVec 4
  /-- CHN_IA, CHN_IB. -/
  chn : BitVec 2
deriving DecidableEq, Repr

/-- How a logbook record write ends (R420, R433). -/
inductive LogWrite where
  | ok
  | retryOk
  /-- The write and its return trip failed at this slot. -/
  | lasting (slot : BitVec 17)
deriving DecidableEq, Repr

/-- The commands and events of spec/opcode_table.json, one constructor for each row. A defaulted operand left out stands
for the ordinary case: the supply good, the oscillator running, the pin released, the reading whole. -/
inductive Instr where
  /-- TIDE_TICK (R19): A tide tick boundary of 1,024 periods of the tick source passes and the tick count advances.
  The operands: LFXO gives edges (R70), the filtered level of RESET_N (R86). -/
  | tideTick (lfxo : Bool := true) (resetN : Bool := true)
  /-- TICK_SOURCE_TO_LFRC (R20): LFXO has given no edge for 4 ms, so the tick source switches to LFRC, the lost ticks are added and OSF sets. -/
  | tickSourceToLfrc
  /-- TICK_SOURCE_TO_LFXO (R20): LFXO has run for 1,024 LFRC periods, so the tick source returns to LFXO at the next tide-tick boundary. -/
  | tickSourceToLfxo
  /-- ENGINE_WAKE (R22): An ingress FIFO becomes non-empty, so FRC starts and the engine executes within 0.3 µs. -/
  | engineWake
  /-- ENGINE_PLL_CHANGEOVER (R22): PLL_ENG locks and the engine changes over from FRC at an instruction boundary without a glitch. -/
  | enginePllChangeover
  /-- ENGINE_PASS (R206): The engine processes every trigger present at the start of the pass, in the order of precedence per point. -/
  | enginePass
  /-- SUPPLY_CORE_FAIL (R52): VDD08 or VDD18 falls below its threshold and causes a reset of class U with its sub-cause. -/
  | supplyCoreFail (supply : CoreSupply)
  /-- AVDD5_FAIL (R52): AVDD5 falls below 4.50 V, the burst is abandoned, excitation switches off and channels report STALE. -/
  | avdd5Fail
  /-- AVDD5_RECOVER (R52): AVDD5 has held above 4.60 V for 1 ms and scanning resumes with the next burst. -/
  | avdd5Recover
  /-- VFIELD_FAIL (R52): VFIELD falls below 16.5 V, DO outputs go off, DI values are invalid and safety functions take their safe state. -/
  | vfieldFail
  /-- VFIELD_RECOVER (R52): VFIELD has held above 17.0 V for 10 ms and DO and DI resume. -/
  | vfieldRecover
  /-- VLED_FAIL (R52): VLED falls below 2.6 V and all panel rows and columns go off at once. -/
  | vledFail
  /-- VLED_RECOVER (R52): VLED rises above 2.75 V and the panel power-on sequence runs. -/
  | vledRecover
  /-- VDD33_WARN (R55): VDD33 falls below the warning level, the NVM gate closes and service seconds are mirrored. -/
  | vdd33Warn (mram : MramWrite := .ok)
  /-- DIP_END (R55): VDD33 rises above the warning-release level, VDD33_WARN clears and SUPPLY_DIP is queued. -/
  | dipEnd (us : Nat)
  /-- NVM_GATE_OPEN (R56): VDD33 has been above warning release for 33 LFXO periods and held NVM writes resume in order. -/
  | nvmGateOpen (mram : MramWrite := .ok) (worn : List (Nat × BitVec 17) := [])
  /-- LOCKOUT (R60): VDD33 falls below the lockout level and the RTC page locks. -/
  | lockout
  /-- LOCKOUT_RELEASE (R60): VDD33 has stayed above lockout release for 328 LFXO periods and the RTC page unlocks. -/
  | lockoutRelease
  /-- VDD33_RESET_FALL (R53): VDD33 falls below the reset level, the last-gasp record is written and BACKUP begins with a reset of class U. -/
  | vdd33ResetFall (vbat : Nat := 3000)
  /-- BACKUP_SWITCH (R61): VDD33 is below the backup-switch level after the lockout and the always-on domain moves to VBAT. -/
  | backupSwitch
  /-- BACKUP_RETURN (R61): VDD33 rises above the backup-return level and the always-on domain moves back to VDD33. -/
  | backupReturn
  /-- START_UP (R80): Supplies are good or a reset ends, and the node runs its start sequence up to the release of ALERT_N. -/
  | startUp (s1 s2 s3 : BitVec 10) (tmode : BitVec 2) (norBad : List NorRegion := []) (array : ArrayFind := .whole) (mram : MramFind := .sound) (norTrip : List NorRegion := [])
  /-- BOOT_REPAIR (R267): In the background the node rewrites the other base-image copy or timetable store from the one in use. -/
  | bootRepair
  /-- SVC_MIRROR (R57): Every 2,048 tide ticks service seconds and counter slots are mirrored to MRAM. -/
  | svcMirror (mram : MramWrite := .ok)
  /-- MIRROR_NOW (R57): The owner writes PWR.CTL.MIRROR_NOW and service seconds are mirrored to MRAM. -/
  | mirrorNow (host : HostId) (mram : MramWrite := .ok)
  /-- VBAT_CHECK (R64): Every 256 tide ticks VBAT is compared with 2.20 V and VBAT_LOW is set or cleared. -/
  | vbatCheck (mv : Nat)
  /-- HFXO_FAIL (R66): HFXO is required but gives no clock within 2 ms or stops, so PLLs unlock and ports, segments and scanning stop. -/
  | hfxoFail
  /-- HFXO_RETRY (R66): Every 32 tide ticks HFXO is retried and on success the blocks are restored in order. -/
  | hfxoRetry (ok : Bool)
  /-- FRC_RETRIM (R67): FRC is retrimmed against HFXO at each HFXO start, every 64 s or on a 20 K temperature change. -/
  | frcRetrim
  /-- PLL_LOCK (R68): A phase-locked loop completes its lock and the blocks it holds disabled may start. -/
  | pllLock (pll : Pll)
  /-- PLL_UNLOCK (R68): A PLL in use loses lock and takes the HFXO failure action for its own blocks. -/
  | pllUnlock (pll : Pll)
  /-- DOZE_ENTRY (R72): The engine and converters have no work and the node stops PLL_ENG and FRC and enters DOZE. -/
  | dozeEntry
  /-- STANDBY_REQUEST (R73): PWR.CTL.STANDBY = 1 or the active timetable requests STANDBY and the node accepts or refuses it. -/
  | standbyRequest (src : StandbySrc)
  /-- STANDBY_ENTER (R74): After the engine pass and frames complete, the node stops the crossing, holds timers and enters STANDBY. -/
  | standbyEnter (mram : MramWrite := .ok)
  /-- STANDBY_WAKE_HOST (R75): A host writes PWR.CTL.STANDBY = 0 in STANDBY and the exit sequence starts. -/
  | standbyWakeHost (host : HostId)
  /-- DI_WAKE (R75): A wake-enabled DI changes level and holds it for 1 ms, and the STANDBY exit sequence starts. -/
  | diWake (di : BitVec 6)
  /-- STANDBY_EXIT (R75): The node restarts HFXO and PLLs, resumes held timers and returns segments, scanning and panel. -/
  | standbyExit
  /-- PHY_RESET_RELEASE (R320): 10 ms after CLKO25 runs, XPHY_RST_N is released and ports are enabled. -/
  | phyResetRelease
  /-- RESET_BUTTON_ARM (R84): RESET_N has read high for 32 tide ticks and the input arms. -/
  | resetButtonArm
  /-- PIN_RESET (R84): An armed RESET_N held low for at least 50 ms is released and causes a reset of class P. -/
  | pinReset
  /-- BUTTON_STUCK (R84): RESET_N has been held low for 256 tide ticks, so it is declared stuck and disarmed. -/
  | buttonStuck
  /-- WATCHDOG_RESET (R83): A watched block shows no progress for 8 tide ticks and the node performs a reset of class W. -/
  | watchdogReset (block : WatchedBlock)
  /-- SOFT_RESET (R81): The owner writes SYS.CTL.SOFT_RST and the node performs a reset of class S. -/
  | softReset (host : HostId)
  /-- BLOCK_RESET (R99): A write of 1 to PAGE_CTL.BLK_RST resets the page's block (class K), or is refused on certain pages. -/
  | blockReset (host : HostId) (page : BitVec 10)
  /-- REGISTER_WRITE (R11): A host writes a register word with no behaviour of its own, judged by page and field checks. -/
  | registerWrite (host : HostId) (addr : BitVec 24) (value : Word)
  /-- UNMAPPED_ACCESS (R92): A host accesses an unmapped address and the port records it in BADADDR with code 0x25. -/
  | unmappedAccess (host : HostId) (addr : BitVec 24)
  /-- WINDOW_WRITE (R90): A host writes a word of a window, under ownership, staging and STANDBY rules. -/
  | windowWrite (host : HostId) (addr : BitVec 24) (value : Word)
  /-- STAGE_WRITE (R96): A write of PAGE_CTL.STAGE changes staging; clearing it discards RW values staged under it. -/
  | stageWrite (host : HostId) (page : BitVec 10) (stage : Bool)
  /-- PAGE_COMMIT (R97): A write of 1 to PAGE_COMMIT sets COMMIT and BUSY pending the block's quiet point. -/
  | pageCommit (host : HostId) (page : BitVec 10)
  /-- COMMIT_APPLY (R97): At the block's quiet point the staged values take effect in one step or the commit is refused. -/
  | commitApply (page : BitVec 10)
  /-- PAGE_LOCK (R98): A write to PAGE_LOCK locks or unlocks the page. -/
  | pageLock (host : HostId) (page : BitVec 10) (value : Word)
  /-- EVT_CLEAR (R94): A W1C write to EVT_PEND clears the written RAW bits. -/
  | evtClear (host : HostId) (page : BitVec 10) (mask : Word)
  /-- EVT_FORCE (R94): A write to EVT_FORCE sets RAW bits as if the events had occurred. -/
  | evtForce (host : HostId) (page : BitVec 10) (mask : Word)
  /-- HOST_READ (R102): A READ command returns words from the address upwards, subject to dummy timing and CRC. -/
  | hostRead (host : HostId) (addr : BitVec 24) (words : Nat) (sck : Nat)
  /-- HOST_WRITE (R102): A WRITE command writes words from the address upwards, word by word or atomically with CRC. -/
  | hostWrite (host : HostId) (addr : BitVec 24) (len : BitVec 8) (data : List Word) (partialBits : Nat) (crc : BitVec 16) (sck : Nat)
  /-- HOST_REREAD (R102): A REREAD command repeats the words of the port's previous READ from its buffer. -/
  | hostReread (host : HostId) (words : Nat) (sck : Nat)
  /-- HOST_STATUS (R102): A STATUS command returns HOSTx.STAT. -/
  | hostStatus (host : HostId) (sck : Nat)
  /-- HOST_IDENT (R102): An IDENT command returns SYS.DEV_ID. -/
  | hostIdent (host : HostId) (sck : Nat)
  /-- HOST_BAD_CMD (R102): An undefined command byte leaves IO high-impedance and sets BAD_CMD. -/
  | hostBadCmd (host : HostId) (cmd : Byte) (sck : Nat := 0)
  /-- HOST_MODE_RESET (R106): All IO lines high for the first 16 SCK edges return the port to 1-1-1 SDR. -/
  | hostModeReset (host : HostId)
  /-- HOST_MODE_WRITE (R108): A write of HOSTx.MODE takes effect at the CS_N rise, or is refused with 0x2B. -/
  | hostModeWrite (host : HostId) (port : HostId) (value : Word)
  /-- OWN_OFFER (R111): The owner writes SYS.OWN.OFFER and a token is placed in the other host's TOKEN. -/
  | ownOffer (host : HostId)
  /-- OWN_TAKE (R111): The other host writes SYS.OWN_TAKE and ownership passes if the token matches. -/
  | ownTake (host : HostId) (token : BitVec 16)
  /-- OFFER_TIMEOUT (R111): 64 tide ticks pass without a valid take and the offer closes. -/
  | offerTimeout
  /-- OWN_CLAIM (R112): The non-owner writes SYS.OWN.CLAIM and a claim starts. -/
  | ownClaim (host : HostId)
  /-- OWN_KEEP (R112): The owner writes SYS.OWN.KEEP and a running claim ends with no change. -/
  | ownKeep (host : HostId)
  /-- CLAIM_TRANSFER (R112): A claim has run 320 tide ticks without KEEP or offer, and ownership passes. -/
  | claimTransfer
  /-- BURST_START (R148): A PERIOD-th tide-tick boundary arrives and every scanned group runs one pass, or the boundary is skipped as an overrun. -/
  | burstStart
  /-- HFXO_PRESTART (R151): 66 LFXO periods before a burst boundary HFXO is started. -/
  | hfxoPrestart
  /-- TS_READ (R144): The on-package temperature sensors are read and VALID and TS_FAULT are updated. -/
  | tsRead (sensor : BitVec 2) (ok : Bool) (temp : BitVec 16)
  /-- SLOT_START (R121): The multiplexer opens the outgoing channel and connects the next enabled channel over t_mux. -/
  | slotStart (g : BitVec 5)
  /-- EXCITATION_ON (R133): At the end of t_mux the sources or bridge supply switch on and settling begins. -/
  | excitationOn (g : BitVec 5)
  /-- CHECK_CURRENT_END (R136): The 1,000 µs check current ends and is removed; the open check is judged. -/
  | checkCurrentEnd (g : BitVec 5) (mv : BitVec 16)
  /-- CONVERSION_START (R146): The settling delay expires and the modulator starts a conversion. -/
  | conversionStart (g : BitVec 5)
  /-- MONITOR_MEASURE (R134): At the midpoint of a conversion the excitation monitor measures currents and ball voltages. -/
  | monitorMeasure (g : BitVec 5) (mon : MonReading)
  /-- PHASE_COMPLETE (R126): A conversion phase ends; the node exchanges or reverses sources for phase 2, or ends the slot. -/
  | phaseComplete (g : BitVec 5) (conv : ConvReading)
  /-- SLOT_END (R133): The last phase ends, excitation switches off and any path reinitialisation or quiet point is taken. -/
  | slotEnd (g : BitVec 5)
  /-- RESULT_LINEARISE (R163): The filter engine converts CODE to physical units, evaluates the curve and delivers the value. -/
  | resultLinearise (g : BitVec 5)
  /-- RANGE_OVERLOAD (R158): The stage output exceeds 105 % of full scale and the range widens with an extra OVERRANGE result. -/
  | rangeOverload (g : BitVec 5) (positive : Bool)
  /-- FAST_OUTPUT (R152): A group in fast mode delivers one result at each output boundary. -/
  | fastOutput (g : BitVec 5) (conv : ConvReading)
  /-- FAST_MONITOR (R154): Every 10 ms in fast mode the excitation monitor measures and faults are judged. -/
  | fastMonitor (g : BitVec 5) (mon : MonReading)
  /-- CURVE_LOAD (R168): The owner writes LIN.CURVE_CMD.LOAD and the node checks and copies the curve record. -/
  | curveLoad (host : HostId) (id : BitVec 12)
  /-- REP_PERIOD_BOUNDARY (R173): A repeater output reaches a period boundary and takes its latest value or fault output. -/
  | repPeriodBoundary (out : BitVec 4)
  /-- DI_SAMPLE (R176): Every LFXO period each DI is sampled and edge counters of DI56 to DI63 count. -/
  | diSample (levels : BitVec 64)
  /-- DI_CHANGE_ACCEPT (R184): A DI level has held for its filter time and the change is delivered to LEVEL points. -/
  | diChangeAccept (di : BitVec 6) (filt : Byte) (level : Bool)
  /-- DI_FREQ_SAMPLE (R184): Every 32 tide ticks a FREQ point receives the edges counted in that time. -/
  | diFreqSample (point : PointIdx)
  /-- DO_SET (R178): A write of DIO.DO_SET changes the command of SRC 1 outputs within 1 ms. -/
  | doSet (host : HostId) (value : BitVec 16)
  /-- DO_OVERLOAD (R178): An output has been 1 ms in current limit and switches off for 32 tide ticks. -/
  | doOverload (out : BitVec 4)
  /-- DO_OVERLOAD_RETRY (R178): 32 tide ticks after an overload the output tries again while commanded on. -/
  | doOverloadRetry (out : BitVec 4)
  /-- RUNHRS_TIMER (R190): Every 1,152 tide ticks a RUNHRS point with its subject ON is evaluated. -/
  | runhrsTimer (point : PointIdx)
  /-- CNT_LOAD (R194): The owner writes MAN.CMD.CNT_LOAD and the counter slot is loaded and written to MRAM. -/
  | cntLoad (host : HostId)
  /-- MAN_OPEN (R199): The owner writes MAN.CMD.OPEN and requests an edit range. -/
  | manOpen (host : HostId)
  /-- MAN_OPEN_APPLY (R199): At the end of the engine pass the range opens, or the open is refused. -/
  | manOpenApply
  /-- MAN_CLOSE (R201): The owner writes MAN.CMD.CLOSE and requests the range to close. -/
  | manClose (host : HostId)
  /-- EDIT_CLOSE_APPLY (R201): At the quiet point the range's records are validated and rebuilt and a forced pass runs. -/
  | editCloseApply
  /-- EDIT_AUTO_CLOSE (R202): 320 tide ticks after opening the node closes the range itself. -/
  | editAutoClose
  /-- STALENESS_EXPIRY (R195): A point's staleness count reaches STALE_LIM and its value state becomes FAULT. -/
  | stalenessExpiry (point : PointIdx)
  /-- DELAY_EXPIRY (R210): An on-delay or off-delay expires and VSTATE takes the raw state at expiry. -/
  | delayExpiry (point : PointIdx)
  /-- RUNUP_EXPIRY (R228): A gate run-up expires, INHIBITED clears and a true condition begins an occurrence. -/
  | runupExpiry (point : PointIdx)
  /-- SHELVE_EXPIRY (R229): A shelving timer expires and the point leaves SHELVED. -/
  | shelveExpiry (point : PointIdx)
  /-- ESCALATION_EXPIRY (R222): A warning's escalation timer expires and it is treated as an alarm. -/
  | escalationExpiry (point : PointIdx)
  /-- FORCE_ALL (R241): The owner writes PTE.CTL.FORCE_ALL and a forced pass runs over all used points. -/
  | forceAll (host : HostId)
  /-- PEAK_CLR (R241): The owner writes PTE.CTL.PEAK_CLR and LOAD.PEAK clears. -/
  | peakClr (host : HostId)
  /-- ACK_POINT (R220): OPCMD OP 1 acknowledges one point if the instance named equals INSTANCE. -/
  | ackPoint (host : HostId) (point : PointIdx)
  /-- SILENCE_POINT (R221): OPCMD OP 2 silences one point. -/
  | silencePoint (host : HostId) (point : PointIdx)
  /-- ACK_GROUP (R223): OPCMD OP 3 acknowledges every member of a group at its current instance. -/
  | ackGroup (host : HostId) (group : GroupIdx)
  /-- SILENCE_ALL (R221): OPCMD OP 4 silences all points. -/
  | silenceAll (host : HostId)
  /-- ACK_ALL (R223): OPCMD OP 5 acknowledges all points at their current instances. -/
  | ackAll (host : HostId)
  /-- OPCMD_UNDEFINED (R242): An OPCMD or ADMCMD with an undefined OP is refused with result 15. -/
  | opcmdUndefined (host : HostId) (adm : Bool) (value : Word)
  /-- SHELVE (R229): ADMCMD OP 1 shelves a point for DURATION and withdraws its occurrence. -/
  | shelve (host : HostId) (point : PointIdx)
  /-- UNSHELVE (R229): ADMCMD OP 2 ends a point's shelving. -/
  | unshelve (host : HostId) (point : PointIdx)
  /-- OOS_ON (R230): ADMCMD OP 3 takes a point out of service. -/
  | oosOn (host : HostId) (point : PointIdx)
  /-- OOS_OFF (R230): ADMCMD OP 4 returns a point to service and rebuilds it. -/
  | oosOff (host : HostId) (point : PointIdx)
  /-- ACK_INPUT (R224): A rising edge held 2 ms on the ACKDI acknowledge input acknowledges its scope. -/
  | ackInput
  /-- SILENCE_INPUT (R224): A rising edge held 2 ms on the ACKDI silence input silences all points. -/
  | silenceInput
  /-- GROUP_REARM (R233): A write of GRP.CMD.REARM re-arms the selected group's first-out at once. -/
  | groupRearm (host : HostId)
  /-- MAXEXP_CLR (R243): The owner writes TIDE.CTL.MAXEXP_CLR and MAXEXP clears. -/
  | maxexpClr (host : HostId)
  /-- ECC_SCRUB (R238): Every 2,048 tide ticks the engine SRAM is scrubbed and corrected words are written back. -/
  | eccScrub (corrected : Nat)
  /-- ECC_UNCORRECTABLE (R239): An uncorrectable SRAM error is read again; a lasting one retires the row and restores its contents. -/
  | eccUncorrectable (secondOk : Bool) (points : List PointIdx) (records : List PointIdx := []) (groups : List GroupIdx := []) (index : Bool := false)
  /-- ROW_RESTORED (R239): Restoration of a retired row completes and held evaluations and events resume. -/
  | rowRestored (array : ArrayFind := .whole)
  /-- EGRESS_HOLD_EXPIRY (R371): A point's events held at engine egress for 1,000 µs are discarded, a GAP is handed over and the point is rebuilt. -/
  | egressHoldExpiry
  /-- STAGE_TIMER_EXPIRY (R252): T1 or T2 of a call expires and the call advances a stage. -/
  | stageTimerExpiry (cls : BitVec 4)
  /-- ATTEND_EXPIRY (R252): ATTEND of an accepted call expires and it returns to STAGE1. -/
  | attendExpiry (cls : BitVec 4)
  /-- CALL_REFRESH (R246): Every 32 tide ticks the duty node sends the full state of each open call. -/
  | callRefresh
  /-- UNIT_FRAME_TIMER (R248): Every 64 tide ticks the node sends a unit frame naming its enabled units. -/
  | unitFrameTimer
  /-- UNIT_TIMEOUT (R247): No call frame has named a unit for 96 tide ticks and the hosting node switches it off. -/
  | unitTimeout (unit : BitVec 6)
  /-- UNIT_ACCEPT_INPUT (R247): A unit's accept input has a rising edge held 2 ms and the acceptance is sent to the duty node. -/
  | unitAcceptInput (unit : BitVec 6)
  /-- CALL_FRAME_RECEIVE (R246): A call frame of SUB 0 to 3 is received and updates the shadow, units or acceptance. -/
  | callFrameReceive (frame : List Byte)
  /-- CALL_CANCEL (R254): CALL.CMD OP 1 by the owner closes the named class's call on the duty node. -/
  | callCancel (host : HostId) (cls : BitVec 4)
  /-- DM_DISARM (R256): CALL.CMD OP 2 returns the dead-man watch to IDLE. -/
  | dmDisarm (host : HostId)
  /-- DM_ON_INPUT (R256): The dead-man arming input acts and the watch arms with its timer restarted. -/
  | dmOnInput
  /-- DM_RESET_INPUT (R256): The dead-man reset input or an acceptance at DM_UNIT restarts the watch timer. -/
  | dmResetInput
  /-- DM_OFF_INPUT (R256): The dead-man disarming input returns the watch to IDLE unless it is EXPIRED. -/
  | dmOffInput
  /-- DM_PREWARN (R256): The watch timer reaches LIMIT − PREWARN and DM_UNIT flashes. -/
  | dmPrewarn
  /-- DM_EXPIRED (R257): The watch timer reaches LIMIT and a dead-man call opens in STAGE2. -/
  | dmExpired
  /-- IMG_BEGIN (R270): The owner writes TTB.IMG_CTL.BEGIN and copy 2 is erased for a load. -/
  | imgBegin (host : HostId)
  /-- IMG_ERASE_DONE (R270): The erase of copy 2 completes and READY sets. -/
  | imgEraseDone (ok : Bool)
  /-- IMG_DATA (R270): A write of IMG_DATA supplies the next image word, programmed as each page fills. -/
  | imgData (host : HostId) (value : Word)
  /-- IMG_END (R270): The owner writes IMG_CTL.END and copy 2 is validated. -/
  | imgEnd (host : HostId) (readOk : Bool := true) (trip : Bool := false)
  /-- IMG_COPY1_WRITTEN (R270): Copy 1 has been rewritten from copy 2, NEWER sets and LOADING clears. -/
  | imgCopy1Written (array : ArrayFind := .whole)
  /-- IMG_ABORT (R271): The owner writes IMG_CTL.ABORT and the load is abandoned with result 13. -/
  | imgAbort (host : HostId)
  /-- KEY_PROGRAM (R269): SEC.KEY_CMD OP 1 programs a key slot with the key bytes. -/
  | keyProgram (host : HostId) (value : Word)
  /-- KEY_REVOKE (R269): SEC.KEY_CMD OP 2 revokes a key slot. -/
  | keyRevoke (host : HostId) (value : Word)
  /-- AUTH_REQ_SET (R269): SEC.KEY_CMD OP 3 sets AUTH_REQ irreversibly. -/
  | authReqSet (host : HostId) (value : Word)
  /-- TT_INSTALL (R278): The owner writes TTB.INST_CMD.INSTALL and the staged timetable is validated. -/
  | ttInstall (host : HostId) (slot : BitVec 4)
  /-- TT_INSTALL_DONE (R278): Stores B and A have been written and the timetable is loaded into SRAM. -/
  | ttInstallDone
  /-- TT_REQUEST (R279): The owner writes TTB.REQ.TT and a switch is requested, queued, ignored or refused. -/
  | ttRequest (host : HostId) (tt : BitVec 4)
  /-- MODE_FRAME_RECEIVE (R281): A mode frame from the part's duty node requests its timetable on a follower. -/
  | modeFrameReceive (frame : List Byte)
  /-- TT_SWITCH_APPLY (R282): At the end of the engine pass the composed values are written, GEN increments and SWITCH_DONE is emitted. -/
  | ttSwitchApply
  /-- CAN_FRAME_RECEIVED (R296): A received frame passes EOF without error and is taken by the first matching mailbox. `ran`: µs of the slot that have run (R304). -/
  | canFrameReceived (seg : BitVec 3) (frame : CanFrame) (ran : BitVec 16 := 0)
  /-- RX_RELEASE (R297): A write of FB.RX_REL releases a mailbox's front buffer. -/
  | rxRelease (host : HostId) (seg : BitVec 3) (mbx : BitVec 6)
  /-- TX_REQUEST (R300): A write of 1 to TXREQ requests an event-mode mailbox. `ran`: µs of the slot that have run (R304). -/
  | txRequest (host : HostId) (seg : BitVec 3) (mask : BitVec 64) (ran : BitVec 16 := 0)
  /-- TX_CANCEL (R300): A write of TXCAN cancels a mailbox's pending or kept frame. `ran`: µs of the slot that have run (R304). -/
  | txCancel (host : HostId) (seg : BitVec 3) (mask : BitVec 64) (ran : BitVec 16 := 0)
  /-- TX_ATTEMPT_END (R300): A transmission attempt completes, loses arbitration or ends in error, and retries and return trips follow. `overload`: how many times 8 is added for the overload flag after a completed frame (R307). `ran`: µs of the slot that have run (R304). -/
  | txAttemptEnd (seg : BitVec 3) (mbx : BitVec 6) (outcome : TxOutcome) (overload : BitVec 4 := 0) (ran : BitVec 16 := 0)
  /-- BOFF_HOLD_EXPIRY (R307): BOFF_HOLD tide ticks after bus-off the automatic recovery count starts. -/
  | boffHoldExpiry (seg : BitVec 3)
  /-- BUS_OFF_RECOVERED (R307): 128 sequences of 11 recessive bits are counted and the segment is error-active again. -/
  | busOffRecovered (seg : BitVec 3)
  /-- REC_START (R307): FB.CMD.REC_START starts the bus-off recovery count, or is refused outside bus-off. -/
  | recStart (host : HostId) (seg : BitVec 3)
  /-- MATRIX_SLOT_START (R302): A sailing-matrix slot begins and its entry decides what the segment may start. -/
  | matrixSlotStart (seg : BitVec 3)
  /-- RX_EXPECTATION_CHECK (R306): At the end of a receive-expectation slot the mailbox is checked and MISS_RUN updated. -/
  | rxExpectationCheck (seg : BitVec 3)
  /-- FB_COMMIT_FORCE (R293): No bus idle for 32 tide ticks after a commit, so the staged set is applied at that boundary. -/
  | fbCommitForce (seg : BitVec 3)
  /-- INTEGRATION_COMPLETE (R313): The controller sees 11 recessive bits and takes part on the bus; the matrix starts. `ran`: µs of the slot that have run (R304). -/
  | integrationComplete (seg : BitVec 3) (ran : BitVec 16 := 0)
  /-- DETECT (R312): FB.CMD.DETECT starts automatic bit-rate detection in listen-only mode. -/
  | detect (host : HostId) (seg : BitVec 3)
  /-- DETECT_CANDIDATE_TIMEOUT (R312): A candidate's wait expires or an error is seen, and detection moves on or fails. -/
  | detectCandidateTimeout (seg : BitVec 3) (error : Bool)
  /-- FB_SLEEP (R314): A write of CTL.SLEEP = 1 puts the segment to sleep after the frame in transmission. -/
  | fbSleep (host : HostId) (seg : BitVec 3)
  /-- FB_WAKE (R314): FB.CMD.WAKE or a write of SLEEP = 0 wakes the segment. -/
  | fbWake (host : HostId) (seg : BitVec 3)
  /-- WAKE_PATTERN (R315): RXD held low 5 µs while asleep reports a wake-up pattern and wakes the segment. -/
  | wakePattern (seg : BitVec 3)
  /-- PHY_POLL (R319): Every 10 ms the node reads the PHY registers and updates link state and speed. -/
  | phyPoll (port : BitVec 2) (phy : PhyRegs)
  /-- MDIO_ACCESS (R319): A write of XNET.MDIO.GO starts a Clause 22 access by the host. -/
  | mdioAccess (host : HostId) (value : Word)
  /-- MDIO_COMPLETE (R351): A host MDIO access completes, GO clears and MDIO_DONE is raised. -/
  | mdioComplete (data : BitVec 16)
  /-- SYNC_SEND (R321): Every 100 µs in SYNCING a port sends a hop-ack frame with SYNC = 1. -/
  | syncSend (port : BitVec 2)
  /-- SYNC_RECEIVE (R321): A SYNC frame is received and the exchange completes, or the port is MISWIRED. -/
  | syncReceive (port : BitVec 2) (frame : List Byte)
  /-- FAULTY_RECOVERY (R321): 32 tide ticks after a lasting fault a FAULTY port returns to SYNCING. -/
  | faultyRecovery (port : BitVec 2)
  /-- FRAME_RECEIVE (R326): A data frame arrives on a port and is taken, acknowledged, forwarded or discarded. -/
  | frameReceive (port : BitVec 2) (frame : List Byte) (fcsOk : Bool) (endRead : NorRead := .ok)
  /-- HOP_ACK_RECEIVE (R326): A hop-ack is received and acknowledges its HSEQ and every earlier frame. -/
  | hopAckReceive (port : BitVec 2) (frame : List Byte)
  /-- HOP_RETRANSMIT (R327): A frame is unacknowledged at 4.0 µs and is retransmitted with every later one. -/
  | hopRetransmit (port : BitVec 2)
  /-- HOP_LASTING_FAULT (R328): A frame is unacknowledged at 8.0 µs, the port goes FAULTY and its frames are discarded. -/
  | hopLastingFault (port : BitVec 2)
  /-- STREAM_HOLD_EXPIRY (R369): An origin stream hold expires and a GAP of kind 0 is delivered before the held frames. -/
  | streamHoldExpiry (origin : NodeIdx)
  /-- CEIL_WRITE_DONE (R355): A tally ceiling write completes and stamping resumes. -/
  | ceilWriteDone (okA : Bool) (okB : Bool) (tripA tripB : Bool := false)
  /-- CENSUS_ROUND_START (R333): Every 10.000 ms a census master sends the four section frames of a round. -/
  | censusRoundStart (ring : Ring)
  /-- CENSUS_MASTER_TAKEOVER (R333): No census frame has been seen on a ring for 30 ms and the node starts one as master. -/
  | censusMasterTakeover (ring : Ring)
  /-- CENSUS_FRAME_RECEIVE (R335): A census section or summary frame is received, marked, turned or forwarded. -/
  | censusFrameReceive (port : BitVec 2) (frame : List Byte)
  /-- CENSUS_ROUND_COMPLETE (R335): Every section has returned or 5 ms have passed, and the master sends the summaries. -/
  | censusRoundComplete (ring : Ring)
  /-- MEMBERSHIP_INTERVAL (R337): A 10 ms interval ends; presence, absence, duty, epoch and crossing state are updated. -/
  | membershipInterval
  /-- REPLAY_SEND (R345): At most every 20 µs the next own logbook record since the split is sent with REPLAY. -/
  | replaySend
  /-- REMOTE_ACK_COMMAND (R346): A write of XNET.RACK_CMD sends an acknowledgement or silence to another node or holds it. -/
  | remoteAckCommand (host : HostId) (value : Word)
  /-- FORGET_NODE (R338): XNET.CMD OP 1 removes one node from LOST. -/
  | forgetNode (host : HostId) (node : NodeIdx)
  /-- FORGET_ALL_LOST (R338): XNET.CMD OP 2 removes every node from LOST. -/
  | forgetAllLost (host : HostId)
  /-- RCFG_BEGIN (R347): XNET.RCFG_CTL OP 1 begins a base-image transfer to another node. -/
  | rcfgBegin (host : HostId) (node : NodeIdx)
  /-- RCFG_STAGE (R347): XNET.RCFG_CTL OP 5 begins staging a timetable into another node's slot. -/
  | rcfgStage (host : HostId) (node : NodeIdx) (slot : BitVec 4)
  /-- RCFG_END (R347): XNET.RCFG_CTL OP 2 ends the image load or staging at the target. -/
  | rcfgEnd (host : HostId) (node : NodeIdx)
  /-- RCFG_ABORT (R347): XNET.RCFG_CTL OP 3 abandons the transfer. -/
  | rcfgAbort (host : HostId) (node : NodeIdx)
  /-- RCFG_INSTALL (R347): XNET.RCFG_CTL OP 4 installs the timetable staged at the target. -/
  | rcfgInstall (host : HostId) (node : NodeIdx) (slot : BitVec 4)
  /-- RCFG_DATA (R347): A write of XNET.RCFG_DATA adds a word; each 64 bytes are sent as a data frame. -/
  | rcfgData (host : HostId) (value : Word)
  /-- RCFG_RESULT_RECEIVE (R348): A configuration result frame from the target sets READY or ends the transfer. -/
  | rcfgResultReceive (frame : List Byte)
  /-- RCFG_TIMEOUT (R347): The target sends no reply within 64 tide ticks and the transfer ends with result 17. -/
  | rcfgTimeout
  /-- CONFIG_FRAME_RECEIVE (R348): A target receives a configuration data or control frame and answers with a result frame. -/
  | configFrameReceive (frame : List Byte) (endRead : NorRead := .ok)
  /-- SAFETY_CYCLE (R379): A safety channel starts its cycle, reads filtered inputs, evaluates functions and forms due parcels. -/
  | safetyCycle (ch : SafetyCh)
  /-- SAFETY_INPUT_SAMPLE (R382): Every 0.1 ms each channel samples the safety inputs and readbacks. -/
  | safetyInputSample (ch : SafetyCh) (levels : SafetyLevels)
  /-- TEST_PULSE_CHECK (R383): 0.2 ms into a TP dark pulse each input fed by it is checked for 0. -/
  | testPulseCheck (ch : SafetyCh) (tp : BitVec 2) (levels : BitVec 32)
  /-- OUTPUT_DARK_TEST (R393): Once per second each wire of an ON pair is switched off for 0.4 ms and its readback checked. -/
  | outputDarkTest (ch : SafetyCh) (out : BitVec 3) (fed : Bool)
  /-- SACK_STUCK (R388): A SACK input has read 1 for longer than 5.0 s and is declared stuck. -/
  | sackStuck (sack : BitVec 2)
  /-- PARCEL_RECEIVE (R399): A parcel handed to the channels is checked and accepted or discarded. -/
  | parcelReceive (parcel : List Byte)
  /-- CHAIN_INPUT_CHANGE (R401): A chain input changes and the member's chain output follows within 50 µs. -/
  | chainInputChange (a : Bool) (b : Bool)
  /-- CHAIN_DARK_PULSE (R403): The master switches a chain output off for 0.3 ms and checks the pulse's return. -/
  | chainDarkPulse (ch : SafetyCh) (ok : Bool)
  /-- CHAIN_ESTABLISH_TIMEOUT (R403): RT passes without both chain inputs at 1 and the master returns to OPEN. -/
  | chainEstablishTimeout
  /-- SEAL_CHANGE (R406): A seal switch or SEAL_WE differs from its accepted position and the node enters the safe state. `seenB`: what channel B reads, SEAL_WE in bit 8, where that differs. -/
  | sealChange (code : BitVec 8) (we : Bool) (seenB : Option (BitVec 9) := none)
  /-- CONFIG_SELECTION (R405): The seal inputs have been stable 100 ms and both channels select and validate the safety configuration. `readB`: how channel B reads copy A. -/
  | configSelection (readB : NorRead := .ok)
  /-- SAFETY_CFG_BEGIN (R410): SEAL.CFG_CTL.BEGIN starts writing a safety configuration by erasing copy B. -/
  | safetyCfgBegin (host : HostId) (slot : BitVec 3)
  /-- SAFETY_CFG_ERASE_DONE (R410): The erase of copy B completes and READY sets. -/
  | safetyCfgEraseDone (ok : Bool)
  /-- SAFETY_CFG_DATA (R410): A write of SEAL.CFG_DATA programs the next configuration word. -/
  | safetyCfgData (host : HostId) (value : Word)
  /-- SAFETY_CFG_END (R410): SEAL.CFG_CTL.END has both channels validate copy B and rewrite copy A or erase B. `readB`: how channel B reads copy B. -/
  | safetyCfgEnd (host : HostId) (readB : NorRead := .ok)
  /-- SAFETY_CFG_ABORT (R410): SEAL.CFG_CTL.ABORT abandons the write with result 35. -/
  | safetyCfgAbort (host : HostId)
  /-- LOG_RECORD_WRITE (R420): The next record of the ingress queue is written to the main area, ring or fail-over area. -/
  | logRecordWrite (outcome : LogWrite)
  /-- SUMMARY_EMIT (R423): A bucket with folds regains a token and a SUMMARY event is stamped. -/
  | summaryEmit (code : BitVec 16)
  /-- LOG_FREEZE (R427): A write of LOG.CTL.FREEZE = 1 freezes the main area and restarts the freeze time. -/
  | logFreeze (host : HostId)
  /-- LOG_UNFREEZE (R427): A write of FREEZE = 0 ends the freeze and the holding ring is merged. -/
  | logUnfreeze (host : HostId)
  /-- FREEZE_EXPIRY (R427): 1,920 tide ticks after the last FREEZE write the freeze ends and the ring is merged. -/
  | freezeExpiry
  /-- CLR_REQ (R431): Host A writes LOG.CLR_REQ and a clear key is drawn. -/
  | clrReq (host : HostId)
  /-- CLR_CMD (R431): Host A writes CLR_CMD with the key and scope and the clear starts or is refused. -/
  | clrCmd (host : HostId) (value : Word)
  /-- CLR_KEY_EXPIRY (R431): The clear key expires unused after 64 tide ticks. -/
  | clrKeyExpiry
  /-- CLEAR_COMPLETE (R432): A clear completes, LOSS and OVWR zero and a CLEARED record is logged. -/
  | clearComplete
  /-- SEEK_KEY (R429): GWY.CMD OP 1 loads the lowest passing record at or above the search key. -/
  | seekKey (host : HostId)
  /-- SEEK_FIRST (R429): GWY.CMD OP 2 loads the lowest passing record. -/
  | seekFirst (host : HostId)
  /-- SEEK_LAST (R429): GWY.CMD OP 3 loads the highest passing record. -/
  | seekLast (host : HostId)
  /-- GWY_ADVANCE (R429): A read of DATA15 advances the search key and loads the next record. -/
  | gwyAdvance (host : HostId)
  /-- RTC_TICK (R440): The RTC prescaler advances by one tick, with any trim correction. -/
  | rtcTick
  /-- TIME_LO_READ (R446): A read of RTC.TIME_LO captures all time fields into the host's shadow. -/
  | timeLoRead (host : HostId)
  /-- TIME_HI_READ (R446): A read of RTC.TIME_HI returns the shadow and releases it. -/
  | timeHiRead (host : HostId)
  /-- SHADOW_RELEASE_TIMEOUT (R446): A shadow not released by TIME_HI is released 1.0 ms after capture. -/
  | shadowReleaseTimeout (host : HostId)
  /-- RTC_HALT (R447): A write of RTC.CTL.HALT = 1 stops the prescaler at the next tick. -/
  | rtcHalt (host : HostId)
  /-- RTC_RELEASE (R447): A write of HALT = 0 releases the counter, applying held ticks and catching up skipped alarms. -/
  | rtcRelease (host : HostId)
  /-- OSF_CLEAR (R449): The owner writes 1 to STAT.OSF and it clears if TIME_SET is 1. -/
  | osfClear (host : HostId)
  /-- FRAME_BOUNDARY (R463): A panel frame boundary latches display states and applies pending changes in one step. -/
  | frameBoundary
  /-- ROW_SLOT (R455): A panel row slot begins with blanking and precharge, then drives the row's LEDs. -/
  | rowSlot (row : BitVec 4)
  /-- PANEL_TEMP_READ (R461): Every 32 tide ticks the driver temperature is read and the derating band may change. -/
  | panelTempRead (temp : BitVec 16)
  /-- REGION_REQUEST (R462): A write of LAN.REGIONr requests a fade to a target level. -/
  | regionRequest (host : HostId) (region : BitVec 4) (value : Word)
  /-- HOSTWIN_WRITE (R457): A write of LAN.HOSTWIN sets the display state of a host window. -/
  | hostwinWrite (host : HostId) (value : Word)
  /-- LAMPTEST (R466): LAN.CMD.LAMPTEST starts a lamp test for 320 tide ticks. -/
  | lamptest (host : HostId)
  /-- LT_STOP (R466): LAN.CMD.LT_STOP ends a host lamp test. -/
  | ltStop (host : HostId)
  /-- LAMPTEST_EXPIRY (R466): A lamp test times out after 10 s or 60 s. -/
  | lamptestExpiry
  /-- LAMPTEST_INPUT (R466): The lamp-test DI goes high or low and starts or ends an input lamp test. -/
  | lamptestInput (level : Bool)
  /-- PANEL_POWER_ON_DONE (R465): The 2 ms power-on discharge ends and the first frame starts with row 0. -/
  | panelPowerOnDone
  /-- PANEL_POWER_OFF (R465): The VDD33 warning or EN cleared starts the power-off sequence at the end of the row slot. -/
  | panelPowerOff
  /-- PANEL_POWER_OFF_DONE (R465): After 2 ms of precharge the panel goes high-impedance and DARK sets. -/
  | panelPowerOffDone
  /-- BEACON_PULSE (R467): Each second in STANDBY the beacon window's row lights for about 50 ms. -/
  | beaconPulse
  /-- AON_RETENTION_LOSS (R63): VAON falls below 1.40 V while main power is absent, the always-on domain loses its contents and the retention detector records it. -/
  | aonRetentionLoss
  /-- CAN_RX_ERROR (R307): A segment sees a protocol error on a frame it is not transmitting, so REC, LEC and LO_ERR change, with error-passive entry or a detection move. `ran`: µs of the slot that have run (R304). -/
  | canRxError (seg : BitVec 3) (kind : BitVec 3) (eights : BitVec 4 := 0) (ran : BitVec 16 := 0)
  /-- BLOCK_RESET_END (R99): The block held in a class K reset for up to 20 µs restarts with the active configuration and BUSY clears. -/
  | blockResetEnd (page : BitVec 10) (array : ArrayFind := .whole)
  /-- CURVE_LOAD_DONE (R168): A curve load completes within 50 µs, the record is copied or rejected, RESULT is written and LOAD clears. -/
  | curveLoadDone
  /-- KEY_PROGRAM_DONE (R269): Programming of a key slot completes within 10 ms, KEY_DATA is cleared and the command is logged. -/
  | keyProgramDone
  /-- SAFETY_CFG_COPY_A_WRITTEN (R410): The rewrite of safety configuration copy A from copy B completes and CFG_WRITTEN is raised, or a background copy-A repair ends. -/
  | safetyCfgCopyAWritten
  /-- LOG_MERGE_DONE (R427): The merge of the holding ring into the main area completes, MERGING clears, MERGED is raised and queued records proceed. -/
  | logMergeDone (worn : List (Nat × BitVec 17) := [])
  /-- GWY_SEEK_DONE (R429): A gangway seek completes within 20 µs, the record is loaded, LOADED sets and WAIT clears. -/
  | gwySeekDone (host : HostId)
deriving DecidableEq, Repr

end Sys2Proof
end

