-- ==== Sys2Proof/Decode.lean ====
section
/-!
DEFINITION. The reading of a table word. No row of spec/opcode_table.json gives any bit: the block takes its
commands as events and accesses, not as words, so no word spells a command (log entry 6).
-/

namespace Sys2Proof

/-- The command a word of the table spells: none, since no row gives bits. -/
def decodeTableWord (_nbits _w : Nat) : Option Instr := none

end Sys2Proof
end

