-- ==== Sys2Proof/Machine/Bits.lean ====
section
/-!
DEFINITION. Bit fields of words (R10, Notation of the scope chapter), little-endian bytes of stored records
(R88), and sparse maps in one canonical form.
-/

namespace Sys2Proof.Machine

/-- Field [hi:lo] of a word, as a number. -/
def getBits (w : Word) (hi lo : Nat) : Nat := (w.toNat >>> lo) % 2 ^ (hi + 1 - lo)

/-- Word `w` with field [hi:lo] replaced by the low bits of `v`. -/
def setBits (w : Word) (hi lo v : Nat) : Word :=
  let n := w.toNat
  let f := (n >>> lo) % 2 ^ (hi + 1 - lo)
  BitVec.ofNat 32 (n - f <<< lo + (v % 2 ^ (hi + 1 - lo)) <<< lo)

/-- Bit `n` of a word. -/
def getBit (w : Word) (n : Nat) : Bool := w.toNat.testBit n

/-- 1 for true, 0 for false. -/
def b2n (b : Bool) : Nat := if b then 1 else 0

/-- The low `n` bits of `v` as a two's-complement number. -/
def signedOf (n v : Nat) : Int :=
  let m := v % 2 ^ n
  if m < 2 ^ (n - 1) then (m : Int) else (m : Int) - (2 ^ n : Nat)

/-- The low `n` bits of a signed number, as a natural number. -/
def unsignedOf (n : Nat) (v : Int) : Nat := (v % ((2 ^ n : Nat) : Int)).toNat

/-- `v` limited to at most `m`. -/
def sat (m v : Nat) : Nat := if m < v then m else v

/-- `n` little-endian bytes of a number. -/
def leBytes : Nat → Nat → List Byte
  | 0, _ => []
  | n + 1, v => BitVec.ofNat 8 v :: leBytes n (v / 256)

/-- The number that little-endian bytes spell. -/
def leNat : List Byte → Nat
  | [] => 0
  | b :: bs => b.toNat + 256 * leNat bs

/-- `n` bytes of a list from offset `off`; bytes past its end read as 0. -/
def slice (bs : List Byte) (off n : Nat) : List Byte :=
  let r := (bs.drop off).take n
  r ++ List.replicate (n - r.length) 0

/-- The little-endian number of `n` bytes at offset `off`. -/
def leAt (bs : List Byte) (off n : Nat) : Nat := leNat (slice bs off n)

/-- Bits [hi:lo] of the 32-bit word at byte offset `off`. -/
def leField (bs : List Byte) (off hi lo : Nat) : Nat := (leAt bs off 4 >>> lo) % 2 ^ (hi + 1 - lo)

/-- The bytes of 32-bit words, each little-endian, in order. -/
def wordsBytes (ws : List Word) : List Byte := ws.flatMap fun w => leBytes 4 w.toNat

/-- `n` words read from bytes. -/
def bytesWords : Nat → List Byte → List Word
  | 0, _ => []
  | n + 1, bs => BitVec.ofNat 32 (leNat (slice bs 0 4)) :: bytesWords n (bs.drop 4)

/-- Element `n` of a list with a default. -/
def nth (l : List α) (n : Nat) (d : α) : α := (l.drop n).headD d

/-- The list with element `n` replaced; unchanged when there is none. -/
def setNth : List α → Nat → α → List α
  | [], _, _ => []
  | _ :: xs, 0, y => y :: xs
  | x :: xs, n + 1, y => x :: setNth xs n y

/-- The list with element `n` changed by `f`. -/
def modNth : List α → Nat → (α → α) → List α
  | [], _, _ => []
  | x :: xs, 0, f => f x :: xs
  | x :: xs, n + 1, f => x :: modNth xs n f

/-- The numbers of the bits set in `v` below bit `n`, ascending. -/
def bitsSet (n v : Nat) : List Nat := (List.range n).filter v.testBit

/-- The number of bits set in `v` below bit `n`. -/
def popCount (n v : Nat) : Nat := (bitsSet n v).length

/-! Sparse maps: pairs with keys strictly rising and no value equal to the default of its key. -/

namespace Sparse

/-- The value at a key: the listed one, or the default of the key. -/
def get (d : Nat → α) : List (Nat × α) → Nat → α
  | [], k => d k
  | (k', v) :: m, k => if k' = k then v else get d m k

/-- Remove a key. -/
def erase : List (Nat × α) → Nat → List (Nat × α)
  | [], _ => []
  | (k', v) :: m, k => if k' = k then m else (k', v) :: erase m k

/-- Insert a pair at its place, replacing an entry of the same key. -/
def insert : List (Nat × α) → Nat → α → List (Nat × α)
  | [], k, v => [(k, v)]
  | (k', v') :: m, k, v =>
    if k < k' then (k, v) :: (k', v') :: m
    else if k' = k then (k, v) :: m
    else (k', v') :: insert m k v

/-- Write a value: the default of the key removes the entry. -/
def set [DecidableEq α] (d : Nat → α) (m : List (Nat × α)) (k : Nat) (v : α) : List (Nat × α) :=
  if v = d k then erase m k else insert m k v

/-- Keys strictly rising from above `lo`. -/
def rising (lo : Nat) : List (Nat × α) → Bool
  | [] => true
  | (k, _) :: m => decide (lo ≤ k) && rising (k + 1) m

/-- The canonical form. -/
def wf [DecidableEq α] (d : Nat → α) (m : List (Nat × α)) : Bool :=
  rising 0 m && m.all fun kv => decide (kv.2 ≠ d kv.1)

/-- Write consecutive keys. -/
def setRange [DecidableEq α] (d : Nat → α) (m : List (Nat × α)) : Nat → List α → List (Nat × α)
  | _, [] => m
  | k, v :: vs => setRange d (set d m k v) (k + 1) vs

/-- Read `n` consecutive keys. -/
def getRange (d : Nat → α) (m : List (Nat × α)) (k : Nat) : Nat → List α
  | 0 => []
  | n + 1 => get d m k :: getRange d m (k + 1) n

end Sparse

end Sys2Proof.Machine
end

