-- ==== Sys2Proof/Machine/RegMap.lean ====
section
/-!
DEFINITION. The register map: every field of every register table of the spec (R5, R45, R70, R71, R77 to
R79, R85, R86, R93, R108, R113, R116, R141, R142, R144, R174, R175, R179, R203, R241 to R244, R261, R288,
R289, R316, R317, R350, R351, R377, R412, R413, R438, R439, R453 and R468), with its bits, access code, reset
value and the reset classes that clear it.
Bits that no row covers are the reserved bits the spec marks RO, "Read as zero".
-/

namespace Sys2Proof.Machine

/-- The access codes of R10. -/
inductive Acc where
  | ro | rw | wo | w1c | sc
deriving DecidableEq, Repr

/-- One field of a register table: bits [hi:lo], its access code, its flags (1 = OWN, 2 = SL, 4 = STG,
8 = kept per host, 16 = reset value from the active configuration), its reset value where the table gives a
number (0 otherwise), and the classes of R12 that clear it (1 = C, 2 = U, 4 = P, 8 = W, 16 = S, 32 = K). -/
structure FieldRow where
  hi : Nat
  lo : Nat
  acc : Acc
  flags : Nat
  reset : Nat
  clr : Nat
deriving DecidableEq, Repr

def FieldRow.own (f : FieldRow) : Bool := f.flags.testBit 0
def FieldRow.sl (f : FieldRow) : Bool := f.flags.testBit 1
def FieldRow.stg (f : FieldRow) : Bool := f.flags.testBit 2
def FieldRow.perHost (f : FieldRow) : Bool := f.flags.testBit 3
def FieldRow.config (f : FieldRow) : Bool := f.flags.testBit 4

/-- One register, or an array of `cnt` registers `stride` bytes apart, at offset `off` of its page. -/
structure RegRow where
  off : Nat
  cnt : Nat
  stride : Nat
  fields : List FieldRow
deriving DecidableEq, Repr

/-- A field at a host address: the address of its register in the first page of the block, its bits, and the
distance between the registers of an array. -/
structure Fld where
  addr : Nat
  hi : Nat
  lo : Nat
  stride : Nat
deriving DecidableEq, Repr

/-- The field in instance `n` of a block with several pages. -/
def Fld.page (f : Fld) (n : Nat) : Fld := { f with addr := f.addr + n * 0x1000 }

/-- The field in element `i` of an array of registers. -/
def Fld.idx (f : Fld) (i : Nat) : Fld := { f with addr := f.addr + i * f.stride }

/-- The blocks of R89. -/
inductive Block where
  | sys | clk | pwr | rst | host | irq | afg | afc | lin | rep | dio | man | pte | tide | grp | call | ttb | sec | fb | sail | xp | xnet | ord | safe | seal | log | gwy | rtc | lan
deriving DecidableEq, Repr

/-- The register table of SYS. -/
def regsSys : List RegRow := [
  ⟨0x040, 1, 4, [⟨27, 24, .ro, 0, 0, 0⟩, ⟨23, 20, .ro, 0, 0, 0⟩, ⟨16, 16, .ro, 0, 0, 0⟩, ⟨15, 0, .ro, 0, 0x7256, 0⟩]⟩ /- DEV_ID -/,
  ⟨0x044, 1, 4, [⟨31, 31, .ro, 0, 0, 15⟩, ⟨30, 30, .ro, 0, 0, 5⟩, ⟨25, 16, .ro, 0, 0, 15⟩, ⟨9, 0, .ro, 0, 0, 5⟩]⟩ /- NODE_ID -/,
  ⟨0x048, 1, 4, [⟨0, 0, .sc, 1, 0, 31⟩]⟩ /- CTL -/,
  ⟨0x04C, 1, 4, [⟨3, 3, .sc, 1, 0, 31⟩, ⟨2, 2, .sc, 0, 0, 31⟩, ⟨1, 1, .sc, 1, 0, 31⟩, ⟨0, 0, .ro, 0, 0, 15⟩]⟩ /- OWN -/,
  ⟨0x050, 1, 4, [⟨31, 16, .wo, 0, 0, 0⟩, ⟨15, 0, .wo, 0, 0, 0⟩]⟩ /- OWN_TAKE -/]

/-- The register table of CLK. -/
def regsClk : List RegRow := [
  ⟨0x040, 1, 4, [⟨9, 9, .ro, 0, 0, 31⟩, ⟨8, 8, .ro, 0, 0, 31⟩, ⟨7, 7, .ro, 0, 0, 31⟩, ⟨6, 6, .ro, 0, 0, 31⟩, ⟨5, 5, .ro, 0, 0, 31⟩, ⟨4, 4, .ro, 0, 0, 31⟩, ⟨3, 3, .ro, 0, 0, 15⟩, ⟨2, 2, .ro, 0, 0, 31⟩, ⟨1, 1, .ro, 0, 1, 1⟩, ⟨0, 0, .ro, 0, 0, 1⟩]⟩ /- STAT -/,
  ⟨0x044, 1, 4, [⟨1, 1, .rw, 1, 1, 15⟩, ⟨0, 0, .rw, 1, 0, 15⟩]⟩ /- CTL -/]

/-- The register table of PWR. -/
def regsPwr : List RegRow := [
  ⟨0x040, 1, 4, [⟨2, 2, .sc, 1, 0, 31⟩, ⟨1, 1, .rw, 1, 1, 15⟩, ⟨0, 0, .sc, 1, 0, 31⟩]⟩ /- CTL -/,
  ⟨0x044, 1, 4, [⟨9, 8, .ro, 0, 0, 31⟩, ⟨7, 7, .ro, 0, 0, 1⟩, ⟨6, 6, .ro, 0, 0, 31⟩, ⟨5, 5, .ro, 0, 0, 31⟩, ⟨4, 4, .ro, 0, 0, 31⟩, ⟨3, 3, .ro, 0, 0, 1⟩, ⟨2, 2, .ro, 0, 0, 31⟩, ⟨1, 1, .ro, 0, 0, 3⟩, ⟨0, 0, .ro, 0, 0, 31⟩]⟩ /- STAT -/,
  ⟨0x048, 1, 4, [⟨31, 24, .ro, 0, 0, 15⟩, ⟨23, 0, .ro, 0, 0, 15⟩]⟩ /- DIP -/,
  ⟨0x04C, 1, 4, [⟨31, 0, .ro, 0, 0, 0⟩]⟩ /- SVC_LO -/,
  ⟨0x050, 1, 4, [⟨7, 0, .ro, 0, 0, 0⟩]⟩ /- SVC_HI -/,
  ⟨0x054, 1, 4, [⟨31, 0, .ro, 0, 0, 0⟩]⟩ /- CYCLES -/,
  ⟨0x058, 1, 4, [⟨31, 0, .rw, 17, 0, 15⟩]⟩ /- WAKE_DI_LO -/,
  ⟨0x05C, 1, 4, [⟨31, 0, .rw, 17, 0, 15⟩]⟩ /- WAKE_DI_HI -/]

/-- The register table of RST. -/
def regsRst : List RegRow := [
  ⟨0x040, 1, 4, [⟨19, 16, .ro, 0, 0, 31⟩, ⟨15, 15, .ro, 0, 0, 31⟩, ⟨14, 14, .ro, 0, 0, 31⟩, ⟨13, 13, .ro, 0, 0, 31⟩, ⟨12, 12, .ro, 0, 0, 31⟩, ⟨10, 8, .ro, 0, 0, 31⟩, ⟨3, 3, .ro, 0, 0, 31⟩, ⟨2, 0, .ro, 0, 0, 31⟩]⟩ /- CAUSE -/,
  ⟨0x044, 1, 4, [⟨15, 8, .ro, 0, 0, 1⟩, ⟨2, 2, .ro, 0, 0, 15⟩, ⟨1, 1, .ro, 0, 0, 15⟩, ⟨0, 0, .ro, 0, 1, 0⟩]⟩ /- BTN -/]

/-- The register table of the page header (R93). -/
def regsHdr : List RegRow := [
  ⟨0x000, 1, 4, [⟨31, 24, .ro, 0, 0, 0⟩, ⟨23, 16, .ro, 0, 0, 0⟩, ⟨15, 0, .ro, 0, 0, 0⟩]⟩ /- PAGE_ID -/,
  ⟨0x004, 1, 4, [⟨2, 2, .rw, 1, 0, 63⟩, ⟨1, 1, .sc, 1, 0, 63⟩, ⟨0, 0, .rw, 17, 0, 47⟩]⟩ /- PAGE_CTL -/,
  ⟨0x008, 1, 4, [⟨15, 8, .ro, 0, 0, 63⟩, ⟨4, 4, .ro, 0, 0, 63⟩, ⟨3, 3, .ro, 0, 0, 47⟩, ⟨2, 2, .ro, 0, 0, 63⟩, ⟨1, 1, .ro, 0, 0, 63⟩, ⟨0, 0, .ro, 0, 0, 63⟩]⟩ /- PAGE_STAT -/,
  ⟨0x00C, 1, 4, [⟨31, 0, .ro, 0, 0, 63⟩]⟩ /- EVT_RAW -/,
  ⟨0x010, 1, 4, [⟨31, 0, .rw, 1, 0, 47⟩]⟩ /- EVT_EN -/,
  ⟨0x014, 1, 4, [⟨31, 0, .w1c, 0, 0, 63⟩]⟩ /- EVT_PEND -/,
  ⟨0x018, 1, 4, [⟨31, 0, .wo, 1, 0, 0⟩]⟩ /- EVT_FORCE -/,
  ⟨0x01C, 1, 4, [⟨31, 16, .wo, 1, 0, 0⟩, ⟨15, 8, .wo, 1, 0, 0⟩, ⟨7, 0, .wo, 1, 0, 0⟩]⟩ /- PAGE_LOCK -/,
  ⟨0x020, 1, 4, [⟨0, 0, .sc, 1, 0, 63⟩]⟩ /- PAGE_COMMIT -/,
  ⟨0x024, 1, 4, [⟨31, 16, .ro, 0, 0, 63⟩, ⟨15, 0, .ro, 0, 0, 63⟩]⟩ /- RETRY_CNT -/,
  ⟨0x028, 1, 4, [⟨31, 0, .ro, 0, 0, 63⟩]⟩ /- LAST_TALLY_LO -/,
  ⟨0x02C, 1, 4, [⟨31, 0, .ro, 0, 0, 63⟩]⟩ /- LAST_TALLY_HI -/,
  ⟨0x030, 4, 4, []⟩ /- RSVD30 -/]

/-- The register table of HOST. -/
def regsHost : List RegRow := [
  ⟨0x040, 1, 4, [⟨7, 4, .rw, 0, 0, 47⟩, ⟨3, 3, .rw, 0, 0, 47⟩, ⟨2, 2, .rw, 0, 0, 47⟩, ⟨1, 0, .rw, 0, 0, 47⟩]⟩ /- MODE -/,
  ⟨0x044, 1, 4, [⟨19, 8, .ro, 0, 0, 47⟩, ⟨2, 2, .ro, 0, 0, 31⟩, ⟨1, 1, .ro, 0, 0, 15⟩, ⟨0, 0, .ro, 0, 0, 63⟩]⟩ /- STAT -/,
  ⟨0x048, 1, 4, [⟨16, 16, .ro, 0, 0, 31⟩, ⟨15, 0, .ro, 0, 0, 31⟩]⟩ /- TOKEN -/,
  ⟨0x04C, 1, 4, [⟨31, 24, .ro, 0, 0, 63⟩, ⟨23, 0, .ro, 0, 0, 63⟩]⟩ /- BADADDR -/,
  ⟨0x050, 1, 4, [⟨31, 16, .ro, 0, 0, 63⟩, ⟨15, 0, .ro, 0, 0, 63⟩]⟩ /- ERRCNT -/]

/-- The register table of IRQ. -/
def regsIrq : List RegRow := [
  ⟨0x040, 4, 4, [⟨31, 0, .ro, 0, 0, 0⟩]⟩ /- SRC -/,
  ⟨0x050, 4, 4, [⟨31, 0, .rw, 8, 0, 15⟩]⟩ /- EN -/,
  ⟨0x060, 4, 4, [⟨31, 0, .ro, 8, 0, 0⟩]⟩ /- VIEW -/,
  ⟨0x070, 1, 4, [⟨31, 0, .rw, 1, 0xc9, 15⟩]⟩ /- ALERT_EN0 -/,
  ⟨0x074, 1, 4, [⟨31, 0, .rw, 1, 0, 15⟩]⟩ /- ALERT_EN1 -/,
  ⟨0x078, 1, 4, [⟨31, 0, .rw, 1, 0xff000000, 15⟩]⟩ /- ALERT_EN2 -/,
  ⟨0x07C, 1, 4, [⟨31, 0, .rw, 1, 0, 15⟩]⟩ /- ALERT_EN3 -/,
  ⟨0x080, 1, 4, [⟨31, 31, .ro, 8, 0, 0⟩, ⟨6, 0, .ro, 8, 0, 0⟩]⟩ /- FIRST -/,
  ⟨0x084, 1, 4, [⟨2, 2, .ro, 0, 0, 0⟩, ⟨1, 1, .ro, 0, 0, 0⟩, ⟨0, 0, .ro, 0, 0, 0⟩]⟩ /- ALERT_STAT -/]

/-- The register table of AFG. -/
def regsAfg : List RegRow := [
  ⟨0x040, 1, 4, [⟨23, 16, .ro, 0, 0, 63⟩, ⟨11, 11, .ro, 0, 0, 63⟩, ⟨10, 8, .ro, 0, 0, 63⟩, ⟨0, 0, .ro, 0, 0, 63⟩]⟩ /- GSTAT -/,
  ⟨0x044, 1, 4, [⟨3, 3, .rw, 21, 0, 47⟩, ⟨2, 0, .rw, 21, 0, 47⟩]⟩ /- GCTL -/,
  ⟨0x100, 8, 32, [⟨23, 17, .rw, 21, 0, 47⟩, ⟨16, 16, .rw, 21, 0, 47⟩, ⟨15, 14, .rw, 21, 0, 47⟩, ⟨13, 12, .rw, 21, 0, 47⟩, ⟨11, 8, .rw, 21, 0, 47⟩, ⟨7, 7, .rw, 21, 0, 47⟩, ⟨6, 4, .rw, 21, 0, 47⟩, ⟨3, 0, .rw, 21, 0, 47⟩]⟩ /- CFG0 -/,
  ⟨0x104, 8, 32, [⟨31, 24, .rw, 21, 0, 47⟩, ⟨23, 20, .rw, 21, 0, 47⟩, ⟨15, 0, .rw, 21, 0, 47⟩]⟩ /- CFG1 -/,
  ⟨0x108, 8, 32, [⟨31, 23, .rw, 21, 0, 47⟩, ⟨16, 16, .rw, 21, 0, 47⟩, ⟨15, 0, .rw, 21, 0, 47⟩]⟩ /- CFG2 -/,
  ⟨0x10C, 8, 32, [⟨31, 24, .ro, 0, 0, 63⟩, ⟨23, 0, .ro, 0, 0, 63⟩]⟩ /- RAW -/,
  ⟨0x110, 8, 32, [⟨31, 16, .ro, 0, 0, 63⟩, ⟨10, 8, .ro, 0, 0, 63⟩, ⟨6, 6, .ro, 0, 0, 63⟩, ⟨5, 5, .ro, 0, 0, 63⟩, ⟨4, 4, .ro, 0, 1, 63⟩, ⟨3, 3, .ro, 0, 0, 63⟩, ⟨2, 2, .ro, 0, 0, 63⟩, ⟨1, 1, .ro, 0, 0, 63⟩, ⟨0, 0, .ro, 0, 0, 63⟩]⟩ /- STAT -/,
  ⟨0x114, 8, 32, [⟨31, 16, .ro, 0, 0, 63⟩, ⟨15, 0, .ro, 0, 0, 63⟩]⟩ /- MON_X -/,
  ⟨0x118, 8, 32, [⟨31, 16, .ro, 0, 0, 63⟩, ⟨15, 0, .ro, 0, 0, 63⟩]⟩ /- MON_Y -/]

/-- The register table of AFC. -/
def regsAfc : List RegRow := [
  ⟨0x040, 1, 4, [⟨0, 0, .rw, 17, 0, 47⟩]⟩ /- CTL -/,
  ⟨0x044, 1, 4, [⟨31, 0, .rw, 17, 0, 47⟩]⟩ /- GRP_EN -/,
  ⟨0x048, 1, 4, [⟨15, 0, .rw, 17, 0, 47⟩]⟩ /- BURST -/,
  ⟨0x050, 4, 4, [⟨16, 16, .ro, 0, 0, 63⟩, ⟨15, 0, .ro, 0, 0, 63⟩]⟩ /- TS -/,
  ⟨0x060, 1, 4, [⟨31, 0, .ro, 0, 0, 63⟩]⟩ /- EXC_LIVE -/]

/-- The register table of LIN. -/
def regsLin : List RegRow := [
  ⟨0x040, 1, 4, [⟨31, 31, .sc, 1, 0, 63⟩, ⟨11, 0, .rw, 1, 0, 47⟩]⟩ /- CURVE_CMD -/,
  ⟨0x044, 1, 4, [⟨23, 16, .ro, 0, 0, 63⟩, ⟨11, 0, .ro, 0, 0, 63⟩]⟩ /- CURVE_RES -/,
  ⟨0x048, 1, 4, [⟨3, 0, .rw, 8, 0, 47⟩]⟩ /- CWIN -/,
  ⟨0x100, 32, 4, [⟨2, 2, .rw, 21, 0, 47⟩, ⟨1, 0, .rw, 21, 0, 47⟩]⟩ /- FILT -/,
  ⟨0x400, 256, 4, [⟨30, 30, .ro, 0, 0, 63⟩, ⟨29, 28, .ro, 0, 0, 63⟩, ⟨12, 12, .rw, 21, 0, 47⟩, ⟨11, 0, .rw, 21, 0, 47⟩]⟩ /- BIND -/]

/-- The register table of REP. -/
def regsRep : List RegRow := [
  ⟨0x100, 16, 32, [⟨18, 17, .rw, 21, 0, 47⟩, ⟨16, 0, .rw, 21, 0, 47⟩]⟩ /- CFG -/,
  ⟨0x104, 16, 32, [⟨31, 0, .rw, 21, 0, 47⟩]⟩ /- LO -/,
  ⟨0x108, 16, 32, [⟨31, 0, .rw, 21, 0, 47⟩]⟩ /- HI -/,
  ⟨0x10C, 16, 32, [⟨19, 0, .rw, 21, 0, 47⟩]⟩ /- OUT_LO -/,
  ⟨0x110, 16, 32, [⟨19, 0, .rw, 21, 0, 47⟩]⟩ /- OUT_HI -/,
  ⟨0x114, 16, 32, [⟨19, 0, .rw, 21, 0, 47⟩]⟩ /- OUT_FAULT -/,
  ⟨0x118, 16, 32, [⟨15, 0, .rw, 21, 0, 47⟩]⟩ /- CARRIER -/,
  ⟨0x11C, 16, 32, [⟨25, 25, .ro, 0, 0, 63⟩, ⟨24, 24, .ro, 0, 0, 63⟩, ⟨19, 0, .ro, 0, 0, 63⟩]⟩ /- STAT -/]

/-- The register table of DIO. -/
def regsDio : List RegRow := [
  ⟨0x040, 1, 4, [⟨31, 0, .ro, 0, 0, 63⟩]⟩ /- DI_LO -/,
  ⟨0x044, 1, 4, [⟨31, 0, .ro, 0, 0, 63⟩]⟩ /- DI_HI -/,
  ⟨0x048, 1, 4, [⟨0, 0, .ro, 0, 0, 63⟩]⟩ /- STAT -/,
  ⟨0x04C, 1, 4, [⟨15, 0, .rw, 1, 0, 47⟩]⟩ /- DO_SET -/,
  ⟨0x050, 1, 4, [⟨31, 16, .ro, 0, 0, 63⟩, ⟨15, 0, .ro, 0, 0, 63⟩]⟩ /- DO_NOW -/,
  ⟨0x054, 1, 4, [⟨15, 0, .ro, 16, 0, 0⟩]⟩ /- DO_CALL -/,
  ⟨0x100, 16, 4, [⟨31, 29, .rw, 21, 0, 47⟩, ⟨28, 28, .rw, 21, 0, 47⟩, ⟨27, 27, .rw, 21, 0, 47⟩, ⟨16, 0, .rw, 21, 0, 47⟩]⟩ /- DO_CFG -/,
  ⟨0x180, 8, 4, [⟨31, 0, .ro, 0, 0, 63⟩]⟩ /- CNT -/]

/-- The register table of MAN. -/
def regsMan : List RegRow := [
  ⟨0x040, 1, 4, [⟨28, 17, .rw, 1, 0, 47⟩, ⟨16, 0, .rw, 1, 0, 47⟩]⟩ /- EDIT -/,
  ⟨0x044, 1, 4, [⟨2, 2, .sc, 1, 0, 63⟩, ⟨1, 1, .sc, 1, 0, 63⟩, ⟨0, 0, .sc, 1, 0, 63⟩]⟩ /- CMD -/,
  ⟨0x048, 1, 4, [⟨31, 16, .ro, 0, 0, 63⟩, ⟨1, 1, .ro, 0, 0, 63⟩, ⟨0, 0, .ro, 0, 0, 63⟩]⟩ /- STAT -/,
  ⟨0x04C, 1, 4, [⟨31, 24, .ro, 0, 0, 63⟩, ⟨16, 0, .ro, 0, 0, 63⟩]⟩ /- BAD -/,
  ⟨0x050, 1, 4, [⟨17, 0, .ro, 0, 0, 0⟩]⟩ /- USED -/,
  ⟨0x054, 1, 4, [⟨9, 0, .rw, 1, 0, 47⟩]⟩ /- CNT_SLOT -/,
  ⟨0x058, 1, 4, [⟨31, 0, .rw, 1, 0, 47⟩]⟩ /- CNT_LO -/,
  ⟨0x05C, 1, 4, [⟨7, 0, .rw, 1, 0, 47⟩]⟩ /- CNT_HI -/]

/-- The register table of PTE. -/
def regsPte : List RegRow := [
  ⟨0x040, 1, 4, [⟨8, 8, .ro, 0, 0, 63⟩, ⟨4, 4, .ro, 0, 0, 63⟩, ⟨3, 0, .ro, 0, 0, 63⟩]⟩ /- STAT -/,
  ⟨0x044, 1, 4, [⟨31, 0, .ro, 0, 0, 63⟩]⟩ /- EVALS -/,
  ⟨0x048, 1, 4, [⟨31, 16, .ro, 0, 0, 63⟩]⟩ /- LOAD -/,
  ⟨0x04C, 1, 4, [⟨1, 1, .sc, 1, 0, 63⟩, ⟨0, 0, .sc, 1, 0, 63⟩]⟩ /- CTL -/,
  ⟨0x050, 1, 4, [⟨31, 28, .wo, 8, 0, 0⟩, ⟨27, 17, .wo, 8, 0, 0⟩, ⟨16, 0, .wo, 8, 0, 0⟩]⟩ /- OPCMD -/,
  ⟨0x054, 1, 4, [⟨31, 0, .rw, 8, 0, 47⟩]⟩ /- OPARG -/,
  ⟨0x058, 1, 4, [⟨31, 31, .ro, 8, 0, 63⟩, ⟨30, 30, .ro, 8, 0, 63⟩, ⟨23, 16, .ro, 8, 0, 63⟩, ⟨15, 0, .ro, 8, 0, 63⟩]⟩ /- OPRES -/,
  ⟨0x060, 1, 4, [⟨31, 28, .wo, 1, 0, 0⟩, ⟨27, 17, .wo, 1, 0, 0⟩, ⟨16, 0, .wo, 1, 0, 0⟩]⟩ /- ADMCMD -/,
  ⟨0x064, 1, 4, [⟨15, 0, .rw, 1, 0, 47⟩]⟩ /- ADMARG -/,
  ⟨0x068, 1, 4, [⟨31, 31, .ro, 0, 0, 63⟩, ⟨30, 30, .ro, 0, 0, 63⟩, ⟨23, 16, .ro, 0, 0, 63⟩, ⟨15, 0, .ro, 0, 0, 63⟩]⟩ /- ADMRES -/,
  ⟨0x070, 1, 4, [⟨31, 31, .rw, 17, 0, 47⟩, ⟨29, 24, .rw, 17, 0, 47⟩, ⟨23, 23, .rw, 17, 0, 47⟩, ⟨21, 16, .rw, 17, 0, 47⟩, ⟨12, 12, .rw, 17, 0, 47⟩, ⟨11, 0, .rw, 17, 0, 47⟩]⟩ /- ACKDI -/,
  ⟨0x074, 1, 4, [⟨31, 16, .ro, 0, 0, 15⟩, ⟨15, 0, .ro, 0, 0, 15⟩]⟩ /- ECC -/,
  ⟨0x078, 1, 4, [⟨5, 0, .ro, 0, 0x20, 0⟩]⟩ /- SPARE -/,
  ⟨0x07C, 1, 4, [⟨3, 0, .rw, 8, 0, 47⟩]⟩ /- RT_BASE -/]

/-- The register table of TIDE. -/
def regsTide : List RegRow := [
  ⟨0x040, 1, 4, [⟨31, 0, .ro, 0, 0, 1⟩]⟩ /- NOW -/,
  ⟨0x044, 1, 4, [⟨17, 0, .ro, 0, 0, 63⟩]⟩ /- PEND_DLY -/,
  ⟨0x048, 1, 4, [⟨19, 0, .ro, 0, 0, 63⟩]⟩ /- PEND_TMR -/,
  ⟨0x04C, 1, 4, [⟨19, 0, .ro, 0, 0, 63⟩]⟩ /- MAXEXP -/,
  ⟨0x050, 1, 4, [⟨0, 0, .sc, 1, 0, 63⟩]⟩ /- CTL -/]

/-- The register table of GRP. -/
def regsGrp : List RegRow := [
  ⟨0x040, 1, 4, [⟨11, 0, .rw, 8, 0, 47⟩]⟩ /- SEL -/,
  ⟨0x044, 1, 4, [⟨2, 2, .ro, 16, 0, 0⟩, ⟨1, 1, .ro, 16, 0, 0⟩, ⟨0, 0, .ro, 16, 0, 0⟩]⟩ /- CFG -/,
  ⟨0x048, 1, 4, [⟨31, 31, .ro, 0, 0, 63⟩, ⟨30, 30, .ro, 0, 0, 63⟩, ⟨29, 28, .ro, 0, 3, 63⟩, ⟨17, 0, .ro, 0, 0, 63⟩]⟩ /- STATE -/,
  ⟨0x04C, 1, 4, [⟨17, 0, .ro, 0, 0, 63⟩]⟩ /- UNACK -/,
  ⟨0x050, 1, 4, [⟨17, 0, .ro, 16, 0, 0⟩]⟩ /- MEMBERS -/,
  ⟨0x054, 1, 4, [⟨31, 31, .ro, 0, 0, 63⟩, ⟨16, 0, .ro, 0, 0, 63⟩]⟩ /- FIRST -/,
  ⟨0x058, 1, 4, [⟨31, 0, .ro, 0, 0, 63⟩]⟩ /- FIRST_INST -/,
  ⟨0x05C, 1, 4, [⟨0, 0, .sc, 0, 0, 63⟩]⟩ /- CMD -/]

/-- The register table of CALL. -/
def regsCall : List RegRow := [
  ⟨0x040, 1, 4, [⟨31, 31, .ro, 0, 0, 63⟩, ⟨25, 16, .ro, 0, 0, 63⟩, ⟨15, 15, .ro, 0, 0, 63⟩, ⟨4, 0, .ro, 0, 0, 63⟩]⟩ /- STAT -/,
  ⟨0x044, 1, 4, [⟨3, 0, .rw, 21, 0, 47⟩]⟩ /- DUTY -/,
  ⟨0x048, 1, 4, [⟨31, 16, .rw, 21, 0, 47⟩, ⟨15, 0, .rw, 21, 0, 47⟩]⟩ /- BRIDGE -/,
  ⟨0x04C, 1, 4, [⟨31, 31, .rw, 21, 0, 47⟩, ⟨29, 24, .rw, 21, 0, 47⟩, ⟨23, 18, .rw, 21, 0, 47⟩, ⟨17, 12, .rw, 21, 0, 47⟩, ⟨9, 4, .rw, 21, 0, 47⟩, ⟨3, 0, .rw, 21, 0, 47⟩]⟩ /- DM_CFG -/,
  ⟨0x050, 1, 4, [⟨31, 16, .rw, 21, 0, 47⟩, ⟨15, 0, .rw, 21, 0, 47⟩]⟩ /- DM_TIME -/,
  ⟨0x054, 1, 4, [⟨31, 30, .ro, 0, 0, 63⟩, ⟨15, 0, .ro, 0, 0, 63⟩]⟩ /- DM_STAT -/,
  ⟨0x058, 1, 4, [⟨31, 28, .wo, 1, 0, 0⟩, ⟨27, 4, .wo, 1, 0, 0⟩, ⟨3, 0, .wo, 1, 0, 0⟩]⟩ /- CMD -/,
  ⟨0x05C, 1, 4, [⟨3, 0, .rw, 8, 0, 47⟩]⟩ /- CALLSEL -/,
  ⟨0x060, 1, 4, [⟨31, 29, .ro, 0, 0, 63⟩, ⟨28, 28, .ro, 0, 0, 63⟩, ⟨27, 24, .ro, 0, 0, 63⟩, ⟨15, 0, .ro, 0, 0, 63⟩]⟩ /- CALLSTAT -/,
  ⟨0x064, 1, 4, [⟨17, 0, .ro, 0, 0, 63⟩]⟩ /- CALLJOIN -/,
  ⟨0x108, 15, 8, [⟨31, 31, .rw, 21, 0, 47⟩, ⟨29, 28, .rw, 21, 0, 47⟩, ⟨27, 26, .rw, 21, 0, 47⟩, ⟨15, 0, .rw, 21, 0, 47⟩]⟩ /- CLASS -/,
  ⟨0x10C, 15, 8, [⟨31, 16, .rw, 21, 0, 47⟩, ⟨15, 0, .rw, 21, 0, 47⟩]⟩ /- CLASS_HI -/,
  ⟨0x200, 16, 8, [⟨31, 16, .rw, 21, 0, 47⟩, ⟨15, 0, .rw, 21, 0, 47⟩]⟩ /- ROSTER -/,
  ⟨0x204, 16, 8, [⟨0, 0, .rw, 21, 0, 47⟩]⟩ /- ROSTER_HI -/,
  ⟨0x300, 63, 4, [⟨31, 31, .rw, 21, 0, 47⟩, ⟨13, 8, .rw, 21, 0, 47⟩, ⟨3, 0, .rw, 21, 0, 47⟩]⟩ /- UNIT -/]

/-- The register table of TTB. -/
def regsTtb : List RegRow := [
  ⟨0x040, 1, 4, [⟨31, 28, .ro, 0, 0, 15⟩, ⟨27, 27, .ro, 0, 0, 15⟩, ⟨25, 24, .ro, 0, 0, 15⟩, ⟨23, 20, .ro, 0, 0, 15⟩, ⟨9, 0, .ro, 0, 0, 15⟩]⟩ /- ACTIVE -/,
  ⟨0x044, 1, 4, [⟨31, 0, .ro, 0, 0, 0⟩]⟩ /- GEN -/,
  ⟨0x048, 1, 4, [⟨31, 31, .ro, 0, 0, 63⟩, ⟨30, 30, .ro, 0, 0, 63⟩, ⟨11, 8, .ro, 0, 0, 63⟩, ⟨3, 0, .rw, 1, 0, 47⟩]⟩ /- REQ -/,
  ⟨0x04C, 1, 4, [⟨1, 1, .rw, 21, 0, 47⟩, ⟨0, 0, .rw, 21, 0, 47⟩]⟩ /- CTL -/,
  ⟨0x050, 1, 4, [⟨31, 24, .ro, 0, 0, 63⟩, ⟨23, 20, .ro, 0, 0, 63⟩, ⟨16, 0, .ro, 0, 0, 63⟩]⟩ /- SWSTAT -/,
  ⟨0x054, 1, 4, [⟨31, 31, .sc, 1, 0, 63⟩, ⟨3, 0, .rw, 1, 0, 47⟩]⟩ /- INST_CMD -/,
  ⟨0x058, 1, 4, [⟨23, 16, .ro, 0, 0, 63⟩, ⟨3, 0, .ro, 0, 0, 63⟩]⟩ /- INST_RES -/,
  ⟨0x05C, 1, 4, [⟨15, 0, .ro, 0, 0, 0⟩]⟩ /- SLOTS -/,
  ⟨0x060, 1, 4, [⟨2, 2, .sc, 1, 0, 63⟩, ⟨1, 1, .sc, 1, 0, 63⟩, ⟨0, 0, .sc, 1, 0, 63⟩]⟩ /- IMG_CTL -/,
  ⟨0x064, 1, 4, [⟨23, 0, .rw, 1, 0, 47⟩]⟩ /- IMG_LEN -/,
  ⟨0x068, 1, 4, [⟨31, 0, .wo, 1, 0, 0⟩]⟩ /- IMG_DATA -/,
  ⟨0x06C, 1, 4, [⟨31, 31, .ro, 0, 0, 63⟩, ⟨30, 30, .ro, 0, 0, 15⟩, ⟨29, 29, .ro, 0, 0, 63⟩, ⟨28, 28, .ro, 0, 0, 15⟩, ⟨23, 16, .ro, 0, 0, 15⟩, ⟨15, 0, .ro, 0, 0, 15⟩]⟩ /- IMG_STAT -/,
  ⟨0x070, 1, 4, [⟨23, 0, .ro, 0, 0, 63⟩]⟩ /- IMG_OFF -/,
  ⟨0x074, 1, 4, [⟨31, 0, .ro, 0, 0, 15⟩]⟩ /- SERIAL -/,
  ⟨0x078, 1, 4, [⟨31, 0, .ro, 0, 0, 0⟩]⟩ /- NOR_SERIAL -/,
  ⟨0x080, 16, 4, [⟨31, 31, .rw, 21, 0, 47⟩, ⟨30, 30, .rw, 21, 0, 47⟩, ⟨27, 24, .rw, 21, 0, 47⟩, ⟨23, 20, .rw, 21, 0, 47⟩, ⟨16, 0, .rw, 21, 0, 47⟩]⟩ /- TRIG -/]

/-- The register table of SEC. -/
def regsSec : List RegRow := [
  ⟨0x040, 1, 4, [⟨31, 28, .wo, 1, 0, 0⟩, ⟨27, 24, .wo, 1, 0, 0⟩, ⟨23, 8, .wo, 1, 0, 0⟩, ⟨7, 3, .wo, 1, 0, 0⟩, ⟨2, 0, .wo, 1, 0, 0⟩]⟩ /- KEY_CMD -/,
  ⟨0x044, 1, 4, [⟨23, 16, .ro, 0, 0, 0⟩, ⟨15, 8, .ro, 0, 0, 0⟩, ⟨0, 0, .ro, 0, 0, 0⟩]⟩ /- KEYSTAT -/,
  ⟨0x048, 1, 4, [⟨31, 31, .ro, 0, 0, 15⟩, ⟨18, 16, .ro, 0, 0, 15⟩, ⟨7, 0, .ro, 0, 0, 15⟩]⟩ /- LAST -/,
  ⟨0x060, 8, 4, [⟨31, 0, .wo, 1, 0, 31⟩]⟩ /- KEY_DATA -/]

/-- The register table of FB. -/
def regsFb : List RegRow := [
  ⟨0x040, 1, 4, [⟨31, 24, .rw, 21, 0, 47⟩, ⟨23, 16, .rw, 21, 0, 47⟩, ⟨15, 15, .rw, 1, 0, 63⟩, ⟨14, 14, .rw, 21, 0, 47⟩, ⟨13, 8, .rw, 21, 0, 47⟩, ⟨7, 7, .rw, 21, 0, 47⟩, ⟨6, 4, .rw, 21, 0, 47⟩, ⟨3, 3, .rw, 21, 0, 47⟩, ⟨2, 2, .rw, 21, 0, 47⟩, ⟨1, 0, .rw, 21, 0, 47⟩]⟩ /- CTL -/,
  ⟨0x044, 1, 4, [⟨31, 24, .rw, 21, 0, 47⟩, ⟨23, 16, .rw, 21, 0, 47⟩, ⟨14, 8, .rw, 21, 0, 47⟩, ⟨6, 0, .rw, 21, 0, 47⟩]⟩ /- NBT -/,
  ⟨0x048, 1, 4, [⟨31, 31, .rw, 21, 0, 47⟩, ⟨28, 24, .rw, 21, 0, 47⟩, ⟨20, 16, .rw, 21, 0, 47⟩, ⟨11, 8, .rw, 21, 0, 47⟩, ⟨3, 0, .rw, 21, 0, 47⟩]⟩ /- DBT -/,
  ⟨0x04C, 1, 4, [⟨31, 31, .rw, 21, 0, 47⟩, ⟨6, 0, .rw, 21, 0, 47⟩]⟩ /- TDC -/,
  ⟨0x050, 1, 4, [⟨14, 12, .ro, 0, 0, 63⟩, ⟨10, 8, .ro, 0, 0, 63⟩, ⟨6, 6, .ro, 0, 0, 63⟩, ⟨5, 5, .ro, 0, 0, 63⟩, ⟨4, 4, .ro, 0, 0, 63⟩, ⟨3, 3, .ro, 0, 0, 63⟩, ⟨2, 2, .ro, 0, 0, 63⟩, ⟨1, 0, .ro, 0, 0, 63⟩]⟩ /- STAT -/,
  ⟨0x054, 1, 4, [⟨24, 16, .ro, 0, 0, 63⟩, ⟨15, 15, .ro, 0, 0, 63⟩, ⟨7, 0, .ro, 0, 0, 63⟩]⟩ /- ERR -/,
  ⟨0x058, 1, 4, [⟨31, 16, .ro, 0, 0, 63⟩, ⟨15, 0, .ro, 0, 0, 63⟩]⟩ /- CNT -/,
  ⟨0x05C, 1, 4, [⟨15, 0, .ro, 0, 0, 63⟩]⟩ /- CNT2 -/,
  ⟨0x060, 1, 4, [⟨31, 0, .rw, 1, 0, 63⟩]⟩ /- TXREQ_LO -/,
  ⟨0x064, 1, 4, [⟨31, 0, .rw, 1, 0, 63⟩]⟩ /- TXREQ_HI -/,
  ⟨0x068, 1, 4, [⟨31, 0, .wo, 1, 0, 0⟩]⟩ /- TXCAN_LO -/,
  ⟨0x06C, 1, 4, [⟨31, 0, .wo, 1, 0, 0⟩]⟩ /- TXCAN_HI -/,
  ⟨0x070, 1, 4, [⟨31, 0, .ro, 0, 0, 63⟩]⟩ /- DROP_LO -/,
  ⟨0x074, 1, 4, [⟨31, 0, .ro, 0, 0, 63⟩]⟩ /- DROP_HI -/,
  ⟨0x078, 1, 4, [⟨31, 0, .ro, 0, 0, 63⟩]⟩ /- RX_NEW_LO -/,
  ⟨0x07C, 1, 4, [⟨31, 0, .ro, 0, 0, 63⟩]⟩ /- RX_NEW_HI -/,
  ⟨0x080, 1, 4, [⟨31, 6, .wo, 0, 0, 0⟩, ⟨5, 0, .wo, 0, 0, 0⟩]⟩ /- RX_REL -/,
  ⟨0x084, 1, 4, [⟨31, 31, .ro, 0, 0, 63⟩, ⟨30, 30, .ro, 0, 0, 63⟩, ⟨5, 0, .ro, 0, 0, 63⟩]⟩ /- KEPT -/,
  ⟨0x088, 1, 4, [⟨31, 31, .ro, 0, 0, 63⟩, ⟨30, 30, .ro, 0, 0, 63⟩, ⟨28, 0, .ro, 0, 0, 63⟩]⟩ /- CLASH -/,
  ⟨0x08C, 1, 4, [⟨2, 2, .sc, 1, 0, 63⟩, ⟨1, 1, .sc, 1, 0, 63⟩, ⟨0, 0, .sc, 1, 0, 63⟩]⟩ /- CMD -/,
  ⟨0x090, 1, 4, [⟨15, 8, .rw, 17, 0, 47⟩, ⟨7, 0, .rw, 17, 0, 47⟩]⟩ /- DETCFG -/,
  ⟨0x100, 8, 8, [⟨31, 24, .rw, 17, 0, 47⟩, ⟨23, 16, .rw, 17, 0, 47⟩, ⟨14, 8, .rw, 17, 0, 47⟩, ⟨6, 0, .rw, 17, 0, 47⟩]⟩ /- DETC -/,
  ⟨0x104, 8, 8, [⟨31, 31, .rw, 17, 0, 47⟩, ⟨28, 24, .rw, 17, 0, 47⟩, ⟨20, 16, .rw, 17, 0, 47⟩, ⟨11, 8, .rw, 17, 0, 47⟩, ⟨3, 0, .rw, 17, 0, 47⟩]⟩ /- DETC_HI -/]

/-- The register table of SAIL. -/
def regsSail : List RegRow := [
  ⟨0x040, 8, 4, [⟨31, 31, .ro, 0, 0, 63⟩, ⟨21, 16, .ro, 0, 0, 63⟩, ⟨4, 0, .ro, 0, 0, 63⟩]⟩ /- NOW -/,
  ⟨0x060, 1, 4, [⟨31, 24, .ro, 0, 0, 63⟩, ⟨18, 16, .ro, 0, 0, 63⟩, ⟨15, 0, .ro, 0, 0, 63⟩]⟩ /- REFUSE -/]

/-- The register table of XP. -/
def regsXp : List RegRow := [
  ⟨0x040, 1, 4, [⟨12, 8, .rw, 21, 0, 47⟩, ⟨3, 3, .rw, 21, 0, 47⟩, ⟨2, 2, .rw, 21, 0, 47⟩, ⟨1, 0, .rw, 21, 0, 47⟩]⟩ /- CTL -/,
  ⟨0x044, 1, 4, [⟨28, 28, .ro, 0, 0, 63⟩, ⟨27, 26, .ro, 0, 0, 63⟩, ⟨25, 16, .ro, 0, 0, 63⟩, ⟨5, 5, .ro, 0, 0, 63⟩, ⟨4, 4, .ro, 0, 0, 63⟩, ⟨3, 3, .ro, 0, 0, 63⟩, ⟨2, 0, .ro, 0, 0, 63⟩]⟩ /- STAT -/,
  ⟨0x048, 1, 4, [⟨31, 16, .ro, 0, 0, 63⟩, ⟨15, 0, .ro, 0, 0, 63⟩]⟩ /- HSEQ -/,
  ⟨0x04C, 1, 4, [⟨31, 0, .ro, 0, 0, 63⟩]⟩ /- TXCNT -/,
  ⟨0x050, 1, 4, [⟨31, 0, .ro, 0, 0, 63⟩]⟩ /- RXCNT -/,
  ⟨0x054, 1, 4, [⟨31, 16, .ro, 0, 0, 63⟩, ⟨15, 0, .ro, 0, 0, 63⟩]⟩ /- ERRCNT -/]

/-- The register table of XNET. -/
def regsXnet : List RegRow := [
  ⟨0x040, 1, 4, [⟨25, 16, .ro, 0, 0, 63⟩, ⟨7, 7, .ro, 0, 0, 5⟩, ⟨6, 6, .ro, 0, 0, 63⟩, ⟨5, 5, .ro, 0, 0, 63⟩, ⟨4, 4, .ro, 0, 0, 63⟩, ⟨3, 3, .ro, 0, 0, 63⟩, ⟨2, 2, .ro, 0, 0, 63⟩, ⟨1, 0, .ro, 0, 3, 63⟩]⟩ /- STAT -/,
  ⟨0x044, 1, 4, [⟨31, 16, .ro, 0, 0, 15⟩, ⟨15, 0, .ro, 0, 0, 1⟩]⟩ /- EPOCH -/,
  ⟨0x048, 1, 4, [⟨26, 16, .ro, 0, 0, 15⟩, ⟨10, 0, .ro, 0, 1, 63⟩]⟩ /- MEMBERS -/,
  ⟨0x04C, 1, 4, [⟨4, 0, .rw, 8, 0, 47⟩]⟩ /- MAPSEL -/,
  ⟨0x050, 1, 4, [⟨31, 0, .ro, 0, 0, 63⟩]⟩ /- PRESENT -/,
  ⟨0x054, 1, 4, [⟨31, 0, .ro, 0, 0, 15⟩]⟩ /- LOST -/,
  ⟨0x058, 1, 4, [⟨31, 0, .ro, 0, 0, 63⟩]⟩ /- CAP -/,
  ⟨0x05C, 1, 4, [⟨31, 0, .ro, 0, 0, 15⟩]⟩ /- SPLIT_TLO -/,
  ⟨0x060, 1, 4, [⟨31, 0, .ro, 0, 0, 15⟩]⟩ /- SPLIT_THI -/,
  ⟨0x064, 1, 4, [⟨1, 1, .ro, 16, 0, 0⟩, ⟨0, 0, .ro, 16, 0, 0⟩]⟩ /- CFG -/,
  ⟨0x068, 1, 4, [⟨0, 0, .rw, 1, 0, 47⟩]⟩ /- CTL -/,
  ⟨0x06C, 1, 4, [⟨31, 28, .wo, 1, 0, 0⟩, ⟨27, 10, .wo, 1, 0, 0⟩, ⟨9, 0, .wo, 1, 0, 0⟩]⟩ /- CMD -/,
  ⟨0x070, 1, 4, [⟨31, 31, .sc, 1, 0, 63⟩, ⟨30, 30, .rw, 1, 0, 47⟩, ⟨28, 24, .rw, 1, 0, 47⟩, ⟨20, 16, .rw, 1, 0, 47⟩, ⟨15, 0, .rw, 1, 0, 47⟩]⟩ /- MDIO -/,
  ⟨0x074, 1, 4, [⟨31, 16, .ro, 0, 0, 15⟩, ⟨10, 0, .ro, 0, 0, 15⟩]⟩ /- ACKQ -/,
  ⟨0x078, 1, 4, [⟨31, 16, .ro, 0, 0, 63⟩, ⟨15, 0, .ro, 0, 0, 63⟩]⟩ /- REPLAY -/,
  ⟨0x080, 1, 4, [⟨31, 28, .wo, 8, 0, 0⟩, ⟨27, 27, .wo, 8, 0, 0⟩, ⟨26, 17, .wo, 8, 0, 0⟩, ⟨16, 0, .wo, 8, 0, 0⟩]⟩ /- RACK_CMD -/,
  ⟨0x084, 1, 4, [⟨31, 0, .rw, 8, 0, 47⟩]⟩ /- RACK_ARG -/,
  ⟨0x088, 1, 4, [⟨31, 31, .ro, 8, 0, 63⟩, ⟨30, 30, .ro, 8, 0, 63⟩, ⟨23, 16, .ro, 8, 0, 63⟩]⟩ /- RACK_RES -/,
  ⟨0x090, 1, 4, [⟨31, 28, .wo, 1, 0, 0⟩, ⟨27, 26, .wo, 1, 0, 0⟩, ⟨25, 16, .wo, 1, 0, 0⟩, ⟨15, 4, .wo, 1, 0, 0⟩, ⟨3, 0, .wo, 1, 0, 0⟩]⟩ /- RCFG_CTL -/,
  ⟨0x094, 1, 4, [⟨23, 0, .rw, 1, 0, 47⟩]⟩ /- RCFG_LEN -/,
  ⟨0x098, 1, 4, [⟨31, 0, .wo, 1, 0, 0⟩]⟩ /- RCFG_DATA -/,
  ⟨0x09C, 1, 4, [⟨31, 31, .ro, 0, 0, 63⟩, ⟨30, 30, .ro, 0, 0, 63⟩, ⟨23, 16, .ro, 0, 0, 63⟩]⟩ /- RCFG_RES -/]

/-- The register table of ORD. -/
def regsOrd : List RegRow := [
  ⟨0x040, 1, 4, [⟨31, 0, .ro, 0, 0, 0⟩]⟩ /- TALLY_LO -/,
  ⟨0x044, 1, 4, [⟨31, 0, .ro, 0, 0, 0⟩]⟩ /- TALLY_HI -/,
  ⟨0x048, 1, 4, [⟨31, 0, .ro, 0, 0, 0⟩]⟩ /- CEIL_LO -/,
  ⟨0x04C, 1, 4, [⟨31, 0, .ro, 0, 0, 0⟩]⟩ /- CEIL_HI -/,
  ⟨0x050, 1, 4, [⟨5, 4, .ro, 0, 0, 31⟩, ⟨3, 3, .ro, 0, 0, 1⟩, ⟨2, 2, .ro, 0, 0, 31⟩, ⟨1, 1, .ro, 0, 0, 0⟩, ⟨0, 0, .ro, 0, 0, 0⟩]⟩ /- STAT -/,
  ⟨0x054, 1, 4, [⟨31, 16, .ro, 0, 0, 31⟩, ⟨15, 0, .ro, 0, 0, 31⟩]⟩ /- GAPCNT -/,
  ⟨0x058, 1, 4, [⟨31, 16, .ro, 0, 0, 31⟩, ⟨15, 0, .ro, 0, 0, 31⟩]⟩ /- OUTCNT -/,
  ⟨0x05C, 1, 4, [⟨31, 16, .ro, 0, 0, 31⟩, ⟨9, 0, .ro, 0, 0, 31⟩]⟩ /- REJECT -/,
  ⟨0x060, 1, 4, [⟨31, 16, .ro, 0, 0, 31⟩, ⟨15, 0, .ro, 0, 0, 31⟩]⟩ /- HOLD -/,
  ⟨0x064, 1, 4, [⟨31, 30, .ro, 0, 0, 31⟩, ⟨26, 17, .ro, 0, 0, 31⟩, ⟨16, 0, .ro, 0, 0, 31⟩]⟩ /- LASTGAP -/,
  ⟨0x068, 1, 4, [⟨31, 0, .ro, 0, 0, 31⟩]⟩ /- LASTGAP_SEQ -/,
  ⟨0x06C, 1, 4, [⟨31, 0, .ro, 0, 0, 31⟩]⟩ /- LASTGAP_N -/,
  ⟨0x070, 1, 4, [⟨0, 0, .sc, 1, 0, 31⟩]⟩ /- CTL -/]

/-- The register table of SAFE. -/
def regsSafe : List RegRow := [
  ⟨0x040, 1, 4, [⟨7, 7, .ro, 16, 0, 0⟩, ⟨6, 6, .ro, 16, 0, 0⟩, ⟨5, 5, .ro, 0, 0, 63⟩, ⟨4, 4, .ro, 0, 0, 63⟩, ⟨3, 3, .ro, 0, 0, 47⟩, ⟨2, 2, .ro, 0, 0, 63⟩, ⟨1, 1, .ro, 0, 0, 63⟩, ⟨0, 0, .ro, 0, 0, 63⟩]⟩ /- STAT -/,
  ⟨0x044, 1, 4, [⟨31, 0, .ro, 16, 0, 47⟩]⟩ /- PAIRS0 -/,
  ⟨0x048, 1, 4, [⟨31, 0, .ro, 16, 0, 47⟩]⟩ /- PAIRS1 -/,
  ⟨0x04C, 1, 4, [⟨31, 0, .ro, 16, 0, 47⟩]⟩ /- OUTS -/,
  ⟨0x050, 1, 4, [⟨31, 0, .ro, 0, 0, 63⟩]⟩ /- IN_A -/,
  ⟨0x054, 1, 4, [⟨31, 0, .ro, 0, 0, 63⟩]⟩ /- IN_B -/,
  ⟨0x058, 1, 4, [⟨31, 28, .ro, 0, 0, 63⟩, ⟨27, 24, .ro, 0, 0, 63⟩, ⟨23, 16, .ro, 0, 0, 63⟩, ⟨15, 0, .ro, 0, 0, 63⟩]⟩ /- AUX -/,
  ⟨0x05C, 1, 4, [⟨31, 16, .ro, 0, 0, 63⟩, ⟨3, 0, .ro, 16, 0, 47⟩]⟩ /- CHAIN -/,
  ⟨0x060, 1, 4, [⟨5, 0, .rw, 8, 0, 47⟩]⟩ /- CONN_SEL -/,
  ⟨0x064, 1, 4, [⟨31, 28, .ro, 16, 0, 63⟩, ⟨25, 16, .ro, 16, 0, 0⟩, ⟨15, 0, .ro, 0, 0, 63⟩]⟩ /- CONN_STAT -/,
  ⟨0x068, 1, 4, [⟨31, 16, .ro, 0, 0, 63⟩, ⟨15, 0, .ro, 0, 0, 63⟩]⟩ /- CONN_SEQ -/,
  ⟨0x06C, 1, 4, [⟨31, 16, .ro, 0, 0, 63⟩, ⟨15, 0, .ro, 0, 0, 63⟩]⟩ /- CONN_ERR -/,
  ⟨0x070, 1, 4, [⟨31, 0, .ro, 0, 0, 63⟩]⟩ /- CONN_RUN_LO -/,
  ⟨0x074, 1, 4, [⟨31, 0, .ro, 0, 0, 63⟩]⟩ /- CONN_RUN_HI -/,
  ⟨0x078, 1, 4, [⟨31, 24, .ro, 0, 0, 47⟩, ⟨23, 16, .ro, 0, 0, 47⟩]⟩ /- LASTFAULT -/,
  ⟨0x07C, 1, 4, [⟨31, 16, .ro, 0, 0, 63⟩, ⟨15, 0, .ro, 0, 0, 63⟩]⟩ /- CONN_AGE -/]

/-- The register table of SEAL. -/
def regsSeal : List RegRow := [
  ⟨0x040, 1, 4, [⟨31, 24, .ro, 0, 0, 47⟩, ⟨19, 19, .ro, 0, 0, 47⟩, ⟨18, 16, .ro, 0, 0, 47⟩, ⟨9, 9, .ro, 0, 0, 63⟩, ⟨8, 8, .ro, 0, 0, 63⟩, ⟨7, 0, .ro, 0, 0, 63⟩]⟩ /- STAT -/,
  ⟨0x044, 1, 4, [⟨31, 0, .ro, 0, 0, 47⟩]⟩ /- SERIAL -/,
  ⟨0x048, 1, 4, [⟨6, 4, .rw, 3, 0, 47⟩, ⟨2, 2, .sc, 3, 0, 63⟩, ⟨1, 1, .sc, 3, 0, 63⟩, ⟨0, 0, .sc, 3, 0, 63⟩]⟩ /- CFG_CTL -/,
  ⟨0x04C, 1, 4, [⟨31, 0, .wo, 3, 0, 0⟩]⟩ /- CFG_DATA -/,
  ⟨0x050, 1, 4, [⟨31, 31, .ro, 0, 0, 63⟩, ⟨30, 30, .ro, 0, 0, 63⟩, ⟨23, 16, .ro, 0, 0, 63⟩, ⟨9, 0, .ro, 0, 0, 63⟩]⟩ /- CFG_RES -/,
  ⟨0x054, 1, 4, [⟨15, 8, .ro, 0, 0, 0⟩, ⟨7, 0, .ro, 0, 0, 0⟩]⟩ /- SLOTS -/,
  ⟨0x058, 1, 4, [⟨15, 0, .ro, 0, 0, 1⟩]⟩ /- CHANGES -/]

/-- The register table of LOG. -/
def regsLog : List RegRow := [
  ⟨0x040, 1, 4, [⟨15, 8, .rw, 17, 0, 47⟩, ⟨0, 0, .rw, 1, 0, 47⟩]⟩ /- CTL -/,
  ⟨0x044, 1, 4, [⟨29, 29, .ro, 0, 0, 63⟩, ⟨28, 28, .ro, 0, 0, 63⟩, ⟨27, 27, .ro, 0, 0, 47⟩, ⟨26, 26, .ro, 0, 0, 63⟩, ⟨25, 25, .ro, 0, 0, 63⟩, ⟨24, 24, .ro, 0, 0, 47⟩, ⟨17, 0, .ro, 0, 0, 0⟩]⟩ /- STAT -/,
  ⟨0x048, 1, 4, [⟨10, 0, .ro, 0, 0, 47⟩]⟩ /- FREEZE_LEFT -/,
  ⟨0x04C, 1, 4, [⟨24, 16, .ro, 0, 0, 63⟩, ⟨8, 0, .ro, 0, 0, 63⟩]⟩ /- QUEUE -/,
  ⟨0x050, 1, 4, [⟨31, 16, .ro, 0, 0, 0⟩, ⟨15, 0, .ro, 0, 0, 0⟩]⟩ /- LOSS -/,
  ⟨0x054, 1, 4, [⟨31, 0, .ro, 0, 0, 0⟩]⟩ /- OVWR -/,
  ⟨0x058, 1, 4, [⟨23, 16, .ro, 0, 0, 0⟩, ⟨9, 0, .ro, 0, 0, 0⟩]⟩ /- RING -/,
  ⟨0x05C, 1, 4, [⟨31, 16, .ro, 0, 0, 63⟩, ⟨8, 0, .ro, 0, 0, 0⟩]⟩ /- RETIRED -/,
  ⟨0x060, 6, 4, [⟨31, 24, .rw, 17, 0, 47⟩, ⟨15, 0, .rw, 17, 0, 47⟩]⟩ /- RATE -/,
  ⟨0x080, 8, 8, [⟨31, 31, .rw, 17, 0, 47⟩, ⟨15, 0, .rw, 17, 0, 47⟩]⟩ /- RATE_OVR -/,
  ⟨0x084, 8, 8, [⟨31, 24, .rw, 17, 0, 47⟩, ⟨15, 0, .rw, 17, 0, 47⟩]⟩ /- RATE_OVR_HI -/,
  ⟨0x0C0, 1, 4, [⟨31, 31, .rw, 17, 0, 47⟩, ⟨9, 0, .rw, 17, 0, 47⟩]⟩ /- PROXY -/,
  ⟨0x0D0, 1, 4, [⟨0, 0, .sc, 1, 0, 63⟩]⟩ /- CLR_REQ -/,
  ⟨0x0D4, 1, 4, [⟨16, 16, .ro, 0, 0, 63⟩, ⟨15, 0, .ro, 0, 0, 63⟩]⟩ /- CLR_KEY -/,
  ⟨0x0D8, 1, 4, [⟨31, 28, .wo, 1, 0, 0⟩, ⟨27, 16, .wo, 1, 0, 0⟩, ⟨15, 0, .wo, 1, 0, 0⟩]⟩ /- CLR_CMD -/,
  ⟨0x0DC, 1, 4, [⟨31, 31, .ro, 0, 0, 63⟩, ⟨17, 0, .ro, 0, 0, 63⟩]⟩ /- CLR_RES -/]

/-- The register table of GWY. -/
def regsGwy : List RegRow := [
  ⟨0x040, 1, 4, [⟨31, 0, .rw, 8, 0, 63⟩]⟩ /- CUR_TLO -/,
  ⟨0x044, 1, 4, [⟨31, 0, .rw, 8, 0, 63⟩]⟩ /- CUR_THI -/,
  ⟨0x048, 1, 4, [⟨9, 0, .rw, 8, 0, 63⟩]⟩ /- CUR_NODE -/,
  ⟨0x04C, 1, 4, [⟨3, 3, .rw, 8, 0, 47⟩, ⟨2, 0, .rw, 8, 0, 47⟩]⟩ /- FILT -/,
  ⟨0x050, 1, 4, [⟨31, 2, .wo, 8, 0, 0⟩, ⟨1, 0, .wo, 8, 0, 0⟩]⟩ /- CMD -/,
  ⟨0x054, 1, 4, [⟨31, 31, .ro, 8, 0, 63⟩, ⟨30, 30, .ro, 8, 0, 63⟩, ⟨29, 29, .ro, 8, 0, 63⟩, ⟨15, 0, .ro, 8, 0, 63⟩]⟩ /- STAT -/,
  ⟨0x080, 16, 4, [⟨31, 0, .ro, 8, 0, 63⟩]⟩ /- DATA -/]

/-- The register table of RTC. -/
def regsRtc : List RegRow := [
  ⟨0x040, 1, 4, [⟨2, 2, .rw, 1, 0, 33⟩, ⟨1, 1, .rw, 1, 0, 33⟩, ⟨0, 0, .rw, 1, 0, 63⟩]⟩ /- CTL -/,
  ⟨0x044, 1, 4, [⟨28, 24, .rw, 1, 0, 1⟩, ⟨21, 16, .rw, 1, 0, 1⟩, ⟨13, 8, .rw, 1, 0, 1⟩, ⟨7, 0, .rw, 1, 0, 1⟩]⟩ /- TIME_LO -/,
  ⟨0x048, 1, 4, [⟨31, 24, .rw, 1, 0, 1⟩, ⟨19, 16, .rw, 1, 1, 1⟩, ⟨12, 8, .rw, 1, 1, 1⟩, ⟨2, 0, .rw, 1, 6, 1⟩]⟩ /- TIME_HI -/,
  ⟨0x04C, 1, 4, [⟨31, 31, .w1c, 1, 1, 1⟩, ⟨30, 30, .ro, 0, 0, 1⟩, ⟨29, 29, .ro, 0, 0, 33⟩, ⟨28, 28, .ro, 0, 1, 1⟩, ⟨3, 3, .w1c, 0, 0, 33⟩, ⟨2, 2, .w1c, 0, 0, 33⟩, ⟨1, 1, .w1c, 0, 0, 33⟩, ⟨0, 0, .w1c, 0, 0, 33⟩]⟩ /- STAT -/,
  ⟨0x050, 1, 4, [⟨23, 0, .ro, 0, 0, 33⟩]⟩ /- HALT_TICKS -/,
  ⟨0x054, 1, 4, [⟨9, 0, .rw, 1, 0, 33⟩]⟩ /- TRIM -/,
  ⟨0x058, 1, 4, [⟨21, 0, .ro, 0, 0, 1⟩]⟩ /- TRIM_POS -/,
  ⟨0x060, 1, 4, [⟨28, 24, .rw, 1, 0, 33⟩, ⟨21, 16, .rw, 1, 0, 33⟩, ⟨13, 8, .rw, 1, 0, 33⟩]⟩ /- ALMA_LO -/,
  ⟨0x070, 1, 4, [⟨28, 24, .rw, 1, 0, 33⟩, ⟨21, 16, .rw, 1, 0, 33⟩, ⟨13, 8, .rw, 1, 0, 33⟩]⟩ /- ALMB_LO -/,
  ⟨0x064, 1, 4, [⟨31, 24, .rw, 1, 0, 33⟩, ⟨19, 16, .rw, 1, 0, 33⟩, ⟨12, 8, .rw, 1, 0, 33⟩, ⟨2, 0, .rw, 1, 0, 33⟩]⟩ /- ALMA_HI -/,
  ⟨0x074, 1, 4, [⟨31, 24, .rw, 1, 0, 33⟩, ⟨19, 16, .rw, 1, 0, 33⟩, ⟨12, 8, .rw, 1, 0, 33⟩, ⟨2, 0, .rw, 1, 0, 33⟩]⟩ /- ALMB_HI -/,
  ⟨0x068, 1, 4, [⟨31, 31, .rw, 1, 0, 33⟩, ⟨30, 30, .rw, 1, 0, 33⟩, ⟨6, 0, .rw, 1, 0, 33⟩]⟩ /- ALMA_CTL -/,
  ⟨0x078, 1, 4, [⟨31, 31, .rw, 1, 0, 33⟩, ⟨30, 30, .rw, 1, 0, 33⟩, ⟨6, 0, .rw, 1, 0, 33⟩]⟩ /- ALMB_CTL -/]

/-- The register table of LAN. -/
def regsLan : List RegRow := [
  ⟨0x040, 1, 4, [⟨29, 24, .rw, 21, 0, 47⟩, ⟨21, 20, .rw, 21, 0, 47⟩, ⟨18, 18, .rw, 17, 0, 47⟩, ⟨17, 17, .rw, 17, 0, 47⟩, ⟨15, 8, .rw, 17, 0, 47⟩, ⟨5, 0, .rw, 17, 0, 47⟩]⟩ /- CTL -/,
  ⟨0x044, 1, 4, [⟨25, 24, .ro, 0, 0, 63⟩, ⟨19, 19, .ro, 0, 0, 63⟩, ⟨18, 18, .ro, 0, 0, 63⟩, ⟨17, 17, .ro, 0, 0, 63⟩, ⟨16, 16, .ro, 0, 1, 63⟩, ⟨15, 0, .ro, 0, 0, 63⟩]⟩ /- STAT -/,
  ⟨0x048, 1, 4, [⟨1, 1, .sc, 0, 0, 63⟩, ⟨0, 0, .sc, 0, 0, 63⟩]⟩ /- CMD -/,
  ⟨0x04C, 1, 4, [⟨31, 24, .rw, 21, 0, 47⟩, ⟨23, 16, .rw, 21, 0, 47⟩, ⟨15, 8, .rw, 21, 0, 47⟩]⟩ /- DERATE -/,
  ⟨0x050, 1, 4, [⟨7, 0, .rw, 21, 0, 47⟩, ⟨15, 8, .rw, 21, 0, 47⟩, ⟨23, 16, .rw, 21, 0, 47⟩, ⟨31, 24, .rw, 21, 0, 47⟩]⟩ /- DRF -/,
  ⟨0x054, 1, 4, [⟨31, 31, .rw, 21, 0, 47⟩, ⟨27, 24, .rw, 21, 0, 47⟩, ⟨17, 16, .rw, 21, 0, 47⟩, ⟨8, 0, .rw, 21, 0, 47⟩]⟩ /- BEACON -/,
  ⟨0x058, 1, 4, [⟨31, 25, .wo, 1, 0, 0⟩, ⟨24, 16, .wo, 1, 0, 0⟩, ⟨15, 3, .wo, 1, 0, 0⟩, ⟨2, 0, .wo, 1, 0, 0⟩]⟩ /- HOSTWIN -/,
  ⟨0x05C, 1, 4, [⟨8, 0, .rw, 8, 0, 47⟩]⟩ /- WINSEL -/,
  ⟨0x060, 1, 4, [⟨31, 0, .rw, 21, 0, 47⟩]⟩ /- WINCFG0 -/,
  ⟨0x064, 1, 4, [⟨31, 0, .rw, 21, 0, 47⟩]⟩ /- WINCFG1 -/,
  ⟨0x068, 1, 4, [⟨2, 0, .ro, 0, 0, 63⟩]⟩ /- WINSTATE -/,
  ⟨0x100, 16, 8, [⟨31, 20, .rw, 17, 0, 47⟩, ⟨15, 0, .rw, 17, 0, 47⟩]⟩ /- REGION -/,
  ⟨0x104, 16, 8, [⟨27, 16, .ro, 0, 0, 47⟩, ⟨15, 0, .ro, 0, 0, 47⟩]⟩ /- REGION_HI -/]

/-- The block registers of a block (offset 0x040 upwards). -/
def Block.regs : Block → List RegRow
  | .sys => regsSys
  | .clk => regsClk
  | .pwr => regsPwr
  | .rst => regsRst
  | .host => regsHost
  | .irq => regsIrq
  | .afg => regsAfg
  | .afc => regsAfc
  | .lin => regsLin
  | .rep => regsRep
  | .dio => regsDio
  | .man => regsMan
  | .pte => regsPte
  | .tide => regsTide
  | .grp => regsGrp
  | .call => regsCall
  | .ttb => regsTtb
  | .sec => regsSec
  | .fb => regsFb
  | .sail => regsSail
  | .xp => regsXp
  | .xnet => regsXnet
  | .ord => regsOrd
  | .safe => regsSafe
  | .seal => regsSeal
  | .log => regsLog
  | .gwy => regsGwy
  | .rtc => regsRtc
  | .lan => regsLan

/-- The block and instance that page `p` serves (R89); none for an unmapped page slot. -/
def pageBlock (p : Nat) : Option (Block × Nat) :=
  if 0x010 ≤ p && p ≤ 0x02F then some (.afg, p - 0x010)
  else if 0x050 ≤ p && p ≤ 0x057 then some (.fb, p - 0x050)
  else if 0x060 ≤ p && p ≤ 0x063 then some (.xp, p - 0x060)
  else match p with
    | 0x000 => some (.sys, 0) | 0x001 => some (.pwr, 0) | 0x002 => some (.clk, 0) | 0x003 => some (.rst, 0)
    | 0x004 => some (.irq, 0) | 0x005 => some (.host, 0) | 0x006 => some (.host, 1) | 0x007 => some (.sec, 0)
    | 0x030 => some (.afc, 0) | 0x031 => some (.lin, 0) | 0x032 => some (.rep, 0) | 0x033 => some (.dio, 0)
    | 0x040 => some (.pte, 0) | 0x041 => some (.tide, 0) | 0x042 => some (.grp, 0) | 0x043 => some (.call, 0)
    | 0x044 => some (.man, 0) | 0x048 => some (.ttb, 0) | 0x058 => some (.sail, 0) | 0x064 => some (.xnet, 0)
    | 0x065 => some (.ord, 0) | 0x070 => some (.safe, 0) | 0x071 => some (.seal, 0) | 0x078 => some (.log, 0)
    | 0x079 => some (.gwy, 0) | 0x080 => some (.rtc, 0) | 0x088 => some (.lan, 0)
    | _ => none

/-- The block code of R89. -/
def Block.code : Block → Nat
  | .sys => 0x0001 | .pwr => 0x0002 | .clk => 0x0003 | .rst => 0x0004 | .irq => 0x0005 | .host => 0x0006
  | .sec => 0x0007 | .afg => 0x0010 | .afc => 0x0011 | .lin => 0x0012 | .rep => 0x0013 | .dio => 0x0014
  | .pte => 0x0020 | .tide => 0x0021 | .grp => 0x0022 | .call => 0x0023 | .man => 0x0024 | .ttb => 0x0028
  | .fb => 0x0030 | .sail => 0x0031 | .xp => 0x0038 | .xnet => 0x0039 | .ord => 0x003A | .safe => 0x0040
  | .seal => 0x0041 | .log => 0x0048 | .gwy => 0x0049 | .rtc => 0x0050 | .lan => 0x0058

/-- The row of `rows` that holds offset `off`. -/
def findReg (rows : List RegRow) (off : Nat) : Option RegRow :=
  rows.find? fun r => r.off ≤ off && (off - r.off) % r.stride == 0 && (off - r.off) / r.stride < r.cnt

/-- The register row at a host address of the register region; none for an undefined offset (R95 code 0x25). -/
def regRow (a : Nat) : Option RegRow :=
  match pageBlock (a / 0x1000) with
  | none => none
  | some (b, _) =>
    let off := a % 0x1000
    if off < 0x40 then findReg regsHdr off else findReg b.regs off

/-- The word a register holds at its table's reset values. -/
def RegRow.resetWord (r : RegRow) : Word :=
  r.fields.foldl (fun w f => setBits w f.hi f.lo f.reset) 0

/-- What a register that nothing has written holds: its reset word; 0 where the table gives none. -/
def regDefault (a : Nat) : Word :=
  match regRow a with
  | none => 0
  | some r => if a = 0x006044 then 0 else if a = 0x005044 then 2 else r.resetWord

/-- The fields of a register, none for an undefined offset. -/
def regFields (a : Nat) : List FieldRow :=
  match regRow a with
  | none => []
  | some r => r.fields

/-- The bits that some field of the register covers. -/
def fieldMask (f : FieldRow) : Word := setBits 0 f.hi f.lo (2 ^ (f.hi + 1 - f.lo) - 1)

end Sys2Proof.Machine

/-! The fields by name: block, register, field. -/

namespace Sys2Proof.Machine.F
/-- SYS.DEV_ID.REV_STEP (R5). -/
abbrev sysDevIdRevStep : Fld := ⟨0x000040, 27, 24, 4⟩
/-- SYS.DEV_ID.REV_LETTER (R5). -/
abbrev sysDevIdRevLetter : Fld := ⟨0x000040, 23, 20, 4⟩
/-- SYS.DEV_ID.SAFETY (R5). -/
abbrev sysDevIdSafety : Fld := ⟨0x000040, 16, 16, 4⟩
/-- SYS.DEV_ID.PART (R5). -/
abbrev sysDevIdPart : Fld := ⟨0x000040, 15, 0, 4⟩
/-- SYS.NODE_ID.OVERRIDE (R45). -/
abbrev sysNodeIdOverride : Fld := ⟨0x000044, 31, 31, 4⟩
/-- SYS.NODE_ID.STRAP_UNSTABLE (R45). -/
abbrev sysNodeIdStrapUnstable : Fld := ⟨0x000044, 30, 30, 4⟩
/-- SYS.NODE_ID.NODE_ID (R45). -/
abbrev sysNodeIdNodeId : Fld := ⟨0x000044, 25, 16, 4⟩
/-- SYS.NODE_ID.STRAP_ID (R45). -/
abbrev sysNodeIdStrapId : Fld := ⟨0x000044, 9, 0, 4⟩
/-- SYS.CTL.SOFT_RST (R113). -/
abbrev sysCtlSoftRst : Fld := ⟨0x000048, 0, 0, 4⟩
/-- SYS.OWN.KEEP (R113). -/
abbrev sysOwnKeep : Fld := ⟨0x00004C, 3, 3, 4⟩
/-- SYS.OWN.CLAIM (R113). -/
abbrev sysOwnClaim : Fld := ⟨0x00004C, 2, 2, 4⟩
/-- SYS.OWN.OFFER (R113). -/
abbrev sysOwnOffer : Fld := ⟨0x00004C, 1, 1, 4⟩
/-- SYS.OWN.OWNER (R113). -/
abbrev sysOwnOwner : Fld := ⟨0x00004C, 0, 0, 4⟩
/-- SYS.OWN_TAKE.TOKEN (R113). -/
abbrev sysOwnTakeToken : Fld := ⟨0x000050, 15, 0, 4⟩
/-- CLK.STAT.HFXO_FAIL (R70). -/
abbrev clkStatHfxoFail : Fld := ⟨0x002040, 9, 9, 4⟩
/-- CLK.STAT.ENG_ON_PLL (R70). -/
abbrev clkStatEngOnPll : Fld := ⟨0x002040, 8, 8, 4⟩
/-- CLK.STAT.PLL_AFE_LOCK (R70). -/
abbrev clkStatPllAfeLock : Fld := ⟨0x002040, 7, 7, 4⟩
/-- CLK.STAT.PLL_BUS_LOCK (R70). -/
abbrev clkStatPllBusLock : Fld := ⟨0x002040, 6, 6, 4⟩
/-- CLK.STAT.PLL_LNK_LOCK (R70). -/
abbrev clkStatPllLnkLock : Fld := ⟨0x002040, 5, 5, 4⟩
/-- CLK.STAT.PLL_ENG_LOCK (R70). -/
abbrev clkStatPllEngLock : Fld := ⟨0x002040, 4, 4, 4⟩
/-- CLK.STAT.FRC_TRIMMED (R70). -/
abbrev clkStatFrcTrimmed : Fld := ⟨0x002040, 3, 3, 4⟩
/-- CLK.STAT.HFXO_RUN (R70). -/
abbrev clkStatHfxoRun : Fld := ⟨0x002040, 2, 2, 4⟩
/-- CLK.STAT.TICK_SRC (R70). -/
abbrev clkStatTickSrc : Fld := ⟨0x002040, 1, 1, 4⟩
/-- CLK.STAT.LFXO_RUN (R70). -/
abbrev clkStatLfxoRun : Fld := ⟨0x002040, 0, 0, 4⟩
/-- CLK.CTL.CLKO25_EN (R71). -/
abbrev clkCtlClko25En : Fld := ⟨0x002044, 1, 1, 4⟩
/-- CLK.CTL.HFXO_KEEP (R71). -/
abbrev clkCtlHfxoKeep : Fld := ⟨0x002044, 0, 0, 4⟩
/-- PWR.CTL.MIRROR_NOW (R77). -/
abbrev pwrCtlMirrorNow : Fld := ⟨0x001040, 2, 2, 4⟩
/-- PWR.CTL.WAKE_RTC (R77). -/
abbrev pwrCtlWakeRtc : Fld := ⟨0x001040, 1, 1, 4⟩
/-- PWR.CTL.STANDBY (R77). -/
abbrev pwrCtlStandby : Fld := ⟨0x001040, 0, 0, 4⟩
/-- PWR.STAT.STATE (R78). -/
abbrev pwrStatState : Fld := ⟨0x001044, 9, 8, 4⟩
/-- PWR.STAT.LG_VALID (R78). -/
abbrev pwrStatLgValid : Fld := ⟨0x001044, 7, 7, 4⟩
/-- PWR.STAT.VLED_FAIL (R78). -/
abbrev pwrStatVledFail : Fld := ⟨0x001044, 6, 6, 4⟩
/-- PWR.STAT.VFIELD_FAIL (R78). -/
abbrev pwrStatVfieldFail : Fld := ⟨0x001044, 5, 5, 4⟩
/-- PWR.STAT.AVDD5_FAIL (R78). -/
abbrev pwrStatAvdd5Fail : Fld := ⟨0x001044, 4, 4, 4⟩
/-- PWR.STAT.VBAT_LOW (R78). -/
abbrev pwrStatVbatLow : Fld := ⟨0x001044, 3, 3, 4⟩
/-- PWR.STAT.NVM_GATED (R78). -/
abbrev pwrStatNvmGated : Fld := ⟨0x001044, 2, 2, 4⟩
/-- PWR.STAT.LOCKOUT (R78). -/
abbrev pwrStatLockout : Fld := ⟨0x001044, 1, 1, 4⟩
/-- PWR.STAT.VDD33_WARN (R78). -/
abbrev pwrStatVdd33Warn : Fld := ⟨0x001044, 0, 0, 4⟩
/-- PWR.DIP.COUNT (R79). -/
abbrev pwrDipCount : Fld := ⟨0x001048, 31, 24, 4⟩
/-- PWR.DIP.LAST_US (R79). -/
abbrev pwrDipLastUs : Fld := ⟨0x001048, 23, 0, 4⟩
/-- PWR.SVC_LO.SVC[31:0] (R79). -/
abbrev pwrSvcLoSvc : Fld := ⟨0x00104C, 31, 0, 4⟩
/-- PWR.SVC_HI.SVC[39:32] (R79). -/
abbrev pwrSvcHiSvc : Fld := ⟨0x001050, 7, 0, 4⟩
/-- PWR.CYCLES.CYCLES (R79). -/
abbrev pwrCyclesCycles : Fld := ⟨0x001054, 31, 0, 4⟩
/-- PWR.WAKE_DI_LO.WAKE[31:0] (R79). -/
abbrev pwrWakeDiLoWake : Fld := ⟨0x001058, 31, 0, 4⟩
/-- PWR.WAKE_DI_HI.WAKE[63:32] (R79). -/
abbrev pwrWakeDiHiWake : Fld := ⟨0x00105C, 31, 0, 4⟩
/-- RST.CAUSE.WDOG_SRC (R85). -/
abbrev rstCauseWdogSrc : Fld := ⟨0x003040, 19, 16, 4⟩
/-- RST.CAUSE.BTN_STUCK_SEEN (R85). -/
abbrev rstCauseBtnStuckSeen : Fld := ⟨0x003040, 15, 15, 4⟩
/-- RST.CAUSE.OSF_AT_START (R85). -/
abbrev rstCauseOsfAtStart : Fld := ⟨0x003040, 14, 14, 4⟩
/-- RST.CAUSE.LG_VALID (R85). -/
abbrev rstCauseLgValid : Fld := ⟨0x003040, 13, 13, 4⟩
/-- RST.CAUSE.FROM_BACKUP (R85). -/
abbrev rstCauseFromBackup : Fld := ⟨0x003040, 12, 12, 4⟩
/-- RST.CAUSE.U_SRC (R85). -/
abbrev rstCauseUSrc : Fld := ⟨0x003040, 10, 8, 4⟩
/-- RST.CAUSE.MERGED (R85). -/
abbrev rstCauseMerged : Fld := ⟨0x003040, 3, 3, 4⟩
/-- RST.CAUSE.CLASS (R85). -/
abbrev rstCauseClass : Fld := ⟨0x003040, 2, 0, 4⟩
/-- RST.BTN.STUCK_COUNT (R86). -/
abbrev rstBtnStuckCount : Fld := ⟨0x003044, 15, 8, 4⟩
/-- RST.BTN.ARMED (R86). -/
abbrev rstBtnArmed : Fld := ⟨0x003044, 2, 2, 4⟩
/-- RST.BTN.STUCK (R86). -/
abbrev rstBtnStuck : Fld := ⟨0x003044, 1, 1, 4⟩
/-- RST.BTN.LEVEL (R86). -/
abbrev rstBtnLevel : Fld := ⟨0x003044, 0, 0, 4⟩
/-- HDR.PAGE_ID.LAYOUT (R93). -/
abbrev hdrPageIdLayout : Fld := ⟨0x000000, 31, 24, 4⟩
/-- HDR.PAGE_ID.INSTANCE (R93). -/
abbrev hdrPageIdInstance : Fld := ⟨0x000000, 23, 16, 4⟩
/-- HDR.PAGE_ID.BLOCK (R93). -/
abbrev hdrPageIdBlock : Fld := ⟨0x000000, 15, 0, 4⟩
/-- HDR.PAGE_CTL.STAGE (R93). -/
abbrev hdrPageCtlStage : Fld := ⟨0x000004, 2, 2, 4⟩
/-- HDR.PAGE_CTL.BLK_RST (R93). -/
abbrev hdrPageCtlBlkRst : Fld := ⟨0x000004, 1, 1, 4⟩
/-- HDR.PAGE_CTL.EN (R93). -/
abbrev hdrPageCtlEn : Fld := ⟨0x000004, 0, 0, 4⟩
/-- HDR.PAGE_STAT.FAULT_CODE (R93). -/
abbrev hdrPageStatFaultCode : Fld := ⟨0x000008, 15, 8, 4⟩
/-- HDR.PAGE_STAT.STAGED (R93). -/
abbrev hdrPageStatStaged : Fld := ⟨0x000008, 4, 4, 4⟩
/-- HDR.PAGE_STAT.LOCKED (R93). -/
abbrev hdrPageStatLocked : Fld := ⟨0x000008, 3, 3, 4⟩
/-- HDR.PAGE_STAT.FAULT (R93). -/
abbrev hdrPageStatFault : Fld := ⟨0x000008, 2, 2, 4⟩
/-- HDR.PAGE_STAT.BUSY (R93). -/
abbrev hdrPageStatBusy : Fld := ⟨0x000008, 1, 1, 4⟩
/-- HDR.PAGE_STAT.READY (R93). -/
abbrev hdrPageStatReady : Fld := ⟨0x000008, 0, 0, 4⟩
/-- HDR.EVT_RAW.RAW (R93). -/
abbrev hdrEvtRawRaw : Fld := ⟨0x00000C, 31, 0, 4⟩
/-- HDR.EVT_EN.EN (R93). -/
abbrev hdrEvtEnEn : Fld := ⟨0x000010, 31, 0, 4⟩
/-- HDR.EVT_PEND.PEND (R93). -/
abbrev hdrEvtPendPend : Fld := ⟨0x000014, 31, 0, 4⟩
/-- HDR.EVT_FORCE.FORCE (R93). -/
abbrev hdrEvtForceForce : Fld := ⟨0x000018, 31, 0, 4⟩
/-- HDR.PAGE_LOCK.KEY (R93). -/
abbrev hdrPageLockKey : Fld := ⟨0x00001C, 15, 8, 4⟩
/-- HDR.PAGE_LOCK.PAGE (R93). -/
abbrev hdrPageLockPage : Fld := ⟨0x00001C, 7, 0, 4⟩
/-- HDR.PAGE_COMMIT.COMMIT (R93). -/
abbrev hdrPageCommitCommit : Fld := ⟨0x000020, 0, 0, 4⟩
/-- HDR.RETRY_CNT.LASTING (R93). -/
abbrev hdrRetryCntLasting : Fld := ⟨0x000024, 31, 16, 4⟩
/-- HDR.RETRY_CNT.TRANSIENT (R93). -/
abbrev hdrRetryCntTransient : Fld := ⟨0x000024, 15, 0, 4⟩
/-- HDR.LAST_TALLY_LO.TALLY[31:0] (R93). -/
abbrev hdrLastTallyLoTally : Fld := ⟨0x000028, 31, 0, 4⟩
/-- HDR.LAST_TALLY_HI.TALLY[63:32] (R93). -/
abbrev hdrLastTallyHiTally : Fld := ⟨0x00002C, 31, 0, 4⟩
/-- HOST.MODE.DUMMY (R108). -/
abbrev hostModeDummy : Fld := ⟨0x005040, 7, 4, 4⟩
/-- HOST.MODE.CRC (R108). -/
abbrev hostModeCrc : Fld := ⟨0x005040, 3, 3, 4⟩
/-- HOST.MODE.DDR (R108). -/
abbrev hostModeDdr : Fld := ⟨0x005040, 2, 2, 4⟩
/-- HOST.MODE.LANES (R108). -/
abbrev hostModeLanes : Fld := ⟨0x005040, 1, 0, 4⟩
/-- HOST.STAT.SCK_MEAS (R108). -/
abbrev hostStatSckMeas : Fld := ⟨0x005044, 19, 8, 4⟩
/-- HOST.STAT.CLAIM_RUN (R108). -/
abbrev hostStatClaimRun : Fld := ⟨0x005044, 2, 2, 4⟩
/-- HOST.STAT.IS_OWNER (R108). -/
abbrev hostStatIsOwner : Fld := ⟨0x005044, 1, 1, 4⟩
/-- HOST.STAT.LAST_CRC_BAD (R108). -/
abbrev hostStatLastCrcBad : Fld := ⟨0x005044, 0, 0, 4⟩
/-- HOST.TOKEN.VALID (R108). -/
abbrev hostTokenValid : Fld := ⟨0x005048, 16, 16, 4⟩
/-- HOST.TOKEN.TOKEN (R108). -/
abbrev hostTokenToken : Fld := ⟨0x005048, 15, 0, 4⟩
/-- HOST.BADADDR.CODE (R108). -/
abbrev hostBadaddrCode : Fld := ⟨0x00504C, 31, 24, 4⟩
/-- HOST.BADADDR.ADDR (R108). -/
abbrev hostBadaddrAddr : Fld := ⟨0x00504C, 23, 0, 4⟩
/-- HOST.ERRCNT.CRC (R108). -/
abbrev hostErrcntCrc : Fld := ⟨0x005050, 31, 16, 4⟩
/-- HOST.ERRCNT.OTHER (R108). -/
abbrev hostErrcntOther : Fld := ⟨0x005050, 15, 0, 4⟩
/-- IRQ.SRC.SRC (R116). -/
abbrev irqSrcSrc : Fld := ⟨0x004040, 31, 0, 4⟩
/-- IRQ.EN.EN (R116). -/
abbrev irqEnEn : Fld := ⟨0x004050, 31, 0, 4⟩
/-- IRQ.VIEW.VIEW (R116). -/
abbrev irqViewView : Fld := ⟨0x004060, 31, 0, 4⟩
/-- IRQ.ALERT_EN0.AEN (R116). -/
abbrev irqAlertEn0Aen : Fld := ⟨0x004070, 31, 0, 4⟩
/-- IRQ.ALERT_EN1.AEN (R116). -/
abbrev irqAlertEn1Aen : Fld := ⟨0x004074, 31, 0, 4⟩
/-- IRQ.ALERT_EN2.AEN (R116). -/
abbrev irqAlertEn2Aen : Fld := ⟨0x004078, 31, 0, 4⟩
/-- IRQ.ALERT_EN3.AEN (R116). -/
abbrev irqAlertEn3Aen : Fld := ⟨0x00407C, 31, 0, 4⟩
/-- IRQ.FIRST.VALID (R116). -/
abbrev irqFirstValid : Fld := ⟨0x004080, 31, 31, 4⟩
/-- IRQ.FIRST.SOURCE (R116). -/
abbrev irqFirstSource : Fld := ⟨0x004080, 6, 0, 4⟩
/-- IRQ.ALERT_STAT.BY_SOURCE (R116). -/
abbrev irqAlertStatBySource : Fld := ⟨0x004084, 2, 2, 4⟩
/-- IRQ.ALERT_STAT.BY_START (R116). -/
abbrev irqAlertStatByStart : Fld := ⟨0x004084, 1, 1, 4⟩
/-- IRQ.ALERT_STAT.PIN_LOW (R116). -/
abbrev irqAlertStatPinLow : Fld := ⟨0x004084, 0, 0, 4⟩
/-- AFG.GSTAT.FAULTED (R141). -/
abbrev afgGstatFaulted : Fld := ⟨0x010040, 23, 16, 4⟩
/-- AFG.GSTAT.SLOT_BUSY (R141). -/
abbrev afgGstatSlotBusy : Fld := ⟨0x010040, 11, 11, 4⟩
/-- AFG.GSTAT.SLOT_CH (R141). -/
abbrev afgGstatSlotCh : Fld := ⟨0x010040, 10, 8, 4⟩
/-- AFG.GSTAT.READBACK_FAULT (R141). -/
abbrev afgGstatReadbackFault : Fld := ⟨0x010040, 0, 0, 4⟩
/-- AFG.GCTL.FAST_EN (R141). -/
abbrev afgGctlFastEn : Fld := ⟨0x010044, 3, 3, 4⟩
/-- AFG.GCTL.FAST_CH (R141). -/
abbrev afgGctlFastCh : Fld := ⟨0x010044, 2, 0, 4⟩
/-- AFG.CFG0.EXC (R142). -/
abbrev afgCfg0Exc : Fld := ⟨0x010100, 23, 17, 32⟩
/-- AFG.CFG0.CHECK (R142). -/
abbrev afgCfg0Check : Fld := ⟨0x010100, 16, 16, 32⟩
/-- AFG.CFG0.REF_SEL (R142). -/
abbrev afgCfg0RefSel : Fld := ⟨0x010100, 15, 14, 32⟩
/-- AFG.CFG0.GAIN (R142). -/
abbrev afgCfg0Gain : Fld := ⟨0x010100, 13, 12, 32⟩
/-- AFG.CFG0.RANGE (R142). -/
abbrev afgCfg0Range : Fld := ⟨0x010100, 11, 8, 32⟩
/-- AFG.CFG0.AR_EN (R142). -/
abbrev afgCfg0ArEn : Fld := ⟨0x010100, 7, 7, 32⟩
/-- AFG.CFG0.AR_TOP (R142). -/
abbrev afgCfg0ArTop : Fld := ⟨0x010100, 6, 4, 32⟩
/-- AFG.CFG0.WIRING (R142). -/
abbrev afgCfg0Wiring : Fld := ⟨0x010100, 3, 0, 32⟩
/-- AFG.CFG1.SHORT_TH (R142). -/
abbrev afgCfg1ShortTh : Fld := ⟨0x010104, 31, 24, 32⟩
/-- AFG.CFG1.COMP_TH (R142). -/
abbrev afgCfg1CompTh : Fld := ⟨0x010104, 23, 20, 32⟩
/-- AFG.CFG1.SETTLE (R142). -/
abbrev afgCfg1Settle : Fld := ⟨0x010104, 15, 0, 32⟩
/-- AFG.CFG2.CJ_SRC (R142). -/
abbrev afgCfg2CjSrc : Fld := ⟨0x010108, 31, 23, 32⟩
/-- AFG.CFG2.BIAS_EN (R142). -/
abbrev afgCfg2BiasEn : Fld := ⟨0x010108, 16, 16, 32⟩
/-- AFG.CFG2.CELL_BIAS (R142). -/
abbrev afgCfg2CellBias : Fld := ⟨0x010108, 15, 0, 32⟩
/-- AFG.RAW.SEQ (R142). -/
abbrev afgRawSeq : Fld := ⟨0x01010C, 31, 24, 32⟩
/-- AFG.RAW.CODE (R142). -/
abbrev afgRawCode : Fld := ⟨0x01010C, 23, 0, 32⟩
/-- AFG.STAT.FAULT_CNT (R142). -/
abbrev afgStatFaultCnt : Fld := ⟨0x010110, 31, 16, 32⟩
/-- AFG.STAT.RANGE_NOW (R142). -/
abbrev afgStatRangeNow : Fld := ⟨0x010110, 10, 8, 32⟩
/-- AFG.STAT.OVERRANGE (R142). -/
abbrev afgStatOverrange : Fld := ⟨0x010110, 6, 6, 32⟩
/-- AFG.STAT.RANGING (R142). -/
abbrev afgStatRanging : Fld := ⟨0x010110, 5, 5, 32⟩
/-- AFG.STAT.STALE (R142). -/
abbrev afgStatStale : Fld := ⟨0x010110, 4, 4, 32⟩
/-- AFG.STAT.COMPLIANCE (R142). -/
abbrev afgStatCompliance : Fld := ⟨0x010110, 3, 3, 32⟩
/-- AFG.STAT.SHORT (R142). -/
abbrev afgStatShort : Fld := ⟨0x010110, 2, 2, 32⟩
/-- AFG.STAT.LEAD_BREAK (R142). -/
abbrev afgStatLeadBreak : Fld := ⟨0x010110, 1, 1, 32⟩
/-- AFG.STAT.OPEN (R142). -/
abbrev afgStatOpen : Fld := ⟨0x010110, 0, 0, 32⟩
/-- AFG.MON_X.VOUT (R142). -/
abbrev afgMonXVout : Fld := ⟨0x010114, 31, 16, 32⟩
/-- AFG.MON_X.IDEL (R142). -/
abbrev afgMonXIdel : Fld := ⟨0x010114, 15, 0, 32⟩
/-- AFG.MON_Y.VOUT (R142). -/
abbrev afgMonYVout : Fld := ⟨0x010118, 31, 16, 32⟩
/-- AFG.MON_Y.IDEL (R142). -/
abbrev afgMonYIdel : Fld := ⟨0x010118, 15, 0, 32⟩
/-- AFC.CTL.SCAN_EN (R144). -/
abbrev afcCtlScanEn : Fld := ⟨0x030040, 0, 0, 4⟩
/-- AFC.GRP_EN.GRP (R144). -/
abbrev afcGrpEnGrp : Fld := ⟨0x030044, 31, 0, 4⟩
/-- AFC.BURST.PERIOD (R144). -/
abbrev afcBurstPeriod : Fld := ⟨0x030048, 15, 0, 4⟩
/-- AFC.TS.VALID (R144). -/
abbrev afcTsValid : Fld := ⟨0x030050, 16, 16, 4⟩
/-- AFC.TS.TEMP (R144). -/
abbrev afcTsTemp : Fld := ⟨0x030050, 15, 0, 4⟩
/-- AFC.EXC_LIVE.LIVE (R144). -/
abbrev afcExcLiveLive : Fld := ⟨0x030060, 31, 0, 4⟩
/-- LIN.CURVE_CMD.LOAD (R174). -/
abbrev linCurveCmdLoad : Fld := ⟨0x031040, 31, 31, 4⟩
/-- LIN.CURVE_CMD.ID (R174). -/
abbrev linCurveCmdId : Fld := ⟨0x031040, 11, 0, 4⟩
/-- LIN.CURVE_RES.RESULT (R174). -/
abbrev linCurveResResult : Fld := ⟨0x031044, 23, 16, 4⟩
/-- LIN.CURVE_RES.ID (R174). -/
abbrev linCurveResId : Fld := ⟨0x031044, 11, 0, 4⟩
/-- LIN.CWIN.BANK (R174). -/
abbrev linCwinBank : Fld := ⟨0x031048, 3, 0, 4⟩
/-- LIN.FILT.FAST_NOTCH (R174). -/
abbrev linFiltFastNotch : Fld := ⟨0x031100, 2, 2, 4⟩
/-- LIN.FILT.FAST_RATE (R174). -/
abbrev linFiltFastRate : Fld := ⟨0x031100, 1, 0, 4⟩
/-- LIN.BIND.BAND_VALID (R174). -/
abbrev linBindBandValid : Fld := ⟨0x031400, 30, 30, 4⟩
/-- LIN.BIND.BAND_NOW (R174). -/
abbrev linBindBandNow : Fld := ⟨0x031400, 29, 28, 4⟩
/-- LIN.BIND.PASS (R174). -/
abbrev linBindPass : Fld := ⟨0x031400, 12, 12, 4⟩
/-- LIN.BIND.CURVE_ID (R174). -/
abbrev linBindCurveId : Fld := ⟨0x031400, 11, 0, 4⟩
/-- REP.CFG.MODE (R175). -/
abbrev repCfgMode : Fld := ⟨0x032100, 18, 17, 32⟩
/-- REP.CFG.POINT (R175). -/
abbrev repCfgPoint : Fld := ⟨0x032100, 16, 0, 32⟩
/-- REP.LO.LO (R175). -/
abbrev repLoLo : Fld := ⟨0x032104, 31, 0, 32⟩
/-- REP.HI.HI (R175). -/
abbrev repHiHi : Fld := ⟨0x032108, 31, 0, 32⟩
/-- REP.OUT_LO.OUT_LO (R175). -/
abbrev repOutLoOutLo : Fld := ⟨0x03210C, 19, 0, 32⟩
/-- REP.OUT_HI.OUT_HI (R175). -/
abbrev repOutHiOutHi : Fld := ⟨0x032110, 19, 0, 32⟩
/-- REP.OUT_FAULT.OUT_FAULT (R175). -/
abbrev repOutFaultOutFault : Fld := ⟨0x032114, 19, 0, 32⟩
/-- REP.CARRIER.CARRIER (R175). -/
abbrev repCarrierCarrier : Fld := ⟨0x032118, 15, 0, 32⟩
/-- REP.STAT.LF (R175). -/
abbrev repStatLf : Fld := ⟨0x03211C, 25, 25, 32⟩
/-- REP.STAT.FAULT_OUT (R175). -/
abbrev repStatFaultOut : Fld := ⟨0x03211C, 24, 24, 32⟩
/-- REP.STAT.NOW (R175). -/
abbrev repStatNow : Fld := ⟨0x03211C, 19, 0, 32⟩
/-- DIO.DI_LO.LEVEL (R179). -/
abbrev dioDiLoLevel : Fld := ⟨0x033040, 31, 0, 4⟩
/-- DIO.DI_HI.LEVEL (R179). -/
abbrev dioDiHiLevel : Fld := ⟨0x033044, 31, 0, 4⟩
/-- DIO.STAT.VFIELD_OK (R179). -/
abbrev dioStatVfieldOk : Fld := ⟨0x033048, 0, 0, 4⟩
/-- DIO.DO_SET.SET (R179). -/
abbrev dioDoSetSet : Fld := ⟨0x03304C, 15, 0, 4⟩
/-- DIO.DO_NOW.OVL (R179). -/
abbrev dioDoNowOvl : Fld := ⟨0x033050, 31, 16, 4⟩
/-- DIO.DO_NOW.ON (R179). -/
abbrev dioDoNowOn : Fld := ⟨0x033050, 15, 0, 4⟩
/-- DIO.DO_CALL.CALL (R179). -/
abbrev dioDoCallCall : Fld := ⟨0x033054, 15, 0, 4⟩
/-- DIO.DO_CFG.SRC (R179). -/
abbrev dioDoCfgSrc : Fld := ⟨0x033100, 31, 29, 4⟩
/-- DIO.DO_CFG.INV (R179). -/
abbrev dioDoCfgInv : Fld := ⟨0x033100, 28, 28, 4⟩
/-- DIO.DO_CFG.FAIL_ON (R179). -/
abbrev dioDoCfgFailOn : Fld := ⟨0x033100, 27, 27, 4⟩
/-- DIO.DO_CFG.TARGET (R179). -/
abbrev dioDoCfgTarget : Fld := ⟨0x033100, 16, 0, 4⟩
/-- DIO.CNT.COUNT (R179). -/
abbrev dioCntCount : Fld := ⟨0x033180, 31, 0, 4⟩
/-- MAN.EDIT.COUNT_M1 (R203). -/
abbrev manEditCountM1 : Fld := ⟨0x044040, 28, 17, 4⟩
/-- MAN.EDIT.FIRST (R203). -/
abbrev manEditFirst : Fld := ⟨0x044040, 16, 0, 4⟩
/-- MAN.CMD.CNT_LOAD (R203). -/
abbrev manCmdCntLoad : Fld := ⟨0x044044, 2, 2, 4⟩
/-- MAN.CMD.CLOSE (R203). -/
abbrev manCmdClose : Fld := ⟨0x044044, 1, 1, 4⟩
/-- MAN.CMD.OPEN (R203). -/
abbrev manCmdOpen : Fld := ⟨0x044044, 0, 0, 4⟩
/-- MAN.STAT.BAD_CNT (R203). -/
abbrev manStatBadCnt : Fld := ⟨0x044048, 31, 16, 4⟩
/-- MAN.STAT.AUTO_CLOSED (R203). -/
abbrev manStatAutoClosed : Fld := ⟨0x044048, 1, 1, 4⟩
/-- MAN.STAT.IS_OPEN (R203). -/
abbrev manStatIsOpen : Fld := ⟨0x044048, 0, 0, 4⟩
/-- MAN.BAD.REASON (R203). -/
abbrev manBadReason : Fld := ⟨0x04404C, 31, 24, 4⟩
/-- MAN.BAD.INDEX (R203). -/
abbrev manBadIndex : Fld := ⟨0x04404C, 16, 0, 4⟩
/-- MAN.USED.COUNT (R203). -/
abbrev manUsedCount : Fld := ⟨0x044050, 17, 0, 4⟩
/-- MAN.CNT_SLOT.SLOT (R203). -/
abbrev manCntSlotSlot : Fld := ⟨0x044054, 9, 0, 4⟩
/-- MAN.CNT_LO.ACC[31:0] (R203). -/
abbrev manCntLoAcc : Fld := ⟨0x044058, 31, 0, 4⟩
/-- MAN.CNT_HI.ACC[39:32] (R203). -/
abbrev manCntHiAcc : Fld := ⟨0x04405C, 7, 0, 4⟩
/-- PTE.STAT.ON_FRC (R241). -/
abbrev pteStatOnFrc : Fld := ⟨0x040040, 8, 8, 4⟩
/-- PTE.STAT.FORCED (R241). -/
abbrev pteStatForced : Fld := ⟨0x040040, 4, 4, 4⟩
/-- PTE.STAT.LANE_BUSY (R241). -/
abbrev pteStatLaneBusy : Fld := ⟨0x040040, 3, 0, 4⟩
/-- PTE.EVALS.COUNT (R241). -/
abbrev pteEvalsCount : Fld := ⟨0x040044, 31, 0, 4⟩
/-- PTE.LOAD.PEAK (R241). -/
abbrev pteLoadPeak : Fld := ⟨0x040048, 31, 16, 4⟩
/-- PTE.CTL.PEAK_CLR (R241). -/
abbrev pteCtlPeakClr : Fld := ⟨0x04004C, 1, 1, 4⟩
/-- PTE.CTL.FORCE_ALL (R241). -/
abbrev pteCtlForceAll : Fld := ⟨0x04004C, 0, 0, 4⟩
/-- PTE.OPCMD.OP (R241). -/
abbrev pteOpcmdOp : Fld := ⟨0x040050, 31, 28, 4⟩
/-- PTE.OPCMD.TARGET (R241). -/
abbrev pteOpcmdTarget : Fld := ⟨0x040050, 16, 0, 4⟩
/-- PTE.OPARG.INSTANCE (R241). -/
abbrev pteOpargInstance : Fld := ⟨0x040054, 31, 0, 4⟩
/-- PTE.OPRES.DONE (R241). -/
abbrev pteOpresDone : Fld := ⟨0x040058, 31, 31, 4⟩
/-- PTE.OPRES.BUSY (R241). -/
abbrev pteOpresBusy : Fld := ⟨0x040058, 30, 30, 4⟩
/-- PTE.OPRES.RESULT (R241). -/
abbrev pteOpresResult : Fld := ⟨0x040058, 23, 16, 4⟩
/-- PTE.OPRES.COUNT (R241). -/
abbrev pteOpresCount : Fld := ⟨0x040058, 15, 0, 4⟩
/-- PTE.ADMCMD.OP (R241). -/
abbrev pteAdmcmdOp : Fld := ⟨0x040060, 31, 28, 4⟩
/-- PTE.ADMCMD.POINT (R241). -/
abbrev pteAdmcmdPoint : Fld := ⟨0x040060, 16, 0, 4⟩
/-- PTE.ADMARG.DURATION (R241). -/
abbrev pteAdmargDuration : Fld := ⟨0x040064, 15, 0, 4⟩
/-- PTE.ADMRES.DONE (R241). -/
abbrev pteAdmresDone : Fld := ⟨0x040068, 31, 31, 4⟩
/-- PTE.ADMRES.BUSY (R241). -/
abbrev pteAdmresBusy : Fld := ⟨0x040068, 30, 30, 4⟩
/-- PTE.ADMRES.RESULT (R241). -/
abbrev pteAdmresResult : Fld := ⟨0x040068, 23, 16, 4⟩
/-- PTE.ADMRES.COUNT (R241). -/
abbrev pteAdmresCount : Fld := ⟨0x040068, 15, 0, 4⟩
/-- PTE.ACKDI.SIL_EN (R241). -/
abbrev pteAckdiSilEn : Fld := ⟨0x040070, 31, 31, 4⟩
/-- PTE.ACKDI.SIL_DI (R241). -/
abbrev pteAckdiSilDi : Fld := ⟨0x040070, 29, 24, 4⟩
/-- PTE.ACKDI.ACK_EN (R241). -/
abbrev pteAckdiAckEn : Fld := ⟨0x040070, 23, 23, 4⟩
/-- PTE.ACKDI.ACK_DI (R241). -/
abbrev pteAckdiAckDi : Fld := ⟨0x040070, 21, 16, 4⟩
/-- PTE.ACKDI.ACK_SCOPE (R241). -/
abbrev pteAckdiAckScope : Fld := ⟨0x040070, 12, 12, 4⟩
/-- PTE.ACKDI.ACK_GRP (R241). -/
abbrev pteAckdiAckGrp : Fld := ⟨0x040070, 11, 0, 4⟩
/-- PTE.ECC.UNCORR (R241). -/
abbrev pteEccUncorr : Fld := ⟨0x040074, 31, 16, 4⟩
/-- PTE.ECC.CORR (R241). -/
abbrev pteEccCorr : Fld := ⟨0x040074, 15, 0, 4⟩
/-- PTE.SPARE.LEFT (R241). -/
abbrev pteSpareLeft : Fld := ⟨0x040078, 5, 0, 4⟩
/-- PTE.RT_BASE.BLOCK (R241). -/
abbrev pteRtBaseBlock : Fld := ⟨0x04007C, 3, 0, 4⟩
/-- TIDE.NOW.NOW (R243). -/
abbrev tideNowNow : Fld := ⟨0x041040, 31, 0, 4⟩
/-- TIDE.PEND_DLY.COUNT (R243). -/
abbrev tidePendDlyCount : Fld := ⟨0x041044, 17, 0, 4⟩
/-- TIDE.PEND_TMR.COUNT (R243). -/
abbrev tidePendTmrCount : Fld := ⟨0x041048, 19, 0, 4⟩
/-- TIDE.MAXEXP.COUNT (R243). -/
abbrev tideMaxexpCount : Fld := ⟨0x04104C, 19, 0, 4⟩
/-- TIDE.CTL.MAXEXP_CLR (R243). -/
abbrev tideCtlMaxexpClr : Fld := ⟨0x041050, 0, 0, 4⟩
/-- GRP.SEL.GROUP (R244). -/
abbrev grpSelGroup : Fld := ⟨0x042040, 11, 0, 4⟩
/-- GRP.CFG.PUBLISH (R244). -/
abbrev grpCfgPublish : Fld := ⟨0x042044, 2, 2, 4⟩
/-- GRP.CFG.REARM_MANUAL (R244). -/
abbrev grpCfgRearmManual : Fld := ⟨0x042044, 1, 1, 4⟩
/-- GRP.CFG.EN (R244). -/
abbrev grpCfgEn : Fld := ⟨0x042044, 0, 0, 4⟩
/-- GRP.STATE.ACTIVE (R244). -/
abbrev grpStateActive : Fld := ⟨0x042048, 31, 31, 4⟩
/-- GRP.STATE.UNACK (R244). -/
abbrev grpStateUnack : Fld := ⟨0x042048, 30, 30, 4⟩
/-- GRP.STATE.TOP_PRIO (R244). -/
abbrev grpStateTopPrio : Fld := ⟨0x042048, 29, 28, 4⟩
/-- GRP.STATE.ACT_CNT (R244). -/
abbrev grpStateActCnt : Fld := ⟨0x042048, 17, 0, 4⟩
/-- GRP.UNACK.UNACK_CNT (R244). -/
abbrev grpUnackUnackCnt : Fld := ⟨0x04204C, 17, 0, 4⟩
/-- GRP.MEMBERS.COUNT (R244). -/
abbrev grpMembersCount : Fld := ⟨0x042050, 17, 0, 4⟩
/-- GRP.FIRST.VALID (R244). -/
abbrev grpFirstValid : Fld := ⟨0x042054, 31, 31, 4⟩
/-- GRP.FIRST.POINT (R244). -/
abbrev grpFirstPoint : Fld := ⟨0x042054, 16, 0, 4⟩
/-- GRP.FIRST_INST.INSTANCE (R244). -/
abbrev grpFirstInstInstance : Fld := ⟨0x042058, 31, 0, 4⟩
/-- GRP.CMD.REARM (R244). -/
abbrev grpCmdRearm : Fld := ⟨0x04205C, 0, 0, 4⟩
/-- CALL.STAT.IS_DUTY (R261). -/
abbrev callStatIsDuty : Fld := ⟨0x043040, 31, 31, 4⟩
/-- CALL.STAT.DUTY_NODE (R261). -/
abbrev callStatDutyNode : Fld := ⟨0x043040, 25, 16, 4⟩
/-- CALL.STAT.DUTY_VALID (R261). -/
abbrev callStatDutyValid : Fld := ⟨0x043040, 15, 15, 4⟩
/-- CALL.STAT.OPEN (R261). -/
abbrev callStatOpen : Fld := ⟨0x043040, 4, 0, 4⟩
/-- CALL.DUTY.ENGINEER (R261). -/
abbrev callDutyEngineer : Fld := ⟨0x043044, 3, 0, 4⟩
/-- CALL.BRIDGE.UNIT_B (R261). -/
abbrev callBridgeUnitB : Fld := ⟨0x043048, 31, 16, 4⟩
/-- CALL.BRIDGE.UNIT_A (R261). -/
abbrev callBridgeUnitA : Fld := ⟨0x043048, 15, 0, 4⟩
/-- CALL.DM_CFG.EN (R261). -/
abbrev callDmCfgEn : Fld := ⟨0x04304C, 31, 31, 4⟩
/-- CALL.DM_CFG.ON_DI (R261). -/
abbrev callDmCfgOnDi : Fld := ⟨0x04304C, 29, 24, 4⟩
/-- CALL.DM_CFG.OFF_DI (R261). -/
abbrev callDmCfgOffDi : Fld := ⟨0x04304C, 23, 18, 4⟩
/-- CALL.DM_CFG.RST_DI (R261). -/
abbrev callDmCfgRstDi : Fld := ⟨0x04304C, 17, 12, 4⟩
/-- CALL.DM_CFG.DM_UNIT (R261). -/
abbrev callDmCfgDmUnit : Fld := ⟨0x04304C, 9, 4, 4⟩
/-- CALL.DM_CFG.DM_CLASS (R261). -/
abbrev callDmCfgDmClass : Fld := ⟨0x04304C, 3, 0, 4⟩
/-- CALL.DM_TIME.PREWARN (R261). -/
abbrev callDmTimePrewarn : Fld := ⟨0x043050, 31, 16, 4⟩
/-- CALL.DM_TIME.LIMIT (R261). -/
abbrev callDmTimeLimit : Fld := ⟨0x043050, 15, 0, 4⟩
/-- CALL.DM_STAT.STATE (R261). -/
abbrev callDmStatState : Fld := ⟨0x043054, 31, 30, 4⟩
/-- CALL.DM_STAT.REMAIN (R261). -/
abbrev callDmStatRemain : Fld := ⟨0x043054, 15, 0, 4⟩
/-- CALL.CMD.OP (R261). -/
abbrev callCmdOp : Fld := ⟨0x043058, 31, 28, 4⟩
/-- CALL.CMD.CLASS (R261). -/
abbrev callCmdClass : Fld := ⟨0x043058, 3, 0, 4⟩
/-- CALL.CALLSEL.CLASS (R261). -/
abbrev callCallselClass : Fld := ⟨0x04305C, 3, 0, 4⟩
/-- CALL.CALLSTAT.STATE (R261). -/
abbrev callCallstatState : Fld := ⟨0x043060, 31, 29, 4⟩
/-- CALL.CALLSTAT.PARTITIONED (R261). -/
abbrev callCallstatPartitioned : Fld := ⟨0x043060, 28, 28, 4⟩
/-- CALL.CALLSTAT.ACCEPT_BY (R261). -/
abbrev callCallstatAcceptBy : Fld := ⟨0x043060, 27, 24, 4⟩
/-- CALL.CALLSTAT.REMAIN (R261). -/
abbrev callCallstatRemain : Fld := ⟨0x043060, 15, 0, 4⟩
/-- CALL.CALLJOIN.COUNT (R261). -/
abbrev callCalljoinCount : Fld := ⟨0x043064, 17, 0, 4⟩
/-- CALL.CLASS.EN (R261). -/
abbrev callClassEn : Fld := ⟨0x043100, 31, 31, 8⟩
/-- CALL.CLASS.START (R261). -/
abbrev callClassStart : Fld := ⟨0x043100, 29, 28, 8⟩
/-- CALL.CLASS.MIN_PRIO (R261). -/
abbrev callClassMinPrio : Fld := ⟨0x043100, 27, 26, 8⟩
/-- CALL.CLASS.T1 (R261). -/
abbrev callClassT1 : Fld := ⟨0x043100, 15, 0, 8⟩
/-- CALL.CLASS_HI.ATTEND (R261). -/
abbrev callClassHiAttend : Fld := ⟨0x043104, 31, 16, 8⟩
/-- CALL.CLASS_HI.T2 (R261). -/
abbrev callClassHiT2 : Fld := ⟨0x043104, 15, 0, 8⟩
/-- CALL.ROSTER.UNIT_B (R261). -/
abbrev callRosterUnitB : Fld := ⟨0x043200, 31, 16, 8⟩
/-- CALL.ROSTER.UNIT_A (R261). -/
abbrev callRosterUnitA : Fld := ⟨0x043200, 15, 0, 8⟩
/-- CALL.ROSTER_HI.EN (R261). -/
abbrev callRosterHiEn : Fld := ⟨0x043204, 0, 0, 8⟩
/-- CALL.UNIT.EN (R261). -/
abbrev callUnitEn : Fld := ⟨0x043300, 31, 31, 4⟩
/-- CALL.UNIT.ACC_DI (R261). -/
abbrev callUnitAccDi : Fld := ⟨0x043300, 13, 8, 4⟩
/-- CALL.UNIT.DO (R261). -/
abbrev callUnitDo : Fld := ⟨0x043300, 3, 0, 4⟩
/-- TTB.ACTIVE.TT (R288). -/
abbrev ttbActiveTt : Fld := ⟨0x048040, 31, 28, 4⟩
/-- TTB.ACTIVE.ALWAYS (R288). -/
abbrev ttbActiveAlways : Fld := ⟨0x048040, 27, 27, 4⟩
/-- TTB.ACTIVE.SRC (R288). -/
abbrev ttbActiveSrc : Fld := ⟨0x048040, 25, 24, 4⟩
/-- TTB.ACTIVE.TRIG (R288). -/
abbrev ttbActiveTrig : Fld := ⟨0x048040, 23, 20, 4⟩
/-- TTB.ACTIVE.FROM_NODE (R288). -/
abbrev ttbActiveFromNode : Fld := ⟨0x048040, 9, 0, 4⟩
/-- TTB.GEN.GEN (R288). -/
abbrev ttbGenGen : Fld := ⟨0x048044, 31, 0, 4⟩
/-- TTB.REQ.PENDING (R288). -/
abbrev ttbReqPending : Fld := ⟨0x048048, 31, 31, 4⟩
/-- TTB.REQ.QUEUED (R288). -/
abbrev ttbReqQueued : Fld := ⟨0x048048, 30, 30, 4⟩
/-- TTB.REQ.QUEUED_TT (R288). -/
abbrev ttbReqQueuedTt : Fld := ⟨0x048048, 11, 8, 4⟩
/-- TTB.REQ.TT (R288). -/
abbrev ttbReqTt : Fld := ⟨0x048048, 3, 0, 4⟩
/-- TTB.CTL.FOLLOW (R288). -/
abbrev ttbCtlFollow : Fld := ⟨0x04804C, 1, 1, 4⟩
/-- TTB.CTL.LEAD (R288). -/
abbrev ttbCtlLead : Fld := ⟨0x04804C, 0, 0, 4⟩
/-- TTB.SWSTAT.RESULT (R288). -/
abbrev ttbSwstatResult : Fld := ⟨0x048050, 31, 24, 4⟩
/-- TTB.SWSTAT.TT (R288). -/
abbrev ttbSwstatTt : Fld := ⟨0x048050, 23, 20, 4⟩
/-- TTB.SWSTAT.INDEX (R288). -/
abbrev ttbSwstatIndex : Fld := ⟨0x048050, 16, 0, 4⟩
/-- TTB.INST_CMD.INSTALL (R288). -/
abbrev ttbInstCmdInstall : Fld := ⟨0x048054, 31, 31, 4⟩
/-- TTB.INST_CMD.SLOT (R288). -/
abbrev ttbInstCmdSlot : Fld := ⟨0x048054, 3, 0, 4⟩
/-- TTB.INST_RES.RESULT (R288). -/
abbrev ttbInstResResult : Fld := ⟨0x048058, 23, 16, 4⟩
/-- TTB.INST_RES.SLOT (R288). -/
abbrev ttbInstResSlot : Fld := ⟨0x048058, 3, 0, 4⟩
/-- TTB.SLOTS.VALID (R288). -/
abbrev ttbSlotsValid : Fld := ⟨0x04805C, 15, 0, 4⟩
/-- TTB.IMG_CTL.ABORT (R288). -/
abbrev ttbImgCtlAbort : Fld := ⟨0x048060, 2, 2, 4⟩
/-- TTB.IMG_CTL.END (R288). -/
abbrev ttbImgCtlEnd : Fld := ⟨0x048060, 1, 1, 4⟩
/-- TTB.IMG_CTL.BEGIN (R288). -/
abbrev ttbImgCtlBegin : Fld := ⟨0x048060, 0, 0, 4⟩
/-- TTB.IMG_LEN.LEN (R288). -/
abbrev ttbImgLenLen : Fld := ⟨0x048064, 23, 0, 4⟩
/-- TTB.IMG_DATA.DATA (R288). -/
abbrev ttbImgDataData : Fld := ⟨0x048068, 31, 0, 4⟩
/-- TTB.IMG_STAT.READY (R288). -/
abbrev ttbImgStatReady : Fld := ⟨0x04806C, 31, 31, 4⟩
/-- TTB.IMG_STAT.NEWER (R288). -/
abbrev ttbImgStatNewer : Fld := ⟨0x04806C, 30, 30, 4⟩
/-- TTB.IMG_STAT.LOADING (R288). -/
abbrev ttbImgStatLoading : Fld := ⟨0x04806C, 29, 29, 4⟩
/-- TTB.IMG_STAT.BOOT_COPY (R288). -/
abbrev ttbImgStatBootCopy : Fld := ⟨0x04806C, 28, 28, 4⟩
/-- TTB.IMG_STAT.RESULT (R288). -/
abbrev ttbImgStatResult : Fld := ⟨0x04806C, 23, 16, 4⟩
/-- TTB.IMG_STAT.BAD_RECORDS (R288). -/
abbrev ttbImgStatBadRecords : Fld := ⟨0x04806C, 15, 0, 4⟩
/-- TTB.IMG_OFF.OFF (R288). -/
abbrev ttbImgOffOff : Fld := ⟨0x048070, 23, 0, 4⟩
/-- TTB.SERIAL.SERIAL (R288). -/
abbrev ttbSerialSerial : Fld := ⟨0x048074, 31, 0, 4⟩
/-- TTB.NOR_SERIAL.SERIAL (R288). -/
abbrev ttbNorSerialSerial : Fld := ⟨0x048078, 31, 0, 4⟩
/-- TTB.TRIG.EN (R288). -/
abbrev ttbTrigEn : Fld := ⟨0x048080, 31, 31, 4⟩
/-- TTB.TRIG.OFF_EN (R288). -/
abbrev ttbTrigOffEn : Fld := ⟨0x048080, 30, 30, 4⟩
/-- TTB.TRIG.TT_OFF (R288). -/
abbrev ttbTrigTtOff : Fld := ⟨0x048080, 27, 24, 4⟩
/-- TTB.TRIG.TT_ON (R288). -/
abbrev ttbTrigTtOn : Fld := ⟨0x048080, 23, 20, 4⟩
/-- TTB.TRIG.POINT (R288). -/
abbrev ttbTrigPoint : Fld := ⟨0x048080, 16, 0, 4⟩
/-- SEC.KEY_CMD.OP (R289). -/
abbrev secKeyCmdOp : Fld := ⟨0x007040, 31, 28, 4⟩
/-- SEC.KEY_CMD.CONFIRM (R289). -/
abbrev secKeyCmdConfirm : Fld := ⟨0x007040, 23, 8, 4⟩
/-- SEC.KEY_CMD.SLOT (R289). -/
abbrev secKeyCmdSlot : Fld := ⟨0x007040, 2, 0, 4⟩
/-- SEC.KEYSTAT.REVOKED (R289). -/
abbrev secKeystatRevoked : Fld := ⟨0x007044, 23, 16, 4⟩
/-- SEC.KEYSTAT.PROGRAMMED (R289). -/
abbrev secKeystatProgrammed : Fld := ⟨0x007044, 15, 8, 4⟩
/-- SEC.KEYSTAT.AUTH_REQ (R289). -/
abbrev secKeystatAuthReq : Fld := ⟨0x007044, 0, 0, 4⟩
/-- SEC.LAST.VALID (R289). -/
abbrev secLastValid : Fld := ⟨0x007048, 31, 31, 4⟩
/-- SEC.LAST.SLOT (R289). -/
abbrev secLastSlot : Fld := ⟨0x007048, 18, 16, 4⟩
/-- SEC.LAST.RESULT (R289). -/
abbrev secLastResult : Fld := ⟨0x007048, 7, 0, 4⟩
/-- SEC.KEY_DATA.DATA (R289). -/
abbrev secKeyDataData : Fld := ⟨0x007060, 31, 0, 4⟩
/-- FB.CTL.TRX_DLY (R316). -/
abbrev fbCtlTrxDly : Fld := ⟨0x050040, 31, 24, 4⟩
/-- FB.CTL.BOFF_HOLD (R316). -/
abbrev fbCtlBoffHold : Fld := ⟨0x050040, 23, 16, 4⟩
/-- FB.CTL.SLEEP (R316). -/
abbrev fbCtlSleep : Fld := ⟨0x050040, 15, 15, 4⟩
/-- FB.CTL.WAKE_EN (R316). -/
abbrev fbCtlWakeEn : Fld := ⟨0x050040, 14, 14, 4⟩
/-- FB.CTL.FO_MBX (R316). -/
abbrev fbCtlFoMbx : Fld := ⟨0x050040, 13, 8, 4⟩
/-- FB.CTL.FO_EN (R316). -/
abbrev fbCtlFoEn : Fld := ⟨0x050040, 7, 7, 4⟩
/-- FB.CTL.PARTNER (R316). -/
abbrev fbCtlPartner : Fld := ⟨0x050040, 6, 4, 4⟩
/-- FB.CTL.PARTNER_EN (R316). -/
abbrev fbCtlPartnerEn : Fld := ⟨0x050040, 3, 3, 4⟩
/-- FB.CTL.AUTO_REC (R316). -/
abbrev fbCtlAutoRec : Fld := ⟨0x050040, 2, 2, 4⟩
/-- FB.CTL.OPMODE (R316). -/
abbrev fbCtlOpmode : Fld := ⟨0x050040, 1, 0, 4⟩
/-- FB.NBT.NBRP (R316). -/
abbrev fbNbtNbrp : Fld := ⟨0x050044, 31, 24, 4⟩
/-- FB.NBT.NSEG1 (R316). -/
abbrev fbNbtNseg1 : Fld := ⟨0x050044, 23, 16, 4⟩
/-- FB.NBT.NSEG2 (R316). -/
abbrev fbNbtNseg2 : Fld := ⟨0x050044, 14, 8, 4⟩
/-- FB.NBT.NSJW (R316). -/
abbrev fbNbtNsjw : Fld := ⟨0x050044, 6, 0, 4⟩
/-- FB.DBT.FD_EN (R316). -/
abbrev fbDbtFdEn : Fld := ⟨0x050048, 31, 31, 4⟩
/-- FB.DBT.DBRP (R316). -/
abbrev fbDbtDbrp : Fld := ⟨0x050048, 28, 24, 4⟩
/-- FB.DBT.DSEG1 (R316). -/
abbrev fbDbtDseg1 : Fld := ⟨0x050048, 20, 16, 4⟩
/-- FB.DBT.DSEG2 (R316). -/
abbrev fbDbtDseg2 : Fld := ⟨0x050048, 11, 8, 4⟩
/-- FB.DBT.DSJW (R316). -/
abbrev fbDbtDsjw : Fld := ⟨0x050048, 3, 0, 4⟩
/-- FB.TDC.EN (R316). -/
abbrev fbTdcEn : Fld := ⟨0x05004C, 31, 31, 4⟩
/-- FB.TDC.TDCO (R316). -/
abbrev fbTdcTdco : Fld := ⟨0x05004C, 6, 0, 4⟩
/-- FB.STAT.LEC (R316). -/
abbrev fbStatLec : Fld := ⟨0x050050, 14, 12, 4⟩
/-- FB.STAT.DET_IDX (R316). -/
abbrev fbStatDetIdx : Fld := ⟨0x050050, 10, 8, 4⟩
/-- FB.STAT.DATA_UNVERIFIED (R316). -/
abbrev fbStatDataUnverified : Fld := ⟨0x050050, 6, 6, 4⟩
/-- FB.STAT.DET_OK (R316). -/
abbrev fbStatDetOk : Fld := ⟨0x050050, 5, 5, 4⟩
/-- FB.STAT.DETECTING (R316). -/
abbrev fbStatDetecting : Fld := ⟨0x050050, 4, 4, 4⟩
/-- FB.STAT.INTEGRATING (R316). -/
abbrev fbStatIntegrating : Fld := ⟨0x050050, 3, 3, 4⟩
/-- FB.STAT.ASLEEP (R316). -/
abbrev fbStatAsleep : Fld := ⟨0x050050, 2, 2, 4⟩
/-- FB.STAT.ESTATE (R316). -/
abbrev fbStatEstate : Fld := ⟨0x050050, 1, 0, 4⟩
/-- FB.ERR.TEC (R316). -/
abbrev fbErrTec : Fld := ⟨0x050054, 24, 16, 4⟩
/-- FB.ERR.RP (R316). -/
abbrev fbErrRp : Fld := ⟨0x050054, 15, 15, 4⟩
/-- FB.ERR.REC (R316). -/
abbrev fbErrRec : Fld := ⟨0x050054, 7, 0, 4⟩
/-- FB.CNT.BOFF_CNT (R316). -/
abbrev fbCntBoffCnt : Fld := ⟨0x050058, 31, 16, 4⟩
/-- FB.CNT.LO_ERR (R316). -/
abbrev fbCntLoErr : Fld := ⟨0x050058, 15, 0, 4⟩
/-- FB.CNT2.UNMATCHED (R316). -/
abbrev fbCnt2Unmatched : Fld := ⟨0x05005C, 15, 0, 4⟩
/-- FB.TXREQ_LO.REQ (R316). -/
abbrev fbTxreqLoReq : Fld := ⟨0x050060, 31, 0, 4⟩
/-- FB.TXREQ_HI.REQ (R316). -/
abbrev fbTxreqHiReq : Fld := ⟨0x050064, 31, 0, 4⟩
/-- FB.TXCAN_LO.CAN (R316). -/
abbrev fbTxcanLoCan : Fld := ⟨0x050068, 31, 0, 4⟩
/-- FB.TXCAN_HI.CAN (R316). -/
abbrev fbTxcanHiCan : Fld := ⟨0x05006C, 31, 0, 4⟩
/-- FB.DROP_LO.DROP (R316). -/
abbrev fbDropLoDrop : Fld := ⟨0x050070, 31, 0, 4⟩
/-- FB.DROP_HI.DROP (R316). -/
abbrev fbDropHiDrop : Fld := ⟨0x050074, 31, 0, 4⟩
/-- FB.RX_NEW_LO.NEW (R316). -/
abbrev fbRxNewLoNew : Fld := ⟨0x050078, 31, 0, 4⟩
/-- FB.RX_NEW_HI.NEW (R316). -/
abbrev fbRxNewHiNew : Fld := ⟨0x05007C, 31, 0, 4⟩
/-- FB.RX_REL.MBX (R316). -/
abbrev fbRxRelMbx : Fld := ⟨0x050080, 5, 0, 4⟩
/-- FB.KEPT.VALID (R316). -/
abbrev fbKeptValid : Fld := ⟨0x050084, 31, 31, 4⟩
/-- FB.KEPT.AT_PARTNER (R316). -/
abbrev fbKeptAtPartner : Fld := ⟨0x050084, 30, 30, 4⟩
/-- FB.KEPT.MBX (R316). -/
abbrev fbKeptMbx : Fld := ⟨0x050084, 5, 0, 4⟩
/-- FB.CLASH.VALID (R316). -/
abbrev fbClashValid : Fld := ⟨0x050088, 31, 31, 4⟩
/-- FB.CLASH.IDE (R316). -/
abbrev fbClashIde : Fld := ⟨0x050088, 30, 30, 4⟩
/-- FB.CLASH.ID (R316). -/
abbrev fbClashId : Fld := ⟨0x050088, 28, 0, 4⟩
/-- FB.CMD.WAKE (R316). -/
abbrev fbCmdWake : Fld := ⟨0x05008C, 2, 2, 4⟩
/-- FB.CMD.DETECT (R316). -/
abbrev fbCmdDetect : Fld := ⟨0x05008C, 1, 1, 4⟩
/-- FB.CMD.REC_START (R316). -/
abbrev fbCmdRecStart : Fld := ⟨0x05008C, 0, 0, 4⟩
/-- FB.DETCFG.EN (R316). -/
abbrev fbDetcfgEn : Fld := ⟨0x050090, 15, 8, 4⟩
/-- FB.DETCFG.TMO (R316). -/
abbrev fbDetcfgTmo : Fld := ⟨0x050090, 7, 0, 4⟩
/-- FB.DETC.NBRP (R316). -/
abbrev fbDetcNbrp : Fld := ⟨0x050100, 31, 24, 8⟩
/-- FB.DETC.NSEG1 (R316). -/
abbrev fbDetcNseg1 : Fld := ⟨0x050100, 23, 16, 8⟩
/-- FB.DETC.NSEG2 (R316). -/
abbrev fbDetcNseg2 : Fld := ⟨0x050100, 14, 8, 8⟩
/-- FB.DETC.NSJW (R316). -/
abbrev fbDetcNsjw : Fld := ⟨0x050100, 6, 0, 8⟩
/-- FB.DETC_HI.FD_EN (R316). -/
abbrev fbDetcHiFdEn : Fld := ⟨0x050104, 31, 31, 8⟩
/-- FB.DETC_HI.DBRP (R316). -/
abbrev fbDetcHiDbrp : Fld := ⟨0x050104, 28, 24, 8⟩
/-- FB.DETC_HI.DSEG1 (R316). -/
abbrev fbDetcHiDseg1 : Fld := ⟨0x050104, 20, 16, 8⟩
/-- FB.DETC_HI.DSEG2 (R316). -/
abbrev fbDetcHiDseg2 : Fld := ⟨0x050104, 11, 8, 8⟩
/-- FB.DETC_HI.DSJW (R316). -/
abbrev fbDetcHiDsjw : Fld := ⟨0x050104, 3, 0, 8⟩
/-- SAIL.NOW.RUN (R317). -/
abbrev sailNowRun : Fld := ⟨0x058040, 31, 31, 4⟩
/-- SAIL.NOW.CYCLE (R317). -/
abbrev sailNowCycle : Fld := ⟨0x058040, 21, 16, 4⟩
/-- SAIL.NOW.SLOT (R317). -/
abbrev sailNowSlot : Fld := ⟨0x058040, 4, 0, 4⟩
/-- SAIL.REFUSE.REASON (R317). -/
abbrev sailRefuseReason : Fld := ⟨0x058060, 31, 24, 4⟩
/-- SAIL.REFUSE.SEG (R317). -/
abbrev sailRefuseSeg : Fld := ⟨0x058060, 18, 16, 4⟩
/-- SAIL.REFUSE.ITEM (R317). -/
abbrev sailRefuseItem : Fld := ⟨0x058060, 15, 0, 4⟩
/-- XP.CTL.PHYAD (R350). -/
abbrev xpCtlPhyad : Fld := ⟨0x060040, 12, 8, 4⟩
/-- XP.CTL.RXDLY (R350). -/
abbrev xpCtlRxdly : Fld := ⟨0x060040, 3, 3, 4⟩
/-- XP.CTL.TXDLY (R350). -/
abbrev xpCtlTxdly : Fld := ⟨0x060040, 2, 2, 4⟩
/-- XP.CTL.SPEED (R350). -/
abbrev xpCtlSpeed : Fld := ⟨0x060040, 1, 0, 4⟩
/-- XP.STAT.NEIGH_VALID (R350). -/
abbrev xpStatNeighValid : Fld := ⟨0x060044, 28, 28, 4⟩
/-- XP.STAT.NEIGH_PORT (R350). -/
abbrev xpStatNeighPort : Fld := ⟨0x060044, 27, 26, 4⟩
/-- XP.STAT.NEIGH_NODE (R350). -/
abbrev xpStatNeighNode : Fld := ⟨0x060044, 25, 16, 4⟩
/-- XP.STAT.CUT_THROUGH (R350). -/
abbrev xpStatCutThrough : Fld := ⟨0x060044, 5, 5, 4⟩
/-- XP.STAT.SPEED_1G (R350). -/
abbrev xpStatSpeed1g : Fld := ⟨0x060044, 4, 4, 4⟩
/-- XP.STAT.PHY_LINK (R350). -/
abbrev xpStatPhyLink : Fld := ⟨0x060044, 3, 3, 4⟩
/-- XP.STAT.STATE (R350). -/
abbrev xpStatState : Fld := ⟨0x060044, 2, 0, 4⟩
/-- XP.HSEQ.RX_NEXT (R350). -/
abbrev xpHseqRxNext : Fld := ⟨0x060048, 31, 16, 4⟩
/-- XP.HSEQ.TX_NEXT (R350). -/
abbrev xpHseqTxNext : Fld := ⟨0x060048, 15, 0, 4⟩
/-- XP.TXCNT.COUNT (R350). -/
abbrev xpTxcntCount : Fld := ⟨0x06004C, 31, 0, 4⟩
/-- XP.RXCNT.COUNT (R350). -/
abbrev xpRxcntCount : Fld := ⟨0x060050, 31, 0, 4⟩
/-- XP.ERRCNT.DISCARD (R350). -/
abbrev xpErrcntDiscard : Fld := ⟨0x060054, 31, 16, 4⟩
/-- XP.ERRCNT.FCS (R350). -/
abbrev xpErrcntFcs : Fld := ⟨0x060054, 15, 0, 4⟩
/-- XNET.STAT.HEAD (R351). -/
abbrev xnetStatHead : Fld := ⟨0x064040, 25, 16, 4⟩
/-- XNET.STAT.PASSIVE (R351). -/
abbrev xnetStatPassive : Fld := ⟨0x064040, 7, 7, 4⟩
/-- XNET.STAT.MASTER_S (R351). -/
abbrev xnetStatMasterS : Fld := ⟨0x064040, 6, 6, 4⟩
/-- XNET.STAT.MASTER_P (R351). -/
abbrev xnetStatMasterP : Fld := ⟨0x064040, 5, 5, 4⟩
/-- XNET.STAT.S_CLOSED (R351). -/
abbrev xnetStatSClosed : Fld := ⟨0x064040, 4, 4, 4⟩
/-- XNET.STAT.P_CLOSED (R351). -/
abbrev xnetStatPClosed : Fld := ⟨0x064040, 3, 3, 4⟩
/-- XNET.STAT.REJOINING (R351). -/
abbrev xnetStatRejoining : Fld := ⟨0x064040, 2, 2, 4⟩
/-- XNET.STAT.STATE (R351). -/
abbrev xnetStatState : Fld := ⟨0x064040, 1, 0, 4⟩
/-- XNET.EPOCH.SPLIT_EPOCH (R351). -/
abbrev xnetEpochSplitEpoch : Fld := ⟨0x064044, 31, 16, 4⟩
/-- XNET.EPOCH.EPOCH (R351). -/
abbrev xnetEpochEpoch : Fld := ⟨0x064044, 15, 0, 4⟩
/-- XNET.MEMBERS.LOST_CNT (R351). -/
abbrev xnetMembersLostCnt : Fld := ⟨0x064048, 26, 16, 4⟩
/-- XNET.MEMBERS.PRESENT_CNT (R351). -/
abbrev xnetMembersPresentCnt : Fld := ⟨0x064048, 10, 0, 4⟩
/-- XNET.MAPSEL.WORD (R351). -/
abbrev xnetMapselWord : Fld := ⟨0x06404C, 4, 0, 4⟩
/-- XNET.PRESENT.MAP (R351). -/
abbrev xnetPresentMap : Fld := ⟨0x064050, 31, 0, 4⟩
/-- XNET.LOST.MAP (R351). -/
abbrev xnetLostMap : Fld := ⟨0x064054, 31, 0, 4⟩
/-- XNET.CAP.MAP (R351). -/
abbrev xnetCapMap : Fld := ⟨0x064058, 31, 0, 4⟩
/-- XNET.SPLIT_TLO.TALLY[31:0] (R351). -/
abbrev xnetSplitTloTally : Fld := ⟨0x06405C, 31, 0, 4⟩
/-- XNET.SPLIT_THI.TALLY[63:32] (R351). -/
abbrev xnetSplitThiTally : Fld := ⟨0x064060, 31, 0, 4⟩
/-- XNET.CFG.REMOTE_CFG (R351). -/
abbrev xnetCfgRemoteCfg : Fld := ⟨0x064064, 1, 1, 4⟩
/-- XNET.CFG.CALLCAP (R351). -/
abbrev xnetCfgCallcap : Fld := ⟨0x064064, 0, 0, 4⟩
/-- XNET.CTL.PHY_HOLD (R351). -/
abbrev xnetCtlPhyHold : Fld := ⟨0x064068, 0, 0, 4⟩
/-- XNET.CMD.OP (R351). -/
abbrev xnetCmdOp : Fld := ⟨0x06406C, 31, 28, 4⟩
/-- XNET.CMD.NODE (R351). -/
abbrev xnetCmdNode : Fld := ⟨0x06406C, 9, 0, 4⟩
/-- XNET.MDIO.GO (R351). -/
abbrev xnetMdioGo : Fld := ⟨0x064070, 31, 31, 4⟩
/-- XNET.MDIO.WRITE (R351). -/
abbrev xnetMdioWrite : Fld := ⟨0x064070, 30, 30, 4⟩
/-- XNET.MDIO.PHYAD (R351). -/
abbrev xnetMdioPhyad : Fld := ⟨0x064070, 28, 24, 4⟩
/-- XNET.MDIO.REGAD (R351). -/
abbrev xnetMdioRegad : Fld := ⟨0x064070, 20, 16, 4⟩
/-- XNET.MDIO.DATA (R351). -/
abbrev xnetMdioData : Fld := ⟨0x064070, 15, 0, 4⟩
/-- XNET.ACKQ.DROPPED (R351). -/
abbrev xnetAckqDropped : Fld := ⟨0x064074, 31, 16, 4⟩
/-- XNET.ACKQ.COUNT (R351). -/
abbrev xnetAckqCount : Fld := ⟨0x064074, 10, 0, 4⟩
/-- XNET.REPLAY.NOT_HELD (R351). -/
abbrev xnetReplayNotHeld : Fld := ⟨0x064078, 31, 16, 4⟩
/-- XNET.REPLAY.LEFT (R351). -/
abbrev xnetReplayLeft : Fld := ⟨0x064078, 15, 0, 4⟩
/-- XNET.RACK_CMD.OP (R351). -/
abbrev xnetRackCmdOp : Fld := ⟨0x064080, 31, 28, 4⟩
/-- XNET.RACK_CMD.BCAST (R351). -/
abbrev xnetRackCmdBcast : Fld := ⟨0x064080, 27, 27, 4⟩
/-- XNET.RACK_CMD.NODE (R351). -/
abbrev xnetRackCmdNode : Fld := ⟨0x064080, 26, 17, 4⟩
/-- XNET.RACK_CMD.TARGET (R351). -/
abbrev xnetRackCmdTarget : Fld := ⟨0x064080, 16, 0, 4⟩
/-- XNET.RACK_ARG.INSTANCE (R351). -/
abbrev xnetRackArgInstance : Fld := ⟨0x064084, 31, 0, 4⟩
/-- XNET.RACK_RES.DONE (R351). -/
abbrev xnetRackResDone : Fld := ⟨0x064088, 31, 31, 4⟩
/-- XNET.RACK_RES.BUSY (R351). -/
abbrev xnetRackResBusy : Fld := ⟨0x064088, 30, 30, 4⟩
/-- XNET.RACK_RES.RESULT (R351). -/
abbrev xnetRackResResult : Fld := ⟨0x064088, 23, 16, 4⟩
/-- XNET.RCFG_CTL.OP (R351). -/
abbrev xnetRcfgCtlOp : Fld := ⟨0x064090, 31, 28, 4⟩
/-- XNET.RCFG_CTL.NODE (R351). -/
abbrev xnetRcfgCtlNode : Fld := ⟨0x064090, 25, 16, 4⟩
/-- XNET.RCFG_CTL.SLOT (R351). -/
abbrev xnetRcfgCtlSlot : Fld := ⟨0x064090, 3, 0, 4⟩
/-- XNET.RCFG_LEN.LEN (R351). -/
abbrev xnetRcfgLenLen : Fld := ⟨0x064094, 23, 0, 4⟩
/-- XNET.RCFG_DATA.DATA (R351). -/
abbrev xnetRcfgDataData : Fld := ⟨0x064098, 31, 0, 4⟩
/-- XNET.RCFG_RES.DONE (R351). -/
abbrev xnetRcfgResDone : Fld := ⟨0x06409C, 31, 31, 4⟩
/-- XNET.RCFG_RES.READY (R351). -/
abbrev xnetRcfgResReady : Fld := ⟨0x06409C, 30, 30, 4⟩
/-- XNET.RCFG_RES.RESULT (R351). -/
abbrev xnetRcfgResResult : Fld := ⟨0x06409C, 23, 16, 4⟩
/-- ORD.TALLY_LO.L[31:0] (R377). -/
abbrev ordTallyLoL : Fld := ⟨0x065040, 31, 0, 4⟩
/-- ORD.TALLY_HI.L[63:32] (R377). -/
abbrev ordTallyHiL : Fld := ⟨0x065044, 31, 0, 4⟩
/-- ORD.CEIL_LO.CEIL[31:0] (R377). -/
abbrev ordCeilLoCeil : Fld := ⟨0x065048, 31, 0, 4⟩
/-- ORD.CEIL_HI.CEIL[63:32] (R377). -/
abbrev ordCeilHiCeil : Fld := ⟨0x06504C, 31, 0, 4⟩
/-- ORD.STAT.START_SRC (R377). -/
abbrev ordStatStartSrc : Fld := ⟨0x065050, 5, 4, 4⟩
/-- ORD.STAT.AON_CEIL (R377). -/
abbrev ordStatAonCeil : Fld := ⟨0x065050, 3, 3, 4⟩
/-- ORD.STAT.WAITING (R377). -/
abbrev ordStatWaiting : Fld := ⟨0x065050, 2, 2, 4⟩
/-- ORD.STAT.CEIL_B_OK (R377). -/
abbrev ordStatCeilBOk : Fld := ⟨0x065050, 1, 1, 4⟩
/-- ORD.STAT.CEIL_A_OK (R377). -/
abbrev ordStatCeilAOk : Fld := ⟨0x065050, 0, 0, 4⟩
/-- ORD.GAPCNT.STREAM (R377). -/
abbrev ordGapcntStream : Fld := ⟨0x065054, 31, 16, 4⟩
/-- ORD.GAPCNT.POINT (R377). -/
abbrev ordGapcntPoint : Fld := ⟨0x065054, 15, 0, 4⟩
/-- ORD.OUTCNT.OUT (R377). -/
abbrev ordOutcntOut : Fld := ⟨0x065058, 31, 16, 4⟩
/-- ORD.OUTCNT.LATE (R377). -/
abbrev ordOutcntLate : Fld := ⟨0x065058, 15, 0, 4⟩
/-- ORD.REJECT.COUNT (R377). -/
abbrev ordRejectCount : Fld := ⟨0x06505C, 31, 16, 4⟩
/-- ORD.REJECT.NODE (R377). -/
abbrev ordRejectNode : Fld := ⟨0x06505C, 9, 0, 4⟩
/-- ORD.HOLD.EGRESS_MAX (R377). -/
abbrev ordHoldEgressMax : Fld := ⟨0x065060, 31, 16, 4⟩
/-- ORD.HOLD.STREAM_MAX (R377). -/
abbrev ordHoldStreamMax : Fld := ⟨0x065060, 15, 0, 4⟩
/-- ORD.LASTGAP.KIND (R377). -/
abbrev ordLastgapKind : Fld := ⟨0x065064, 31, 30, 4⟩
/-- ORD.LASTGAP.NODE (R377). -/
abbrev ordLastgapNode : Fld := ⟨0x065064, 26, 17, 4⟩
/-- ORD.LASTGAP.POINT (R377). -/
abbrev ordLastgapPoint : Fld := ⟨0x065064, 16, 0, 4⟩
/-- ORD.LASTGAP_SEQ.FIRST (R377). -/
abbrev ordLastgapSeqFirst : Fld := ⟨0x065068, 31, 0, 4⟩
/-- ORD.LASTGAP_N.COUNT (R377). -/
abbrev ordLastgapNCount : Fld := ⟨0x06506C, 31, 0, 4⟩
/-- ORD.CTL.CNT_CLR (R377). -/
abbrev ordCtlCntClr : Fld := ⟨0x065070, 0, 0, 4⟩
/-- SAFE.STAT.CHAIN_MASTER (R412). -/
abbrev safeStatChainMaster : Fld := ⟨0x070040, 7, 7, 4⟩
/-- SAFE.STAT.CHAIN_MEMBER (R412). -/
abbrev safeStatChainMember : Fld := ⟨0x070040, 6, 6, 4⟩
/-- SAFE.STAT.SEAL_SAFE (R412). -/
abbrev safeStatSealSafe : Fld := ⟨0x070040, 5, 5, 4⟩
/-- SAFE.STAT.VFIELD_SAFE (R412). -/
abbrev safeStatVfieldSafe : Fld := ⟨0x070040, 4, 4, 4⟩
/-- SAFE.STAT.CH_FAULT (R412). -/
abbrev safeStatChFault : Fld := ⟨0x070040, 3, 3, 4⟩
/-- SAFE.STAT.B_ALIVE (R412). -/
abbrev safeStatBAlive : Fld := ⟨0x070040, 2, 2, 4⟩
/-- SAFE.STAT.A_ALIVE (R412). -/
abbrev safeStatAAlive : Fld := ⟨0x070040, 1, 1, 4⟩
/-- SAFE.STAT.RUNNING (R412). -/
abbrev safeStatRunning : Fld := ⟨0x070040, 0, 0, 4⟩
/-- SAFE.PAIRS0.STATE (R412). -/
abbrev safePairs0State : Fld := ⟨0x070044, 31, 0, 4⟩
/-- SAFE.PAIRS1.STATE (R412). -/
abbrev safePairs1State : Fld := ⟨0x070048, 31, 0, 4⟩
/-- SAFE.OUTS.STATE (R412). -/
abbrev safeOutsState : Fld := ⟨0x07004C, 31, 0, 4⟩
/-- SAFE.IN_A.LEVEL (R412). -/
abbrev safeInALevel : Fld := ⟨0x070050, 31, 0, 4⟩
/-- SAFE.IN_B.LEVEL (R412). -/
abbrev safeInBLevel : Fld := ⟨0x070054, 31, 0, 4⟩
/-- SAFE.AUX.CHN (R412). -/
abbrev safeAuxChn : Fld := ⟨0x070058, 31, 28, 4⟩
/-- SAFE.AUX.SACK (R412). -/
abbrev safeAuxSack : Fld := ⟨0x070058, 27, 24, 4⟩
/-- SAFE.AUX.EDM (R412). -/
abbrev safeAuxEdm : Fld := ⟨0x070058, 23, 16, 4⟩
/-- SAFE.AUX.SB (R412). -/
abbrev safeAuxSb : Fld := ⟨0x070058, 15, 0, 4⟩
/-- SAFE.CHAIN.RT_MEAS (R412). -/
abbrev safeChainRtMeas : Fld := ⟨0x07005C, 31, 16, 4⟩
/-- SAFE.CHAIN.STATE (R412). -/
abbrev safeChainState : Fld := ⟨0x07005C, 3, 0, 4⟩
/-- SAFE.CONN_SEL.CONN (R412). -/
abbrev safeConnSelConn : Fld := ⟨0x070060, 5, 0, 4⟩
/-- SAFE.CONN_STAT.STATE (R412). -/
abbrev safeConnStatState : Fld := ⟨0x070064, 31, 28, 4⟩
/-- SAFE.CONN_STAT.PARTNER (R412). -/
abbrev safeConnStatPartner : Fld := ⟨0x070064, 25, 16, 4⟩
/-- SAFE.CONN_STAT.RX_PERMIT (R412). -/
abbrev safeConnStatRxPermit : Fld := ⟨0x070064, 15, 0, 4⟩
/-- SAFE.CONN_SEQ.RX_LAST (R412). -/
abbrev safeConnSeqRxLast : Fld := ⟨0x070068, 31, 16, 4⟩
/-- SAFE.CONN_SEQ.TX_LAST (R412). -/
abbrev safeConnSeqTxLast : Fld := ⟨0x070068, 15, 0, 4⟩
/-- SAFE.CONN_ERR.INTEGRITY (R412). -/
abbrev safeConnErrIntegrity : Fld := ⟨0x07006C, 31, 16, 4⟩
/-- SAFE.CONN_ERR.TIMEOUTS (R412). -/
abbrev safeConnErrTimeouts : Fld := ⟨0x07006C, 15, 0, 4⟩
/-- SAFE.CONN_RUN_LO.RUN (R412). -/
abbrev safeConnRunLoRun : Fld := ⟨0x070070, 31, 0, 4⟩
/-- SAFE.CONN_RUN_HI.RUN (R412). -/
abbrev safeConnRunHiRun : Fld := ⟨0x070074, 31, 0, 4⟩
/-- SAFE.LASTFAULT.CAUSE (R412). -/
abbrev safeLastfaultCause : Fld := ⟨0x070078, 31, 24, 4⟩
/-- SAFE.LASTFAULT.OBJECT (R412). -/
abbrev safeLastfaultObject : Fld := ⟨0x070078, 23, 16, 4⟩
/-- SAFE.CONN_AGE.AGE_MAX (R412). -/
abbrev safeConnAgeAgeMax : Fld := ⟨0x07007C, 31, 16, 4⟩
/-- SAFE.CONN_AGE.AGE_LAST (R412). -/
abbrev safeConnAgeAgeLast : Fld := ⟨0x07007C, 15, 0, 4⟩
/-- SEAL.STAT.RESULT (R413). -/
abbrev sealStatResult : Fld := ⟨0x071040, 31, 24, 4⟩
/-- SEAL.STAT.COPY (R413). -/
abbrev sealStatCopy : Fld := ⟨0x071040, 19, 19, 4⟩
/-- SEAL.STAT.SLOT (R413). -/
abbrev sealStatSlot : Fld := ⟨0x071040, 18, 16, 4⟩
/-- SEAL.STAT.STABLE (R413). -/
abbrev sealStatStable : Fld := ⟨0x071040, 9, 9, 4⟩
/-- SEAL.STAT.WE (R413). -/
abbrev sealStatWe : Fld := ⟨0x071040, 8, 8, 4⟩
/-- SEAL.STAT.CODE (R413). -/
abbrev sealStatCode : Fld := ⟨0x071040, 7, 0, 4⟩
/-- SEAL.SERIAL.SERIAL (R413). -/
abbrev sealSerialSerial : Fld := ⟨0x071044, 31, 0, 4⟩
/-- SEAL.CFG_CTL.SLOT (R413). -/
abbrev sealCfgCtlSlot : Fld := ⟨0x071048, 6, 4, 4⟩
/-- SEAL.CFG_CTL.ABORT (R413). -/
abbrev sealCfgCtlAbort : Fld := ⟨0x071048, 2, 2, 4⟩
/-- SEAL.CFG_CTL.END (R413). -/
abbrev sealCfgCtlEnd : Fld := ⟨0x071048, 1, 1, 4⟩
/-- SEAL.CFG_CTL.BEGIN (R413). -/
abbrev sealCfgCtlBegin : Fld := ⟨0x071048, 0, 0, 4⟩
/-- SEAL.CFG_DATA.DATA (R413). -/
abbrev sealCfgDataData : Fld := ⟨0x07104C, 31, 0, 4⟩
/-- SEAL.CFG_RES.DONE (R413). -/
abbrev sealCfgResDone : Fld := ⟨0x071050, 31, 31, 4⟩
/-- SEAL.CFG_RES.READY (R413). -/
abbrev sealCfgResReady : Fld := ⟨0x071050, 30, 30, 4⟩
/-- SEAL.CFG_RES.RESULT (R413). -/
abbrev sealCfgResResult : Fld := ⟨0x071050, 23, 16, 4⟩
/-- SEAL.CFG_RES.WORDS (R413). -/
abbrev sealCfgResWords : Fld := ⟨0x071050, 9, 0, 4⟩
/-- SEAL.SLOTS.VALID_B (R413). -/
abbrev sealSlotsValidB : Fld := ⟨0x071054, 15, 8, 4⟩
/-- SEAL.SLOTS.VALID_A (R413). -/
abbrev sealSlotsValidA : Fld := ⟨0x071054, 7, 0, 4⟩
/-- SEAL.CHANGES.COUNT (R413). -/
abbrev sealChangesCount : Fld := ⟨0x071058, 15, 0, 4⟩
/-- LOG.CTL.WRAP_EQ (R438). -/
abbrev logCtlWrapEq : Fld := ⟨0x078040, 15, 8, 4⟩
/-- LOG.CTL.FREEZE (R438). -/
abbrev logCtlFreeze : Fld := ⟨0x078040, 0, 0, 4⟩
/-- LOG.STAT.GATED (R438). -/
abbrev logStatGated : Fld := ⟨0x078044, 29, 29, 4⟩
/-- LOG.STAT.INDEXING (R438). -/
abbrev logStatIndexing : Fld := ⟨0x078044, 28, 28, 4⟩
/-- LOG.STAT.FAILED (R438). -/
abbrev logStatFailed : Fld := ⟨0x078044, 27, 27, 4⟩
/-- LOG.STAT.CLEARING (R438). -/
abbrev logStatClearing : Fld := ⟨0x078044, 26, 26, 4⟩
/-- LOG.STAT.MERGING (R438). -/
abbrev logStatMerging : Fld := ⟨0x078044, 25, 25, 4⟩
/-- LOG.STAT.FROZEN (R438). -/
abbrev logStatFrozen : Fld := ⟨0x078044, 24, 24, 4⟩
/-- LOG.STAT.COUNT (R438). -/
abbrev logStatCount : Fld := ⟨0x078044, 17, 0, 4⟩
/-- LOG.FREEZE_LEFT.TICKS (R438). -/
abbrev logFreezeLeftTicks : Fld := ⟨0x078048, 10, 0, 4⟩
/-- LOG.QUEUE.PEAK (R438). -/
abbrev logQueuePeak : Fld := ⟨0x07804C, 24, 16, 4⟩
/-- LOG.QUEUE.NOW (R438). -/
abbrev logQueueNow : Fld := ⟨0x07804C, 8, 0, 4⟩
/-- LOG.LOSS.QUEUE (R438). -/
abbrev logLossQueue : Fld := ⟨0x078050, 31, 16, 4⟩
/-- LOG.LOSS.FULL (R438). -/
abbrev logLossFull : Fld := ⟨0x078050, 15, 0, 4⟩
/-- LOG.OVWR.COUNT (R438). -/
abbrev logOvwrCount : Fld := ⟨0x078054, 31, 0, 4⟩
/-- LOG.RING.FO_CNT (R438). -/
abbrev logRingFoCnt : Fld := ⟨0x078058, 23, 16, 4⟩
/-- LOG.RING.RING_CNT (R438). -/
abbrev logRingRingCnt : Fld := ⟨0x078058, 9, 0, 4⟩
/-- LOG.RETIRED.PROXY_LOST (R438). -/
abbrev logRetiredProxyLost : Fld := ⟨0x07805C, 31, 16, 4⟩
/-- LOG.RETIRED.COUNT (R438). -/
abbrev logRetiredCount : Fld := ⟨0x07805C, 8, 0, 4⟩
/-- LOG.RATE.BURST (R438). -/
abbrev logRateBurst : Fld := ⟨0x078060, 31, 24, 4⟩
/-- LOG.RATE.INTERVAL (R438). -/
abbrev logRateInterval : Fld := ⟨0x078060, 15, 0, 4⟩
/-- LOG.RATE_OVR.EN (R438). -/
abbrev logRateOvrEn : Fld := ⟨0x078080, 31, 31, 8⟩
/-- LOG.RATE_OVR.CODE (R438). -/
abbrev logRateOvrCode : Fld := ⟨0x078080, 15, 0, 8⟩
/-- LOG.RATE_OVR_HI.BURST (R438). -/
abbrev logRateOvrHiBurst : Fld := ⟨0x078084, 31, 24, 8⟩
/-- LOG.RATE_OVR_HI.INTERVAL (R438). -/
abbrev logRateOvrHiInterval : Fld := ⟨0x078084, 15, 0, 8⟩
/-- LOG.PROXY.EN (R438). -/
abbrev logProxyEn : Fld := ⟨0x0780C0, 31, 31, 4⟩
/-- LOG.PROXY.NODE (R438). -/
abbrev logProxyNode : Fld := ⟨0x0780C0, 9, 0, 4⟩
/-- LOG.CLR_REQ.REQ (R438). -/
abbrev logClrReqReq : Fld := ⟨0x0780D0, 0, 0, 4⟩
/-- LOG.CLR_KEY.VALID (R438). -/
abbrev logClrKeyValid : Fld := ⟨0x0780D4, 16, 16, 4⟩
/-- LOG.CLR_KEY.KEY (R438). -/
abbrev logClrKeyKey : Fld := ⟨0x0780D4, 15, 0, 4⟩
/-- LOG.CLR_CMD.SCOPE (R438). -/
abbrev logClrCmdScope : Fld := ⟨0x0780D8, 31, 28, 4⟩
/-- LOG.CLR_CMD.KEY (R438). -/
abbrev logClrCmdKey : Fld := ⟨0x0780D8, 15, 0, 4⟩
/-- LOG.CLR_RES.DONE (R438). -/
abbrev logClrResDone : Fld := ⟨0x0780DC, 31, 31, 4⟩
/-- LOG.CLR_RES.COUNT (R438). -/
abbrev logClrResCount : Fld := ⟨0x0780DC, 17, 0, 4⟩
/-- GWY.CUR_TLO.TALLY[31:0] (R439). -/
abbrev gwyCurTloTally : Fld := ⟨0x079040, 31, 0, 4⟩
/-- GWY.CUR_THI.TALLY[63:32] (R439). -/
abbrev gwyCurThiTally : Fld := ⟨0x079044, 31, 0, 4⟩
/-- GWY.CUR_NODE.NODE (R439). -/
abbrev gwyCurNodeNode : Fld := ⟨0x079048, 9, 0, 4⟩
/-- GWY.FILT.OWN_ONLY (R439). -/
abbrev gwyFiltOwnOnly : Fld := ⟨0x07904C, 3, 3, 4⟩
/-- GWY.FILT.MIN_SEV (R439). -/
abbrev gwyFiltMinSev : Fld := ⟨0x07904C, 2, 0, 4⟩
/-- GWY.CMD.OP (R439). -/
abbrev gwyCmdOp : Fld := ⟨0x079050, 1, 0, 4⟩
/-- GWY.STAT.LOADED (R439). -/
abbrev gwyStatLoaded : Fld := ⟨0x079054, 31, 31, 4⟩
/-- GWY.STAT.END (R439). -/
abbrev gwyStatEnd : Fld := ⟨0x079054, 30, 30, 4⟩
/-- GWY.STAT.WAIT (R439). -/
abbrev gwyStatWait : Fld := ⟨0x079054, 29, 29, 4⟩
/-- GWY.STAT.BEHIND (R439). -/
abbrev gwyStatBehind : Fld := ⟨0x079054, 15, 0, 4⟩
/-- GWY.DATA.DATA (R439). -/
abbrev gwyDataData : Fld := ⟨0x079080, 31, 0, 4⟩
/-- RTC.CTL.LEAP_RULE (R453). -/
abbrev rtcCtlLeapRule : Fld := ⟨0x080040, 2, 2, 4⟩
/-- RTC.CTL.APPLY_HELD (R453). -/
abbrev rtcCtlApplyHeld : Fld := ⟨0x080040, 1, 1, 4⟩
/-- RTC.CTL.HALT (R453). -/
abbrev rtcCtlHalt : Fld := ⟨0x080040, 0, 0, 4⟩
/-- RTC.TIME_LO.HOURS (R453). -/
abbrev rtcTimeLoHours : Fld := ⟨0x080044, 28, 24, 4⟩
/-- RTC.TIME_LO.MINUTES (R453). -/
abbrev rtcTimeLoMinutes : Fld := ⟨0x080044, 21, 16, 4⟩
/-- RTC.TIME_LO.SECONDS (R453). -/
abbrev rtcTimeLoSeconds : Fld := ⟨0x080044, 13, 8, 4⟩
/-- RTC.TIME_LO.SUBSEC (R453). -/
abbrev rtcTimeLoSubsec : Fld := ⟨0x080044, 7, 0, 4⟩
/-- RTC.TIME_HI.YEAR (R453). -/
abbrev rtcTimeHiYear : Fld := ⟨0x080048, 31, 24, 4⟩
/-- RTC.TIME_HI.MONTH (R453). -/
abbrev rtcTimeHiMonth : Fld := ⟨0x080048, 19, 16, 4⟩
/-- RTC.TIME_HI.DATE (R453). -/
abbrev rtcTimeHiDate : Fld := ⟨0x080048, 12, 8, 4⟩
/-- RTC.TIME_HI.WEEKDAY (R453). -/
abbrev rtcTimeHiWeekday : Fld := ⟨0x080048, 2, 0, 4⟩
/-- RTC.STAT.OSF (R453). -/
abbrev rtcStatOsf : Fld := ⟨0x08004C, 31, 31, 4⟩
/-- RTC.STAT.TIME_SET (R453). -/
abbrev rtcStatTimeSet : Fld := ⟨0x08004C, 30, 30, 4⟩
/-- RTC.STAT.HELD_SAT (R453). -/
abbrev rtcStatHeldSat : Fld := ⟨0x08004C, 29, 29, 4⟩
/-- RTC.STAT.ON_LFRC (R453). -/
abbrev rtcStatOnLfrc : Fld := ⟨0x08004C, 28, 28, 4⟩
/-- RTC.STAT.SKIPPED_B (R453). -/
abbrev rtcStatSkippedB : Fld := ⟨0x08004C, 3, 3, 4⟩
/-- RTC.STAT.SKIPPED_A (R453). -/
abbrev rtcStatSkippedA : Fld := ⟨0x08004C, 2, 2, 4⟩
/-- RTC.STAT.ALM_B (R453). -/
abbrev rtcStatAlmB : Fld := ⟨0x08004C, 1, 1, 4⟩
/-- RTC.STAT.ALM_A (R453). -/
abbrev rtcStatAlmA : Fld := ⟨0x08004C, 0, 0, 4⟩
/-- RTC.HALT_TICKS.TICKS (R453). -/
abbrev rtcHaltTicksTicks : Fld := ⟨0x080050, 23, 0, 4⟩
/-- RTC.TRIM.TRIM (R453). -/
abbrev rtcTrimTrim : Fld := ⟨0x080054, 9, 0, 4⟩
/-- RTC.TRIM_POS.POS (R453). -/
abbrev rtcTrimPosPos : Fld := ⟨0x080058, 21, 0, 4⟩
/-- RTC.ALMA_LO.HOURS (R453). -/
abbrev rtcAlmaLoHours : Fld := ⟨0x080060, 28, 24, 4⟩
/-- RTC.ALMA_LO.MINUTES (R453). -/
abbrev rtcAlmaLoMinutes : Fld := ⟨0x080060, 21, 16, 4⟩
/-- RTC.ALMA_LO.SECONDS (R453). -/
abbrev rtcAlmaLoSeconds : Fld := ⟨0x080060, 13, 8, 4⟩
/-- RTC.ALMB_LO.HOURS (R453). -/
abbrev rtcAlmbLoHours : Fld := ⟨0x080070, 28, 24, 4⟩
/-- RTC.ALMB_LO.MINUTES (R453). -/
abbrev rtcAlmbLoMinutes : Fld := ⟨0x080070, 21, 16, 4⟩
/-- RTC.ALMB_LO.SECONDS (R453). -/
abbrev rtcAlmbLoSeconds : Fld := ⟨0x080070, 13, 8, 4⟩
/-- RTC.ALMA_HI.YEAR (R453). -/
abbrev rtcAlmaHiYear : Fld := ⟨0x080064, 31, 24, 4⟩
/-- RTC.ALMA_HI.MONTH (R453). -/
abbrev rtcAlmaHiMonth : Fld := ⟨0x080064, 19, 16, 4⟩
/-- RTC.ALMA_HI.DATE (R453). -/
abbrev rtcAlmaHiDate : Fld := ⟨0x080064, 12, 8, 4⟩
/-- RTC.ALMA_HI.WEEKDAY (R453). -/
abbrev rtcAlmaHiWeekday : Fld := ⟨0x080064, 2, 0, 4⟩
/-- RTC.ALMB_HI.YEAR (R453). -/
abbrev rtcAlmbHiYear : Fld := ⟨0x080074, 31, 24, 4⟩
/-- RTC.ALMB_HI.MONTH (R453). -/
abbrev rtcAlmbHiMonth : Fld := ⟨0x080074, 19, 16, 4⟩
/-- RTC.ALMB_HI.DATE (R453). -/
abbrev rtcAlmbHiDate : Fld := ⟨0x080074, 12, 8, 4⟩
/-- RTC.ALMB_HI.WEEKDAY (R453). -/
abbrev rtcAlmbHiWeekday : Fld := ⟨0x080074, 2, 0, 4⟩
/-- RTC.ALMA_CTL.EN (R453). -/
abbrev rtcAlmaCtlEn : Fld := ⟨0x080068, 31, 31, 4⟩
/-- RTC.ALMA_CTL.CATCHUP (R453). -/
abbrev rtcAlmaCtlCatchup : Fld := ⟨0x080068, 30, 30, 4⟩
/-- RTC.ALMA_CTL.MASK (R453). -/
abbrev rtcAlmaCtlMask : Fld := ⟨0x080068, 6, 0, 4⟩
/-- RTC.ALMB_CTL.EN (R453). -/
abbrev rtcAlmbCtlEn : Fld := ⟨0x080078, 31, 31, 4⟩
/-- RTC.ALMB_CTL.CATCHUP (R453). -/
abbrev rtcAlmbCtlCatchup : Fld := ⟨0x080078, 30, 30, 4⟩
/-- RTC.ALMB_CTL.MASK (R453). -/
abbrev rtcAlmbCtlMask : Fld := ⟨0x080078, 6, 0, 4⟩
/-- LAN.CTL.ISET (R468). -/
abbrev lanCtlIset : Fld := ⟨0x088040, 29, 24, 4⟩
/-- LAN.CTL.PRECH (R468). -/
abbrev lanCtlPrech : Fld := ⟨0x088040, 21, 20, 4⟩
/-- LAN.CTL.SLOW_LATCH (R468). -/
abbrev lanCtlSlowLatch : Fld := ⟨0x088040, 18, 18, 4⟩
/-- LAN.CTL.LT_EN (R468). -/
abbrev lanCtlLtEn : Fld := ⟨0x088040, 17, 17, 4⟩
/-- LAN.CTL.DIM (R468). -/
abbrev lanCtlDim : Fld := ⟨0x088040, 15, 8, 4⟩
/-- LAN.CTL.LT_DI (R468). -/
abbrev lanCtlLtDi : Fld := ⟨0x088040, 5, 0, 4⟩
/-- LAN.STAT.BAND (R468). -/
abbrev lanStatBand : Fld := ⟨0x088044, 25, 24, 4⟩
/-- LAN.STAT.LF (R468). -/
abbrev lanStatLf : Fld := ⟨0x088044, 19, 19, 4⟩
/-- LAN.STAT.LAMPTEST (R468). -/
abbrev lanStatLamptest : Fld := ⟨0x088044, 18, 18, 4⟩
/-- LAN.STAT.BEACON (R468). -/
abbrev lanStatBeacon : Fld := ⟨0x088044, 17, 17, 4⟩
/-- LAN.STAT.DARK (R468). -/
abbrev lanStatDark : Fld := ⟨0x088044, 16, 16, 4⟩
/-- LAN.STAT.TEMP (R468). -/
abbrev lanStatTemp : Fld := ⟨0x088044, 15, 0, 4⟩
/-- LAN.CMD.LT_STOP (R468). -/
abbrev lanCmdLtStop : Fld := ⟨0x088048, 1, 1, 4⟩
/-- LAN.CMD.LAMPTEST (R468). -/
abbrev lanCmdLamptest : Fld := ⟨0x088048, 0, 0, 4⟩
/-- LAN.DERATE.T3 (R468). -/
abbrev lanDerateT3 : Fld := ⟨0x08804C, 31, 24, 4⟩
/-- LAN.DERATE.T2 (R468). -/
abbrev lanDerateT2 : Fld := ⟨0x08804C, 23, 16, 4⟩
/-- LAN.DERATE.T1 (R468). -/
abbrev lanDerateT1 : Fld := ⟨0x08804C, 15, 8, 4⟩
/-- LAN.DRF.DR0 (R468). -/
abbrev lanDrfDr0 : Fld := ⟨0x088050, 7, 0, 4⟩
/-- LAN.DRF.DR1 (R468). -/
abbrev lanDrfDr1 : Fld := ⟨0x088050, 15, 8, 4⟩
/-- LAN.DRF.DR2 (R468). -/
abbrev lanDrfDr2 : Fld := ⟨0x088050, 23, 16, 4⟩
/-- LAN.DRF.DR3 (R468). -/
abbrev lanDrfDr3 : Fld := ⟨0x088050, 31, 24, 4⟩
/-- LAN.BEACON.EN (R468). -/
abbrev lanBeaconEn : Fld := ⟨0x088054, 31, 31, 4⟩
/-- LAN.BEACON.DUTY (R468). -/
abbrev lanBeaconDuty : Fld := ⟨0x088054, 27, 24, 4⟩
/-- LAN.BEACON.ELEM (R468). -/
abbrev lanBeaconElem : Fld := ⟨0x088054, 17, 16, 4⟩
/-- LAN.BEACON.WINDOW (R468). -/
abbrev lanBeaconWindow : Fld := ⟨0x088054, 8, 0, 4⟩
/-- LAN.HOSTWIN.WINDOW (R468). -/
abbrev lanHostwinWindow : Fld := ⟨0x088058, 24, 16, 4⟩
/-- LAN.HOSTWIN.STATE (R468). -/
abbrev lanHostwinState : Fld := ⟨0x088058, 2, 0, 4⟩
/-- LAN.WINSEL.WINDOW (R468). -/
abbrev lanWinselWindow : Fld := ⟨0x08805C, 8, 0, 4⟩
/-- LAN.WINCFG0.Record (R468). -/
abbrev lanWincfg0Record : Fld := ⟨0x088060, 31, 0, 4⟩
/-- LAN.WINCFG1.Record (R468). -/
abbrev lanWincfg1Record : Fld := ⟨0x088064, 31, 0, 4⟩
/-- LAN.WINSTATE.STATE (R468). -/
abbrev lanWinstateState : Fld := ⟨0x088068, 2, 0, 4⟩
/-- LAN.REGION.LEVEL (R468). -/
abbrev lanRegionLevel : Fld := ⟨0x088100, 31, 20, 8⟩
/-- LAN.REGION.FADE (R468). -/
abbrev lanRegionFade : Fld := ⟨0x088100, 15, 0, 8⟩
/-- LAN.REGION_HI.NOW (R468). -/
abbrev lanRegionHiNow : Fld := ⟨0x088104, 27, 16, 8⟩
/-- LAN.REGION_HI.LEFT (R468). -/
abbrev lanRegionHiLeft : Fld := ⟨0x088104, 15, 0, 8⟩

end Sys2Proof.Machine.F
end

