-- ==== Sys2Proof/Machine/State.lean ====
section
/-!
DEFINITION. The state of the block as plain data: every register of the register map, the windows and stores
behind them, and the state that the rules name without giving it a register.
Each field's docstring names the rule that gives it; State.reset is the node at the start of its very first
reset of class C.
-/

namespace Sys2Proof.Machine

/-- Why a meaning stops. Only an operand that names no object of the block stops one (log entry 7). -/
inductive Fault where
  /-- Raised by the meaning named, when an operand names no object of the block. Safe: the hardware has no
  such event. -/
  | illFormed (mnemonic : String)
deriving DecidableEq, Repr

/-- Why a command has no meaning. -/
inductive Refusal where
  /-- Raised by exec alone, for a command not modelled yet. Safe. -/
  | notModelled (mnemonic : String)
deriving DecidableEq, Repr

/-- The reset classes of R12, in the numbering of RST.CAUSE.CLASS (R85), with K last. -/
inductive ResetClass where
  | c | u | p | w | s | k
deriving DecidableEq, Repr

/-- The bit of a class in the "Cleared by" masks of the register map. -/
def ResetClass.bit : ResetClass → Nat
  | .c => 0 | .u => 1 | .p => 2 | .w => 3 | .s => 4 | .k => 5

/-- The code of RST.CAUSE.CLASS (R85). -/
def ResetClass.code : ResetClass → Nat
  | .c => 0 | .u => 1 | .p => 2 | .w => 3 | .s => 4 | .k => 5

/-- The order of width of R82: C, U, W, P, S. -/
def ResetClass.width : ResetClass → Nat
  | .c => 5 | .u => 4 | .w => 3 | .p => 2 | .s => 1 | .k => 0

/-- What the node as a whole is doing. -/
inductive Phase where
  /-- A reset is in progress, up to the release of ALERT_N (R80, R118). -/
  | starting
  /-- Neither base-image copy passed validation (R27). -/
  | unconfigured
  /-- In service. -/
  | running
  /-- The test-mode hold (R41). -/
  | testHold
  /-- Main power absent, the always-on domain alive (R23, R76). -/
  | backup
deriving DecidableEq, Repr

/-- What distinguishes one part from another: model and silicon revision (R1, R5). -/
structure Part where
  /-- 1 = FYN-7256S (R5 SAFETY). -/
  safety : Bool
  /-- R5 REV_LETTER. -/
  revLetter : BitVec 4
  /-- R5 REV_STEP. -/
  revStep : BitVec 4
deriving DecidableEq, Repr

/-- What kind of thing an event is: it decides the consumers (R15, R324, R423). -/
inductive EvtKind where
  | point | group | node | summary
  /-- A change of a call's state, with the call frame that reports it (R252, R352). -/
  | call (body : List Byte)
deriving DecidableEq, Repr

/-- An event handed to the ordering unit and not yet stamped. -/
structure Evt where
  kind : EvtKind
  /-- The page whose LAST_TALLY the event sets. -/
  page : Nat
  /-- The record code of R417. -/
  code : Nat
  /-- The severity of R418. -/
  sev : Nat
  /-- The payload of R419, at most 24 bytes. -/
  payload : List Byte
  /-- The event is sent on the crossing (R324). -/
  publish : Bool
deriving DecidableEq, Repr

/-- The reset in progress, or the last one (R80 to R82, R85). -/
structure RstState where
  /-- The class of the reset in progress. -/
  cls : ResetClass
  /-- U_SRC of R85. -/
  uSrc : Nat
  /-- WDOG_SRC of R85. -/
  wdogSrc : Nat
  /-- MERGED of R85. -/
  merged : Bool
  /-- A stuck declaration occurred since the previous reset (R85 BTN_STUCK_SEEN). -/
  stuckSeen : Bool
  /-- The always-on domain ran from VBAT since the previous start (R85 FROM_BACKUP). -/
  fromBackup : Bool
  /-- The test-mode hold stands until a reset of class C or P finds both balls low (R41). -/
  hold : Bool
  /-- Events of the supplies, clocks and the reset button that fell in a reset, the test-mode hold or BACKUP: they are
  logged at the next start, once L is set (R52, R64, R84, R449). -/
  due : List Evt
deriving DecidableEq, Repr

/-- Supervisor and power state that no register holds. -/
structure Pwr where
  /-- The service-seconds counter, 40 bits (R57). -/
  svc : Nat
  /-- The MRAM mirror of the service seconds (R57). -/
  svcMirror : Nat
  /-- The power-cycle count, 32 bits, and what the MRAM bank holds of it: the gate may hold the write (R55, R58). -/
  cycles : Nat
  cyclesMram : Nat
  /-- The always-on domain runs from VBAT (R61). -/
  onVbat : Bool
  /-- The retention detector: VAON fell below 1.40 V (R63). -/
  vaonLost : Bool
  /-- The source of the STANDBY request accepted and not yet entered (R73, R74). -/
  standbyReq : Option StandbySrc
  /-- What woke the node, between the wake and the end of the exit sequence (R75): wake source and its word. -/
  wake : Option (Nat × Nat)
  /-- XPHY_RST_N is driven low (R320). -/
  phyReset : Bool
  /-- The register values the RTC page shows while it is locked (R60). -/
  rtcFrozen : List (Nat × Word)
  /-- Counter-slot writes that the NVM gate holds (R55, R56, R194). -/
  heldSlots : List (Nat × Nat)
  /-- Mirrorings of service seconds and of the counter slots that the gate holds (R56, R57, R194). -/
  svcDue : Bool
  slotsDue : Bool
deriving DecidableEq, Repr

/-- One host port (R101 to R108). -/
structure HostPort where
  /-- The first 64 words of the last READ (R102). -/
  buffer : List Word
  /-- The last answer driven on the port: the words returned, and whether IO stays high-impedance. -/
  answer : List Word
  /-- The CRC the node appended to its last answer (R107). -/
  answerCrc : Option (BitVec 16)
deriving DecidableEq, Repr

/-- Ownership requests in progress (R110 to R112). -/
structure Ownership where
  /-- An open offer: token, tide tick of the offer, wrong tokens so far. -/
  offer : Option (Nat × Nat × Nat)
  /-- A running claim: tide tick of the claim. -/
  claim : Option Nat
deriving DecidableEq, Repr

/-- A staged word (R96): the address, the bits staged as STG fields and under PAGE_CTL.STAGE, the values. -/
structure StagedWord where
  addr : Nat
  stgMask : Word
  stageMask : Word
  value : Word
deriving DecidableEq, Repr

/-- A logbook record (R415), less its CRC, which is a function of the other fields. -/
structure Rec where
  tally : Nat
  node : Nat
  code : Nat
  sev : Nat
  flags : Nat
  epoch : Nat
  gen : Nat
  cycles : Nat
  svc : Nat
  /-- The seven RTC bytes. -/
  rtc : List Byte
  payload : List Byte
deriving DecidableEq, Repr

/-- A crossing frame: the header of R323 less HSEQ and HCRC, and the body. -/
structure XFrame where
  cls : Nat
  flags : Nat
  origin : Nat
  dest : Nat
  epoch : Nat
  hops : Nat
  tally : Nat
  oseq : Nat
  body : List Byte
deriving DecidableEq, Repr

/-- What waits at the ordering unit for a ceiling write (R355, R356). -/
inductive Held where
  /-- A local event. -/
  | evt (e : Evt)
  /-- A received frame to be delivered. -/
  | rx (f : XFrame)
  /-- The LAST_GASP record of a start, whose other fields come from the area (R437). -/
  | gasp (r : Rec)
  /-- A frame of the origin stream that takes a tally of its own: class, destination, BCAST, body. -/
  | own (cls dest : Nat) (bcast : Bool) (body : List Byte)
deriving DecidableEq, Repr

/-- The ordering unit (chapter 13). -/
structure Ord where
  /-- The tally L, 64 bits (R352). -/
  tally : Nat
  /-- The ceiling CEIL (R355). -/
  ceil : Nat
  /-- Ceiling copies A and B usable (R355, R377). -/
  ceilAOk : Bool
  ceilBOk : Bool
  /-- The always-on ceiling, once it has been written since the last class C reset (R355). -/
  aonCeil : Option Nat
  /-- The ceiling write in progress (R355). -/
  ceilWrite : Option Nat
  /-- Events and receipts that wait for it, oldest first (R355, R356). -/
  waitq : List Held
  /-- Frames and events of the origin stream waiting for an OSEQ, oldest first (R374). -/
  xq : List XFrame
  /-- The pending GAP of kind 2: events not sent, lowest and highest tally (R375). -/
  outGap : Option (Nat × Nat × Nat)
  /-- The next OSEQ (R330). -/
  oseq : Nat
deriving DecidableEq, Repr

/-- A rate-limit bucket that is not full (R422). -/
structure Bucket where
  code : Nat
  tokens : Nat
  /-- The tide tick at which it stopped being full. -/
  since : Nat
  /-- The severity of the code's records. -/
  sev : Nat
  folds : Nat
  tFirst : Nat
  tLast : Nat
  /-- A token has come back for the SUMMARY and is reserved for it (R423). -/
  due : Bool
deriving DecidableEq, Repr

/-- Losses not yet reported by a LOSS record (R425). -/
structure LossPending where
  queue : Nat
  full : Nat
  tLo : Nat
  tHi : Nat
  sev : Nat
deriving DecidableEq, Repr

/-- The header of the last-gasp area (R436). -/
structure LastGasp where
  valid : Bool
  merged : Bool
  qlost : Nat
  flags : Nat
  tLg : Nat
  cycles : Nat
  svc : Nat
  rtc : List Byte
  epoch : Nat
  gen : Nat
  /-- The three record slots, newest first (R434). -/
  slots : List Rec
deriving DecidableEq, Repr

/-- The logbook (chapter 15). -/
structure Log where
  /-- The records of the main area, in ascending key (R414). -/
  main : List Rec
  /-- The holding ring (R428). -/
  ring : List Rec
  /-- The fail-over area (R434). -/
  failover : List Rec
  /-- The ingress queue, oldest first (R420). -/
  ingress : List Rec
  /-- Losses to report (R425). -/
  loss : Option LossPending
  /-- Rate-limit buckets that are not full (R422). -/
  buckets : List Bucket
  /-- Retired slots (R433). -/
  retired : List Nat
  /-- Lasting write faults in a row (R434). -/
  faultRun : Nat
  /-- A freeze: the tide tick of the last FREEZE write and whether it has ended and the merge runs (R427). -/
  freezeAt : Option Nat
  /-- A running clear: scope and highest key covered (R432). -/
  clear : Option (Nat × Nat)
  /-- An open clear key: key, tide tick, wrong keys so far (R431). -/
  clrKey : Option (Nat × Nat × Nat)
  /-- FULL has been raised since the main area last had a free slot (R424). -/
  fullSeen : Bool
  /-- RING_FULL has been raised during this freeze (R428). -/
  ringFullSeen : Bool
  /-- Torn slots waiting for the index rebuild (R437). -/
  torn : Nat
  /-- The last-gasp slots, the fail-over area and the ring wait for the NVM gate to be merged (R55, R437). -/
  mergeDue : Bool
  /-- The tally from which R345 counts the node's own records that are overwritten or dropped, and their number. -/
  goneFrom : Nat
  gone : Nat
  /-- The tallies a replay still has to cover, and how many of its records went while it ran (R345). -/
  replayLo : Nat
  replayHi : Nat
  replayGone : Nat
  /-- The last-gasp area in the always-on domain (R436). -/
  lastGasp : LastGasp
deriving DecidableEq, Repr

/-- What the block drives towards the outside, in order. -/
inductive Output where
  /-- A crossing frame sent out of a port, as its bytes from the destination address up to the body. -/
  | frame (port : Nat) (bytes : List Byte)
  /-- A copy forwarded cut-through that the node ends with an inverted FCS (R331). -/
  | cut (port : Nat) (bytes : List Byte)
  /-- A CAN frame put on a segment. -/
  | can (seg : Nat) (frame : CanFrame)
  /-- A Clause 22 access: write, PHY address, register, data (R319). -/
  | mdio (write : Bool) (phyad regad data : Nat)
  /-- A panel row slot (R454, R455): the row, LF timing, ISET, PRECH, and the on-times of its 64 columns in 5 ns
  steps, or in LFXO periods on LF timing. -/
  | row (row : Nat) (lf : Bool) (iset prech : Nat) (cols : List Nat)
  /-- A power-on or power-off sequence around a beacon pulse: every row off and every column at precharge for so many LFXO
  periods (R465, R467). -/
  | panelSeq (on : Bool) (lfxo : Nat)
  /-- A beacon pulse (R467): the row on for so many LFXO periods, each column sinking in so many of every 8 of them. -/
  | beacon (row : Nat) (iset prech : Nat) (cols : List Nat) (lfxo : Nat)
deriving DecidableEq, Repr

/-! The point engine (chapters 7 and 8). -/

/-- Value states, in the codes of R196. -/
inductive VState where
  | unknown | normal | low | lowlow | high | highhigh | fault
deriving DecidableEq, Repr

def VState.code : VState → Nat
  | .unknown => 0 | .normal => 1 | .low => 2 | .lowlow => 3 | .high => 4 | .highhigh => 5 | .fault => 6

/-- Alert states, in the codes of R196. -/
inductive AState where
  | normal | activeUnack | activeAck | rectUnack
deriving DecidableEq, Repr

def AState.code : AState → Nat
  | .normal => 0 | .activeUnack => 1 | .activeAck => 2 | .rectUnack => 3

/-- Source status, in the codes of R196. -/
inductive SrcStatus where
  | valid | overHi | overLo | ranging | stale | fault | none
deriving DecidableEq, Repr

def SrcStatus.code : SrcStatus → Nat
  | .valid => 0 | .overHi => 1 | .overLo => 2 | .ranging => 3 | .stale => 4 | .fault => 5 | .none => 6

/-- The status a code spells; a code of no status reads as "no value yet". -/
def SrcStatus.ofCode : Nat → SrcStatus
  | 0 => .valid | 1 => .overHi | 2 => .overLo | 3 => .ranging | 4 => .stale | 5 => .fault | _ => .none

/-- What a pending delay is (R196 DLY_KIND). -/
inductive DlyKind where
  | on | off | runup
deriving DecidableEq, Repr

def DlyKind.code : DlyKind → Nat
  | .on => 1 | .off => 2 | .runup => 3

/-- What the engine keeps for a used point: the runtime record of R196 and what its rules need beyond it.
Times are tide ticks, as TIDE.NOW counts them. -/
structure Point where
  value : Word
  status : SrcStatus
  srcFault : Nat
  reason : Nat
  vstate : VState
  astate : AState
  silenced : Bool
  inhibited : Bool
  shelved : Bool
  oos : Bool
  escalated : Bool
  resync : Bool
  /-- INSTANCE. -/
  inst : Nat
  pseq : Nat
  /-- The pending delay and the tick at which it expires (R213). -/
  dly : Option (DlyKind × Nat)
  /-- Staleness, shelving and escalation deadlines (R213). -/
  staleAt : Option Nat
  shelveAt : Option Nat
  escAt : Option Nat
  /-- The last usable value and status (R210). -/
  usable : Option (Word × SrcStatus)
  /-- The gate as last applied: enabling or not; none before the first evaluation after a rebuild (R228). -/
  gate : Option Bool
  /-- The subject as a COUNT point last saw it: ON or not (R194). -/
  subjOn : Option Bool
  /-- The accumulator of a COUNT, RUNHRS or DI COUNT point, 40 bits (R194). -/
  acc : Nat
  /-- The tick of the last evaluation of the accumulator. -/
  accTick : Nat
  /-- The groups the point counts in, as of its last rebuild or patch (R231, R235). -/
  groups : List Nat
  /-- What AUX shows, as of the last rebuild: 0 nothing, 1 the RATE anchor, 2 the accumulator (R196, R200). -/
  auxKind : Nat
  /-- The RATE anchor: value and tick (R192). -/
  anchor : Option (Word × Nat)
  /-- The value last published and the tick of that frame (R187). -/
  published : Option (Word × Nat)
  /-- The row holding the point has no spare: held in FAULT, no member of any group (R240). -/
  dead : Bool
  /-- The counter slot the point counts in, as of its last rebuild (R194, R200). -/
  slot : Option Nat
deriving DecidableEq, Repr

/-- A trigger waiting for the engine (R204). -/
inductive Trig where
  /-- A source delivery: u_in, status, fault bits, reason. -/
  | deliver (point : Nat) (u : Word) (status : SrcStatus) (srcFault reason : Nat)
  /-- A member or the subject changed; `fresh` when the subject took a fresh value (R190). -/
  | derive (point : Nat) (fresh : Bool)
  /-- The gate point changed. -/
  | gate (point : Nat)
  /-- A forced evaluation with the last value. -/
  | force (point : Nat)
  /-- An acknowledgement or silence from another node that came while the point was under restoration (R223, R239). -/
  | remote (point op inst issuer : Nat)
deriving DecidableEq, Repr

def Trig.point : Trig → Nat
  | .deliver p _ _ _ _ => p
  | .derive p _ => p
  | .gate p => p
  | .force p => p
  | .remote p _ _ _ => p

/-- The point engine. -/
structure Eng where
  /-- The runtime of every used point, by ascending index. -/
  pts : List (Nat × Point)
  /-- Triggers waiting, oldest first (R204). -/
  trigs : List Trig
  /-- First-out captures: group, point, instance (R232). -/
  firsts : List (Nat × (Nat × Nat))
  /-- Group settings of the active configuration: group, PUBLISH REARM_MANUAL EN bits (R244). -/
  groupCfg : List (Nat × Nat)
  /-- Points in rows under restoration (R239). -/
  restoring : List Nat
  /-- Points whose record is to be derived anew, and groups to be counted anew, when the row is restored (R239). -/
  restoringCfg : List Nat
  restoringGrp : List Nat
  /-- Points and groups with data in a row that has no spare: no rebuild makes them valid again (R240). -/
  deadPts : List Nat
  deadGrps : List Nat
  /-- Events held at engine egress (R371). -/
  egress : List (Nat × Evt)
  /-- Evaluations since the last tick of 1 ms cannot be told; evaluations of the running pass (R236). -/
  passEvals : Nat
  /-- TIDE.NOW at STANDBY entry, while the wheel is held (R74, R214). -/
  heldAt : Option Nat
  /-- The counter slots of the MRAM bank: slot, accumulator (R194). -/
  slots : List (Nat × Nat)
  /-- The open edit range: first, last, tick of opening (R199). -/
  edit : Option (Nat × Nat × Nat)
  /-- A requested open: first, last and the owner that asked (R199). -/
  openReq : Option (Nat × Nat × HostId)
  /-- Commands written while the engine stands still in STANDBY: the host of an OPCMD, none for ADMCMD, and the
  words written: command and argument (R242, R74). -/
  waiting : List (Option HostId × Word × Word)
deriving DecidableEq, Repr

/-! The crossing (chapter 12). -/

/-- One crossing port beside its XP page. -/
structure XPort where
  /-- Data frames sent and not acknowledged, oldest first, with their HSEQ (R326, R327). -/
  unacked : List (Nat × XFrame)
  /-- A retransmission has been made and not been answered: its return trip is pending (R327). -/
  retried : Bool
  /-- In SYNCING: the neighbour's SYNC frame has been received, and our own has been acknowledged (R321). -/
  syncRx : Bool
  syncAck : Bool
  /-- Tide tick at which the port went FAULTY (R321). -/
  faultAt : Nat
  /-- LOAD has been raised since the queue last had room (R332). -/
  loadSeen : Bool
  /-- SPEED_REFUSED has been raised for the link as it stands (R319). -/
  refused : Bool
  /-- Since the port was enabled a link has been seen, or its absence been reported (R40). -/
  noted : Bool
  /-- How many of the oldest unacknowledged frames have had their one retransmission (R327, R365). -/
  resent : Nat
deriving DecidableEq, Repr

/-- What a receiver keeps for one origin (R330, R369). -/
structure Orig where
  node : Nat
  /-- The OSEQ expected next. -/
  expect : Nat
  /-- The tally of the last delivered frame. -/
  lastTally : Nat
  /-- Frames that arrived above it, by rising OSEQ, each with its hold limit in µs (R368); a rejected frame holds no
  frame (R354). -/
  held : List (Nat × Nat × Option XFrame)
  /-- OSEQ values that GAPs have covered: first and count (R370). -/
  gaps : List (Nat × Nat)
  /-- OSEQ values in the order in which their frames were held: the hold is that of the first still held (R368). -/
  came : List Nat
deriving DecidableEq, Repr

/-- A census round in progress on one ring (R335). -/
structure Round where
  number : Nat
  /-- Sections sent and not all back: section and how many copies are out. -/
  pending : List (Nat × Nat)
  /-- What came back: SEEN and CAP of all nodes. -/
  seen : BitVec 1024
  cap : BitVec 1024
  /-- A copy came back turned, or not at all. -/
  turned : Bool
deriving DecidableEq, Repr

/-- One ring as this node sees it. -/
structure RingState where
  /-- The lowest census master seen in the last 30 ms, and 10 ms intervals since a census frame was seen. -/
  master : Option Nat
  quiet : Nat
  round : Option Round
  /-- The number of the next round. -/
  nextRound : Nat
  /-- Summaries already passed on: master, ring, round, section, newest first (R335). -/
  summaries : List (Nat × Nat × Nat × Nat)
deriving DecidableEq, Repr

/-- A held acknowledgement (R343). -/
structure PendAck where
  node : Nat
  op : Nat
  target : Nat
  inst : Nat
  issuer : Nat
deriving DecidableEq, Repr

/-- The last event received for a point of another node (R343, R246). -/
structure RemotePt where
  node : Nat
  point : Nat
  astate : Nat
  inst : Nat
deriving DecidableEq, Repr

/-- A configuration transfer this node sends (R347, R348). -/
structure XferOut where
  node : Nat
  /-- STAGE rather than BEGIN. -/
  stage : Bool
  slot : Nat
  len : Nat
  /-- Bytes sent so far. -/
  off : Nat
  /-- Words collected for the next data frame. -/
  buf : List Byte
  /-- The OP of the control frame that waits for its result; 0 while data flows. -/
  op : Nat
  /-- Tide tick of the last frame sent. -/
  at_ : Nat
deriving DecidableEq, Repr

/-- A configuration transfer this node receives (R348). -/
structure XferIn where
  node : Nat
  xfer : Nat
  stage : Bool
  slot : Nat
  len : Nat
  /-- The byte offset expected next. -/
  off : Nat
deriving DecidableEq, Repr

/-- Membership and the rest of the crossing. -/
structure Xnet where
  /-- Present, lost and call-capable nodes (R337, R338, R351). -/
  present : BitVec 1024
  lost : BitVec 1024
  cap : BitVec 1024
  /-- Nodes set in a summary of the running interval (R337), and their CAP bits. -/
  seenNow : BitVec 1024
  capNow : BitVec 1024
  /-- Present nodes not seen: node and consecutive intervals (R337). -/
  missed : List (Nat × Nat)
  /-- Nodes that sent a leave frame (R338). -/
  departed : BitVec 1024
  /-- The duty node worked out in the last interval, and the intervals it has held (R339). -/
  dutyCand : Option Nat
  dutyRun : Nat
  /-- Membership changed by a command since the last interval (R341). -/
  changed : Bool
  /-- Epochs received, with the intervals since (R341). -/
  epochs : List (Nat × Nat)
  ringP : RingState
  ringS : RingState
  origins : List Orig
  pendAcks : List PendAck
  remotes : List RemotePt
  /-- The replay: lowest tally still to send and the tally at its start; none when no replay runs (R345). -/
  replay : Option (Nat × Nat)
  /-- Points whose value frames the rejoin still has to send (R344 step 5). -/
  rejoinPts : List Nat
  /-- Intervals until the duty node broadcasts its timetable after a rejoin; 0 for none (R281, R344). -/
  modeDue : Nat
  xferNo : Nat
  xferOut : Option XferOut
  xferIn : Option XferIn
deriving DecidableEq, Repr

/-! The analogue front end (chapters 5 and 6). -/

/-- A curve record as its 256 words (R167). -/
abbrev Curve := List Word

/-- Where a conversion slot stands (R121, R122, R133). -/
inductive SlotStage where
  | mux | settle | conv | ended
deriving DecidableEq, Repr

/-- What is latched at the start of a measurement sequence (R164). -/
structure Latch where
  /-- PASS of the binding (R162). -/
  pass : Bool
  curveId : Nat
  /-- The 256 words of the curve copy; none when the curve is empty. -/
  curve : Option Curve
  /-- The band latched; none when the engine is to find it (R164). -/
  band : Option Nat
  /-- The band is chosen afresh at the next sequence. -/
  afresh : Bool
deriving DecidableEq, Repr

/-- A conversion slot in progress (R122). -/
structure Slot where
  ch : Nat
  stage : SlotStage
  phase : Nat
  mon : Option MonReading
  /-- The check current has been removed, and what it found (R136). -/
  checkDone : Bool
  checkOpen : Bool
  code1 : Nat
  /-- The range changed during the conversion (R158). -/
  moved : Bool
  /-- The stage was overloaded at AR_TOP: the result carries OVERRANGE (R158). -/
  overTop : Bool
  /-- The read-back failed for good: the result is discarded (R138). -/
  lost : Bool
  latch : Latch
deriving DecidableEq, Repr

/-- A result on its way to the filter engine (R145, R163). -/
structure ChResult where
  ch : Nat
  code : Nat
  ranging : Bool
  beyond : Bool
  faults : Nat
  /-- FSCALE of the configuration that the conversion used (R162). -/
  fscale : Word
  latch : Latch
deriving DecidableEq, Repr

/-- One converter group beside its page. -/
structure Grp where
  slot : Option Slot
  /-- A pass is in progress, and the channel it takes next (R148). -/
  inPass : Bool
  next : Nat
  /-- The channel held in fast mode (R152). -/
  fast : Option Nat
  /-- Faults of the last measurement in fast mode (R154). -/
  fastFaults : Nat
  /-- The channel that left fast mode and keeps its last result and status until its next one (R155). -/
  kept : Option Nat
  /-- The die-to-die path is reinitialised at the end of the slot (R138). -/
  reinit : Bool
  results : List ChResult
deriving DecidableEq, Repr

/-- One channel beside its registers. -/
structure Chan where
  /-- The last complete result was faulted; none before the first since a reset, STANDBY exit or enabling (R137). -/
  episode : Option Bool
  /-- The last result: value, status, tide tick (R165). -/
  last : Option (Word × SrcStatus × Nat)
  /-- The last delivered value, for the band (R164). -/
  prev : Option Word
  /-- Consecutive small results (R159), and a narrowing not yet followed by a result. -/
  narrow : Nat
  narrowed : Bool
  /-- Outputs in fast mode that still carry RANGING (R159). -/
  rangingLeft : Nat
  cjLost : Bool
  tClamp : Bool
  curveEmpty : Bool
  /-- The channel has gone STALE behind a result that the filter engine has not delivered yet: STALE follows it (R150,
  R160). -/
  staleDue : Bool
deriving DecidableEq, Repr

/-- Scanning, channels, curve memory. -/
structure Afe where
  grps : List (Nat × Grp)
  chans : List (Nat × Chan)
  /-- A burst is running (R148). -/
  burst : Bool
  /-- Boundary 0 of the bursts, the period in effect, boundaries skipped by the running burst (R148, R150). -/
  base : Nat
  period : Nat
  skipped : Nat
  /-- PERIOD was written during the running burst: the boundaries are counted afresh at its end (R150). -/
  recount : Bool
  /-- Sensors read since the reset, and those whose last reading was out of range (R144). -/
  tsRead : List Nat
  tsBad : List Nat
  /-- Active user curves by ID, 256 words each; no entry is an empty curve (R167, R168). -/
  curves : List (Nat × Curve)
  /-- The curve under load (R168). -/
  load : Option Nat
deriving DecidableEq, Repr

/-- Repeaters and discrete outputs beside their pages. -/
structure Outs where
  /-- Repeater outputs that have taken the staged set of the pending commit (R175). -/
  repTaken : Nat
  /-- Repeater outputs that have driven a value since the last fault drive (R172). -/
  repValued : Nat
  /-- Commanded states of DO outputs with SRC 2 to 4, before INV (R177). -/
  doCmd : Nat
  /-- Outputs in an overload pause: output and tide tick (R178). -/
  ovlAt : List (Nat × Nat)
  /-- Outputs on a retry whose first tick has not passed (R178). -/
  retry : Nat
  /-- COUNT points whose count has changed since the last delivery (R184). -/
  dirty : List Nat
  /-- Outputs that an enabled call unit switches on (R177, R247). -/
  callOn : Nat
  /-- The levels of the last DI sample while VFIELD is good (R176). -/
  diPrev : Option Nat
deriving DecidableEq, Repr

/-! The duty call (chapter 9). -/

/-- An occurrence that a call-capable node tracks (R246, R250): a point of a node, or its dead-man watch, whose
number stands above every point index. -/
structure Occ where
  cls : Nat
  node : Nat
  point : Nat
  inst : Nat
  /-- It holds its call open; a cancelled one does not any more (R254). -/
  held : Bool
deriving DecidableEq, Repr

/-- An open call, or its shadow (R246, R250, R252). -/
structure Call where
  cls : Nat
  /-- 1 to 3 = STAGE1 to STAGE3, 4 = ACCEPTED (R261). -/
  stage : Nat
  acceptBy : Nat
  /-- Tide tick at which the stage or the attendance expires. -/
  deadline : Option Nat
  part : Bool
  /-- The unit addresses it drives, as last sent. -/
  units : List Nat
  /-- Units logged as unreachable for this call (R248). -/
  logged : List Nat
  /-- MIN_PRIO of its class as the call opened (R255). -/
  minPrio : Nat
deriving DecidableEq, Repr

/-- A local unit named by a call frame (R247). -/
structure Named where
  origin : Nat
  cls : Nat
  unit : Nat
  at_ : Nat
deriving DecidableEq, Repr

structure CallState where
  /-- Open calls by rising class. -/
  calls : List Call
  occs : List Occ
  /-- The last unit frame of each node: units and tide tick (R248). -/
  frames : List (Nat × (Nat × Nat))
  named : List Named
  /-- Tide ticks of the last start of the watch's timer and of its entry to PREWARN (R256). -/
  dmAt : Nat
  flashAt : Nat
  /-- Classes merged, and logged, since the last rejoin (R260). -/
  merged : List Nat
deriving DecidableEq, Repr

/-! Field-bus segments (chapter 11). -/

/-- A frame of a mailbox under transmission and its retries (R299, R300, R301). -/
structure TxTry where
  mbx : Nat
  /-- The snapshot sent in every attempt. -/
  snap : CanFrame
  /-- Retransmissions made. -/
  made : Nat
  /-- A return trip is pending. -/
  trip : Bool
  /-- TX_LASTING has been raised for the frame. -/
  lasting : Bool
  /-- The frame is the segment's kept frame (R308). -/
  kept : Bool
  /-- The frame is the kept frame of another segment (R309). -/
  fromSeg : Option Nat
  /-- A cancel waits for the end of the attempt. -/
  cancel : Bool
deriving DecidableEq, Repr

/-- Automatic bit-rate detection (R312). -/
structure Detect where
  /-- The candidates that passed R292, ascending, and those left in this round. -/
  cands : List Nat
  left : List Nat
  round : Nat
  /-- Consecutive error-free frames, and whether one of them carried BRS. -/
  streak : Nat
  brs : Bool
  /-- Tide tick at which listening began. -/
  at_ : Nat
deriving DecidableEq, Repr

/-- One segment beside its page and window. -/
structure Seg where
  /-- The frame in arbitration or transmission. -/
  tx : Option TxTry
  /-- Frames that wait for their next attempt. -/
  tries : List TxTry
  /-- Shadow buffers, 18 words each, by mailbox (R297). -/
  shadows : List (Nat × List Word)
  /-- Receive mailboxes that took a frame since their last expectation (R306). -/
  seen : List Nat
  /-- The kept frame's snapshot (R308). -/
  kept : Option CanFrame
  /-- Time left in the current slot in µs at the last start decision; whether its exclusive mailbox has been started
  in it, or has been reported as missed (R302, R304). -/
  left : Nat
  sent : Bool
  missed : Bool
  /-- The matrix starts when the segment has integrated (R303). -/
  restart : Bool
  /-- Tide ticks of the entry to bus-off and of the last PAGE_COMMIT (R293, R307). -/
  boffAt : Nat
  commitAt : Nat
  det : Option Detect
  /-- The segment has taken the staged set of the pending SAIL commit (R317). -/
  taken : Bool
  /-- Mailboxes whose last attempt ended in a bit error in the DLC, data or CRC field (R301). -/
  bitErrs : List Nat
deriving DecidableEq, Repr

/-! The lantern panel (chapter 17). -/

/-- Where the panel's drive stands (R465). -/
inductive PanelPwr where
  /-- Rows and columns high-impedance. -/
  | dark
  /-- The power-on discharge. -/
  | rising
  /-- Frames run. -/
  | lit
  /-- The power-off precharge. -/
  | falling
deriving DecidableEq, Repr

/-- The panel beside its page and windows. -/
structure Panel where
  pwr : PanelPwr
  /-- Display states by window, as the engine last wrote them and as latched; unlisted: 0 (R463). -/
  table : List (Nat × Nat)
  latched : List (Nat × Nat)
  /-- States written through HOSTWIN (R457). -/
  hostWin : List (Nat × Nat)
  /-- A tide-tick boundary that is a multiple of 32 has passed since the last latching (R464). -/
  slowDue : Bool
  /-- The derating band that the last readings ask for (R461). -/
  bandWant : Nat
  /-- Region requests not yet latched: region, LEVEL, FADE (R462). -/
  requests : List (Nat × (Nat × Nat))
  /-- Fades in progress: region, C0, LEVEL, FADE and the last step taken. -/
  fades : List (Nat × (Int × Nat × Nat × Nat))
  /-- Tide tick at which the host's lamp test, and the input's, began (R466). -/
  hostTest : Option Nat
  inputTest : Option Nat
  /-- The input's 60 s are over and it has not read low since. -/
  inputSpent : Bool
  /-- The levels of the frame by LED, where not 0 (R459). -/
  levels : List (Nat × Nat)
  /-- The row whose slot comes next in the frame; 16 once the last has ended (R455). -/
  row : Nat
  /-- A power-off sequence is asked for and waits for the end of the row slot (R465). -/
  offDue : Bool
  /-- Tide tick of the last reading of the driver temperature since the panel lit (R461). -/
  tempAt : Option Nat
  /-- The lamp-test input is high, as last accepted (R466). -/
  inputHigh : Bool
deriving DecidableEq, Repr

/-! The real-time clock (chapter 16). -/

/-- The RTC beside its page. -/
structure Rtc where
  /-- Bits [6:0] of the prescaler (R440). -/
  pre : Nat
  /-- The trim in effect in the running window (R443). -/
  trim : Nat
  /-- A halt waits for the next tick (R447). -/
  haltPend : Bool
  /-- TIME_LO and TIME_HI at the moment the halt took effect, or at the first write of them after the halt was asked
  for. -/
  haltTime : Option (Word × Word)
  /-- The shadows of hosts A and B (R446). -/
  shadowA : Option (Word × Word)
  shadowB : Option (Word × Word)
  /-- OSF set at a start that went into the test-mode hold: OSF_SET waits for the next start (R41, R449). -/
  osfDue : Bool
deriving DecidableEq, Repr

/-! Base image, timetables, keys (chapter 10). -/

/-- A switch request: timetable, source (0 power-up or install, 1 host, 2 point, 3 mode broadcast), binding, duty
node (R279, R288). -/
structure SwitchReq where
  tt : Nat
  src : Nat
  trig : Nat
  node : Nat
deriving DecidableEq, Repr

/-- A write or an erase of NOR that the gate of R55 holds (R56). -/
inductive NorOp where
  | write (a : Nat) (bs : List Byte)
  | erase (a n : Nat)
deriving DecidableEq, Repr

/-- Base image and timetables beside the TTB and SEC pages. -/
structure Tt where
  /-- The running base image (R263); empty when unconfigured. -/
  image : List Byte
  /-- KEY_SLOT of the image a restart would use (R266, R278). -/
  norKey : Nat
  /-- The timetables in engine SRAM, by slot (R273, R278). -/
  loaded : List (Nat × List Byte)
  /-- The always timetable and the selected one, as applied; empty for none (R277). -/
  always : List Byte
  active : List Byte
  /-- The switch being applied and the one queued (R282, R283). -/
  pending : Option SwitchReq
  queued : Option SwitchReq
  /-- The applied timetable asked for STANDBY (R284). -/
  standbyAsk : Bool
  /-- Kept levels of the trigger bindings; no entry is undefined (R280). -/
  levels : List (Nat × Bool)
  /-- An install under way: slot and validated copy (R278). -/
  install : Option (Nat × List Byte)
  /-- A load under way (R270): whether copy 2 is being erased, the bytes of the page being filled, whether copy 1 is
  being rewritten, and the length in force. -/
  erasing : Bool
  page : List Byte
  copying : Bool
  len : Nat
  /-- NOR writes and erases held by the gate of R55, oldest first (R56). -/
  norHeld : List NorOp
  /-- The one-time-programmable key slots, those revoked, AUTH_REQ (R269). -/
  keys : List (Nat × List Byte)
  revoked : Nat
  authReq : Bool
  /-- A key being programmed: slot and bytes. -/
  keyCmd : Option (Nat × List Byte)
  /-- Background repairs of NOR: source, destination, bytes (R267, R278). -/
  repairs : List (Nat × Nat × Nat)
  /-- Base addresses of the copies and slots of NOR whose reads fail for good (R262). -/
  norBad : List Nat
  /-- How the read of copy 2 at the END of the load under way will go: what a command that may carry an END says of it
  (R262, R348). -/
  endRead : NorRead
  /-- The always timetable and the selected one that step 2 has composed and checked for the switch being applied
  (R282). -/
  plan : List Byte × List Byte
deriving DecidableEq, Repr

/-! The safety functions (chapter 14). -/

/-- States of an input pair, in the codes of R411. -/
inductive PairSt where
  | unused | run | demand | disagree | faultDisc | faultTp | oneHand | syncFail
deriving DecidableEq, Repr

def PairSt.code : PairSt → Nat
  | .unused => 0 | .run => 1 | .demand => 2 | .disagree => 3 | .faultDisc => 4 | .faultTp => 5 | .oneHand => 6
  | .syncFail => 7

/-- States of a safe-output pair, in the codes of R411. -/
inductive OutSt where
  | unused | off | ready | on | faultRb | faultEdm
deriving DecidableEq, Repr

def OutSt.code : OutSt → Nat
  | .unused => 0 | .off => 1 | .ready => 2 | .on => 3 | .faultRb => 4 | .faultEdm => 5

/-- States of the chain, in the codes of R411. -/
inductive ChainSt where
  | noMember | closed | opened | establishing | fault
deriving DecidableEq, Repr

def ChainSt.code : ChainSt → Nat
  | .noMember => 0 | .closed => 1 | .opened => 2 | .establishing => 3 | .fault => 4

/-- States of a connection, in the codes of R411. -/
inductive ConnSt where
  | unused | starting | run | timeout
deriving DecidableEq, Repr

def ConnSt.code : ConnSt → Nat
  | .unused => 0 | .starting => 1 | .run => 2 | .timeout => 3

/-- An input pair in one channel (R384 to R387). Times count the channel's samples of 0.1 ms. -/
structure SPair where
  st : PairSt
  /-- Start of the discrepancy or synchronism timer. -/
  since : Nat
  /-- Start of a hand's disagreement: left, right (R387). -/
  disL : Option Nat
  disR : Option Nat
  /-- Two consecutive pulse checks have failed (R383). -/
  tpBad : Bool
deriving DecidableEq, Repr

/-- A safe-output pair in one channel (R390 to R394). -/
structure SOut where
  st : OutSt
  manual : Bool
  /-- The permit and the REMOTE bits of the last cycle (R391). -/
  permit : Bool
  remote : Nat
  /-- Switched on, EDM not yet seen at 0 since this time; not on, EDM at 0 since this time (R394). -/
  wait : Option Nat
  low : Option Nat
  /-- A readback check has failed (R393). -/
  rbBad : Bool
deriving DecidableEq, Repr

/-- A connection in one channel (R399, R400). -/
structure SConn where
  st : ConnSt
  rxPermit : Nat
  /-- The time up to which the data is fresh, and whether a parcel was accepted since the last cycle. -/
  fresh : Nat
  got : Bool
  rxLast : Option Nat
  /-- The last 32 consecutive numbers sent and when, newest first. -/
  sent : List (Nat × Nat)
deriving DecidableEq, Repr

/-- One safety channel (R378, R379). -/
structure SCh where
  /-- Samples taken, cycles run, and cycles run since the other channel's last (R380). -/
  t : Nat
  cyc : Nat
  alone : Nat
  /-- Raw and filtered levels: SI*n*A in bit 2n, SI*n*B in bit 2n + 1, SACK*k* in bit 32 + k, CHN_IA and CHN_IB in bits
  36 and 37; and for each the samples for which the raw level has differed (R382). -/
  raw : BitVec 38
  filt : BitVec 38
  cnt : List (Nat × Nat)
  sb : BitVec 16
  edm : BitVec 8
  /-- When each filtered SACK level last changed, and edges that wait for the next cycle (R388). -/
  sackAt : List (Nat × Nat)
  edges : Nat
  /-- Up to when a readback of each wire is not judged: wire A of pair m in m, wire B in 8 + m (R393). -/
  quiet : List (Nat × Nat)
  /-- Consecutive failed pulse checks by input (R383). -/
  tpFails : List (Nat × Nat)
  pairs : List SPair
  outs : List SOut
  chain : ChainSt
  /-- Start of a disagreement of the chain inputs (R402). -/
  chainDis : Option Nat
  /-- Permits of the last cycle: pairs, chain (R391). -/
  permits : Nat
  chainPermit : Bool
  conns : List (Nat × SConn)
  /-- Consecutive cycles in which the other channel's states differed (R380). -/
  differs : Nat
  /-- Up to when the channel's wire of each output pair is off for a dark test, and its chain output for a dark pulse (R393,
  R403). -/
  dark : List (Nat × Nat)
  chainDark : Nat
deriving DecidableEq, Repr

/-- What the CONN registers hold for a connection (R412), and when CONN_ERROR was last raised for it. -/
structure SConnReg where
  txLast : Nat
  integrity : Nat
  timeouts : Nat
  ageLast : Nat
  ageMax : Nat
  errAt : Option Nat
deriving DecidableEq, Repr

/-- Where the writing of a safety configuration stands (R410). -/
inductive CfgStage where
  | erasing | ready | copying
deriving DecidableEq, Repr

/-- The safety functions beside the SAFE and SEAL pages. -/
structure Safe where
  chA : SCh
  chB : SCh
  /-- The configuration in effect; empty for none. -/
  cfg : List Byte
  /-- The seal switches and SEAL_WE as channel A's input stage reads them, and as accepted (R378, R405, R406). -/
  code : BitVec 8
  we : Bool
  accCode : BitVec 8
  accWe : Bool
  /-- The chain inputs as the unfiltered path sees them (R401). -/
  chnA : Bool
  chnB : Bool
  /-- Inputs whose filtered levels differ between the channels, and since when by channel A (R380). -/
  diff : List (Nat × Nat)
  /-- SACK inputs declared stuck (R388). -/
  stuck : Nat
  regs : List (Nat × SConnReg)
  /-- The last 256 parcels forwarded: origin, CONN_ID, CNUM; newest first (R398). -/
  seen : List (Nat × Nat × Nat)
  /-- A configuration being written: slot, stage, words received. -/
  write : Option (Nat × CfgStage × Nat)
  /-- A background rewriting of copy A of a slot (R405). -/
  repair : Option Nat
  /-- The seal switches as channel B's input stage reads them, SEAL_WE in bit 8, and as accepted (R378, R406). -/
  sealB : BitVec 9
  accSealB : BitVec 9
  /-- The sample of channel B at the last change of a seal switch (R405, R413). -/
  sealAt : Nat
deriving DecidableEq, Repr

/-- The state of the block. -/
structure State where
  /-- The commands that wait, first in, first out (the block cut). Reset: empty. -/
  pending : List Instr
  /-- The model's own: how many free values have been drawn. Reset: 0 (DESIGN CHOICE, log entry 9). -/
  freeCount : Nat
  /-- Model and silicon revision (R1, R5). Per part: an FYN-7256S of revision B1 (DESIGN CHOICE, log entry 2). -/
  part : Part
  /-- What the node as a whole is doing (R80, R27, R41, R23). Reset: a class C reset in progress. -/
  phase : Phase
  /-- The reset in progress or the last one (R80 to R85). -/
  rst : RstState
  /-- Supervisor and power state (R52 to R64). Service seconds and cycles of a new part: 0 (log entry 3). -/
  pwr : Pwr
  /-- Every register that is one for both hosts, by host address: only words that differ from the map's reset word are listed (R93, R10). -/
  regs : List (Nat × Word)
  /-- Host A's copies of the registers kept per host (R116). -/
  regsA : List (Nat × Word)
  /-- Host B's copies of the registers kept per host (R116). -/
  regsB : List (Nat × Word)
  /-- The staged values of every page (R96). Reset: none. -/
  staged : List StagedWord
  /-- Lasting block faults: page and code 0x40 to 0xFD (R95). Reset: none. -/
  lasting : List (Nat × Nat)
  /-- The high halves of 64-bit registers, by the address of the LO register, captured by a read of it (R93, R377, R351). Reset: 0. -/
  lastHi : List (Nat × Nat)
  /-- Host port HA (R101, R102). -/
  portA : HostPort
  /-- Host port HB (R101, R102). -/
  portB : HostPort
  /-- Ownership requests (R110 to R112). -/
  own : Ownership
  /-- The ordering unit (R352 to R377). Tally and ceiling of a new part: 0 (log entry 3). -/
  ord : Ord
  /-- The logbook (chapter 15). A new part holds no record (log entry 3). -/
  lg : Log
  /-- The point engine (chapters 7 and 8). -/
  eng : Eng
  /-- The bytes of the windows of R90 that are memory, by host address (user curve k at 0xC40000 + 0x400 k, behind the aperture of R167): manifest, curves, timetable staging, sailing matrix and mailboxes, panel map. Unlisted: 0 (log entry 4). -/
  win : List (Nat × Byte)
  /-- The 32 MiB NOR flash (R13, R262). Unlisted: 0xFF, erased (log entry 3). -/
  nor : List (Nat × Byte)
  /-- What the block has driven towards the outside, in order: the model's own record of its pins. Reset: empty. -/
  out : List Output
  /-- Crossing ports XP0 to XP3 (R318 to R328). -/
  xp : List XPort
  /-- Crossing membership, streams and transfers (R329 to R348). Reset: present is empty but for the own node, which always counts. -/
  xnet : Xnet
  /-- Point events delivered to the duty-call engine and not yet tracked (R15, R245). Reset: none. -/
  callIn : List Rec
  /-- Scanning, channels and curve memory (chapters 5 and 6). -/
  afe : Afe
  /-- Repeater and discrete outputs beside their pages (R171 to R178). -/
  outs : Outs
  /-- The duty call: calls or their shadow, tracked occurrences, units, the dead-man watch (chapter 9). -/
  call : CallState
  /-- Field-bus segments beside their pages and window (chapter 11); unlisted: nothing under way. -/
  segs : List (Nat × Seg)
  /-- The lantern panel beside its page (chapter 17). -/
  panel : Panel
  /-- The real-time clock beside its page (chapter 16). -/
  rtc : Rtc
  /-- Base image, timetables and key slots beside their pages (chapter 10). A new part: no image, no key (log entry 3). -/
  tt : Tt
  /-- The safety functions beside the SAFE and SEAL pages (chapter 14). Reset: no configuration; seal switches open (DESIGN CHOICE, log entry 5). -/
  safe : Safe
deriving DecidableEq, Repr

/-- The node at the start of its first reset of class C: nothing configured, ALERT_N low, START_UP to come. -/
def State.reset : State where
  pending := []
  freeCount := 0
  part := ⟨true, 2, 1⟩
  phase := .starting
  rst := ⟨.c, 0, 0, false, false, false, false, []⟩
  pwr := ⟨0, 0, 0, 0, false, true, none, none, true, [], [], false, false⟩
  regs := []
  regsA := []
  regsB := []
  staged := []
  lasting := []
  lastHi := []
  portA := ⟨[], [], none⟩
  portB := ⟨[], [], none⟩
  own := ⟨none, none⟩
  ord := ⟨0, 0, true, true, none, none, [], [], none, 0⟩
  lg := ⟨[], [], [], [], none, [], [], 0, none, none, none, false, false, 0, false, 0, 0, 1, 0, 0, ⟨false, false, 0, 0, 0, 0, 0, [], 0, 0, []⟩⟩
  eng := ⟨[], [], [], [], [], [], [], [], [], [], 0, none, [], none, none, []⟩
  win := []
  nor := []
  out := []
  xp := [⟨[], false, false, false, 0, false, false, false, 0⟩, ⟨[], false, false, false, 0, false, false, false, 0⟩, ⟨[], false, false, false, 0, false, false, false, 0⟩, ⟨[], false, false, false, 0, false, false, false, 0⟩]
  xnet := ⟨1, 0, 0, 0, 0, [], 0, none, 0, false, [], ⟨none, 0, none, 0, []⟩, ⟨none, 0, none, 0, []⟩, [], [], [], none, [], 0, 0, none, none⟩
  callIn := []
  afe := ⟨[], [], false, 0, 0, 0, false, [], [], [], none⟩
  outs := ⟨0, 0, 0, [], 0, [], 0, none⟩
  call := ⟨[], [], [], [], 0, 0, []⟩
  segs := []
  panel := ⟨.dark, [], [], [], false, 0, [], [], none, none, false, [], 0, false, none, false⟩
  rtc := ⟨0, 0, false, none, none, none, false⟩
  tt := ⟨[], 0, [], [], [], none, none, false, [], none, false, [], false, 0, [], [], 0, false, none, [], [], .ok, ([], [])⟩
  safe := ⟨⟨0, 0, 0, 0, 0, [], 0, 0, [], 0, [], [], [], [], .noMember, none, 0, false, [], 0, [], 0⟩, ⟨0, 0, 0, 0, 0, [], 0, 0, [], 0, [], [], [], [], .noMember, none, 0, false, [], 0, [], 0⟩, [], 0, false, 0, false, false, false, [], 0, [], [], none, none, 0, 0, 0⟩

end Sys2Proof.Machine
end

