-- ==== Sys2Proof/Machine/Access.lean ====
section
/-!
DEFINITION. One setter for each field of State: every update of the state goes through these.
-/

namespace Sys2Proof.Machine

/-- The state with `pending` replaced. -/
def State.withPending (s : State) (v : List Instr) : State := { s with pending := v }
/-- The state with `freeCount` replaced. -/
def State.withFreeCount (s : State) (v : Nat) : State := { s with freeCount := v }
/-- The state with `part` replaced. -/
def State.withPart (s : State) (v : Part) : State := { s with part := v }
/-- The state with `phase` replaced. -/
def State.withPhase (s : State) (v : Phase) : State := { s with phase := v }
/-- The state with `rst` replaced. -/
def State.withRst (s : State) (v : RstState) : State := { s with rst := v }
/-- The state with `pwr` replaced. -/
def State.withPwr (s : State) (v : Pwr) : State := { s with pwr := v }
/-- The state with `regs` replaced. -/
def State.withRegs (s : State) (v : List (Nat × Word)) : State := { s with regs := v }
/-- The state with `regsA` replaced. -/
def State.withRegsA (s : State) (v : List (Nat × Word)) : State := { s with regsA := v }
/-- The state with `regsB` replaced. -/
def State.withRegsB (s : State) (v : List (Nat × Word)) : State := { s with regsB := v }
/-- The state with `staged` replaced. -/
def State.withStaged (s : State) (v : List StagedWord) : State := { s with staged := v }
/-- The state with `lasting` replaced. -/
def State.withLasting (s : State) (v : List (Nat × Nat)) : State := { s with lasting := v }
/-- The state with `lastHi` replaced. -/
def State.withLastHi (s : State) (v : List (Nat × Nat)) : State := { s with lastHi := v }
/-- The state with `portA` replaced. -/
def State.withPortA (s : State) (v : HostPort) : State := { s with portA := v }
/-- The state with `portB` replaced. -/
def State.withPortB (s : State) (v : HostPort) : State := { s with portB := v }
/-- The state with `own` replaced. -/
def State.withOwn (s : State) (v : Ownership) : State := { s with own := v }
/-- The state with `ord` replaced. -/
def State.withOrd (s : State) (v : Ord) : State := { s with ord := v }
/-- The state with `lg` replaced. -/
def State.withLg (s : State) (v : Log) : State := { s with lg := v }
/-- The state with `eng` replaced. -/
def State.withEng (s : State) (v : Eng) : State := { s with eng := v }
/-- The state with `win` replaced. -/
def State.withWin (s : State) (v : List (Nat × Byte)) : State := { s with win := v }
/-- The state with `nor` replaced. -/
def State.withNor (s : State) (v : List (Nat × Byte)) : State := { s with nor := v }
/-- The state with `out` replaced. -/
def State.withOut (s : State) (v : List Output) : State := { s with out := v }
/-- The state with `xp` replaced. -/
def State.withXp (s : State) (v : List XPort) : State := { s with xp := v }
/-- The state with `xnet` replaced. -/
def State.withXnet (s : State) (v : Xnet) : State := { s with xnet := v }
/-- The state with `callIn` replaced. -/
def State.withCallIn (s : State) (v : List Rec) : State := { s with callIn := v }
/-- The state with `afe` replaced. -/
def State.withAfe (s : State) (v : Afe) : State := { s with afe := v }
/-- The state with `outs` replaced. -/
def State.withOuts (s : State) (v : Outs) : State := { s with outs := v }
/-- The state with `call` replaced. -/
def State.withCall (s : State) (v : CallState) : State := { s with call := v }
/-- The state with `segs` replaced. -/
def State.withSegs (s : State) (v : List (Nat × Seg)) : State := { s with segs := v }
/-- The state with `panel` replaced. -/
def State.withPanel (s : State) (v : Panel) : State := { s with panel := v }
/-- The state with `rtc` replaced. -/
def State.withRtc (s : State) (v : Rtc) : State := { s with rtc := v }
/-- The state with `tt` replaced. -/
def State.withTt (s : State) (v : Tt) : State := { s with tt := v }
/-- The state with `safe` replaced. -/
def State.withSafe (s : State) (v : Safe) : State := { s with safe := v }

end Sys2Proof.Machine
end

