-- ==== Sys2Proof/Machine/Float32.lean ====
section
/-!
DEFINITION. IEEE 754 binary32 arithmetic with round-to-nearest-even (R163, R189, R191, R207): every operation
forms the exact result and rounds it once. A not-a-number result is the quiet pattern 0x7FC0_0000 (the spec
only tests whether a result is finite).
-/

namespace Sys2Proof.Machine

namespace F32

def inf : Nat := 0x7F800000
def nan : Word := 0x7FC00000

def neg (w : Word) : Bool := w.toNat.testBit 31
def expField (w : Word) : Nat := getBits w 30 23
def frac (w : Word) : Nat := getBits w 22 0
def isFinite (w : Word) : Bool := decide (expField w ≠ 255)
def isNan (w : Word) : Bool := decide (expField w = 255 ∧ frac w ≠ 0)
def isInf (w : Word) : Bool := decide (expField w = 255 ∧ frac w = 0)

/-- The significand of a finite number. -/
def mant (w : Word) : Nat := if expField w = 0 then frac w else frac w + 2 ^ 23

/-- The power of two of the significand's last bit, plus 149. -/
def exp149 (w : Word) : Nat := if expField w = 0 then 0 else expField w - 1

/-- The signed significand. -/
def sig (w : Word) : Int := if neg w then - (mant w : Int) else (mant w : Int)

/-- Round `m · 2^e` (with `sticky` for a non-zero remainder below it) to nearest, ties to even. -/
def round (sgn : Bool) (m : Nat) (e : Int) (sticky : Bool) : Word :=
  let s : Nat := if sgn then 0x80000000 else 0
  if m = 0 then BitVec.ofNat 32 s
  else
    let q : Int := max ((Nat.log2 m : Int) + e - 23) (-149)
    let r : Nat :=
      if q ≤ e then m <<< (e - q).toNat
      else
        let sh := (q - e).toNat
        let b := m >>> sh
        let rem := m % 2 ^ sh
        let half := 2 ^ (sh - 1)
        if half < rem ∨ (rem = half ∧ (sticky ∨ b % 2 = 1)) then b + 1 else b
    let bits := (q + 149).toNat * 2 ^ 23 + r
    BitVec.ofNat 32 (s + (if inf ≤ bits then inf else bits))

/-- Round an integer multiple of 2^e. -/
def ofScaled (n : Int) (e : Int) : Word := round (decide (n < 0)) n.natAbs e false

/-- An integer rounded to binary32. -/
def ofInt (n : Int) : Word := ofScaled n 0

/-- The quotient of two integers, rounded once; the divisor is positive. -/
def ofRatio (n : Int) (d : Nat) : Word :=
  let k := Nat.log2 d + 64
  let a := n.natAbs <<< k
  round (decide (n < 0)) (a / d) (-(k : Int)) (decide (a % d ≠ 0))

/-- The exact value of a finite number as an integer multiple of 2^(−149). -/
def scaled (w : Word) : Int := sig w * (2 ^ exp149 w : Nat)

def negate (w : Word) : Word := w ^^^ 0x80000000
def abs (w : Word) : Word := BitVec.ofNat 32 (w.toNat % 2 ^ 31)

/-- Sum. -/
def add (a b : Word) : Word :=
  if isNan a || isNan b then nan
  else if isInf a then (if isInf b && neg a != neg b then nan else a)
  else if isInf b then b
  else
    let n := scaled a + scaled b
    if n = 0 then (if neg a && neg b then 0x80000000 else 0) else ofScaled n (-149)

/-- Difference. -/
def sub (a b : Word) : Word := add a (negate b)

/-- Fused multiply-add: a · b + c, rounded once. -/
def fma (a b c : Word) : Word :=
  let ps := neg a != neg b
  if isNan a || isNan b || isNan c then nan
  else if isInf a || isInf b then
    if (isInf a && mant b = 0 && isFinite b) || (isInf b && mant a = 0 && isFinite a) then nan
    else if isInf c && neg c != ps then nan
    else BitVec.ofNat 32 (inf + (if ps then 0x80000000 else 0))
  else if isInf c then c
  else
    let n := scaled a * scaled b + scaled c * (2 ^ 149 : Nat)
    if n = 0 then (if ps && neg c then 0x80000000 else 0) else ofScaled n (-298)

/-- Product. -/
def mul (a b : Word) : Word :=
  let ps := neg a != neg b
  if isNan a || isNan b then nan
  else if isInf a || isInf b then
    if (isInf a && mant b = 0 && isFinite b) || (isInf b && mant a = 0 && isFinite a) then nan
    else BitVec.ofNat 32 (inf + (if ps then 0x80000000 else 0))
  else round ps (mant a * mant b) ((exp149 a : Int) + (exp149 b : Int) - 298) false

/-- Quotient. -/
def div (a b : Word) : Word :=
  let ps := neg a != neg b
  let s : Nat := if ps then 0x80000000 else 0
  if isNan a || isNan b then nan
  else if isInf a then (if isInf b then nan else BitVec.ofNat 32 (inf + s))
  else if isInf b then BitVec.ofNat 32 s
  else if mant b = 0 then (if mant a = 0 then nan else BitVec.ofNat 32 (inf + s))
  else
    let n := mant a <<< 64
    round ps (n / mant b) ((exp149 a : Int) - (exp149 b : Int) - 64) (decide (n % mant b ≠ 0))

/-- a < b on numbers; false when either is not a number. -/
def lt (a b : Word) : Bool :=
  if isNan a || isNan b then false
  else if isInf a then neg a && !(isInf b && neg b)
  else if isInf b then !neg b
  else decide (scaled a < scaled b)

def le (a b : Word) : Bool := !isNan a && !isNan b && !lt b a
def eq (a b : Word) : Bool := le a b && le b a

/-- The largest integer not above the value, for a finite number. -/
def floor (w : Word) : Int := (scaled w) / (2 ^ 149 : Nat)

/-- The value times `n`, rounded to the nearest integer with halves away from zero, for a finite number. -/
def roundTimes (w : Word) (n d : Nat) : Int :=
  let x := (scaled w).natAbs * n
  let y := 2 ^ 149 * d
  let r := (2 * x + y) / (2 * y)
  if neg w then -(r : Int) else (r : Int)

end F32

end Sys2Proof.Machine
end

