-- ==== Sys2Proof/Config.lean ====
section
/-!
DEFINITION. What an implementation fixes and the spec leaves open. Every constant here is opaque: nothing can be
proved of its value.
-/

namespace Sys2Proof.Config

/-- The values the spec leaves open where the machine goes on, and the draws of the internal noise source
(R111, R431), by the number of the draw (log entry 9). -/
opaque freeValue : Nat → BitVec 64

/-- The words of the built-in curve records, by curve ID and word (R168): the spec gives their layout and their
names, not their coefficients (log entry 10). -/
opaque builtinCurveWord : Nat → Nat → BitVec 32

/-- Whether a point of another node belongs to a group, by node, point and group (R343: "Group membership is
known from those events", whose layout carries no group; log entry 11). -/
opaque remoteMember : Nat → Nat → Nat → Bool

end Sys2Proof.Config
end

