-- ==== Sys2Proof/Machine/Crc.lean ====
section
/-!
DEFINITION. The checks the spec names: CRC-16/CCITT (R107: polynomial 0x1021, initial value 0xFFFF, no
reflection, no final XOR, check value 0x29B1), CRC-32C (Castagnoli polynomial 0x1EDC_6F41), SHA-256 and
HMAC-SHA-256 (R8).
PRESUMED: CRC-32C in its standard form, reflected with initial value and final XOR 0xFFFF_FFFF; SHA-256 and
HMAC as their standards give them (log entry 8).
-/

namespace Sys2Proof.Machine

/-- One bit of a CRC-16/CCITT, most significant bit first (R107). -/
def crc16Bit (c : Nat) (b : Bool) : Nat :=
  let c' := (c * 2) % 0x10000
  if (c.testBit 15).xor b then c' ^^^ 0x1021 else c'

/-- The low `n` bits of `v`, most significant first, through a CRC-16. -/
def crc16Bits (c : Nat) (v : Nat) : Nat → Nat
  | 0 => c
  | n + 1 => crc16Bits (crc16Bit c (v.testBit n)) v n

/-- CRC-16/CCITT of bytes in order (R107). -/
def crc16 (bs : List Byte) : Nat := bs.foldl (fun c b => crc16Bits c b.toNat 8) 0xFFFF

/-- `n` shifts of a reflected CRC-32C register. -/
def crc32cShift (c : Nat) : Nat → Nat
  | 0 => c
  | n + 1 => crc32cShift (if c.testBit 0 then (c / 2) ^^^ 0x82F63B78 else c / 2) n

/-- The running register of a CRC-32C over bytes. -/
def crc32cRun (c : Nat) (bs : List Byte) : Nat := bs.foldl (fun c b => crc32cShift (c ^^^ b.toNat) 8) c

/-- CRC-32C of bytes in order. -/
def crc32c (bs : List Byte) : Nat := crc32cRun 0xFFFFFFFF bs ^^^ 0xFFFFFFFF

/-! The constants of SHA-256 are computed from what they are: the fractions of roots of primes. -/

/-- The largest `r` with `r ^ e ≤ n` whose binary digits above the lowest `k` are those of `r` already found. -/
def rootFrom (e n : Nat) : Nat → Nat → Nat
  | 0, r => r
  | k + 1, r => rootFrom e n k (if (r + 2 ^ k) ^ e ≤ n then r + 2 ^ k else r)

/-- The first 32 bits of the fraction of the `e`-th root of `p`, for a root below 32. -/
def rootFraction (e p : Nat) : Nat := rootFrom e (p * 2 ^ (32 * e)) 37 0 % 2 ^ 32

/-- No number from 2 to 18 but itself divides it: a prime, for a number from 2 to 360. -/
def smallPrime (n : Nat) : Bool := decide (2 ≤ n) && (List.range 17).all fun d => d + 2 == n || n % (d + 2) != 0

/-- The primes up to 311: the first sixty-four. -/
def shaPrimes : List Nat := (List.range 312).filter smallPrime

/-- The round constants: cube roots. -/
def shaRoundWords : List Nat := shaPrimes.map (rootFraction 3)

/-- The hash value before the first block: square roots of the first eight primes. -/
def shaStart : List Nat := (shaPrimes.take 8).map (rootFraction 2)

def rotr32 (x n : Nat) : Nat := (x >>> n) ||| ((x <<< (32 - n)) % 2 ^ 32)

/-- The next word of the message schedule from the last sixteen, newest first. -/
def sha256Sched (ws : List Nat) : Nat :=
  let w15 := nth ws 14 0
  let w2 := nth ws 1 0
  let s0 := rotr32 w15 7 ^^^ rotr32 w15 18 ^^^ (w15 >>> 3)
  let s1 := rotr32 w2 17 ^^^ rotr32 w2 19 ^^^ (w2 >>> 10)
  (nth ws 15 0 + s0 + nth ws 6 0 + s1) % 2 ^ 32

/-- One round on the working variables a to h. -/
def sha256Round (v : List Nat) (k w : Nat) : List Nat :=
  let a := nth v 0 0; let b := nth v 1 0; let c := nth v 2 0; let d := nth v 3 0
  let e := nth v 4 0; let f := nth v 5 0; let g := nth v 6 0; let h := nth v 7 0
  let s1 := rotr32 e 6 ^^^ rotr32 e 11 ^^^ rotr32 e 25
  let ch := (e &&& f) ^^^ ((2 ^ 32 - 1 - e) &&& g)
  let t1 := (h + s1 + ch + k + w) % 2 ^ 32
  let s0 := rotr32 a 2 ^^^ rotr32 a 13 ^^^ rotr32 a 22
  let maj := (a &&& b) ^^^ (a &&& c) ^^^ (b &&& c)
  let t2 := (s0 + maj) % 2 ^ 32
  [(t1 + t2) % 2 ^ 32, a, b, c, (d + t1) % 2 ^ 32, e, f, g]

/-- The rounds: the words still to use (oldest first), the last sixteen words (newest first), the constants. -/
def sha256Rounds (v : List Nat) (queue window : List Nat) : List Nat → List Nat
  | [] => v
  | k :: ks =>
    match queue with
    | w :: q => sha256Rounds (sha256Round v k w) q (w :: window) ks
    | [] =>
      let w := sha256Sched window
      sha256Rounds (sha256Round v k w) [] (w :: window.take 15) ks

def beWord (bs : List Byte) : Nat := bs.foldl (fun n b => n * 256 + b.toNat) 0

def beWords : Nat → List Byte → List Nat
  | 0, _ => []
  | n + 1, bs => beWord (bs.take 4) :: beWords n (bs.drop 4)

def beBytes : Nat → Nat → List Byte
  | 0, _ => []
  | n + 1, v => BitVec.ofNat 8 (v / 256 ^ n) :: beBytes n (v % 256 ^ n)

/-- The compression of one 64-byte block. -/
def sha256Block (h : List Nat) (blk : List Byte) : List Nat :=
  let v := sha256Rounds h (beWords 16 blk) [] shaRoundWords
  (h.zip v).map fun p => (p.1 + p.2) % 2 ^ 32

def sha256Blocks (h : List Nat) (bs : List Byte) : Nat → List Nat
  | 0 => h
  | n + 1 => sha256Blocks (sha256Block h (bs.take 64)) (bs.drop 64) n

/-- SHA-256 of bytes. -/
def sha256 (bs : List Byte) : List Byte :=
  let padded := bs ++ [0x80] ++ List.replicate ((119 - bs.length % 64) % 64) 0 ++ beBytes 8 (bs.length * 8)
  (sha256Blocks shaStart padded (padded.length / 64)).flatMap (beBytes 4)

/-- HMAC-SHA-256 with a key of at most 64 bytes. -/
def hmacSha256 (key msg : List Byte) : List Byte :=
  let k := key ++ List.replicate (64 - key.length) 0
  sha256 (k.map (· ^^^ 0x5C) ++ sha256 (k.map (· ^^^ 0x36) ++ msg))

end Sys2Proof.Machine
end

