-- ==== Sys2Proof/Machine/Ops.lean ====
section
/-!
DEFINITION. The named operations over the registers, memories, the ordering unit and the logbook's ingress: what
every meaning is written with.
-/

namespace Sys2Proof.Machine

/-! Registers and fields. -/

/-- The word of a register that is one for both hosts. -/
def State.reg (s : State) (a : Nat) : Word := Sparse.get regDefault s.regs a

/-- Write a register word. -/
def State.setReg (s : State) (a : Nat) (w : Word) : State := s.withRegs (Sparse.set regDefault s.regs a w)

/-- A field, as a number. -/
def State.get (s : State) (f : Fld) : Nat := getBits (s.reg f.addr) f.hi f.lo

/-- Write a field; bits above its width are dropped. -/
def State.put (s : State) (f : Fld) (v : Nat) : State := s.setReg f.addr (setBits (s.reg f.addr) f.hi f.lo v)

/-- A one-bit field. -/
def State.flag (s : State) (f : Fld) : Bool := s.get f != 0

def State.putFlag (s : State) (f : Fld) (b : Bool) : State := s.put f (b2n b)

/-- Add to a counter field that saturates. -/
def State.bumpSat (s : State) (f : Fld) (n : Nat) : State :=
  s.put f (sat (2 ^ (f.hi + 1 - f.lo) - 1) (s.get f + n))

/-- Add to a counter field that wraps. -/
def State.bumpWrap (s : State) (f : Fld) (n : Nat) : State := s.put f (s.get f + n)

/-- A host's own copy of a register kept per host (R116). -/
def State.regH (s : State) (h : HostId) (a : Nat) : Word :=
  match h with
  | .a => Sparse.get regDefault s.regsA a
  | .b => Sparse.get regDefault s.regsB a

def State.setRegH (s : State) (h : HostId) (a : Nat) (w : Word) : State :=
  match h with
  | .a => s.withRegsA (Sparse.set regDefault s.regsA a w)
  | .b => s.withRegsB (Sparse.set regDefault s.regsB a w)

def State.getH (s : State) (h : HostId) (f : Fld) : Nat := getBits (s.regH h f.addr) f.hi f.lo

def State.putH (s : State) (h : HostId) (f : Fld) (v : Nat) : State :=
  s.setRegH h f.addr (setBits (s.regH h f.addr) f.hi f.lo v)

/-! Hosts. -/

def hostIdx : HostId → Nat
  | .a => 0 | .b => 1

def otherHost : HostId → HostId
  | .a => .b | .b => .a

/-- The page of a host's port. -/
def hostPage (h : HostId) : Nat := 0x005 + hostIdx h

def State.port (s : State) (h : HostId) : HostPort :=
  match h with
  | .a => s.portA
  | .b => s.portB

def State.setPort (s : State) (h : HostId) (p : HostPort) : State :=
  match h with
  | .a => s.withPortA p
  | .b => s.withPortB p

/-- The owning host (R110). -/
def State.owner (s : State) : HostId := if s.flag F.sysOwnOwner then .b else .a

def State.isOwner (s : State) (h : HostId) : Bool := decide (s.owner = h)

/-! Free values. -/

/-- Draw a free value of `n` bits. -/
def State.draw (s : State) (n : Nat) : Nat × State :=
  ((Config.freeValue s.freeCount).toNat % 2 ^ n, s.withFreeCount (s.freeCount + 1))

/-- Draw a free 16-bit value that is never 0 (R111, R431). -/
def State.drawKey (s : State) : Nat × State :=
  ((Config.freeValue s.freeCount).toNat % 0xFFFF + 1, s.withFreeCount (s.freeCount + 1))

/-! Window and NOR bytes. -/

def winDefault : Nat → Byte := fun _ => 0
def norDefault : Nat → Byte := fun _ => 0xFF

/-- One byte of the windows, by host address. -/
def State.winByte (s : State) (a : Nat) : Byte := Sparse.get winDefault s.win a

/-- `n` bytes of the windows. -/
def State.winBytes (s : State) (a n : Nat) : List Byte := Sparse.getRange winDefault s.win a n

def State.setWinBytes (s : State) (a : Nat) (bs : List Byte) : State :=
  s.withWin (Sparse.setRange winDefault s.win a bs)

/-- A little-endian window word (R88). -/
def State.winWord (s : State) (a : Nat) : Word := BitVec.ofNat 32 (leNat (s.winBytes a 4))

def State.setWinWord (s : State) (a : Nat) (w : Word) : State := s.setWinBytes a (leBytes 4 w.toNat)

def State.norBytes (s : State) (a n : Nat) : List Byte := Sparse.getRange norDefault s.nor a n

def State.setNorBytes (s : State) (a : Nat) (bs : List Byte) : State :=
  s.withNor (Sparse.setRange norDefault s.nor a bs)

/-! Small reads used everywhere. -/

/-- TIDE.NOW (R214). -/
def State.now (s : State) : Nat := s.get F.tideNowNow

/-- Ticks from tick `t` to now, across the wrap of TIDE.NOW (R376). -/
def State.since (s : State) (t : Nat) : Nat := (s.now + 2 ^ 32 - t % 2 ^ 32) % 2 ^ 32

/-- The deadline tick `t` has been reached (R211, R376: within a window of 2^30 ticks). -/
def State.reached (s : State) (t : Nat) : Bool := decide ((s.now + 2 ^ 32 - t % 2 ^ 32) % 2 ^ 31 < 2 ^ 30)

/-- The tick `d` ticks from now. -/
def State.inTicks (s : State) (d : Nat) : Nat := (s.now + d) % 2 ^ 32

def State.nodeId (s : State) : Nat := s.get F.sysNodeIdNodeId
def State.epoch (s : State) : Nat := s.get F.xnetEpochEpoch
def State.gen (s : State) : Nat := s.get F.ttbGenGen
/-- The crossing state is Split (R340). -/
def State.isSplit (s : State) : Bool := decide (s.get F.xnetStatState = 2)
def State.gateClosed (s : State) : Bool := s.flag F.pwrStatNvmGated
def State.standby (s : State) : Bool := decide (s.get F.pwrStatState = 2)

/-- A base image is in effect. -/
def State.configured (s : State) : Bool := decide (s.phase = .running)

/-- The host ports answer accesses: not during BY_START, not in BACKUP, not in the test-mode hold (R36, R41). -/
def State.answers (s : State) : Bool :=
  match s.phase with
  | .running | .unconfigured => true
  | _ => false

/-- A page's block is enabled (R93). -/
def State.pageEn (s : State) (page : Nat) : Bool := s.flag (F.hdrPageCtlEn.page page)

/-! Events: EVT_RAW, LAST_TALLY, records. -/

/-- Set an EVT_RAW bit (R94). -/
def State.setRaw (s : State) (page bit : Nat) : State :=
  let a := page * 0x1000 + 0x00C
  s.setReg a (s.reg a ||| BitVec.ofNat 32 (2 ^ bit))

/-- Set a page's LAST_TALLY: the low word in its register, the high word behind it (R93). -/
def State.setLastTally (s : State) (page t : Nat) : State :=
  let a := page * 0x1000 + 0x028
  (s.setReg a (BitVec.ofNat 32 t)).withLastHi (Sparse.set (fun _ => 0) s.lastHi a (t / 2 ^ 32 % 2 ^ 32))

/-- Words of four bytes each (R419). -/
def payloadWords (ws : List Nat) : List Byte := (ws.take 6).flatMap (leBytes 4)

/-- The record code of a page's EVT bit (R417). -/
def evtCode (page bit : Nat) : Nat := page % 256 * 256 + bit

/-! Records. -/

/-- Pad or cut a payload to the 24 bytes of R415. -/
def pad24 (bs : List Byte) : List Byte := slice bs 0 24

/-- The 60 bytes that CRC covers (R415). -/
def Rec.body (r : Rec) : List Byte :=
  leBytes 8 r.tally ++ leBytes 2 r.node ++ leBytes 2 r.code ++ leBytes 1 r.sev ++ leBytes 1 r.flags
    ++ leBytes 2 r.epoch ++ leBytes 4 r.gen ++ leBytes 4 r.cycles ++ leBytes 5 r.svc ++ slice r.rtc 0 7 ++ pad24 r.payload

/-- The 64 bytes of a record, with its CRC-32C (R415). -/
def Rec.bytes (r : Rec) : List Byte := r.body ++ leBytes 4 (crc32c r.body)

/-- A record read from its bytes. -/
def Rec.ofBytes (bs : List Byte) : Rec :=
  { tally := leAt bs 0 8, node := leAt bs 8 2 % 1024, code := leAt bs 10 2, sev := leAt bs 12 1 % 8,
    flags := leAt bs 13 1 % 64, epoch := leAt bs 14 2, gen := leAt bs 16 4, cycles := leAt bs 20 4,
    svc := leAt bs 24 5, rtc := slice bs 29 7, payload := slice bs 36 24 }

/-- The key of a record: tally, then node (R414). -/
def Rec.key (r : Rec) : Nat := r.tally * 1024 + r.node

/-- The seven RTC bytes of R415, from the running time. -/
def State.rtcBytes (s : State) : List Byte :=
  leBytes 1 (s.get F.rtcTimeLoSubsec) ++ leBytes 1 (s.get F.rtcTimeLoSeconds) ++ leBytes 1 (s.get F.rtcTimeLoMinutes)
    ++ leBytes 1 (s.get F.rtcTimeLoHours + 32 * s.get F.rtcTimeHiWeekday) ++ leBytes 1 (s.get F.rtcTimeHiDate)
    ++ leBytes 1 (s.get F.rtcTimeHiMonth) ++ leBytes 1 (s.get F.rtcTimeHiYear)

/-- The flags of a record of the node's own: PARTITIONED and RTC_VALID (R415, R416). -/
def State.recFlags (s : State) : Nat := 16 * b2n s.isSplit + 32 * b2n (!s.flag F.rtcStatOsf)

/-- The record of an event stamped with tally `t` (R416). -/
def recOf (e : Evt) (t : Nat) (s : State) : Rec :=
  { tally := t, node := s.nodeId, code := e.code, sev := e.sev,
    flags := s.recFlags + (if e.kind = .summary then 4 else 0),
    epoch := s.epoch, gen := s.gen, cycles := s.pwr.cycles, svc := s.pwr.svc, rtc := s.rtcBytes,
    payload := pad24 e.payload }

/-! The logbook's ingress (R420 to R425). -/

/-- One of the node's own records is no longer held: from `goneFrom` on it counts, and so it does within a running replay
(R345). -/
def noteGone (r : Rec) (l : Log) : Log :=
  let own := r.flags % 2 == 0
  { l with
    gone := l.gone + b2n (own && decide (l.goneFrom ≤ r.tally))
    replayGone := l.replayGone + b2n (own && decide (l.replayLo ≤ r.tally) && decide (r.tally ≤ l.replayHi)) }

/-- Note a lost record in the pending loss range; a LOSS record of the node's own carries its counts on (R421, R424,
R425). -/
def noteLoss (r : Rec) (queue : Bool) (l : Log) : Log :=
  let p := l.loss.getD ⟨0, 0, r.tally, r.tally, r.sev⟩
  let own := r.code == 0x7821 && r.flags % 2 == 0
  let c := fun off n => if own then leAt r.payload off n else 0
  let lo := if own then min r.tally (leAt r.payload 8 8) else r.tally
  let hi := if own then max r.tally (leAt r.payload 16 8) else r.tally
  { noteGone r l with loss := some ⟨p.queue + b2n queue + c 0 4, p.full + b2n (!queue) + c 4 4, min p.tLo lo, max p.tHi hi, max p.sev r.sev⟩ }

/-- The lowest severity in a list of records; 8 for none. -/
def lowestSev (rs : List Rec) : Nat := rs.foldl (fun m r => min m r.sev) 8

/-- Remove the most recently arrived record of a severity. -/
def dropNewest (sev : Nat) (rs : List Rec) : List Rec :=
  (rs.reverse.eraseP fun r => r.sev == sev).reverse

/-- The most recently arrived record of a severity. -/
def newestOf (sev : Nat) (rs : List Rec) (d : Rec) : Rec := (rs.reverse.find? fun r => r.sev == sev).getD d

/-- The capacity of the ingress queue (R420). -/
def ingressMax : Nat := 256

/-- A record arrives at the ingress queue (R421); the log's own EVT bits form no record (R417). -/
def logPush (r : Rec) (s : State) : State :=
  let l := s.lg
  if l.ingress.length < ingressMax then
    let s := s.withLg { l with ingress := l.ingress ++ [r] }
    s.put F.logQueuePeak (max (s.get F.logQueuePeak) (l.ingress.length + 1))
  else
    let low := lowestSev l.ingress
    let lost := if low < r.sev then newestOf low l.ingress r else r
    let q := if low < r.sev then dropNewest low l.ingress ++ [r] else l.ingress
    let s := s.withLg (noteLoss lost true { l with ingress := q })
    (s.bumpSat F.logLossQueue 1).setRaw 0x078 3

/-- BURST and INTERVAL that apply to a code of a severity; none for no limit (R422). -/
def rateFor (code sev : Nat) (s : State) : Option (Nat × Nat) :=
  let k := (List.range 8).find? fun k => s.flag (F.logRateOvrEn.idx k) && s.get (F.logRateOvrCode.idx k) == code
  let bi := match k with
    | some k => (s.get (F.logRateOvrHiBurst.idx k), s.get (F.logRateOvrHiInterval.idx k))
    | none => (s.get (F.logRateBurst.idx sev), s.get (F.logRateInterval.idx sev))
  if bi.1 = 0 || bi.2 = 0 then none else some bi

/-- The codes R422 exempts: GAP, LAST_GASP, LOSS, SUMMARY. -/
def rateExempt (code : Nat) : Bool := code == 0x6580 || code == 0x7822 || code == 0x7821 || code == 0x7820

/-- A stamped record of the node's own reaches the logbook: rate limit, then the queue (R422, R421). -/
def logOwn (r : Rec) (s : State) : State :=
  if 5 < r.sev || rateExempt r.code then logPush r s
  else
    match rateFor r.code r.sev s with
    | none => logPush r s
    | some (burst, _) =>
      match s.lg.buckets.find? fun b => b.code == r.code with
      | none =>
        if 512 ≤ s.lg.buckets.length then logPush r s
        else logPush r (s.withLg { s.lg with buckets := s.lg.buckets ++ [⟨r.code, burst - 1, s.now, r.sev, 0, 0, 0, false⟩] })
      | some b =>
        if b.tokens = 0 then
          let b' := { b with folds := b.folds + 1, tFirst := if b.folds = 0 then r.tally else b.tFirst, tLast := r.tally }
          s.withLg { s.lg with buckets := s.lg.buckets.map fun x => if x.code == r.code then b' else x }
        else
          logPush r (s.withLg { s.lg with buckets := s.lg.buckets.map fun x =>
            if x.code == r.code then { x with tokens := x.tokens - 1 } else x })

/-! The ordering unit. -/

/-- The ceiling in effect: the always-on one while both copies are faulty (R355). -/
def State.ceilNow (s : State) : Nat :=
  if s.ord.ceilAOk || s.ord.ceilBOk then s.ord.ceil else s.ord.aonCeil.getD s.ord.ceil

/-- The ceiling lives in the always-on domain. -/
def State.ceilAon (s : State) : Bool := !(s.ord.ceilAOk || s.ord.ceilBOk)

/-- A ceiling write may start: the gate is open, or the ceiling is the always-on one (R355, R356). -/
def State.ceilWritable (s : State) : Bool := !s.gateClosed || s.ceilAon

/-- L may move to `l` at once (R355, R356). -/
def State.mayStamp (s : State) (l : Nat) : Bool :=
  s.ord.ceilWrite.isNone && s.ord.waitq.isEmpty
    && decide (l ≤ s.ceilNow + (if s.ceilWritable then 0 else 2 ^ 27))

/-- Start the ceiling write that R355 asks for once L has reached CEIL − 2^27. -/
def refreshCeil (s : State) : State :=
  if s.ord.ceilWrite.isNone && s.ceilWritable && decide (s.ceilNow ≤ s.ord.tally + 2 ^ 27) then
    (s.withOrd { s.ord with ceilWrite := some (s.ord.tally + 2 ^ 28) }).put F.ordStatWaiting 1
  else s

/-- Stamp an event: L advances by one, LAST_TALLY (LOG's is that of the main area, R420), the logbook, the duty-call
engine (R352, R15). -/
def stampLocal (e : Evt) (s : State) : State :=
  let t := s.ord.tally + 1
  let s := s.withOrd { s.ord with tally := t }
  let r := recOf e t s
  let s := if e.page = 0x078 then s else s.setLastTally e.page t
  let s := logOwn r s
  let s := if e.kind = .point then s.withCallIn (s.callIn ++ [r]) else s
  refreshCeil s

/-- What must wait for the ceiling joins the queue at the ordering unit, with the ceiling write that lets L reach
`l`; with the gate closed, CEIL_WAIT is raised when the waiting begins (R355, R356). -/
def holdUntil (h : Held) (l : Nat) (s : State) : State :=
  let first := !s.flag F.ordStatWaiting
  let s := (s.withOrd { s.ord with waitq := s.ord.waitq ++ [h] }).put F.ordStatWaiting 1
  if s.ceilWritable then
    (if s.ord.ceilWrite.isNone then s.withOrd { s.ord with ceilWrite := some (l + 2 ^ 28) } else s)
  else if first then
    (s.setRaw 0x065 5).withOrd { s.ord with waitq := s.ord.waitq ++ [.evt ⟨.node, 0x065, 0x6505, 3, [], false⟩] }
  else s

/-- An event waits. -/
def holdEvt (h : Held) (s : State) : State := holdUntil h (s.ord.tally + 1) s

/-- Hand an event that does not go on the crossing to the ordering unit. -/
def emitLocal (e : Evt) (s : State) : State :=
  if s.mayStamp (s.ord.tally + 1) then stampLocal e s else holdEvt (.evt e) s

/-- An EVT-bit occurrence that forms a record of its own; the bits of LOG and GWY form none (R94, R417). The EVT bit, and
what the panel shows, change at once also while the event waits for its stamp (DEDUCED, log entry 110: R355 holds the
stamping and what follows the stamp, and the state change that R15 and R94 speak of is not stamped). -/
def raise (page bit sev : Nat) (words : List Nat) (s : State) : State :=
  if page = 0x078 ∨ page = 0x079 then s.setRaw page bit
  else emitLocal ⟨.node, page, evtCode page bit, sev, payloadWords words, false⟩ (s.setRaw page bit)

/-- A block record that is no EVT bit's (R417). -/
def record (page code sev : Nat) (words : List Nat) (s : State) : State :=
  emitLocal ⟨.node, page, code, sev, payloadWords words, false⟩ s

/-- An event bit reported by another record, or by none (R417): only the bit sets. -/
def mark (page bit : Nat) (s : State) : State := s.setRaw page bit

/-- An event that waits for the next start to be logged: during a reset, the test-mode hold and BACKUP nothing can be
stamped. -/
def noteLater (page code sev : Nat) (words : List Nat) (s : State) : State :=
  s.withRst { s.rst with due := s.rst.due ++ [⟨.node, page, code, sev, payloadWords words, false⟩] }

/-- An event of the supplies, the clocks, the RTC or the reset button: in service it is raised; otherwise its bit sets
and its record waits for the start (R52, R64, R84, R449). -/
def note (page bit sev : Nat) (words : List Nat) (s : State) : State :=
  if s.answers then raise page bit sev words s else noteLater page (evtCode page bit) sev words (mark page bit s)

/-- A block record of the same kind. -/
def noteRecord (page code sev : Nat) (words : List Nat) (s : State) : State :=
  if s.answers then record page code sev words s else noteLater page code sev words s

/-- What waited for the start is logged. -/
def notesLogged (s : State) : State :=
  s.rst.due.foldl (fun s e => emitLocal e s) (s.withRst { s.rst with due := [] })

/-! Frames on the crossing. -/

/-- Port states (R321, R350). -/
def xpUp : Nat := 3

def State.portUp (s : State) (n : Nat) : Bool := decide (s.get (F.xpStatState.page n) = xpUp)

/-- The ports of a ring: forward, then backward (R329). -/
def ringPorts : Ring → Nat × Nat
  | .p => (0, 1) | .s => (2, 3)

def State.ringClosed (s : State) : Ring → Bool
  | .p => s.flag F.xnetStatPClosed
  | .s => s.flag F.xnetStatSClosed

/-- The ports a node's own frames leave by on one ring (R330). -/
def ownPorts (r : Ring) (s : State) : List Nat :=
  let (f, b) := ringPorts r
  if s.ringClosed r then [f].filter s.portUp else [f, b].filter s.portUp

/-- FLAGS of a frame this node originates: PARTITIONED while Split (R323, R342). -/
def State.frameFlags (s : State) (bcast replay : Bool) : Nat :=
  b2n bcast + 2 * b2n s.isSplit + 4 * b2n replay

/-- The crossing header of a frame sent with sequence `hseq`, less HCRC (R323). -/
def XFrame.header (f : XFrame) (hseq : Nat) : List Byte :=
  leBytes 1 1 ++ leBytes 1 f.cls ++ leBytes 2 f.flags ++ leBytes 2 hseq ++ leBytes 2 f.body.length
    ++ leBytes 2 f.origin ++ leBytes 2 f.dest ++ leBytes 2 f.epoch ++ leBytes 2 f.hops ++ leBytes 8 f.tally
    ++ leBytes 4 f.oseq ++ leBytes 2 0

/-- The bytes of a frame from the destination address on, padded to 60 bytes before the FCS (R322). -/
def XFrame.bytes (f : XFrame) (port node hseq : Nat) : List Byte :=
  let h := f.header hseq
  let bs := [0x03, 0x58, 0x4B, 0x43, 0x52, 0x00, 0x02, 0x58, 0x4B] ++ leBytes 1 port ++ leBytes 1 (node / 256)
    ++ leBytes 1 node ++ [0x88, 0xB5] ++ h ++ leBytes 2 (crc16 h) ++ f.body
  bs ++ List.replicate (60 - bs.length) 0

/-- The port's own state. -/
def XPort.init : XPort := ⟨[], false, false, false, 0, false, false, false, 0⟩

def State.xport (s : State) (n : Nat) : XPort := nth s.xp n XPort.init

def State.setXport (s : State) (n : Nat) (p : XPort) : State := s.withXp (setNth s.xp n p)

/-- Send a data frame out of a port: HSEQ, TXCNT, and it waits for its hop-ack (R326). -/
def portSend (n : Nat) (f : XFrame) (s : State) : State :=
  let hs := s.get (F.xpHseqTxNext.page n)
  let p := s.xport n
  let s := s.setXport n { p with unacked := p.unacked ++ [(hs, f)] }
  let s := (s.put (F.xpHseqTxNext.page n) (hs + 1)).bumpWrap (F.xpTxcntCount.page n) 1
  s.withOut (s.out ++ [.frame n (f.bytes n s.nodeId hs)])

def portsSend (ns : List Nat) (f : XFrame) (s : State) : State := ns.foldl (fun s n => portSend n f s) s

/-- The queue of 256 frames of a port (R332). -/
def portQueueMax : Nat := 256

def State.portFull (s : State) (n : Nat) : Bool := decide (portQueueMax ≤ (s.xport n).unacked.length)

/-- Raise LOAD once for a full port (R332). -/
def raiseLoad (n : Nat) (s : State) : State :=
  let p := s.xport n
  if s.portFull n && !p.loadSeen then raise (0x060 + n) 6 4 [] (s.setXport n { p with loadSeen := true }) else s

/-- A GAP event (R372): stamped, logged at severity 5, sent as a node event. -/
def gapEvt (payload : List Byte) : Evt := ⟨.node, 0x065, 0x6580, 5, payload, true⟩

/-- The body of an event frame (R324, R435): SUB, three zero bytes, then the content. -/
def eventBody (e : Evt) (r : Rec) : List Byte :=
  match e.kind with
  | .point => [0, 0, 0, 0] ++ pad24 e.payload ++ leBytes 4 r.gen
  | .group => [1, 0, 0, 0] ++ pad24 e.payload ++ leBytes 4 r.gen
  | _ => [2, 0, 0, 0] ++ r.bytes

/-- A new frame of this node. -/
def State.newFrame (s : State) (cls dest tally : Nat) (bcast replay : Bool) (body : List Byte) : XFrame :=
  ⟨cls, s.frameFlags bcast replay, s.nodeId, dest, s.epoch, 0, tally, 0, body⟩

/-- The ports every own stream frame leaves by (R330). -/
def State.streamPorts (s : State) : List Nat := ownPorts .p s ++ ownPorts .s s

/-- Send the head of the crossing queue with the next OSEQ. -/
def sendStream (f : XFrame) (s : State) : State :=
  let s' := s.withOrd { s.ord with oseq := (s.ord.oseq + 1) % 2 ^ 32 }
  portsSend s.streamPorts { f with oseq := s.ord.oseq } s'

/-- The 24 bytes of a GAP of kind 2 (R372). -/
def gap2Payload (node count tLo tHi : Nat) : List Byte :=
  let span := tHi - tLo
  [2] ++ leBytes 1 (b2n (decide (0xFFFFFFFF < span))) ++ leBytes 2 node ++ leBytes 4 0 ++ leBytes 4 count
    ++ leBytes 8 tLo ++ leBytes 4 (sat 0xFFFFFFFF span)

/-- Note the GAP delivered last in the ORD page (R377). -/
def noteGap (kind node point first count : Nat) (s : State) : State :=
  (((s.put F.ordLastgapKind kind).put F.ordLastgapNode node).put F.ordLastgapPoint point).put F.ordLastgapSeqFirst first
    |>.put F.ordLastgapNCount count

/-- The pending GAP of kind 2 goes out ahead of the next event that leaves the queue (R375). -/
def sendOutGap (s : State) : State :=
  match s.ord.outGap with
  | none => s
  | some (n, lo, hi) =>
    let s := s.withOrd { s.ord with outGap := none }
    let s := (s.bumpSat F.ordOutcntOut 1).setRaw 0x065 2
    let s := noteGap 2 s.nodeId 0 0 n s
    let e := gapEvt (gap2Payload s.nodeId n lo hi)
    let t := s.ord.tally + 1
    let r := recOf e t s
    let s := stampLocal e s
    sendStream (s.newFrame 0x02 0 t true false (eventBody e r)) s

/-- Let the crossing queue drain into the port queues while they have room (R332, R374), and while a GAP that goes
ahead may be stamped (R355, R375); a passive node sends nothing of its own (R336). `n` bounds the work. -/
def xpump : Nat → State → State
  | 0, s => s
  | n + 1, s =>
    match (if s.flag F.xnetStatPassive then [] else s.ord.xq) with
    | [] => s
    | f :: q =>
      let ports := s.streamPorts
      match ports.find? s.portFull with
      | some p => raiseLoad p s
      | none =>
        if s.ord.outGap.isSome && !s.mayStamp (s.ord.tally + 1) then s
        else
          let s := sendOutGap s
          xpump n (sendStream f (s.withOrd { s.ord with xq := q }))

/-- The capacity of the crossing queue (R374). -/
def xqMax : Nat := 4096

/-- A stream frame of this node joins the crossing queue; a full queue gives up its oldest entry (R375). A
passive node originates none (R336). -/
def originate (f : XFrame) (s : State) : State :=
  if s.flag F.xnetStatPassive then s
  else
    let q := s.ord.xq
    let s :=
      if q.length < xqMax then s.withOrd { s.ord with xq := q ++ [f] }
      else
        let t := (q.headD f).tally
        let g := match s.ord.outGap with
          | none => (1, t, t)
          | some (n, lo, hi) => (n + 1, min lo t, max hi t)
        s.withOrd { s.ord with xq := q.drop 1 ++ [f], outGap := some g }
    xpump (s.ord.xq.length) s

/-- A stream frame that takes a tally of its own at origination (R352). -/
def originateNew (cls dest : Nat) (bcast : Bool) (body : List Byte) (s : State) : State :=
  if s.flag F.xnetStatPassive then s
  else if s.mayStamp (s.ord.tally + 1) then
    let t := s.ord.tally + 1
    let s := refreshCeil (s.withOrd { s.ord with tally := t })
    originate (s.newFrame cls dest t bcast false body) s
  else holdEvt (.own cls dest bcast body) s

/-- Stamp an event and send it on the crossing where it is to go; a frame that reports it carries its tally (R15, R324,
R352). -/
def stamp (e : Evt) (s : State) : State :=
  let t := s.ord.tally + 1
  let r := recOf e t s
  let s := stampLocal e s
  match e.kind with
  | .call body => originate (s.newFrame 0x04 0 t true false body) s
  | _ => if e.publish then originate (s.newFrame 0x02 0 t true false (eventBody e r)) s else s

/-- Hand an event to the ordering unit. -/
def emit (e : Evt) (s : State) : State :=
  if s.mayStamp (s.ord.tally + 1) then stamp e s else holdEvt (.evt e) s

/-! Access faults and lasting faults. -/

/-- The lasting block fault of a page; 0 for none. -/
def State.lastingCode (s : State) (page : Nat) : Nat := Sparse.get (fun _ => 0) s.lasting page

/-- Record an access code in a page: bit 31 sets, and FAULT_CODE holds the most recent code unless a lasting
block fault is present (R94, R95); the record has severity 2, on the SEAL page 7 (R418). -/
def accessFault (page code : Nat) (s : State) : State :=
  raise page 31 (if page = 0x071 then 7 else 2) [code] (if s.lastingCode page = 0 then s.put (F.hdrPageStatFaultCode.page page) code else s)

def State.setLasting (s : State) (page code : Nat) : State :=
  s.withLasting (Sparse.set (fun _ => 0) s.lasting page code)

/-- Count a return trip that succeeded (R365). -/
def transient (page : Nat) (s : State) : State := s.bumpSat (F.hdrRetryCntTransient.page page) 1

/-- Count a lasting fault (R365). -/
def lastingFault (page : Nat) (s : State) : State := s.bumpSat (F.hdrRetryCntLasting.page page) 1

/-- A mirror or counter write of the MRAM bank has been made; a lasting fault puts the value into a spare row (R366). -/
def mramWritten (o : MramWrite) (s : State) : State :=
  match o with
  | .ok => s
  | .retryOk => transient 0x001 s
  | .lasting => lastingFault 0x001 s

/-! Staging (R96, R97). -/

def State.stagedAt (s : State) (a : Nat) : Option StagedWord := s.staged.find? fun w => w.addr == a

/-- The page a staged word belongs to: the windows that stage are those of SAIL and LAN (R294, R456, R460). -/
def stagedPage (a : Nat) : Nat := if 0xF10000 ≤ a then 0x088 else if 0x400000 ≤ a then 0x058 else a / 0x1000

/-- A word in effect, of a register or of a window. -/
def State.baseWord (s : State) (a : Nat) : Word := if 0x400000 ≤ a then s.winWord a else s.reg a

def State.setBaseWord (s : State) (a : Nat) (w : Word) : State := if 0x400000 ≤ a then s.setWinWord a w else s.setReg a w

/-- A page has staged values. -/
def State.hasStaged (s : State) (page : Nat) : Bool := s.staged.any fun w => stagedPage w.addr == page

/-- Stage bits of a word. -/
def State.stage (s : State) (a : Nat) (stgMask stageMask v : Word) : State :=
  let w := (s.stagedAt a).getD ⟨a, 0, 0, 0⟩
  let m := stgMask ||| stageMask
  let w' : StagedWord := ⟨a, w.stgMask ||| stgMask, w.stageMask ||| stageMask, (w.value &&& ~~~m) ||| (v &&& m)⟩
  s.withStaged (s.staged.filter (fun x => x.addr != a) ++ [w'])

/-- Discard every staged value of a page. -/
def State.dropStaged (s : State) (page : Nat) : State := s.withStaged (s.staged.filter fun w => stagedPage w.addr != page)

/-- Discard what was staged under PAGE_CTL.STAGE, keep the STG fields (R96). -/
def State.dropStageMode (s : State) (page : Nat) : State :=
  s.withStaged ((s.staged.map fun w => if stagedPage w.addr == page then { w with stageMask := 0 } else w).filter
    fun w => w.stgMask != 0 || stagedPage w.addr != page)

/-- The word a commit of its page would leave at an address. -/
def State.afterCommit (s : State) (a : Nat) : Word :=
  match s.stagedAt a with
  | none => s.baseWord a
  | some w =>
    let m := w.stgMask ||| w.stageMask
    (s.baseWord a &&& ~~~m) ||| (w.value &&& m)

/-- Take some staged words in one step (R97). -/
def State.takeStaged (s : State) (p : Nat → Bool) : State :=
  let t := (s.staged.filter fun w => p w.addr).foldl (fun t w => t.setBaseWord w.addr (s.afterCommit w.addr)) s
  t.withStaged (s.staged.filter fun w => !p w.addr)

/-- Take every staged value of a page in one step (R97). -/
def State.applyStaged (s : State) (page : Nat) : State := s.takeStaged fun a => stagedPage a == page

end Sys2Proof.Machine
end

