-- ==== Sys2Proof/Machine/Operands.lean ====
section
/-!
DEFINITION. The operand forms that live in memory: the manifest record of a point (R181 to R191) and its checks
(R198).
-/

namespace Sys2Proof.Machine

/-- A manifest record, field by field (R181). -/
structure PCfg where
  kind : Nat
  src0 : Nat
  src1 : Nat
  gain : Word
  offset : Word
  limHH : Word
  limH : Word
  limL : Word
  limLL : Word
  hyst : Word
  w24 : Nat
  w28 : Nat
  w2C : Nat
  w30 : Nat
  w34 : Nat
  w38 : Nat
  w3C : Nat
deriving DecidableEq, Repr

def PCfg.fld (w hi lo : Nat) : Nat := (w >>> lo) % 2 ^ (hi + 1 - lo)

def PCfg.cat (c : PCfg) : Nat := fld c.w24 29 28
def PCfg.prio (c : PCfg) : Nat := fld c.w24 27 26
def PCfg.enHH (c : PCfg) : Bool := c.w24.testBit 25
def PCfg.enH (c : PCfg) : Bool := c.w24.testBit 24
def PCfg.enL (c : PCfg) : Bool := c.w24.testBit 23
def PCfg.enLL (c : PCfg) : Bool := c.w24.testBit 22
def PCfg.onDly (c : PCfg) : Nat := fld c.w24 21 0
def PCfg.callClass (c : PCfg) : Nat := fld c.w28 25 22
def PCfg.offDly (c : PCfg) : Nat := fld c.w28 21 0
def PCfg.grpBEn (c : PCfg) : Bool := c.w2C.testBit 28
def PCfg.grpB (c : PCfg) : Nat := fld c.w2C 27 16
def PCfg.grpAEn (c : PCfg) : Bool := c.w2C.testBit 12
def PCfg.grpA (c : PCfg) : Nat := fld c.w2C 11 0
def PCfg.gatePol (c : PCfg) : Bool := c.w30.testBit 18
def PCfg.gateEn (c : PCfg) : Bool := c.w30.testBit 17
def PCfg.gatePt (c : PCfg) : Nat := fld c.w30 16 0
def PCfg.staleLim (c : PCfg) : Nat := fld c.w34 31 16
def PCfg.runup (c : PCfg) : Nat := fld c.w34 15 0
def PCfg.winEn (c : PCfg) : Bool := c.w38.testBit 25
def PCfg.window (c : PCfg) : Nat := fld c.w38 24 16
def PCfg.units (c : PCfg) : Nat := fld c.w38 15 0
def PCfg.faultAlert (c : PCfg) : Bool := c.w3C.testBit 18
def PCfg.publish (c : PCfg) : Bool := c.w3C.testBit 17
def PCfg.used (c : PCfg) : Bool := c.w3C.testBit 16
def PCfg.esc (c : PCfg) : Nat := fld c.w3C 15 0

/-! Source descriptors (R183, R191). -/

def PCfg.ch (c : PCfg) : Nat := fld c.src0 7 0
def PCfg.diFilt (c : PCfg) : Nat := fld c.src0 27 20
def PCfg.diSlot (c : PCfg) : Nat := fld c.src0 17 8
def PCfg.diMode (c : PCfg) : Nat := fld c.src0 7 6
def PCfg.di (c : PCfg) : Nat := fld c.src0 5 0
def PCfg.fbSeg (c : PCfg) : Nat := fld c.src0 27 25
def PCfg.fbMbx (c : PCfg) : Nat := fld c.src0 24 19
def PCfg.fbStart (c : PCfg) : Nat := fld c.src0 18 10
def PCfg.fbLen (c : PCfg) : Nat := fld c.src0 9 3
def PCfg.fbOrder (c : PCfg) : Nat := fld c.src0 2 2
def PCfg.fbType (c : PCfg) : Nat := fld c.src0 1 0
def PCfg.fbAll1Na (c : PCfg) : Bool := c.src1.testBit 15
def PCfg.fbMuxEn (c : PCfg) : Bool := c.src1.testBit 14
def PCfg.fbMuxVal (c : PCfg) : Nat := fld c.src1 13 6
def PCfg.fbMuxByte (c : PCfg) : Nat := fld c.src1 5 0
def PCfg.remNode (c : PCfg) : Nat := fld c.src0 9 0
def PCfg.remPoint (c : PCfg) : Nat := fld c.src1 16 0
def PCfg.safeSel (c : PCfg) : Nat := fld c.src0 7 0
def PCfg.func (c : PCfg) : Nat := fld c.src0 27 24
def PCfg.rateWindow (c : PCfg) : Nat := fld c.src0 9 0
def PCfg.count (c : PCfg) : Nat := fld c.src0 23 17
def PCfg.first (c : PCfg) : Nat := fld c.src0 16 0
def PCfg.minValid (c : PCfg) : Nat := fld c.src1 31 25
def PCfg.stride (c : PCfg) : Nat := fld c.src1 24 17
def PCfg.subject (c : PCfg) : Nat := fld c.src1 16 0
def PCfg.faultAs (c : PCfg) : Bool := c.src1.testBit 0
def PCfg.derSlot (c : PCfg) : Nat := fld c.src0 9 0

/-- The record that 64 bytes spell (R181). -/
def PCfg.ofBytes (bs : List Byte) : PCfg :=
  { kind := leField bs 0 31 28, src0 := leField bs 0 27 0, src1 := leAt bs 4 4,
    gain := BitVec.ofNat 32 (leAt bs 8 4), offset := BitVec.ofNat 32 (leAt bs 12 4),
    limHH := BitVec.ofNat 32 (leAt bs 16 4), limH := BitVec.ofNat 32 (leAt bs 20 4),
    limL := BitVec.ofNat 32 (leAt bs 24 4), limLL := BitVec.ofNat 32 (leAt bs 28 4),
    hyst := BitVec.ofNat 32 (leAt bs 32 4), w24 := leAt bs 36 4, w28 := leAt bs 40 4, w2C := leAt bs 44 4,
    w30 := leAt bs 48 4, w34 := leAt bs 52 4, w38 := leAt bs 56 4, w3C := leAt bs 60 4 }

/-- The address of the manifest record of a point (R181). -/
def manAddr (i : Nat) : Nat := 0x400000 + 64 * i

/-- The record of point `i` as the engine uses it. -/
def State.pcfg (s : State) (i : Nat) : PCfg := PCfg.ofBytes (s.winBytes (manAddr i) 64)

/-- The points with USED = 1, by ascending index (R182): bit 0 of byte 0x3E of each record. -/
def State.usedIdx (s : State) : List Nat :=
  (s.win.filter fun c => decide (0x400000 ≤ c.1) && decide (c.1 < 0xC00000) && c.1 % 64 == 0x3E && c.2.toNat.testBit 0).map
    fun c => (c.1 - 0x400000) / 64

/-! Groups a record names (R231): the same group in both fields counts once. -/
def PCfg.groups (c : PCfg) : List Nat :=
  let a := if c.grpAEn then [c.grpA] else []
  if c.grpBEn && !(c.grpAEn && c.grpA == c.grpB) then a ++ [c.grpB] else a

def PCfg.inGroup (c : PCfg) (g : Nat) : Bool := c.groups.contains g

/-- The members of a derived point, in ascending k (R190). -/
def PCfg.members (c : PCfg) : List Nat := (List.range c.count).map fun k => c.first + k * c.stride

/-- FUNC 1 to 6 have members; 0, 1, 7 and 8 have a subject (R191). -/
def PCfg.hasMembers (c : PCfg) : Bool := c.kind == 6 && decide (1 ≤ c.func) && decide (c.func ≤ 6)
def PCfg.hasSubject (c : PCfg) : Bool := c.kind == 6 && (c.func == 0 || c.func == 1 || c.func == 7 || c.func == 8)

/-- Point `i` names point `j` as a member or subject. -/
def PCfg.names (c : PCfg) (j : Nat) : Bool :=
  (c.hasSubject && c.subject == j) || (c.hasMembers && c.members.contains j)

/-- The counter slot a record names (R194). -/
def PCfg.slot (c : PCfg) : Option Nat :=
  if c.kind == 2 && c.diMode == 1 then some c.diSlot
  else if c.kind == 6 && (c.func == 7 || c.func == 8) then some c.derSlot
  else none

/-! The checks of R198, each as its reason's condition of failure. -/

/-- Bits of a word outside a mask. -/
def outside (w mask : Nat) : Bool := w &&& mask != w

/-- The bits of SRC0 and SRC1 that a kind's descriptor defines (R183, R191). -/
def srcMasks (c : PCfg) : Nat × Nat :=
  match c.kind with
  | 0 => (0, 0)
  | 1 => (0xFF, 0)
  | 2 => (0x0FF3FFFF, 0)
  | 3 => (0x0FFFFFFF, 0xFFFF)
  | 4 => (0x3FF, 0x1FFFF)
  | 5 => (0xFF, 0)
  | 6 => match c.func with
    | 0 => (0x0F0003FF, 0x1FFFF)
    | 1 => (0x0FFFFFFF, 0xFFFFFFFF)
    | 2 | 3 | 4 => (0x0FFFFFFF, 0xFFFE0000)
    | 5 | 6 => (0x0FFFFFFF, 0x01FE0001)
    | 7 | 8 => (0x0F0003FF, 0x1FFFF)
    | _ => (0x0FFFFFFF, 0xFFFFFFFF)
  | _ => (0x0FFFFFFF, 0xFFFFFFFF)

/-- Reason 0x01: an invalid KIND or FUNC, or a reserved bit that is not 0. -/
def PCfg.bad01 (c : PCfg) : Bool :=
  decide (7 ≤ c.kind) || (c.kind == 6 && decide (9 ≤ c.func))
    || outside c.src0 (srcMasks c).1 || outside c.src1 (srcMasks c).2
    || outside c.w24 0x3FFFFFFF || outside c.w28 0x03FFFFFF || outside c.w2C 0x1FFF1FFF
    || outside c.w30 0x0007FFFF || outside c.w38 0x03FFFFFF || outside c.w3C 0x0007FFFF

/-- The SEL values of R188. -/
def safeSelOk (n : Nat) : Bool :=
  decide (n ≤ 0x22) || (decide (0x24 ≤ n) && decide (n ≤ 0x27)) || (decide (0x40 ≤ n) && decide (n ≤ 0x7F))

/-- Reason 0x02: a descriptor field out of range. -/
def PCfg.bad02 (c : PCfg) (node : Nat) : Bool :=
  match c.kind with
  | 2 => c.diMode == 3 || ((c.diMode == 1 || c.diMode == 2) && decide (c.di < 56))
  | 3 => c.fbLen == 0 || decide (64 < c.fbLen) || decide (512 < c.fbStart + c.fbLen) || c.fbType == 3
      || (c.fbType == 2 && c.fbLen != 32)
  | 4 => c.remNode == node
  | 5 => !safeSelOk c.safeSel
  | 6 => match c.func with
    | 0 => c.rateWindow == 0 || decide (600 < c.rateWindow)
    | 1 | 2 | 3 | 4 => c.count == 0 || decide (64 < c.count) || c.stride == 0 || c.minValid == 0
        || decide (c.count < c.minValid) || decide (131071 < c.first + (c.count - 1) * c.stride)
    | 5 | 6 => c.count == 0 || decide (64 < c.count) || c.stride == 0
        || decide (131071 < c.first + (c.count - 1) * c.stride)
    | _ => false
  | _ => false

/-- Reason 0x03: a reference at or above the record's own index, or a RATE subject without supervision. -/
def PCfg.bad03 (c : PCfg) (i : Nat) (subj : PCfg) : Bool :=
  (c.hasSubject && decide (i ≤ c.subject))
    || (c.hasMembers && c.members.any fun m => decide (i ≤ m))
    || (c.kind == 6 && c.func == 0 && (!subj.used || subj.staleLim == 0))

/-- Reason 0x05: a real number that is not finite, or a negative hysteresis. -/
def PCfg.bad05 (c : PCfg) : Bool :=
  !F32.isFinite c.gain || !F32.isFinite c.offset || !F32.isFinite c.hyst
    || (c.enHH && !F32.isFinite c.limHH) || (c.enH && !F32.isFinite c.limH)
    || (c.enL && !F32.isFinite c.limL) || (c.enLL && !F32.isFinite c.limLL) || F32.lt c.hyst 0

/-- The enabled limits, from HH down. -/
def PCfg.limits (c : PCfg) : List Word :=
  (if c.enHH then [c.limHH] else []) ++ (if c.enH then [c.limH] else [])
    ++ (if c.enL then [c.limL] else []) ++ (if c.enLL then [c.limLL] else [])

def descending : List Word → Bool
  | a :: b :: l => F32.le b a && descending (b :: l)
  | _ => true

/-- The first reason of R198 that a used record fails; 0 when it passes. `subj` is its subject's record and
`slotTaken` tells that another used record names its counter slot. -/
def PCfg.reason (c : PCfg) (i node : Nat) (subj : PCfg) (slotTaken : Bool) : Nat :=
  if c.bad01 then 0x01
  else if c.bad02 node then 0x02
  else if c.bad03 i subj then 0x03
  else if slotTaken then 0x04
  else if c.bad05 then 0x05
  else if !descending c.limits then 0x06
  else if decide (2097152 < c.onDly) || decide (2097152 < c.offDly) then 0x07
  else if c.cat == 3 || (c.gateEn && c.gatePt == i) then 0x08
  else if c.kind == 4 && decide (c.staleLim < 96) then 0x09
  else 0

/-- Another used record names the same counter slot (R198 reason 0x04). -/
def State.slotTaken (s : State) (i : Nat) (c : PCfg) : Bool :=
  match c.slot with
  | none => false
  | some k => s.usedIdx.any fun j => j != i && (s.pcfg j).slot == some k

/-- The reason point `i` fails validation; 0 when it passes or is unused (R182, R198). -/
def State.recReason (s : State) (i : Nat) : Nat :=
  let c := s.pcfg i
  if c.used then c.reason i s.nodeId (s.pcfg c.subject) (s.slotTaken i c) else 0

end Sys2Proof.Machine
end

