-- ==== Sys2Proof/Machine/Engine.lean ====
section
/-!
DEFINITION. The point engine: limits and hysteresis (R207), value states and delays (R209 to R212), alert states
(R217 to R222), gates (R227, R228), derived functions (R190 to R194), groups (R231 to R235), rebuilds (R197) and
the evaluation of one trigger on one point (R204 to R206).
-/

namespace Sys2Proof.Machine

/-! Points and triggers in the state. -/

/-- The runtime of a used point. -/
def State.pt (s : State) (i : Nat) : Option Point := (s.eng.pts.find? fun x => x.1 == i).map (·.2)

/-- Put a point's runtime at its place. -/
def State.setPt (s : State) (i : Nat) (p : Point) : State :=
  s.withEng { s.eng with pts := Sparse.insert s.eng.pts i p }

/-- The point lies in an open edit range (R200). -/
def State.inEdit (s : State) (i : Nat) : Bool :=
  match s.eng.edit with
  | none => false
  | some (f, l, _) => decide (f ≤ i) && decide (i ≤ l)

/-- Queue a trigger; a point that is not used or lies in an open range takes none (R182, R200). -/
def State.trigger (s : State) (t : Trig) : State :=
  if (s.pt t.point).isSome && !s.inEdit t.point then s.withEng { s.eng with trigs := s.eng.trigs ++ [t] } else s

/-! Raw states (R207, R208). -/

/-- Severity on the high side: 2 for the double limit, 1 for the single (R207). -/
def rankHigh : VState → Nat
  | .highhigh => 2 | .high => 1 | _ => 0

/-- Severity on the low side. -/
def rankLow : VState → Nat
  | .lowlow => 2 | .low => 1 | _ => 0

/-- The raw state of value `v` against the state in effect `s` (R207). -/
def rawState (c : PCfg) (v : Word) (st : SrcStatus) (s : VState) : VState :=
  let hi := decide (0 < rankHigh s)
  let lo := decide (0 < rankLow s)
  let r : VState :=
    if c.enHH && (F32.le c.limHH v || (s == .highhigh && F32.le (F32.sub c.limHH c.hyst) v)) then .highhigh
    else if c.enH && (F32.le c.limH v || (hi && F32.le (F32.sub c.limH c.hyst) v)) then .high
    else if c.enLL && (F32.le v c.limLL || (s == .lowlow && F32.le v (F32.add c.limLL c.hyst))) then .lowlow
    else if c.enL && (F32.le v c.limL || (lo && F32.le v (F32.add c.limL c.hyst))) then .low
    else .normal
  if st == .overHi && hi && decide (rankHigh r < rankHigh s) then s
  else if st == .overLo && lo && decide (rankLow r < rankLow s) then s
  else r

/-- `r` is the less severe state on the same side as `s` (R208). -/
def lessSevere (s r : VState) : Bool := (s == .highhigh && r == .high) || (s == .lowlow && r == .low)

/-- A move from `s` to `r` is onward (R208). -/
def onward (s r : VState) : Bool := r != .normal && r != s && !lessSevere s r

/-! Value states and delays (R209, R210). -/

/-- Cancel a pending on-delay or off-delay; a run-up stays (R212). -/
def Point.cancelDelay (p : Point) : Point :=
  match p.dly with
  | some (.runup, _) => p
  | _ => { p with dly := none }

/-- The status counts as usable (R190, R195). -/
def SrcStatus.usable : SrcStatus → Bool
  | .valid | .overHi | .overLo => true
  | _ => false

/-- The tick `d` ticks after `now`, modulo 2^32 (R211, R213). -/
def tickPlus (now d : Nat) : Nat := (now + d) % 2 ^ 32

/-- One evaluation of a usable value: R209, or R228 while INHIBITED. -/
def evalValue (c : PCfg) (now : Nat) (v : Word) (st : SrcStatus) (p : Point) : Point :=
  let s := p.vstate
  let r := rawState c v st s
  if p.inhibited then { p.cancelDelay with vstate := r }
  else if (s == .unknown || s == .fault) && r == .normal then { p.cancelDelay with vstate := r }
  else if r == s then p.cancelDelay
  else if onward s r then
    match p.dly with
    | some (.on, _) => p
    | _ =>
      let p := p.cancelDelay
      if c.onDly = 0 then { p with vstate := r } else { p with dly := some (.on, tickPlus now c.onDly) }
  else
    match p.dly with
    | some (.off, _) => p
    | _ =>
      let p := p.cancelDelay
      if c.offDly = 0 then { p with vstate := r } else { p with dly := some (.off, tickPlus now c.offDly) }

/-- An on-delay or off-delay expires (R210). -/
def expireDelay (c : PCfg) (p : Point) : Point :=
  match p.dly, p.usable with
  | some (k, _), some (v, st) =>
    let r := rawState c v st p.vstate
    let p' := { p with dly := none }
    match k with
    | .on => if onward p.vstate r then { p' with vstate := r } else p'
    | .off => if r != p.vstate && !onward p.vstate r then { p' with vstate := r } else p'
    | .runup => p
  | some (k, _), none => if k == .runup then p else { p with dly := none }
  | none, _ => p

/-! Alert states (R217 to R222). -/

/-- VSTATE is a limit state whose limit is enabled (R217). -/
def limitState (c : PCfg) : VState → Bool
  | .low => c.enL | .lowlow => c.enLL | .high => c.enH | .highhigh => c.enHH
  | _ => false

/-- The alert condition (R217). -/
def alertCond (c : PCfg) (p : Point) : Bool :=
  !p.shelved && !p.oos && ((limitState c p.vstate && !p.inhibited) || (p.vstate == .fault && c.faultAlert))

/-- The condition but for suppression. -/
def plainCond (c : PCfg) (p : Point) : Bool := limitState c p.vstate || (p.vstate == .fault && c.faultAlert)

/-- An occurrence stands: ASTATE is active. -/
def Point.active (p : Point) : Bool := p.astate == .activeUnack || p.astate == .activeAck

/-- ASTATE is one an acknowledgement acts on (R220). -/
def Point.unacked (p : Point) : Bool := p.astate == .activeUnack || p.astate == .rectUnack

/-- The start of a new occurrence (R218, R222). -/
def newOccurrence (c : PCfg) (now : Nat) (p : Point) : Point :=
  { p with
    inst := (p.inst + 1) % 2 ^ 32
    silenced := false
    escalated := false
    astate := if c.prio = 3 then .activeAck else .activeUnack
    escAt := if c.prio = 2 ∧ c.esc ≠ 0 then some (tickPlus now (32 * c.esc)) else none }

/-- The withdrawal of an occurrence by suppression (R219, last row but one). -/
def withdraw (p : Point) : Point :=
  { p with astate := .normal, silenced := false, escalated := false, escAt := none }

/-- A suppression flag rose between two states of a point. -/
def suppressionRose (old new : Point) : Bool :=
  (new.inhibited && !old.inhibited) || (new.shelved && !old.shelved) || (new.oos && !old.oos)

/-- ASTATE after a change of value state or suppression from `old` to `new` (R218, R219). -/
def alertStep (c : PCfg) (now : Nat) (old new : Point) : Point :=
  if alertCond c new then
    if !new.active || onward old.vstate new.vstate then newOccurrence c now new else new
  else if suppressionRose old new || plainCond c new then
    (if new.astate == .normal then new else withdraw new)
  else
    match new.astate with
    | .activeUnack => { new with astate := .rectUnack, escAt := none }
    | .activeAck => { new with astate := .normal, escalated := false, escAt := none }
    | _ => new

/-- An acknowledgement that takes effect (R219). -/
def acknowledge (p : Point) : Point :=
  match p.astate with
  | .activeUnack => { p with astate := .activeAck, silenced := false, escAt := none }
  | .rectUnack => { p with astate := .normal, silenced := false, escalated := false, escAt := none }
  | _ => p

/-- PRIO after escalation (R222). -/
def effPrio (c : PCfg) (p : Point) : Nat := if p.escalated then 1 else c.prio

/-! Gates (R227, R228). -/

/-- Another point as a gate, member or subject finds it (R190, R200). -/
def State.usablePt (s : State) (j : Nat) : Option Point :=
  match s.pt j with
  | none => none
  | some p =>
    if p.oos || p.vstate == .unknown || p.vstate == .fault || !p.status.usable || s.inEdit j || !(s.pcfg j).used then none
    else some p

/-- A value is not 0.0 (R194, R227). -/
def nonZero (v : Word) : Bool := !F32.eq v 0

/-- The gate of a point is enabling (R227). -/
def State.gateEnabling (s : State) (c : PCfg) : Bool :=
  match s.usablePt c.gatePt with
  | none => true
  | some g => nonZero g.value != c.gatePol

/-- A pending run-up ends. -/
def Point.dropRunup (p : Point) : Point :=
  match p.dly with
  | some (.runup, _) => { p with dly := none }
  | _ => p

/-- INHIBITED sets: a pending delay gives way to `dly`, and VSTATE follows r at once, out of FAULT or UNKNOWN too where an
on-delay was to end that state (R228). -/
def inhibit (c : PCfg) (gate : Bool) (dly : Option (DlyKind × Nat)) (p : Point) : Point :=
  let pends := p.dly.isSome
  let p := { p with gate := some gate, inhibited := true, dly := dly }
  match p.usable with
  | some (v, st) =>
    if (p.vstate == .fault || p.vstate == .unknown) && !pends then p else { p with vstate := rawState c v st p.vstate }
  | none => p

/-- Apply the gate level to a point (R228). -/
def applyGate (c : PCfg) (now : Nat) (enabling : Bool) (p : Point) : Point :=
  if !c.gateEn then { p.dropRunup with inhibited := false, gate := none }
  else if p.gate == some enabling then p
  else if !enabling then inhibit c false none p
  else if c.runup = 0 then { p.dropRunup with gate := some true, inhibited := false }
  else inhibit c true (some (.runup, tickPlus now c.runup)) p

/-! Groups (R231 to R235). -/

/-- CFG bits of a group: EN, REARM_MANUAL, PUBLISH in bits 0 to 2 (R244). -/
def State.groupCfg (s : State) (g : Nat) : Nat := Sparse.get (fun _ => 0) s.eng.groupCfg g

/-- The group is in use: enabled, and not held in a row that has no spare (R231, R240; DEDUCED, log entry 100). -/
def State.groupEn (s : State) (g : Nat) : Bool := (s.groupCfg g).testBit 0 && !s.eng.deadGrps.contains g

/-- The members that count: used, in service, not held by a lost row (R231, R240). -/
def State.members (s : State) (g : Nat) : List (Nat × Point) :=
  s.eng.pts.filter fun x => !x.2.oos && !x.2.dead && x.2.groups.contains g

def State.actCnt (s : State) (g : Nat) : Nat :=
  if s.groupEn g then ((s.members g).filter fun x => x.2.active).length else 0

def State.unackCnt (s : State) (g : Nat) : Nat :=
  if s.groupEn g then ((s.members g).filter fun x => x.2.unacked).length else 0

/-- TOP_PRIO (R231). -/
def State.topPrio (s : State) (g : Nat) : Nat :=
  if s.groupEn g then
    (s.members g).foldl (fun m x => if x.2.astate == .normal then m else min m (effPrio (s.pcfg x.1) x.2)) 3
  else 3

def State.firstOut (s : State) (g : Nat) : Option (Nat × Nat) := (s.eng.firsts.find? fun x => x.1 == g).map (·.2)

def State.setFirst (s : State) (g : Nat) (f : Option (Nat × Nat)) : State :=
  let l := s.eng.firsts.filter fun x => x.1 != g
  s.withEng { s.eng with firsts := match f with
    | none => l
    | some v => Sparse.insert l g v }

/-- Severity of a point or group event by its priority (R418). -/
def prioSev : Nat → Nat
  | 0 => 6 | 1 => 6 | 2 => 5 | _ => 4

/-- A group event: KIND 0 GROUP_ACTIVE, 1 GROUP_CLEAR, 2 FIRST_CAPTURED, 3 FIRST_LOST (R234, R235, R419). -/
def groupEvent (g kind : Nat) (s : State) : State :=
  let act := s.actCnt g
  let un := s.unackCnt g
  let top := s.topPrio g
  let f := s.firstOut g
  let w0 := g + top * 2 ^ 12 + b2n (decide (0 < act)) * 2 ^ 14 + b2n (decide (0 < un)) * 2 ^ 15 + b2n f.isSome * 2 ^ 16 + kind * 2 ^ 17
  let fi := f.getD (0, 0)
  emit ⟨.group, 0x042, 0x4280, prioSev top, payloadWords [w0, act, un, fi.1, fi.2], (s.groupCfg g).testBit 2⟩
    (mark 0x042 kind s)

/-- The counts of a group before a change: ACTIVE and UNACK. -/
def State.groupSnap (s : State) (g : Nat) : Bool × Bool := (decide (0 < s.actCnt g), decide (0 < s.unackCnt g))

/-- What a group does once a member has changed (R232 to R234): `before` is its ACTIVE and UNACK before, `occ` the
point and instance of a new occurrence in active-unacknowledged. A group that is not in use does nothing (R231); a FIRST
captured before its EN was patched to 0 is kept, is not shown, and shows again when EN returns to 1 (DESIGN CHOICE: the
spec does not say whether it survives, log entry 100). -/
def groupAfter (g : Nat) (before : Bool × Bool) (occ : Option (Nat × Nat)) (s : State) : State :=
  if !s.groupEn g then s
  else
    let (act, un) := s.groupSnap g
    let s := if act && !before.1 then groupEvent g 0 s else s
    let s := match occ with
      | some o => if (s.firstOut g).isNone then groupEvent g 2 (s.setFirst g (some o)) else s
      | none => s
    if !act && !un then
      let s := if (s.groupCfg g).testBit 1 then s else s.setFirst g none
      if before.1 || before.2 then groupEvent g 1 s else s
    else s

/-! Events and the notice given to dependants. -/

/-- The payload of a point event (R226, R419). `src` is the source of R223, 7 for none; `issuer` the node for
source 2. -/
def pointPayload (c : PCfg) (i src issuer : Nat) (p : Point) : List Byte :=
  let w0 := i + p.status.code * 2 ^ 17 + p.vstate.code * 2 ^ 20 + p.astate.code * 2 ^ 23 + b2n p.silenced * 2 ^ 25
    + b2n p.inhibited * 2 ^ 26 + b2n p.shelved * 2 ^ 27 + b2n p.oos * 2 ^ 28 + b2n p.escalated * 2 ^ 29 + b2n p.resync * 2 ^ 30
  let w4 := c.units + effPrio c p * 2 ^ 16 + c.cat * 2 ^ 18 + c.callClass * 2 ^ 20 + p.reason * 2 ^ 24 + src * 2 ^ 28
  payloadWords [w0, p.value.toNat, p.inst, p.pseq, w4, p.srcFault + issuer * 2 ^ 16]

/-- Something R226 reports has changed. -/
def reportable (old new : Point) : Bool :=
  old.vstate != new.vstate || old.astate != new.astate || old.silenced != new.silenced || old.escalated != new.escalated
    || old.inhibited != new.inhibited || old.shelved != new.shelved || old.oos != new.oos

/-- The frame of class 0x01 with one entry (R324). -/
def sendValue (i : Nat) (st : SrcStatus) (vs : VState) (v : Word) (units : Nat) (s : State) : State :=
  originateNew 0x01 0 true
    ([1, 0, 0, 0] ++ leBytes 4 (i + st.code * 2 ^ 17 + vs.code * 2 ^ 20) ++ leBytes 4 v.toNat ++ leBytes 4 units) s

/-- A value frame for one point (R187). -/
def valueFrame (i : Nat) (c : PCfg) (p : Point) (s : State) : State :=
  let s := sendValue i p.status p.vstate p.value c.units s
  s.setPt i { p with published := some (p.value, s.now) }

/-- A point that was published and no longer is, or whose record is no longer in use, arrives as STALE at the nodes that
name it: one last frame says so (R182, R187). -/
def withdrawFrame (i : Nat) (p : Point) (s : State) : State :=
  if p.published.isSome then sendValue i .stale p.vstate p.value 0 s else s

/-- The value has moved by more than HYST from the value last published (R187). -/
def movedFrom (hyst old new : Word) : Bool := F32.lt hyst (F32.abs (F32.sub new old))

/-- Publish a point where R187 asks for it. -/
def publishCheck (i : Nat) (c : PCfg) (old new : Point) (s : State) : State :=
  if !c.publish then
    (if new.published.isSome then (withdrawFrame i new s).setPt i { new with published := none } else s)
  else
    let moved := match new.published with
      | none => true
      | some (v, _) => movedFrom c.hyst v new.value
    if old.vstate != new.vstate || old.status != new.status || moved then valueFrame i c new s else s

/-- The triggers a change of point `i` sends to the points that name it (R190, R204). -/
def notifyTrigs (i : Nat) (fresh changed : Bool) (s : State) : List Trig :=
  s.eng.pts.flatMap fun x =>
    let c := s.pcfg x.1
    (if changed && c.gateEn && c.gatePt == i then [Trig.gate x.1] else [])
      ++ (if c.names i && (changed || (fresh && c.kind == 6 && c.func == 0)) then [Trig.derive x.1 fresh] else [])

/-- Queue them. -/
def notify (i : Nat) (fresh changed : Bool) (s : State) : State :=
  (notifyTrigs i fresh changed s).foldl State.trigger s

/-- Hand a point's event over, or hold it at engine egress while the point's row is being restored (R371). -/
def egressEmit (i : Nat) (e : Evt) (s : State) : State :=
  if s.eng.restoring.contains i then s.withEng { s.eng with egress := s.eng.egress ++ [(i, e)] } else emit e s

/-- Take a point from `old` to `new`, already through alertStep: runtime, event, groups, publication and the
points that depend on it, in one step (R204, R226, R231). -/
def commitPt (i : Nat) (old new : Point) (src issuer : Nat) (fresh : Bool) (s : State) : State :=
  let c := s.pcfg i
  let snaps := old.groups.map fun g => (g, s.groupSnap g)
  let rep := reportable old new
  let new' := if rep then { new with pseq := (new.pseq + 1) % 2 ^ 32 } else new
  let kept := if rep then { new' with resync := false } else new'
  let s := s.setPt i kept
  let s :=
    if rep then
      egressEmit i ⟨.point, 0x040, 0x4080, prioSev (effPrio c new'), pointPayload c i src issuer new', c.publish || c.callClass != 0⟩ s
    else s
  let newOcc := old.inst != new.inst
  let s := if newOcc then mark 0x040 0 s else s
  let s := if old.astate != .rectUnack && new.astate == .rectUnack then mark 0x040 1 s else s
  let s := if !old.escalated && new.escalated then mark 0x040 2 s else s
  let occ := if newOcc && new.astate == .activeUnack && !new.dead then some (i, new.inst) else none
  let s := snaps.foldl (fun s x => groupAfter x.1 x.2 occ s) s
  let s := publishCheck i c old kept s
  notify i fresh (old.value != new.value || old.vstate != new.vstate || old.status != new.status) s

/-! Derived functions (R190 to R194). -/

/-- The point is ON as a subject (R194). -/
def State.ptOn (s : State) (j : Nat) : Bool :=
  match s.usablePt j with
  | none => false
  | some p => nonZero p.value

/-- Usable members with their values, in ascending k, without the subject (R191). -/
def State.uset (s : State) (c : PCfg) : List Word :=
  ((c.members.filter fun m => !(c.hasSubject && m == c.subject)).filterMap s.usablePt).map (·.value)

/-- A sum in binary32, adding in order (R191). -/
def sumF : List Word → Word
  | [] => 0
  | v :: vs => vs.foldl F32.add v

/-- How a member counts in AND and OR: true, false or undecided (R193). One in an open edit range is undecided (DEDUCED: R200
has derived points find it unusable, and R193's table does not list it, log entry 100). -/
def State.tri (s : State) (faultAs : Bool) (m : Nat) : Option Bool :=
  match s.pt m with
  | none => none
  | some p =>
    if p.oos || s.inEdit m then none
    else
      match p.vstate with
      | .unknown => none
      | .fault => some faultAs
      | v =>
        match p.usable with
        | some (x, st) => some (rawState (s.pcfg m) x st v != .normal)
        | none => some (v != .normal)

def triAnd (l : List (Option Bool)) : Option Bool :=
  if l.any (· == some false) then some false else if l.any (· == none) then none else some true

def triOr (l : List (Option Bool)) : Option Bool :=
  if l.any (· == some true) then some true else if l.any (· == none) then none else some false

/-- The status a derived point takes from a subject that is not usable (R191, R192). -/
def subjectStatus : Option Point → SrcStatus × Nat × Nat
  | some p =>
    match p.status with
    | .fault => (.fault, p.srcFault, p.reason)
    | _ => (.stale, 0, 0)
  | none => (.stale, 0, 0)

/-- A RATE point's answer: the delivery, if any, and the new anchor (R192). -/
def rateStep (c : PCfg) (now : Nat) (subj : Option Point) (usable : Option Point) (fresh : Bool)
    (anchor : Option (Word × Nat)) : Option (Word × SrcStatus × Nat × Nat) × Option (Word × Nat) :=
  if subj.any fun p => p.status == .ranging then (none, anchor)
  else
    match usable with
    | none =>
      let (st, f, r) := subjectStatus subj
      (some (0, st, f, r), none)
    | some p =>
      if !fresh then (none, anchor)
      else
        match anchor with
        | none => (some (0, .stale, 0, 0), some (p.value, now))
        | some (v, t) =>
          let w := 32 * c.rateWindow
          let span := (now + 2 ^ 32 - t % 2 ^ 32) % 2 ^ 24
          let d := if w / 2 ≤ span ∧ 0 < span then
            some (F32.div (F32.mul (F32.sub p.value v) (F32.ofInt 32)) (F32.ofInt span), SrcStatus.valid, 0, 0) else none
          (d, if w ≤ span then some (p.value, now) else some (v, t))

/-- The accumulator of a COUNT or RUNHRS point after an evaluation (R194): `known` tells that the subject is usable, and
the first value after a rebuild sets where COUNT starts. -/
def accStep (func now : Nat) (known on : Bool) (p : Point) : Point :=
  if func = 7 then
    { p with acc := (match p.subjOn with
        | some false => if on then (p.acc + 1) % 2 ^ 40 else p.acc
        | _ => p.acc), subjOn := (if p.subjOn.isNone && !known then none else some on), accTick := now }
  else
    let el := (now + 2 ^ 32 - p.accTick % 2 ^ 32) % 2 ^ 24
    { p with acc := if p.subjOn == some true then (p.acc + el) % 2 ^ 40 else p.acc, subjOn := some on, accTick := now }

/-- What a derived point delivers to itself, and its runtime as the function leaves it. -/
def deriveStep (c : PCfg) (fresh : Bool) (p : Point) (s : State) : Option (Word × SrcStatus × Nat × Nat) × Point :=
  let stale : Option (Word × SrcStatus × Nat × Nat) := some (0, .stale, 0, 0)
  let few := decide ((s.uset c).length < c.minValid)
  let u := s.uset c
  match c.func with
  | 0 =>
    let (d, a) := rateStep c s.now (s.pt c.subject) (s.usablePt c.subject) fresh p.anchor
    (d, { p with anchor := a })
  | 1 =>
    match s.usablePt c.subject with
    | none =>
      let (st, f, r) := match s.pt c.subject with
        | some q => if q.status == .ranging then (.ranging, 0, 0) else subjectStatus (some q)
        | none => subjectStatus none
      (some (0, st, f, r), p)
    | some q =>
      if few then (stale, p)
      else (some (F32.sub q.value (F32.div (sumF u) (F32.ofInt u.length)), .valid, 0, 0), p)
  | 2 => if few then (stale, p) else (some (u.foldl (fun m v => if F32.lt v m then v else m) (u.headD 0), .valid, 0, 0), p)
  | 3 => if few then (stale, p) else (some (u.foldl (fun m v => if F32.lt m v then v else m) (u.headD 0), .valid, 0, 0), p)
  | 4 => if few then (stale, p) else (some (F32.div (sumF u) (F32.ofInt u.length), .valid, 0, 0), p)
  | 5 =>
    match triAnd (c.members.map (s.tri c.faultAs)) with
    | none => (stale, p)
    | some b => (some (F32.ofInt (b2n b), .valid, 0, 0), p)
  | 6 =>
    match triOr (c.members.map (s.tri c.faultAs)) with
    | none => (stale, p)
    | some b => (some (F32.ofInt (b2n b), .valid, 0, 0), p)
  | 7 =>
    let p := accStep 7 s.now (s.usablePt c.subject).isSome (s.ptOn c.subject) p
    (some (F32.ofInt p.acc, .valid, 0, 0), p)
  | _ =>
    let p := accStep 8 s.now (s.usablePt c.subject).isSome (s.ptOn c.subject) p
    (some (F32.ofRatio p.acc 115200, .valid, 0, 0), p)

/-! Evaluation of one trigger on one point. -/

/-- The status a value keeps after scaling: a negative GAIN turns the direction (R189). -/
def scaledStatus (gain : Word) : SrcStatus → SrcStatus
  | .overHi => if F32.lt gain 0 then .overLo else .overHi
  | .overLo => if F32.lt gain 0 then .overHi else .overLo
  | st => st

/-- A delivery after scaling: value, status, fault bits, reason (R189, R212). -/
def scaleDelivery (c : PCfg) (last u : Word) (st : SrcStatus) (f r : Nat) : Word × SrcStatus × Nat × Nat :=
  if st.usable then
    let v := F32.fma c.gain u c.offset
    if F32.isFinite v then (v, scaledStatus c.gain st, 0, 0) else (last, .fault, 0, 1)
  else (last, st, f, r)

/-- Count an evaluation (R236, R241). -/
def countEval (s : State) : State :=
  (s.bumpWrap F.pteEvalsCount 1).withEng { s.eng with passEvals := s.eng.passEvals + 1 }

/-- The point is under restoration, or a derived point that names one which is: it waits (R239, R371). -/
def State.barred (s : State) (i : Nat) : Bool :=
  s.eng.restoring.contains i || ((s.pcfg i).kind == 6 && s.eng.restoring.any fun j => (s.pcfg i).names j)

/-- The point cannot be evaluated: it waits for a restoration, is held by a lost row, or its record failed (R198, R239,
R240, R371). -/
def State.heldPt (s : State) (i : Nat) (p : Point) : Bool :=
  p.dead || (p.vstate == .fault && p.reason == 3) || s.barred i

/-- The gate as applied before a point's first evaluation after a rebuild (R228). -/
def firstGate (c : PCfg) (s : State) (p : Point) : Point :=
  if c.gateEn && p.gate.isNone then applyGate c s.now (s.gateEnabling c) p else p

/-- The node has no safety part, so a KIND 5 point has source status FAULT with reason 4 at all times (R188). -/
def State.unfittedPt (s : State) (c : PCfg) : Bool := c.kind == 5 && !s.part.safety

/-- A fresh value restarts the staleness count, or ends it where nothing supervises the point (R195). -/
def Point.restale (c : PCfg) (now : Nat) (p : Point) : Point :=
  { p with staleAt := if c.staleLim = 0 then none else some (tickPlus now c.staleLim) }

/-- The point as a delivery of scaled value leaves it, before its alert state is formed (R195, R205, R209, R212). REASON
and SRC_FAULT clear at the first fresh value, although VSTATE stays FAULT while an on-delay runs (DESIGN CHOICE: the
spec does not say when they clear, log entry 100). -/
def deliverCore (c : PCfg) (now : Nat) (v : Word) (st : SrcStatus) (f r : Nat) (p : Point) : Point :=
  let p := { (if st.usable then p.restale c now else p) with value := v, status := st }
  if st.usable then evalValue c now v st { p with usable := some (v, st), reason := 0, srcFault := 0 }
  else if st == .fault then { p.cancelDelay with vstate := .fault, reason := r, srcFault := f }
  else p

/-- A source delivery reaches a point (R205, R209, R212, R230). -/
def deliver (i : Nat) (u : Word) (st : SrcStatus) (f r : Nat) (s : State) : State :=
  match s.pt i with
  | none => s
  | some p =>
    let c := s.pcfg i
    if s.heldPt i p then s
    else
      let (v, st, f, r) := scaleDelivery c p.value u st f r
      let p := if c.kind == 2 && c.diMode == 1 then { p with accTick := s.now } else p
      if p.oos then
        let q := { p with value := v, status := st, reason := if s.unfittedPt c then 4 else p.reason }
        notify i false (p.value != v || p.status != st) (publishCheck i c p q (s.setPt i q))
      else
        let same := v == p.value && st == p.status && !((p.vstate == .unknown || p.vstate == .fault) && st.usable)
          && !(st == .fault && p.vstate != .fault)
        if same then notify i st.usable false (s.setPt i (if st.usable then p.restale c s.now else p))
        else
          let new := deliverCore c s.now v st f r (firstGate c s p)
          commitPt i p (alertStep c s.now p new) 7 0 st.usable (countEval s)

/-- An evaluation that at most moves the gate: from `p` to `q` (R226, R228, R236). -/
def gateOnly (i : Nat) (p q : Point) (s : State) : State :=
  if q = p then countEval s else commitPt i p (alertStep (s.pcfg i) s.now p q) 7 0 false (countEval s)

/-- A member or the subject of a derived point changed (R190). Out of service its value and status go on following,
but no accumulator advances (R230). -/
def evalDerived (i : Nat) (fresh : Bool) (s : State) : State :=
  match s.pt i with
  | none => s
  | some p =>
    let c := s.pcfg i
    if s.heldPt i p || (p.oos && decide (7 ≤ c.func)) then s
    else
      let (d, p') := deriveStep c fresh p s
      let s := s.setPt i p'
      match d with
      | some (u, st, f, r) => deliver i u st f r s
      | none => if p'.oos then s else gateOnly i p' (firstGate c s p') s

/-- The gate point of a point changed (R228). -/
def evalGate (i : Nat) (s : State) : State :=
  match s.pt i with
  | none => s
  | some p =>
    let c := s.pcfg i
    if s.heldPt i p || p.oos then s
    else
      gateOnly i p (applyGate c s.now (s.gateEnabling c) p) s

/-- A point as a forced evaluation finds it with its last value; one in UNKNOWN or FAULT only while an on-delay out of that
state may pend (R204, R212, R216). -/
def forceLast (c : PCfg) (s : State) (p : Point) : Point :=
  if s.unfittedPt c then { p.cancelDelay with status := .fault, vstate := .fault, reason := 4 }
  else if (p.vstate == .fault || p.vstate == .unknown) && (p.reason != 0 || !p.status.usable) then p
  else match p.usable with
    | some (v, st) => evalValue c s.now v st p
    | none => p

/-- A point as a forced evaluation leaves it, before its alert state is formed: it has its last value, and a derived point
that has none yet forms its function, which after a rebuild no change of a member would do (R201, R204). -/
def forceCore (c : PCfg) (s : State) (p : Point) : Point :=
  if c.kind = 6 ∧ p.status = .none then
    let (d, q) := deriveStep c false p s
    match d with
    | some (u, st, f, r) =>
      let (v, st, f, r) := scaleDelivery c q.value u st f r
      deliverCore c s.now v st f r q
    | none => forceLast c s q
  else forceLast c s p

/-- A forced evaluation (R204, R241). -/
def evalForce (i : Nat) (s : State) : State :=
  match s.pt i with
  | none => s
  | some p =>
    let c := s.pcfg i
    if p.oos || s.barred i then s
    else if p.dead || p.reason == 3 then commitPt i p (alertStep c s.now p p) 7 0 false (countEval s)
    else
      let new := forceCore c s (applyGate c s.now (s.gateEnabling c) p)
      commitPt i p (alertStep c s.now p new) 7 0 false (countEval s)

/-- The order of R206 within a pass: gate changes, then deliveries; a forced evaluation and then commands follow the
expiries. -/
def Trig.stage : Trig → Nat
  | .gate _ => 0
  | .deliver _ _ _ _ _ => 1
  | .derive _ _ => 1
  | .force _ => 2
  | .remote _ _ _ _ => 3

/-- Keep only the latest delivery of each point (R206). -/
def latestOnly : List Trig → List Trig
  | [] => []
  | t :: ts =>
    match t with
    | .deliver i _ _ _ _ =>
      let again := ts.any fun x => match x with
        | .deliver j _ _ _ _ => j == i
        | _ => false
      if again then latestOnly ts else t :: latestOnly ts
    | _ => t :: latestOnly ts

/-- The triggers of a pass in the order they are applied. -/
def passOrder (ts : List Trig) : List Trig :=
  let l := latestOnly ts
  l.filter (·.stage == 0) ++ l.filter (·.stage == 1) ++ l.filter (·.stage == 2) ++ l.filter (·.stage == 3)

/-! Rebuild (R197). -/

/-- The point record R197 writes; a record that has failed is not supervised. -/
def freshPoint (c : PCfg) (now tally slotAcc : Nat) (bad : Bool) : Point :=
  { value := 0, status := .none, srcFault := 0, reason := if bad then 3 else 0,
    vstate := if bad then .fault else .unknown, astate := .normal, silenced := false, inhibited := false,
    shelved := false, oos := false, escalated := false, resync := true, inst := tally % 2 ^ 32, pseq := tally % 2 ^ 32,
    dly := none, staleAt := if bad ∨ c.staleLim = 0 then none else some (tickPlus now c.staleLim), shelveAt := none, escAt := none,
    usable := none, gate := none, subjOn := none, acc := slotAcc, accTick := now, groups := c.groups,
    auxKind := if c.kind = 6 ∧ c.func = 0 then 1 else if c.slot.isSome then 2 else 0, anchor := none, published := none,
    dead := false, slot := c.slot }

/-- What a counter slot holds, or is to hold once the NVM gate opens (R194, R56). -/
def State.slotAcc (s : State) (k : Nat) : Nat :=
  match s.pwr.heldSlots.reverse.find? fun x => x.1 == k with
  | some x => x.2
  | none => Sparse.get (fun _ => 0) s.eng.slots k

def State.setSlot (s : State) (k acc : Nat) : State :=
  s.withEng { s.eng with slots := Sparse.set (fun _ => 0) s.eng.slots k (acc % 2 ^ 40) }

/-- The rebuilt point of a kind that this part does not fit: source status FAULT with reason 4 (R188). -/
def Point.unfitted (p : Point) : Point := if p.reason = 3 then p else { p with status := .fault, reason := 4, staleAt := none }

/-- Rebuild one point: its runtime record anew if its record is used, none if it is not (R182, R197). -/
def rebuildPt (i : Nat) (s : State) : State :=
  let c := s.pcfg i
  if c.used then
    let acc := match c.slot with
      | some k => s.slotAcc k
      | none => 0
    let dead := s.eng.deadPts.contains i
    let p := freshPoint c s.now s.ord.tally acc (dead || s.recReason i != 0)
    s.setPt i { (if s.unfittedPt c then p.unfitted else p) with dead := dead }
  else s.withEng { s.eng with pts := Sparse.erase s.eng.pts i }

/-- Write a slot, or hold the write at the NVM gate (R55, R56). -/
def writeSlot (k acc : Nat) (s : State) : State :=
  if s.gateClosed then s.withPwr { s.pwr with heldSlots := s.pwr.heldSlots ++ [(k, acc % 2 ^ 40)] } else s.setSlot k acc

/-- FIRST of a group is not valid any more: a group in use raises FIRST_LOST (R231, R235). -/
def firstLost (g : Nat) (s : State) : State :=
  if s.groupEn g then groupEvent g 3 (s.setFirst g none) else s.setFirst g none

/-- The live accumulator of a counter slot: that of the point which counts in it, not of a record that failed (R194). -/
def State.liveAcc (s : State) (k : Nat) : Nat :=
  match s.eng.pts.find? fun x => x.2.slot == some k && x.2.reason != 3 with
  | some x => x.2.acc
  | none => s.slotAcc k

/-- A first-out that is no longer a member is lost (R235). -/
def checkFirst (g : Nat) (s : State) : State :=
  match s.firstOut g with
  | none => s
  | some (i, _) => if (s.members g).any fun x => x.1 == i then s else firstLost g s

/-- Recount groups whose members were rebuilt or patched (R235, R234); `snaps` holds their ACTIVE and UNACK before. -/
def recountGroups (snaps : List (Nat × (Bool × Bool))) (s : State) : State :=
  snaps.foldl (fun s x => groupAfter x.1 x.2 none (checkFirst x.1 s)) s

/-- The groups some points count in. -/
def State.groupsIn (s : State) (is : List Nat) : List Nat :=
  is.flatMap fun i => match s.pt i with
    | some p => p.groups
    | none => []

/-- ACTIVE and UNACK of some groups. -/
def State.groupSnaps (s : State) (gs : List Nat) : List (Nat × (Bool × Bool)) := gs.map fun g => (g, s.groupSnap g)

/-- A list without repeats. -/
def dedupe : List Nat → List Nat
  | [] => []
  | x :: xs => x :: (dedupe xs).filter (· != x)

/-- The GAP of kind 1 that stands for a point's events held at engine egress (R371, R372). -/
def egressGap (i : Nat) (s : State) : State :=
  let evs := (s.eng.egress.filter fun x => x.1 == i).map (·.2)
  match evs, s.pt i with
  | e :: _, some p =>
    let first := leAt e.payload 12 4
    let s := s.withEng { s.eng with egress := s.eng.egress.filter fun x => x.1 != i }
    let s := (s.bumpSat F.ordGapcntPoint 1).setRaw 0x065 1
    let s := noteGap 1 s.nodeId i first evs.length s
    emit (gapEvt ([1, 0] ++ leBytes 2 s.nodeId ++ leBytes 4 first ++ leBytes 4 evs.length ++ leBytes 4 i ++ leBytes 4 p.inst ++ leBytes 4 0)) s
  | _, _ => s

/-- Rebuild every point of the manifest, with every first-out capture dropped (R87, R235); what points still held at
egress becomes a GAP (R371), and one whose row has no spare stays so (R240). -/
def rebuildAll (s : State) : State :=
  let s := (dedupe (s.eng.egress.map (·.1))).foldl (fun s i => egressGap i s) s
  let s := s.withEng { s.eng with
    pts := [], trigs := [], firsts := [], restoring := [], restoringCfg := [], restoringGrp := [], egress := [], heldAt := none }
  s.usedIdx.foldl (fun s i => rebuildPt i s) s

/-- A reset of class K of PTE rebuilds the whole point state; a FIRST that was valid is lost (R87, R235). -/
def rebuildReset (s : State) : State :=
  (s.eng.firsts.map (·.1)).foldl (fun s g => if s.groupEn g then groupEvent g 3 s else s) (rebuildAll s)

/-- Value, value state and source status of a point, whose change reaches the points that name it (R204). -/
def State.ptFace (s : State) (i : Nat) : Option (Word × VState × SrcStatus) :=
  (s.pt i).map fun p => (p.value, p.vstate, p.status)

/-- The points that name a rebuilt point are evaluated where the rebuild changed it (R190, R197, R204). -/
def notifyRebuilt (faces : List (Nat × Option (Word × VState × SrcStatus))) (s : State) : State :=
  faces.foldl (fun s x => if s.ptFace x.1 == x.2 then s else notify x.1 false true s) s

/-- What a rebuild of a point, `was` before it, says to the nodes that name it (R182, R187). -/
def publishRebuilt (i : Nat) (was : Option Point) (s : State) : State :=
  match (s.pt i).filter fun _ => (s.pcfg i).publish, was with
  | some p, _ => valueFrame i (s.pcfg i) p s
  | none, some q => withdrawFrame i q s
  | none, none => s

/-- Rebuild one point of a running engine, with the GAP and the value frame that this calls for. -/
def renewPt (i : Nat) (s : State) : State := publishRebuilt i (s.pt i) (rebuildPt i (egressGap i s))

/-- Rebuild some points: what they still held at egress becomes a GAP, and their groups before and after are
recounted (R197, R235, R371). -/
def rebuildSome (is : List Nat) (s : State) : State :=
  let old := s.groupsIn is
  let gs := dedupe (old ++ is.flatMap fun i => (s.pcfg i).groups)
  let snaps := s.groupSnaps gs
  let faces := is.map fun i => (i, s.ptFace i)
  notifyRebuilt faces (recountGroups snaps (is.foldl (fun s i => renewPt i s) s))

/-- Copy every live accumulator to its slot (R194). A record that has failed counts nothing, so a slot that it shares keeps
what the point in use has gathered; out of service no accumulator advances (R230). -/
def mirrorSlots (s : State) : State :=
  s.eng.pts.foldl (fun s x => match x.2.slot with
    | some k => if x.2.reason = 3 ∨ x.2.oos then s else s.setSlot k x.2.acc
    | none => s) s

/-- Ask for a forced evaluation of some points. -/
def forceAll (is : List Nat) (s : State) : State := is.foldl (fun s i => s.trigger (.force i)) s

/-! Expiries (R210, R212, R222, R228, R229). -/

/-- A point's staleness count reaches STALE_LIM (R195, R212). -/
def expireStale (i : Nat) (s : State) : State :=
  match s.pt i with
  | none => s
  | some p =>
    match p.staleAt with
    | none => s
    | some t =>
      if !s.reached t || s.heldPt i p || p.oos || s.inEdit i || s.unfittedPt (s.pcfg i) then s
      else
        let c := s.pcfg i
        let p1 := firstGate c s p
        let new := { p1.cancelDelay with vstate := .fault, reason := 2, staleAt := none }
        commitPt i p (alertStep c s.now p new) 7 0 false (countEval s)

/-- An on-delay or off-delay expires (R210). -/
def expireDly (i : Nat) (s : State) : State :=
  match s.pt i with
  | none => s
  | some p =>
    match p.dly with
    | some (k, t) =>
      if k == .runup || !s.reached t || s.heldPt i p || s.inEdit i then s
      else
        let c := s.pcfg i
        commitPt i p (alertStep c s.now p (expireDelay c p)) 7 0 false (countEval s)
    | none => s

/-- A run-up expires: INHIBITED clears (R228). -/
def expireRunup (i : Nat) (s : State) : State :=
  match s.pt i with
  | none => s
  | some p =>
    match p.dly with
    | some (.runup, t) =>
      if !s.reached t || s.heldPt i p || s.inEdit i then s
      else
        let c := s.pcfg i
        commitPt i p (alertStep c s.now p { p with dly := none, inhibited := false }) 7 0 false (countEval s)
    | _ => s

/-- A shelving timer expires (R229). -/
def expireShelve (i : Nat) (s : State) : State :=
  match s.pt i with
  | none => s
  | some p =>
    match p.shelveAt with
    | none => s
    | some t =>
      if !s.reached t || s.inEdit i || s.barred i then s
      else
        let c := s.pcfg i
        mark 0x040 3 (commitPt i p (alertStep c s.now p { p with shelved := false, shelveAt := none }) 7 0 false (countEval s))

/-- A warning's escalation timer expires (R222). -/
def expireEsc (i : Nat) (s : State) : State :=
  match s.pt i with
  | none => s
  | some p =>
    match p.escAt with
    | none => s
    | some t =>
      if !s.reached t || s.inEdit i || s.barred i then s
      else commitPt i p { p with escalated := true, silenced := false, escAt := none } 7 0 false (countEval s)

/-- The expiries of one point at a boundary, in the order of R213. -/
def expirePt (i : Nat) (s : State) : State :=
  expireEsc i (expireShelve i (expireRunup i (expireDly i (expireStale i s))))

/-- How many entries of a point have reached their tick. -/
def dueCount (s : State) (p : Point) : Nat :=
  b2n (p.staleAt.any s.reached) + b2n (p.dly.any fun d => s.reached d.2) + b2n (p.shelveAt.any s.reached)
    + b2n (p.escAt.any s.reached)

/-! Commands on points (R220, R221, R223, R229, R230). -/

/-- `a` is later than `b` modulo 2^w (R376). -/
def laterMod (w a b : Nat) : Bool :=
  let d := (a + 2 ^ w - b % 2 ^ w) % 2 ^ w
  decide (0 < d) && decide (d < 2 ^ (w - 1))

/-- The result of R242 for an acknowledgement of one point; 0 when it takes effect (R220). -/
def ackResult (i named : Nat) (s : State) : Nat :=
  match s.pt i with
  | none => 4
  | some p =>
    if p.oos || s.inEdit i then 4
    else if laterMod 32 p.inst named then 2
    else if named ≠ p.inst then 3
    else if p.unacked then 0 else 1

/-- Log a refused acknowledgement or silence (R220, R417 OPCMD_REFUSED). -/
def logRefused (i named result src : Nat) (s : State) : State :=
  if result = 2 ∨ result = 3 ∨ result = 4 then record 0x040 0x4020 2 [i, named, result, src] s else s

/-- Change a point by command: its event carries the source. -/
def commandPt (i : Nat) (f : Point → Point) (src issuer : Nat) (s : State) : State :=
  match s.pt i with
  | none => s
  | some p => commitPt i p (f p) src issuer false (countEval s)

/-- Acknowledge one point, naming an instance (R220). -/
def ackOne (i named src issuer : Nat) (s : State) : Nat × State :=
  let r := ackResult i named s
  (r, if r = 0 then commandPt i acknowledge src issuer s else logRefused i named r src s)

/-- The result of a silence of one point (R221, R242). -/
def silenceResult (i : Nat) (s : State) : Nat :=
  match s.pt i with
  | none => 4
  | some p => if p.oos || s.inEdit i then 4 else if p.unacked then 0 else 1

def silenceOne (i src issuer : Nat) (s : State) : Nat × State :=
  let r := silenceResult i s
  (r, if r = 0 then commandPt i (fun p => { p with silenced := true }) src issuer s else logRefused i 0 r src s)

/-- Points in scope of a group or all-points command that it acts on (R223): source 3 acknowledges no
category A point; one under restoration leaves it with no occurrence to act on (R239). -/
def State.scopePts (s : State) (group : Option Nat) (skipA : Bool) : List Nat :=
  (s.eng.pts.filter fun x =>
    x.2.unacked && !x.2.oos && !s.inEdit x.1 && !s.eng.restoring.contains x.1 && (match group with
      | some g => (s.pcfg x.1).inGroup g
      | none => true) && !(skipA && (s.pcfg x.1).cat == 0)).map (·.1)

/-- Acknowledge every point of a scope at its current instance (R223). -/
def ackScope (group : Option Nat) (skipA : Bool) (src issuer : Nat) (s : State) : Nat × State :=
  let is := s.scopePts group skipA
  (is.length, is.foldl (fun s i => commandPt i acknowledge src issuer s) s)

/-- Silence every point (R221). -/
def silenceScope (src issuer : Nat) (s : State) : Nat × State :=
  let is := s.scopePts none false
  (is.length, is.foldl (fun s i => commandPt i (fun p => { p with silenced := true }) src issuer s) s)

/-- An acknowledgement or silence of one point from another node (R223, R343). -/
def remoteOne (i op named issuer : Nat) (s : State) : State :=
  if op = 1 then (ackOne i named 2 issuer s).2 else (silenceOne i 2 issuer s).2

/-- One trigger on one point (R204). -/
def evalTrig (t : Trig) (s : State) : State :=
  match t with
  | .deliver i u st f r => deliver i u st f r s
  | .derive i fresh => evalDerived i fresh s
  | .gate i => evalGate i s
  | .force i => evalForce i s
  | .remote i op named issuer => remoteOne i op named issuer s

end Sys2Proof.Machine
end

