-- ==== Sys2Proof/Machine/Flags.lean ====
section
/-!
DEFINITION. Every flag the spec computes from others: EVT_PEND (R93), the 128 interrupt sources (R115), the hosts'
views and pins (R116, R117), ALERT_N (R118), and PAGE_STAT (R93, R95).
-/

namespace Sys2Proof.Machine

/-- A page whose block is not fitted: SAFE and SEAL of the FYN-7256N (R3). -/
def State.notFitted (s : State) (page : Nat) : Bool := !s.part.safety && (page == 0x070 || page == 0x071)

/-- EVT_PEND of a page: RAW AND EN (R93). -/
def State.pend (s : State) (page : Nat) : Nat :=
  if s.notFitted page then 0 else ((s.reg (page * 0x1000 + 0x00C)) &&& (s.reg (page * 0x1000 + 0x010))).toNat

/-- Some bit of EVT_PEND [hi:lo] is set. -/
def State.pendAny (s : State) (page hi lo : Nat) : Bool := (s.pend page >>> lo) % 2 ^ (hi + 1 - lo) != 0

/-- The level of interrupt source `n` (R115). -/
def State.source (s : State) (n : Nat) : Bool :=
  if 16 ≤ n ∧ n ≤ 47 then s.pendAny (0x010 + (n - 16)) 31 0
  else if 64 ≤ n ∧ n ≤ 71 then s.pendAny (0x050 + (n - 64)) 31 0
  else if 72 ≤ n ∧ n ≤ 75 then s.pendAny (0x060 + (n - 72)) 31 0
  else if 76 ≤ n ∧ n ≤ 79 then s.pendAny 0x064 (8 * (n - 76) + 7) (8 * (n - 76))
  else if 80 ≤ n ∧ n ≤ 87 then s.pendAny 0x065 (4 * (n - 80) + 3) (4 * (n - 80))
  else if 88 ≤ n ∧ n ≤ 93 then s.pendAny 0x070 (4 * (n - 88) + 3) (4 * (n - 88))
  else if 96 ≤ n ∧ n ≤ 101 then s.pendAny 0x078 (4 * (n - 96) + 3) (4 * (n - 96))
  else if 104 ≤ n ∧ n ≤ 111 then s.pendAny 0x080 (4 * (n - 104) + 3) (4 * (n - 104))
  else if 112 ≤ n ∧ n ≤ 119 then s.pendAny 0x088 (4 * (n - 112) + 3) (4 * (n - 112))
  else match n with
    | 0 => s.pendAny 0x001 0 0
    | 1 => s.pendAny 0x001 1 1
    | 2 => s.pendAny 0x000 31 0 || s.pendAny 0x001 2 2 || s.pendAny 0x004 31 31
    | 3 => s.pendAny 0x001 3 3
    | 4 => s.pendAny 0x001 31 4
    | 5 => s.pendAny 0x002 0 0
    | 6 => s.pendAny 0x002 31 1
    | 7 => s.pendAny 0x003 31 0
    | 8 => s.pendAny 0x005 7 0 || s.pendAny 0x005 31 16
    | 9 => s.pendAny 0x005 15 8
    | 10 => s.pendAny 0x006 7 0 || s.pendAny 0x006 31 16
    | 11 => s.pendAny 0x006 15 8
    | 48 => s.pendAny 0x040 7 0
    | 49 => s.pendAny 0x040 15 8
    | 50 => s.pendAny 0x040 31 16
    | 51 => s.pendAny 0x041 31 0
    | 52 => s.pendAny 0x042 31 0
    | 53 => s.pendAny 0x043 15 0
    | 54 => s.pendAny 0x043 31 16
    | 55 => s.pendAny 0x044 31 0
    | 56 => s.pendAny 0x048 15 0
    | 57 => s.pendAny 0x048 31 16
    | 58 => s.pendAny 0x007 31 0
    | 59 => s.pendAny 0x030 31 0
    | 60 => s.pendAny 0x031 31 0
    | 61 => s.pendAny 0x032 31 0
    | 62 => s.pendAny 0x033 31 0
    | 63 => s.pendAny 0x058 31 0
    | 94 => s.pendAny 0x070 31 24
    | 95 => s.pendAny 0x071 31 0
    | 102 => s.pendAny 0x078 31 24
    | 103 => s.pendAny 0x079 31 0
    | _ => false

/-- The sources that are not spare: all but 12 to 15 and 120 to 127 (R115). -/
def sourceMask (k : Nat) : Nat :=
  match k with
  | 0 => 0xFFFF0FFF
  | 3 => 0x00FFFFFF
  | _ => 0xFFFFFFFF

/-- IRQ.SRCk (R116). -/
def State.srcWord (s : State) (k : Nat) : Nat :=
  (List.range 32).foldl (fun w i => w + b2n (s.source (32 * k + i)) * 2 ^ i) 0

/-- A host's IRQ.ENk; spare bits read 0 (R116). -/
def State.enWord (s : State) (h : HostId) (k : Nat) : Nat := (s.regH h (0x004050 + 4 * k)).toNat &&& sourceMask k

/-- A host's IRQ.VIEWk (R116). -/
def State.viewWord (s : State) (h : HostId) (k : Nat) : Nat := s.srcWord k &&& s.enWord h k

/-- The lowest-numbered asserted source of a host's view (R116 FIRST). -/
def State.firstSource (s : State) (h : HostId) : Option Nat :=
  ((List.range 128).find? fun n => (s.viewWord h (n / 32)).testBit (n % 32))

/-- HA_IRQ_N or HB_IRQ_N is driven low (R117); until a base image is in effect both are released (R36). -/
def State.irqLow (s : State) (h : HostId) : Bool := s.configured && (List.range 4).any fun k => s.viewWord h k != 0

/-- BY_START: a reset of class C, U, P, W or S is in progress (R118). -/
def State.byStart (s : State) : Bool := decide (s.phase = .starting)

/-- BY_SOURCE: a source enabled in ALERT_EN is asserted (R118). -/
def State.bySource (s : State) : Bool :=
  (List.range 4).any fun k => s.srcWord k &&& ((s.reg (0x004070 + 4 * k)).toNat &&& sourceMask k) != 0

/-- ALERT_N is driven low (R118); with main power absent it is released (R36). -/
def State.alertLow (s : State) : Bool :=
  match s.phase with
  | .starting | .testHold => true
  | .backup => false
  | _ => s.bySource

/-- FAULT_CODE as it reads: a lasting block fault before the most recent access fault (R95). -/
def State.faultCode (s : State) (page : Nat) : Nat :=
  if s.notFitted page then 0xFE
  else if s.lastingCode page != 0 then s.lastingCode page
  else s.get (F.hdrPageStatFaultCode.page page)

/-- A command of a page's block is in progress: a STANDBY asked for and not entered, a mirroring that the gate holds, a key being programmed, a curve load, an operator or administrative
command, an edit that waits for its quiet point, an install, an erasure or copy of a load, a switch being applied, a
bit-rate detection, a PHY access or a configuration transfer, the erasure of a safety slot, a logbook clear, a gangway
seek (R77, R168, R199, R201, R242, R269, R270, R278, R282, R312, R347, R351, R410, R429, R432). -/
def State.commandRuns (s : State) (page : Nat) : Bool :=
  match page with
  | 0x001 => s.pwr.standbyReq.isSome || s.flag F.pwrCtlMirrorNow
  | 0x007 => s.tt.keyCmd.isSome
  | 0x031 => s.afe.load.isSome
  | 0x040 => s.getH .a F.pteOpresBusy == 1 || s.getH .b F.pteOpresBusy == 1 || s.flag F.pteAdmresBusy
  | 0x044 => s.eng.openReq.isSome || s.flag F.manCmdClose
  | 0x048 => s.tt.install.isSome || s.tt.erasing || s.tt.copying || s.tt.pending.isSome
  | 0x050 | 0x051 | 0x052 | 0x053 | 0x054 | 0x055 | 0x056 | 0x057 => s.segs.any fun x => x.1 + 0x050 == page && x.2.det.isSome
  | 0x064 => s.flag F.xnetMdioGo || s.xnet.xferOut.isSome
  | 0x071 => s.safe.write.any fun w => w.2.1 != .ready
  | 0x078 => s.lg.clear.isSome
  | 0x079 => s.getH .a F.gwyStatWait == 1 || s.getH .b F.gwyStatWait == 1
  | _ => false

/-- BUSY: a commit, a block reset or a block command is in progress (R93). -/
def State.pageBusy (s : State) (page : Nat) : Bool :=
  s.commandRuns page ||
  s.flag (F.hdrPageStatBusy.page page) || s.flag (F.hdrPageCommitCommit.page page) || s.flag (F.hdrPageCtlBlkRst.page page)

/-- READY: enabled, configured and running (R93). -/
def State.pageReady (s : State) (page : Nat) : Bool :=
  s.pageEn page && s.configured && !s.flag (F.hdrPageCtlBlkRst.page page)

/-- PAGE_STAT of a page (R93). -/
def State.pageStat (s : State) (page : Nat) : Nat :=
  if s.notFitted page then 0xFE04
  else
    let fc := s.faultCode page
    fc * 256 + 16 * b2n (s.hasStaged page) + 8 * s.get (F.hdrPageStatLocked.page page) + 4 * b2n (fc != 0)
      + 2 * b2n (s.pageBusy page) + b2n (s.pageReady page)

/-- PAGE_ID of a page (R89, R3). -/
def State.pageId (s : State) (page : Nat) : Nat :=
  match pageBlock page with
  | none => 0
  | some (b, i) => (if s.notFitted page then 0 else 2 ^ 24) + i * 2 ^ 16 + b.code

end Sys2Proof.Machine
end

