-- ==== Sys2Proof/Machine/Live.lean ====
section
/-!
DEFINITION. What each register reads: the stored word, with the live fields computed from the state (R116, R231,
R243, R244, R377, R438 and the like).
-/

namespace Sys2Proof.Machine

/-- The live words of the page header (R93). -/
def liveHeader (a : Nat) (s : State) : Option Nat :=
  let page := a / 0x1000
  match a % 0x1000 with
  | 0x000 => some (s.pageId page)
  | 0x008 => some (s.pageStat page)
  | 0x014 => some (s.pend page)
  | _ => none

/-- SYS, PWR and IRQ (R5, R79, R116). -/
def liveSys (h : HostId) (a : Nat) (s : State) : Option Nat :=
  if 0x004040 ≤ a ∧ a < 0x004050 then some (s.srcWord ((a - 0x004040) / 4))
  else if 0x004050 ≤ a ∧ a < 0x004060 then some (s.enWord h ((a - 0x004050) / 4))
  else if 0x004060 ≤ a ∧ a < 0x004070 then some (s.viewWord h ((a - 0x004060) / 4))
  else if 0x004070 ≤ a ∧ a < 0x004080 then some ((s.reg a).toNat &&& sourceMask ((a - 0x004070) / 4))
  else match a with
    | 0x000040 => some (s.part.revStep.toNat * 2 ^ 24 + s.part.revLetter.toNat * 2 ^ 20 + b2n s.part.safety * 2 ^ 16 + 0x7256)
    | 0x00004C => some ((s.reg a).toNat)
    | 0x00104C => some (s.pwr.svc % 2 ^ 32)
    | 0x001054 => some s.pwr.cycles
    | 0x004080 => match s.firstSource h with
      | some n => some (2 ^ 31 + n)
      | none => some 0
    | 0x004084 => some (4 * b2n s.bySource + 2 * b2n s.byStart + b2n s.alertLow)
    | _ => none

/-- DI readings are valid: in service, VFIELD good, not in STANDBY (R36, R176). -/
def State.diGood (s : State) : Bool := s.configured && !s.standby && !s.flag F.pwrStatVfieldFail && s.pageEn 0x033

/-- DIO.STAT, MAN, PTE, TIDE and GRP (R176, R203, R241, R243, R244). A pass is over when its command ends, so FORCED and
LANE_BUSY read 0 between commands. -/
def liveEngine (h : HostId) (a : Nat) (s : State) : Option Nat :=
  let g := s.getH h F.grpSelGroup
  match a with
  | 0x033048 => some (b2n s.diGood)
  | 0x040040 => some (b2n (s.configured && s.get F.pwrStatState == 0 && !s.flag F.clkStatEngOnPll) * 2 ^ 8)
  | 0x044050 => some s.usedIdx.length
  | 0x044058 => some (s.liveAcc (s.get F.manCntSlotSlot) % 2 ^ 32)
  | 0x041044 => some ((s.eng.pts.filter fun x => x.2.dly.isSome).length)
  | 0x041048 => some (s.eng.pts.foldl (fun n x => n + b2n x.2.staleAt.isSome + b2n x.2.shelveAt.isSome + b2n x.2.escAt.isSome) 0)
  | 0x042044 => some (s.groupCfg g)
  | 0x042048 =>
    some (b2n (decide (0 < s.actCnt g)) * 2 ^ 31 + b2n (decide (0 < s.unackCnt g)) * 2 ^ 30 + s.topPrio g * 2 ^ 28 + s.actCnt g)
  | 0x04204C => some (s.unackCnt g)
  | 0x042050 => some ((s.eng.pts.filter fun x => (s.pcfg x.1).used && (s.pcfg x.1).inGroup g).length)
  | 0x042054 => match s.firstOut g with
    | some (i, _) => if s.groupEn g then some (2 ^ 31 + i) else some 0
    | none => some 0
  | 0x042058 => match s.firstOut g with
    | some (_, n) => if s.groupEn g then some n else some 0
    | none => some 0
  | _ => none

/-- ORD (R377). -/
def liveOrd (a : Nat) (s : State) : Option Nat :=
  match a with
  | 0x065040 => some (s.ord.tally % 2 ^ 32)
  | 0x065048 => some (s.ceilNow % 2 ^ 32)
  | 0x065050 => some ((s.reg a).toNat &&& 0x34 ||| (8 * b2n s.ceilAon + 2 * b2n s.ord.ceilBOk + b2n s.ord.ceilAOk))
  | _ => none

/-- Records the gangway shows: the main area, or the fail-over area while the logbook has failed (R427, R434). -/
def State.gwyRecs (s : State) : List Rec := if s.flag F.logStatFailed then s.lg.failover else s.lg.main

/-- LOG (R438). -/
def liveLog (h : HostId) (a : Nat) (s : State) : Option Nat :=
  match a with
  | 0x078044 =>
    some ((s.reg a).toNat % 2 ^ 29 / 2 ^ 18 * 2 ^ 18 + b2n (s.gateClosed && !s.lg.ingress.isEmpty) * 2 ^ 29 + s.lg.main.length)
  | 0x078048 => match s.lg.freezeAt with
    | some t => some (1920 - s.since t)
    | none => some 0
  | 0x07804C => some (s.get F.logQueuePeak * 2 ^ 16 + s.lg.ingress.length)
  | 0x078058 => some (s.lg.failover.length * 2 ^ 16 + s.lg.ring.length)
  | 0x07805C => some (s.get F.logRetiredProxyLost * 2 ^ 16 + s.lg.retired.length)
  | 0x0780D4 => if h = .a then none else some 0
  | _ => none

/-- XNET (R351). -/
def liveXnet (h : HostId) (a : Nat) (s : State) : Option Nat :=
  let w := s.getH h F.xnetMapselWord
  let word (m : BitVec 1024) : Nat := (m.toNat >>> (32 * w)) % 2 ^ 32
  let present := s.xnet.present ||| BitVec.ofNat 1024 (2 ^ s.nodeId)
  match a with
  | 0x064048 => some (popCount 1024 s.xnet.lost.toNat * 2 ^ 16 + popCount 1024 present.toNat)
  | 0x064050 => some (word present)
  | 0x064054 => some (word s.xnet.lost)
  | 0x064058 => some (word (s.xnet.cap &&& present))
  | 0x064074 => some (s.get F.xnetAckqDropped * 2 ^ 16 + s.xnet.pendAcks.length)
  | _ => none

/-- What reads as zero because the field is write-only (R10). -/
def woMask (fs : List FieldRow) : Word := fs.foldl (fun m f => if f.acc = .wo then m ||| fieldMask f else m) 0

/-- The bits of a register kept per host. -/
def perHostMask (fs : List FieldRow) : Word := fs.foldl (fun m f => if f.perHost then m ||| fieldMask f else m) 0

/-- The stored word of a register as one host reads it. -/
def State.stored (s : State) (h : HostId) (a : Nat) : Word :=
  let fs := regFields a
  let m := perHostMask fs
  ((s.reg a &&& ~~~m) ||| (s.regH h a &&& m)) &&& ~~~(woMask fs)


/-- Seconds from now to a tide tick, rounded up; 0 once it is reached (R261). -/
def State.secondsTo (s : State) (t : Nat) : Nat := if s.reached t then 0 else ((t + 2 ^ 32 - s.now) % 2 ^ 32 + 31) / 32

/-- CALL (R261). -/
def liveCall (h : HostId) (a : Nat) (s : State) : Option Nat :=
  let k := s.getH h F.callCallselClass
  match a with
  | 0x043040 => some ((s.reg a).toNat / 32 * 32 + s.call.calls.length)
  | 0x043054 =>
    let st := s.get F.callDmStatState
    let rem := if st = 1 ∨ st = 2 then s.secondsTo (tickOf s (s.call.dmAt + 32 * s.get F.callDmTimeLimit)) else 0
    some (st * 2 ^ 30 + rem)
  | 0x043060 => match s.call.calls.find? fun c => c.cls == k with
    | none => some 0
    | some c =>
      some (c.stage * 2 ^ 29 + b2n c.part * 2 ^ 28 + c.acceptBy * 2 ^ 24 + (match c.deadline with
        | some t => s.secondsTo t
        | none => 0))
  | 0x043064 => some (s.call.occs.filter fun o => o.cls == k && o.held && (s.call.calls.any fun c => c.cls == k)).length
  | _ => none
where
  /-- A tick as TIDE.NOW counts it. -/
  tickOf (_s : State) (t : Nat) : Nat := t % 2 ^ 32

/-- The address of a word of a window record: internal, behind WINCFG0 and WINCFG1 (R456). -/
def winRec (w k : Nat) : Nat := 0x1000000 + 8 * w + 4 * k

/-- LAN (R468). -/
def liveLan (h : HostId) (a : Nat) (s : State) : Option Nat :=
  let w := s.getH h F.lanWinselWindow
  match a with
  | 0x088060 => some (s.winWord (winRec w 0)).toNat
  | 0x088064 => some (s.winWord (winRec w 1)).toNat
  | 0x088068 => some (Sparse.get (fun _ => 0) s.panel.latched w)
  | _ => none

/-- The shadow of a host (R446). -/
def State.shadow (s : State) (h : HostId) : Option (Word × Word) :=
  match h with
  | .a => s.rtc.shadowA
  | .b => s.rtc.shadowB

/-- RTC (R446). -/
def liveRtc (h : HostId) (a : Nat) (s : State) : Option Nat :=
  match a with
  | 0x080044 => (s.shadow h).map fun x => x.1.toNat
  | 0x080048 => (s.shadow h).map fun x => x.2.toNat
  | _ => none

/-- XP: CUT_THROUGH of STAT (R331, R350). -/
def liveXp (a : Nat) (s : State) : Option Nat :=
  let n := a / 0x1000 - 0x060
  if a % 0x1000 = 0x044 ∧ 0x060 ≤ a / 0x1000 ∧ n < 4 then
    let m := if n % 2 = 0 then n + 1 else n - 1
    let cut := s.portUp n && s.portUp m && s.flag (F.xpStatSpeed1g.page n) && s.flag (F.xpStatSpeed1g.page m)
    some ((s.reg a).toNat + 32 * b2n cut)
  else none

/-- TTB and SEC (R288, R289). -/
def liveTtb (a : Nat) (s : State) : Option Nat :=
  match a with
  | 0x04805C => some (s.tt.loaded.foldl (fun m x => m ||| 2 ^ x.1) 0)
  | 0x007044 =>
    some (s.tt.revoked % 256 * 2 ^ 16 + (s.tt.keys.foldl (fun m x => m ||| 2 ^ x.1) 0) % 256 * 2 ^ 8 + b2n s.tt.authReq)
  | _ => none

/-- Why the gangway waits beyond a host's own seek: a merge, an index rebuild, STANDBY (R430). -/
def State.gwyHeld (s : State) : Bool := s.flag F.logStatMerging || s.flag F.logStatIndexing || s.standby

/-- STAT.WAIT of a host's gangway (R430). -/
def State.gwyWait (s : State) (h : HostId) : Bool := s.gwyHeld || s.getH h F.gwyStatWait == 1

/-- GWY (R430, R439). -/
def liveGwy (h : HostId) (a : Nat) (s : State) : Option Nat :=
  if a = 0x079054 then some (setBits (s.regH h a) 29 29 (b2n (s.gwyWait h))).toNat
  else if 0x079080 ≤ a ∧ a < 0x0790C0 then
    (if s.gwyWait h || s.getH h F.gwyStatLoaded == 0 then some 0 else some (s.regH h a).toNat)
  else none

/-- A channel's chain contribution at a member that is not the master (R401): none during a reset, which is a safe state
of R381. -/
def State.chainContrib (s : State) (x : SCh) : Bool :=
  s.configured && !s.safe.cfg.isEmpty && !(s.part.safety && s.flag F.pwrStatVfieldFail) && !s.flag F.safeStatSealSafe
    && !s.flag F.safeStatChFault && x.chain != .fault && (leAt s.safe.cfg 0x122 2 &&& x.permits) == leAt s.safe.cfg 0x122 2

/-- The command of a chain output: CHN_OA by channel A, CHN_OB by channel B; the master's are off in a dark pulse (R401,
R403). -/
def State.chainOut (s : State) (x : SCh) (inp : Bool) : Bool :=
  let chain := leAt s.safe.cfg 0x120 1
  if chain.testBit 1 then (x.chain == .establishing || x.chain == .closed) && decide (x.chainDark ≤ x.t) else chain.testBit 0 && inp && s.chainContrib x

/-- SAFE and SEAL (R412, R413): channel A's states, the connection a host has selected, the live seal inputs as channel B
reads them, whose die relays SEAL. -/
def liveSafe (h : HostId) (a : Nat) (s : State) : Option Nat :=
  let x := s.safe.chA
  let b := s.safe.chB
  let pairs (k : Nat) : Nat := (List.range 8).foldl (fun w i => w + ((x.pairs.drop (k + i)).head?.map fun p => p.st.code).getD 0 * 16 ^ i) 0
  let c := s.getH h F.safeConnSelConn
  let conn := (x.conns.find? fun y => y.1 == c).map (·.2)
  let cr := ((s.safe.regs.find? fun y => y.1 == c).map (·.2)).getD ⟨0, 0, 0, 0, 0, none⟩
  let runs := x.conns.foldl (fun w y => if y.2.st = .run then w + 2 ^ y.1 else w) 0
  let chain := leAt s.safe.cfg 0x120 1
  let vfail := s.part.safety && s.flag F.pwrStatVfieldFail
  match a with
  | 0x070040 =>
    some (b2n (chain.testBit 1) * 128 + b2n (chain.testBit 0) * 64 + b2n (s.flag F.safeStatSealSafe) * 32 + b2n vfail * 16
      + b2n (s.flag F.safeStatChFault) * 8 + b2n (decide (x.alone < 3) && decide (0 < b.cyc)) * 4
      + b2n (decide (b.alone < 3) && decide (0 < x.cyc)) * 2 + b2n (!s.safe.cfg.isEmpty))
  | 0x070044 => some (pairs 0)
  | 0x070048 => some (pairs 8)
  | 0x07004C => some ((List.range 8).foldl (fun w m => w + ((x.outs.drop m).head?.map fun o => o.st.code).getD 0 * 16 ^ m) 0)
  | 0x070050 => some (x.filt.toNat % 2 ^ 32)
  | 0x070054 => some (b.filt.toNat % 2 ^ 32)
  | 0x070058 =>
    some (b2n (s.chainOut b s.safe.chnB) * 2 ^ 31 + b2n (s.chainOut x s.safe.chnA) * 2 ^ 30 + b2n s.safe.chnB * 2 ^ 29 + b2n s.safe.chnA * 2 ^ 28
      + x.filt.toNat / 2 ^ 32 % 16 * 2 ^ 24 + x.edm.toNat * 2 ^ 16 + x.sb.toNat)
  | 0x07005C => some (s.get F.safeChainRtMeas * 2 ^ 16 + x.chain.code)
  | 0x070064 => match conn with
    | some y => some (y.st.code * 2 ^ 28 + leAt s.safe.cfg (0x140 + 24 * c + 4) 2 % 1024 * 2 ^ 16 + (if y.st = .run then y.rxPermit else 0))
    | none => some 0
  | 0x070068 => some ((conn.bind fun y => y.rxLast).getD 0 * 2 ^ 16 + cr.txLast)
  | 0x07006C => some (cr.integrity * 2 ^ 16 + cr.timeouts)
  | 0x070070 => some (runs % 2 ^ 32)
  | 0x070074 => some (runs / 2 ^ 32)
  | 0x07007C => some (cr.ageMax * 2 ^ 16 + cr.ageLast)
  | 0x071040 => some ((s.reg a).toNat / 2 ^ 9 * 2 ^ 9 + s.safe.sealB.toNat)
  | _ => none

/-- Every live word. -/
def liveAll (h : HostId) (a : Nat) (s : State) : Option Nat :=
  if a % 0x1000 < 0x040 then liveHeader a s
  else (liveSys h a s)
    <|> (liveEngine h a s)
    <|> (liveOrd a s)
    <|> (liveLog h a s)
    <|> (liveXnet h a s)
    <|> (liveCall h a s)
    <|> (liveLan h a s)
    <|> (liveRtc h a s)
    <|> (liveXp a s)
    <|> (liveTtb a s)
    <|> (liveGwy h a s)
    <|> (liveSafe h a s)


/-- The word host `h` reads at a register address, with no side effect (R88, R92 to R95). -/
def readReg (h : HostId) (a : Nat) (s : State) : Word :=
  let page := a / 0x1000
  if (pageBlock page).isNone then 0
  else if s.notFitted page then
    (match a % 0x1000 with
      | 0x000 => BitVec.ofNat 32 (s.pageId page)
      | 0x008 => BitVec.ofNat 32 0xFE04
      | _ => 0)
  else
    match s.pwr.rtcFrozen.find? fun x => x.1 == a with
    | some (_, w) => w
    | none =>
      match liveAll h a s with
      | some n => BitVec.ofNat 32 n
      | none => s.stored h a

end Sys2Proof.Machine
end

