-- ==== Sys2Proof/Machine/Judge.lean ====
section
/-!
DEFINITION. How the node judges a written word: the page checks, then every field on its own (R10, R11, R96 to
R98, R108), and what a write that passes leaves in the registers.
-/

namespace Sys2Proof.Machine

/-- SEAL_WE is closed, as the SL fields see it (R10). An FYN-7256N ignores the input; the model takes it as open there
(DESIGN CHOICE, log entry 5). -/
def State.sealWe (s : State) : Bool := s.part.safety && s.safe.we

/-- The page check a write fails, if any: locked 0x24 (R98), the other port's page 0x28 (R108), the RTC page under
lockout 0x30 (R60). R11 and R98 rank the lock above the field checks alone; that a locked page of the other port answers
0x24 and not 0x28 is the model's choice (DESIGN CHOICE, log entry 12). -/
def pageCheck (h : HostId) (a : Nat) (s : State) : Option Nat :=
  let page := a / 0x1000
  let off := a % 0x1000
  if s.flag (F.hdrPageStatLocked.page page) && off != 0x014 && off != 0x01C then some 0x24
  else if page = hostPage (otherHost h) ∧ off ≠ 0x014 then some 0x28
  else if page = 0x080 ∧ s.flag F.pwrStatLockout then some 0x30
  else none

/-- What judging one field answers: it passes, it is left alone without a fault, or it fails with a code. -/
inductive FieldVerdict where
  | pass | skip | fail (code : Nat)
deriving DecidableEq, Repr

/-- A write to the field would be staged (R96). -/
def fieldStages (f : FieldRow) (a : Nat) (s : State) : Bool :=
  decide (0x040 ≤ a % 0x1000) && !f.perHost
    && (f.stg || (f.acc == .rw && s.flag (F.hdrPageCtlStage.page (a / 0x1000))))

/-- The write that wakes the node from STANDBY is exempt from OWN (R77): its other fields are left alone. -/
def wakeExempt (a : Nat) (v : Word) (s : State) : Bool := a == 0x001040 && s.standby && !getBit v 0

/-- A host writes its own host page whatever the ownership (R109). -/
def ownPage (h : HostId) (a : Nat) : Bool := a / 0x1000 == hostPage h

/-- Judge one field of a written word: ownership, seal, staging, then the RO rule; a 0 to an SC or W1C field, and
a 1 to an SC field that reads 1, have no effect (R10, R11, R97). -/
def judgeField (h : HostId) (a : Nat) (v cur : Word) (f : FieldRow) (s : State) : FieldVerdict :=
  let x := getBits v f.hi f.lo
  match f.acc with
  | .ro => if x = getBits cur f.hi f.lo then .skip else .fail 0x21
  | acc =>
    if (acc = .sc ∨ acc = .w1c) ∧ x = 0 then .skip
    else if f.own && !ownPage h a && !s.isOwner h then (if wakeExempt a v s then .skip else .fail 0x22)
    else if f.sl && !s.sealWe then .fail 0x23
    else if fieldStages f a s && s.flag (F.hdrPageCommitCommit.page (a / 0x1000)) then .fail 0x26
    else if acc = .sc ∧ getBits cur f.hi f.lo = 1 then .skip
    else .pass

/-- The order of the codes of R11. -/
def codeRank : Nat → Nat
  | 0x22 => 0 | 0x23 => 1 | 0x26 => 2 | 0x21 => 3 | _ => 4

/-- The earlier of two codes; 0 is none. -/
def earlierCode (x y : Nat) : Nat := if x = 0 then y else if y = 0 then x else if codeRank y < codeRank x then y else x

/-- The bits that pass, and the one code recorded for the fields that fail (R11). -/
def judgeWord (h : HostId) (a : Nat) (v : Word) (s : State) : Word × Nat :=
  let fs := regFields a
  let cur := readReg h a s
  let all := fs.foldl (fun m f => m ||| fieldMask f) (0 : Word)
  let r := if v &&& ~~~all = 0 then 0 else 0x21
  fs.foldl (fun acc f => match judgeField h a v cur f s with
    | .pass => (acc.1 ||| fieldMask f, acc.2)
    | .skip => acc
    | .fail c => (acc.1, earlierCode acc.2 c)) ((0 : Word), r)

/-- Store the RW fields that pass: at once, staged, or in the host's copy (R96). -/
def storeFields (h : HostId) (a : Nat) (v m : Word) (s : State) : State :=
  (regFields a).foldl (fun s f =>
    let fm := fieldMask f &&& m
    if f.acc = .rw ∧ fm ≠ 0 then
      if f.perHost then s.setRegH h a ((s.regH h a &&& ~~~fm) ||| (v &&& fm))
      else if fieldStages f a s then (if f.stg then s.stage a fm 0 v else s.stage a 0 fm v)
      else s.setReg a ((s.reg a &&& ~~~fm) ||| (v &&& fm))
    else s) s

/-- A written word under the checks of R11: the code of the fields that fail is recorded, then `act` takes the bits
that pass, with the refusals a block makes of its own. A page that is not fitted ignores it
(R3); an undefined offset records 0x25 (R95). -/
def judged (h : HostId) (a : Nat) (v : Word) (act : Word → State → State) (s : State) : State :=
  let page := a / 0x1000
  if s.notFitted page then s
  else
    match pageCheck h a s with
    | some c => accessFault page c s
    | none =>
      match regRow a with
      | none => accessFault page 0x25 s
      | some _ =>
        let (m, c) := judgeWord h a v s
        act m (if c = 0 then s else accessFault page c s)

/-- A written word with no behaviour of its own: the fields that pass are stored (R10, R96). -/
def plainWrite (h : HostId) (a : Nat) (v : Word) (s : State) : State := judged h a v (fun m => storeFields h a v m) s

/-- The bits of a register that PAGE_CTL.STAGE stages though they are not STG (R96). -/
def stageModeBits (a : Nat) (s : State) : Word :=
  (regFields a).foldl (fun m f => if f.acc = .rw && !f.stg && fieldStages f a s then m ||| fieldMask f else m) 0

/-- A host's write of one word that has a behaviour: nothing while the ports do not answer (R118); bits that
PAGE_CTL.STAGE stages are staged and do nothing more (R96). -/
def hostWord (h : HostId) (a : Nat) (v : Word) (act : Word → State → State) (s : State) : State :=
  if s.answers then
    judged h a v (fun m s =>
      let d := stageModeBits a s
      act (m &&& ~~~d) (storeFields h a v (m &&& d) s)) s
  else s

/-- The one-bit word of an SC field. -/
def bitWord (n : Nat) : Word := BitVec.ofNat 32 (2 ^ n)

end Sys2Proof.Machine
end

