-- ==== Sys2Proof/Machine/Analog.lean ====
section
/-!
DEFINITION. Sensor channels and scanning (chapter 5 and R145 to R161): slots, phases, sensor faults, read-back,
automatic ranging, bursts, fast mode and the configuration commit of a group.
-/

namespace Sys2Proof.Machine

/-! State of groups and channels. -/

def Grp.init : Grp := ⟨none, false, 0, none, 0, none, false, []⟩
def Chan.init : Chan := ⟨none, none, none, 0, false, 0, false, false, false, false⟩

def State.grp (s : State) (g : Nat) : Grp := Sparse.get (fun _ => Grp.init) s.afe.grps g
def State.setGrp (s : State) (g : Nat) (x : Grp) : State :=
  s.withAfe { s.afe with grps := Sparse.set (fun _ => Grp.init) s.afe.grps g x }
def State.chan (s : State) (c : Nat) : Chan := Sparse.get (fun _ => Chan.init) s.afe.chans c
def State.setChan (s : State) (c : Nat) (x : Chan) : State :=
  s.withAfe { s.afe with chans := Sparse.set (fun _ => Chan.init) s.afe.chans c x }

/-- A channel's field: group `c / 8`, channel `c mod 8` of it (R119, R142). -/
def Fld.ch (f : Fld) (c : Nat) : Fld := (f.page (c / 8)).idx (c % 8)

/-- The page of a group (R141). -/
def afgPage (g : Nat) : Nat := 0x010 + g

def State.wiring (s : State) (c : Nat) : Nat := s.get (F.afgCfg0Wiring.ch c)

/-- 2-wire, 3-wire, 4-wire and 4-wire with reversal (R124). -/
def resistance (w : Nat) : Bool := decide (1 ≤ w) && decide (w ≤ 4)

/-- Loop and cell (R130). -/
def currentMode (w : Nat) : Bool := w == 8 || w == 9

/-- Two-phase wiring (R124). -/
def twoPhase (w : Nat) : Bool := w == 2 || w == 4

/-- CHECK acts in thermocouple mode and in voltage range 0 (R129, R136). -/
def State.checks (s : State) (c : Nat) : Bool :=
  s.flag (F.afgCfg0Check.ch c) && (s.wiring c == 5 || (s.wiring c == 7 && s.get (F.afgCfg0Range.ch c) == 0))

/-- G (R124). -/
def State.gainOf (s : State) (c : Nat) : Nat :=
  match s.get (F.afgCfg0Gain.ch c) with
  | 0 => 1 | 1 => 8 | 2 => 64 | _ => 128

/-- R_REF in ohms (R119, R142). -/
def State.rref (s : State) (c : Nat) : Nat := 10 ^ (3 + s.get (F.afgCfg0RefSel.ch c))

/-! Scanning (R148 to R151). -/

/-- The scan sequencer can run: SCAN_EN, AVDD5 and HFXO present, in service and not in STANDBY (R52, R66, R148). -/
def State.canScan (s : State) : Bool :=
  s.configured && s.flag F.afcCtlScanEn && s.pageEn 0x030 && !s.flag F.pwrStatAvdd5Fail && !s.flag F.clkStatHfxoFail && !s.standby

/-- Group `g` takes part in scanning (R148, R152). -/
def State.scanned (s : State) (g : Nat) : Bool :=
  s.flag F.afcCtlScanEn && (s.get F.afcGrpEnGrp).testBit g && (s.grp g).fast.isNone && s.pageEn (afgPage g)

/-- Some group is in fast mode (R152). -/
def State.anyFast (s : State) : Bool := (List.range 32).any fun g => (s.grp g).fast.isSome

/-- A burst, continuous scanning or fast mode runs: the node is ACTIVE and PLL_AFE runs (R78, R148, R152). -/
def State.convRuns (s : State) : Bool :=
  s.afe.burst || s.anyFast || (s.canScan && s.afe.period == 0) || s.afe.grps.any fun x => x.2.slot.isSome

/-- PLL_AFE stops with the last conversion that needs it (R148, R152). -/
def afePllStop (s : State) : State := if s.convRuns then s else s.put F.clkStatPllAfeLock 0

/-- HFXO starts, and FRC is trimmed against it (R67); while it gives no valid clock only a retry starts it (R66). -/
def hfxoStart (s : State) : State :=
  if s.flag F.clkStatHfxoRun || s.flag F.clkStatHfxoFail then s else (s.put F.clkStatHfxoRun 1).put F.clkStatFrcTrimmed 1

/-- Conversions that begin in DOZE make the node ACTIVE, with the clocks that needs (R66, R78). -/
def convWake (s : State) : State :=
  if s.answers && s.get F.pwrStatState = 1 && s.convRuns then
    hfxoStart ((s.put F.pwrStatState 0).put F.clkStatEngOnPll 0)
  else s

/-- The enabled channels of a group, ascending (R121). -/
def State.enabledChans (s : State) (g : Nat) : List Nat := (List.range 8).filter fun j => s.wiring (8 * g + j) != 0

/-! Delivery to points (R157, R184). -/

/-- Deliver to every point sourced from a channel. -/
def sendChannel (c : Nat) (u : Word) (st : SrcStatus) (f r : Nat) (s : State) : State :=
  s.eng.pts.foldl (fun s x =>
    let k := s.pcfg x.1
    if k.kind == 1 && k.ch == c then s.trigger (.deliver x.1 u st f r) else s) s

/-- What a STALE or FAULT result leaves of the channel's history: no previous value, no band (R164). -/
def dropBand (c : Nat) (st : SrcStatus) (s : State) : State :=
  let x := s.chan c
  (s.setChan c { x with last := some (0, st, s.now), prev := none, narrow := 0 }).put (F.linBindBandValid.idx c) 0

/-- The last result delivered of the channel was STALE: a further one is not repeated (R156). -/
def State.wasStale (s : State) (c : Nat) : Bool :=
  match (s.chan c).last with
  | some (_, .stale, _) => true
  | _ => false

/-- STALE is delivered to the points of a channel (R156, R157). -/
def staleSend (c : Nat) (s : State) : State :=
  let s := s.setChan c { s.chan c with staleDue := false }
  if s.wasStale c then s else sendChannel c 0 .stale 0 0 (dropBand c .stale s)

/-- A result of the channel waits for the filter engine. -/
def State.inFilter (s : State) (c : Nat) : Bool := (s.grp (c / 8)).results.any fun r => r.ch == c

/-- The channel reports STALE; one that is STALE already sends nothing (R156). A result that is complete goes to the
points first, and STALE behind it (R150, R160). -/
def staleChan (c : Nat) (s : State) : State :=
  if s.flag (F.afgStatStale.ch c) then s
  else
    let s := ((s.put (F.afgStatStale.ch c) 1).put (F.afgStatRanging.ch c) 0).put (F.afgStatOverrange.ch c) 0
    if s.inFilter c then s.setChan c { s.chan c with staleDue := true } else staleSend c s

def staleChans (cs : List Nat) (s : State) : State := cs.foldl (fun s c => staleChan c s) s

/-- Every channel of a group. -/
def groupChans (g : Nat) : List Nat := (List.range 8).map (8 * g + ·)

/-- Group `g` converts in fast mode, which needs SCAN_EN and ignores GRP_EN (R152). -/
def State.fastRuns (s : State) (g : Nat) : Bool :=
  (s.grp g).fast.isSome && s.flag F.afcCtlScanEn && s.pageEn (afgPage g)

/-- The enabled channels of a group, by channel, less the one that keeps its last result (R155). -/
def State.staleSet (s : State) (g : Nat) : List Nat :=
  ((s.enabledChans g).filter fun j => (s.grp g).kept != some j).map (8 * g + ·)

/-- Channels that are no longer scanned report STALE, once their group has no slot in progress (R150). -/
def staleSweep (s : State) : State :=
  (List.range 32).foldl (fun s g =>
    if (s.grp g).slot.isSome || s.scanned g || s.fastRuns g then s else staleChans (s.staleSet g) s) s

/-- EXC_LIVE bit of a group (R133, R144). -/
def setExc (g : Nat) (on : Bool) (s : State) : State :=
  let v := s.get F.afcExcLiveLive
  let v' := if on then v ||| 2 ^ g else v &&& (2 ^ 32 - 1 - 2 ^ g)
  s.put F.afcExcLiveLive v'

/-- The end of a burst that skipped boundaries is logged with their number (R150). -/
def logOverrun (n : Nat) (s : State) : State := if n = 0 then s else record 0x030 0x3000 3 [n] s

/-- PERIOD takes effect: the new boundaries are counted from the next tide tick (R148, R150). -/
def periodTaken (s : State) : State :=
  s.withAfe { s.afe with period := s.get F.afcBurstPeriod, base := s.inTicks 1, recount := false }

/-- Abandon every slot and suspend fast mode: excitation off, conversions discarded, with the slot the
reinitialisation that waited for its end; the burst ends, and a PERIOD written meanwhile takes effect (R52, R66, R74, R133,
R138, R150, R160). -/
def abandonSlots (s : State) : State :=
  let n := s.afe.skipped
  let s := (List.range 32).foldl (fun s g =>
    let x := s.grp g
    let s := s.put (F.afgGstatSlotBusy.page g) 0
    s.setGrp g { x with slot := none, inPass := false, next := 0, fastFaults := 0, reinit := false }) s
  let s := ((s.put F.afcExcLiveLive 0).put F.clkStatPllAfeLock 0).withAfe { s.afe with burst := false, skipped := 0 }
  logOverrun n (if s.afe.recount then periodTaken s else s)

/-- Every channel of the node reports STALE. -/
def staleAll (s : State) : State := staleChans (List.range 256) s

/-- No group of the burst has slots left: the burst ends, its overrun is logged with the boundaries skipped, and a
PERIOD written meanwhile takes effect (R148, R150). -/
def endBurst (s : State) : State :=
  if s.afe.burst && (List.range 32).all fun g => !(s.grp g).inPass && (s.grp g).slot.isNone || (s.grp g).fast.isSome then
    let n := s.afe.skipped
    let s := s.withAfe { s.afe with burst := false, skipped := 0 }
    afePllStop (logOverrun n (if s.afe.recount then periodTaken s else s))
  else afePllStop s

/-- After a write to CTL, GRP_EN or BURST (R148, R150): SCAN_EN was written 1, PERIOD was written. -/
def scanWritten (scanSet periodSet : Bool) (s : State) : State :=
  let s :=
    if !s.afe.burst then (if periodSet || scanSet then periodTaken s else s)
    else
      let s := if periodSet then s.withAfe { s.afe with recount := true } else s
      if scanSet then s.withAfe { s.afe with base := s.inTicks 1 } else s
  let s := (List.range 32).foldl (fun s g =>
    let x := s.grp g
    let x := if s.flag F.afcCtlScanEn then x else { x with kept := none }
    s.setGrp g (if s.scanned g then x else { x with inPass := false })) s
  convWake (staleSweep (endBurst s))

/-- A burst boundary (R148). -/
def State.boundary (s : State) : Bool :=
  let d := s.since s.afe.base
  decide (s.afe.period ≠ 0) && decide (d < 2 ^ 31) && d != 0 && d % s.afe.period == 0

/-- Later boundaries are counted from this one, which is as many periods after boundary 0. -/
def atBoundary (s : State) : State := s.withAfe { s.afe with base := s.now }

/-- The effect of a burst boundary: an overrun skips it, otherwise every scanned group starts a pass (R148, R150). -/
def burstStart (s : State) : State :=
  if !s.boundary then s
  else
    let s := atBoundary s
    if !s.canScan then s
    else if s.afe.burst then mark 0x030 0 (s.withAfe { s.afe with skipped := s.afe.skipped + 1 })
    else
      let s := s.withAfe { s.afe with burst := true, skipped := 0 }
      let s := (List.range 32).foldl (fun s g =>
        let x := s.grp g
        if s.scanned g then s.setGrp g { x with inPass := !(s.enabledChans g).isEmpty, next := 0 } else s) s
      endBurst s

/-! Configuration of a group (R139, R140). -/

/-- A field of an address as the commit would leave it. -/
def State.getAfter (s : State) (f : Fld) : Nat := getBits (s.afterCommit f.addr) f.hi f.lo

/-- The checks of R140 on one channel. -/
def chanRefused (c : Nat) (s : State) : Bool :=
  let get (f : Fld) : Nat := s.getAfter (f.ch c)
  let w := get F.afgCfg0Wiring
  let exc := get F.afgCfg0Exc
  let ref := get F.afgCfg0RefSel
  let range := get F.afgCfg0Range
  let mv := exc * 10 ^ (ref + 1) * (if w = 2 then 2 else 1)
  let bias := signedOf 16 (get F.afgCfg2CellBias)
  let cj := get F.afgCfg2CjSrc
  if 10 ≤ w then true
  else if resistance w then
    decide (100 < exc) || exc == 0 || ref == 3 || decide (mv < 250) || decide (2500 < mv) || decide (14 ≤ get F.afgCfg1CompTh)
  else match w with
    | 5 => (decide (0x104 ≤ cj) && decide (cj ≤ 0x1FE)) || cj == c
    | 6 => decide (1 < range)
    | 7 => decide (2 < range)
    | 8 | 9 => decide (5 < range) || (get F.afgCfg0ArEn == 1 && decide (range < get F.afgCfg0ArTop))
        || (w == 9 && (decide (bias < -600) || decide (600 < bias)))
    | _ => false

/-- The whole commit of a group is refused (R140). -/
def groupRefused (g : Nat) (s : State) : Bool :=
  (groupChans g).any (fun c => chanRefused c s)
    || (s.getAfter (F.afgGctlFastEn.page g) == 1
      && s.getAfter (F.afgCfg0Wiring.ch (8 * g + s.getAfter (F.afgGctlFastCh.page g))) == 0)

/-- A commit ends having taken its staged set (R97). -/
def commitTaken (page : Nat) (s : State) : State := (s.applyStaged page).putFlag (F.hdrPageCommitCommit.page page) false

/-- A commit is refused: the staged values are kept (R140, R170, R175, R179). -/
def commitRefused (page code : Nat) (s : State) : State :=
  accessFault page code (s.putFlag (F.hdrPageCommitCommit.page page) false)

/-! Ranges (R130, R158, R159). -/

/-- Stage time constants in microseconds (R130). -/
def stageTau (range : Nat) : Nat :=
  match range with
  | 0 | 1 => 20 | 2 => 50 | 3 => 200 | 4 => 500 | _ => 2000

/-- Output period and filter span of a fast group in microseconds (R153). -/
def State.fastTimes (s : State) (g : Nat) : Nat × Nat :=
  let r := s.get (F.linFiltFastRate.idx g)
  (125 * 2 ^ r, 375 * 2 ^ r + (if s.flag (F.linFiltFastNotch.idx g) then 38000 else 0))

/-- Outputs that carry RANGING after a change to `range` in fast mode (R159). -/
def State.rangingOutputs (s : State) (g range : Nat) : Nat :=
  let (p, span) := s.fastTimes g
  (14 * stageTau range + span + p - 1) / p

/-- A range change in a channel: RANGE_NOW, and in fast mode the outputs that carry RANGING (R158, R159). -/
def moveRange (c range : Nat) (s : State) : State :=
  let x := s.chan c
  let g := c / 8
  let left := if (s.grp g).fast.isSome then s.rangingOutputs g range else 0
  (s.setChan c { x with narrow := 0, rangingLeft := left }).put (F.afgStatRangeNow.ch c) range

/-- Outputs that still carry RANGING when the fast conversion starts over after a range change: the first one comes
SETTLE and a filter span after the restart (R152, R159, R160). -/
def State.rangingRestarted (s : State) (c : Nat) : Nat :=
  let g := c / 8
  let p := (s.fastTimes g).1
  if (s.chan c).rangingLeft = 0 then 0
  else (14 * stageTau (s.get (F.afgStatRangeNow.ch c)) + p - s.get (F.afgCfg1Settle.ch c)) / p

/-- RANGE_NOW returns to RANGE at a commit of the channel's configuration, and a channel newly enabled or disabled
starts afresh (R156, R159). In fast mode the return is a range change like any other, whose outputs carry RANGING. -/
def chanTaken (c wasWiring : Nat) (s : State) : State :=
  let s := if s.get (F.afgStatRangeNow.ch c) = s.get (F.afgCfg0Range.ch c) then s else moveRange c (s.get (F.afgCfg0Range.ch c)) s
  let x := s.chan c
  if (wasWiring != 0) != (s.wiring c != 0) then
    staleChan c (s.setChan c { x with episode := none, narrow := 0, narrowed := false, rangingLeft := 0 })
  else s.setChan c { x with narrow := 0, narrowed := false }

/-- A group enters fast mode, leaves it, or changes its channel: the channel that leaves fast mode keeps its last
result and status, the others report STALE (R152, R155). -/
def fastTaken (g : Nat) (s : State) : State :=
  let x := s.grp g
  let want := if s.flag (F.afgGctlFastEn.page g) then some (s.get (F.afgGctlFastCh.page g)) else none
  if x.fast = want then s
  else
    let s := setExc g false (s.put (F.afgGstatSlotBusy.page g) 0)
    let s := s.setGrp g { x with
      slot := none, inPass := false, next := 0, fast := want, fastFaults := 0, reinit := false
      kept := if x.fast.isSome then x.fast else none }
    let s := match want with
      | some j => s.setChan (8 * g + j) { s.chan (8 * g + j) with rangingLeft := 0 }
      | none => s
    let s := if want.isNone && s.scanned g && s.afe.period = 0 then s.setGrp g { s.grp g with inPass := true } else s
    let s := if want.isNone && s.scanned g then s else staleChans (s.staleSet g) s
    convWake (endBurst s)

/-- A pass whose group has no enabled channel left ends, and with the last pass the burst (R148). -/
def passFollow (g : Nat) (s : State) : State :=
  let x := s.grp g
  let more := (s.enabledChans g).any fun j => decide (x.next ≤ j)
  endBurst (s.setGrp g { x with inPass := x.inPass && more && s.scanned g })

/-- The quiet point of an AFG page: the staged set takes effect, or the whole commit is refused (R139, R140). A commit
that disables the channels a pass still had to take ends the pass (R148). -/
def afgCommit (g : Nat) (s : State) : State :=
  let page := afgPage g
  if !s.flag (F.hdrPageCommitCommit.page page) then s
  else if groupRefused g s then commitRefused page 0x30 s
  else
    let was := (groupChans g).map fun c => (c, s.wiring c)
    let touched := (groupChans g).filter fun c =>
      (List.range 3).any fun k => (s.stagedAt (0x010100 + 0x1000 * g + 0x20 * (c % 8) + 4 * k)).isSome
    let s := commitTaken page s
    let s := was.foldl (fun s cw => if touched.contains cw.1 then chanTaken cw.1 cw.2 s else s) s
    let s := fastTaken g s
    if (s.grp g).slot.isNone then passFollow g s else s

/-- The change interrupts the fast conversion: any field of the channel but CJ_SRC, SHORT_TH and COMP_TH (R161). -/
def fastInterrupted (g : Nat) (before after : State) : Bool :=
  match (after.grp g).fast with
  | none => false
  | some j =>
    let a := 0x010100 + 0x1000 * g + 0x20 * j
    before.reg a != after.reg a || (before.reg (a + 4) &&& 0xFFFF) != (after.reg (a + 4) &&& 0xFFFF)
      || (before.reg (a + 8) &&& 0x1FFFF) != (after.reg (a + 8) &&& 0x1FFFF)

/-- The wiring mode applies excitation: sources or the bridge supply (R132, R133). -/
def excited (w : Nat) : Bool := resistance w || w == 6

/-- The channel's conversion starts over: the excitation as its wiring now needs it, settling again with no second
open check, STALE until a complete one (R154, R160). -/
def restartFast (g : Nat) (s : State) : State :=
  let x := s.grp g
  match x.fast, x.slot with
  | some j, some sl =>
    if sl.stage = .mux then s
    else
      let s := setExc g (excited (s.wiring (8 * g + j))) s
      let sl := { sl with stage := .settle, mon := none, moved := false, overTop := false, checkDone := sl.checkDone || sl.stage == .conv }
      let c := 8 * g + j
      let s := s.setChan c { s.chan c with rangingLeft := s.rangingRestarted c }
      staleChan c (s.setGrp g { x with slot := some sl })
  | _, _ => s

/-- The commit of a group takes effect at its quiet point, in fast mode with the interruption it makes (R139, R161). -/
def afgQuiet (g : Nat) (s : State) : State :=
  let s' := afgCommit g s
  if fastInterrupted g s s' then restartFast g s' else s'

/-! Automatic narrowing (R159). -/

/-- The narrowing that is due takes effect (R159): after 16 small results, RANGE_NOW wider than RANGE. -/
def narrowNow (c : Nat) (s : State) : State :=
  let x := s.chan c
  let r := s.get (F.afgStatRangeNow.ch c)
  if currentMode (s.wiring c) && s.flag (F.afgCfg0ArEn.ch c) && decide (16 ≤ x.narrow) && decide (r < s.get (F.afgCfg0Range.ch c)) then
    let s := moveRange c (r + 1) s
    s.setChan c { s.chan c with narrowed := true }
  else s

/-- The magnitude of a code below 8 % of the next narrower range, whose full scale is a tenth (R130, R159). -/
def smallCode (code : Nat) : Bool := decide ((signedOf 24 code).natAbs * 1000 < 8 * 2 ^ 23)

/-- Count a result towards a narrowing (R159). -/
def countNarrow (c code : Nat) (valid : Bool) (s : State) : State :=
  let x := s.chan c
  s.setChan c { x with narrow := if valid && smallCode code then sat 16 (x.narrow + 1) else 0 }

/-! Codes and faults (R125, R129, R135, R156). -/

/-- A code clamped at ±(2^23 − 1), and whether it was (R156). -/
def clampCode (code : Nat) : Nat × Bool :=
  let v := signedOf 24 code
  if 2 ^ 23 - 1 ≤ v then (2 ^ 23 - 1, true)
  else if v ≤ -(2 ^ 23 - 1) then (2 ^ 23 + 1, true)
  else (code % 2 ^ 24, false)

/-- The input lies outside −0.5 V to 10.5 V on voltage range 2 (R129, R156). -/
def outsideWindow (c code : Nat) (s : State) : Bool :=
  let v := signedOf 24 code
  s.wiring c == 7 && s.get (F.afgCfg0Range.ch c) == 2 && (decide (21 * 2 ^ 23 < 25 * v) || decide (25 * v < -(2 ^ 23)))

/-- A result lies beyond what its input can show: the code clamps, the input lies outside its window, or SP of a loop or
cell is in its current limit (R130, R156). -/
def State.beyond (s : State) (c : Nat) (clamped limited : Bool) (code : Nat) : Bool :=
  clamped || outsideWindow c code s || (limited && currentMode (s.wiring c))

/-- The faults of one phase as bits OPEN, LEAD_BREAK, SHORT, COMPLIANCE (R135), from the monitor's measurement, the
phase, and what the check current found. -/
def phaseFaults (c : Nat) (m : MonReading) (phase : Nat) (checkOpen : Bool) (s : State) : Nat :=
  let w := s.wiring c
  let iset := 100 * s.get (F.afgCfg0Exc.ch c)
  let x := m.xIdel.toNat
  let y := m.yIdel.toNat
  let vx := signedOf 16 m.xVout.toNat
  let vy := signedOf 16 m.yVout.toNat
  let vf := signedOf 16 m.vForce.toNat
  let vsn := signedOf 16 m.vSn.toNat
  let mag := (signedOf 32 m.vSense.toNat).natAbs
  let thr : Int := 500 + 250 * s.get (F.afgCfg1CompTh.ch c)
  let low (i : Nat) : Bool := decide (2 * i < iset)
  let weak (i : Nat) : Bool := !low i && decide (100 * i < 98 * iset)
  let fp := if phase = 1 then x else y
  let sp := if phase = 1 then y else x
  let exc : Nat := if s.get (F.afgCfg0Range.ch c) = 0 then 2500 else 5000
  let isOpen : Bool :=
    if w = 2 then low fp
    else if resistance w then low x
    else match w with
      | 6 => decide (x < 20)
      | 9 => decide (thr < ((vx - 1250).natAbs : Int))
      | _ => checkOpen
  let lead : Bool :=
    if w = 2 then !low fp && low sp
    else if w = 3 ∨ w = 4 then decide (1000 * (105 * vf.natAbs + 1000) < 100 * mag)
    else if w = 6 then decide (55000 * vf < (100 * mag : Int))
    else if w = 9 then decide (1000 < (vsn - (1250 - signedOf 16 (s.get (F.afgCfg2CellBias.ch c)))).natAbs)
    else false
  let th := s.get (F.afgCfg1ShortTh.ch c)
  let short : Bool :=
    if resistance w then th != 0 && decide (2 * vf < (th : Int)) else w == 6 && m.limit
  let comp : Bool :=
    if w = 2 then decide (thr < vx) || decide (thr < vy) || weak x || weak y
    else if resistance w then decide (thr < vx) || weak x
    else w == 6 && decide (100 * vf < 95 * (exc : Int))
  b2n isOpen + 2 * b2n lead + 4 * b2n short + 8 * b2n comp

/-- A monitor that measured nothing: no fault follows from it but the check's. -/
def noFaultMon (c checkOpen : Nat) (s : State) : Nat := if checkOpen = 1 ∧ s.checks c then 1 else 0

/-- The faults of a phase, with or without a measurement. -/
def faultsOf (c : Nat) (m : Option MonReading) (phase : Nat) (checkOpen : Bool) (s : State) : Nat :=
  match m with
  | some m => phaseFaults c m phase (checkOpen && s.checks c) s
  | none => noFaultMon c (b2n checkOpen) s

/-! Results. -/

/-- FS_phys as a fraction, by wiring, range in use, gain and reference (R162). -/
def fsPhys (w range gain rref : Nat) : Nat × Nat :=
  match w with
  | 1 | 3 | 4 => (rref, gain)
  | 2 => (2 * rref, gain)
  | 5 => (1, 20)
  | 6 => (1, gain)
  | 7 => (match range with
    | 0 => (1, 20) | 1 => (5, 2) | _ => (25, 2))
  | _ => (1, 40 * 10 ^ range)

/-- FSCALE of a channel's configuration on a range, rounded to binary32 (R162). -/
def State.fscale (s : State) (c range : Nat) : Word :=
  let w := s.wiring c
  let (n, d) := fsPhys w (if currentMode w then range else s.get (F.afgCfg0Range.ch c)) (s.gainOf c) (s.rref c)
  F32.ofRatio n (d * 2 ^ 23)

/-- Write the flags and faults of a result into CH_STAT and GSTAT (R141, R142, R156). -/
def putStat (c : Nat) (beyond ranging stale : Bool) (faults : Nat) (s : State) : State :=
  let s := (s.putFlag (F.afgStatOverrange.ch c) beyond).putFlag (F.afgStatRanging.ch c) ranging
  let s := (s.putFlag (F.afgStatStale.ch c) stale).putFlag (F.afgStatOpen.ch c) (faults.testBit 0)
  let s := (s.putFlag (F.afgStatLeadBreak.ch c) (faults.testBit 1)).putFlag (F.afgStatShort.ch c) (faults.testBit 2)
  let s := s.putFlag (F.afgStatCompliance.ch c) (faults.testBit 3)
  let f := F.afgGstatFaulted.page (c / 8)
  let b := 2 ^ (c % 8)
  s.put f (if faults = 0 then s.get f &&& (255 - b) else s.get f ||| b)

/-- Fault episodes: FAULT_SET with FAULT_CNT at the first faulted result, FAULT_CLR at the first complete result
without a fault (R137). -/
def episodeStep (c faults : Nat) (s : State) : State :=
  let x := s.chan c
  let page := afgPage (c / 8)
  let s' := s.setChan c { x with episode := some (faults != 0) }
  if faults ≠ 0 then
    (if x.episode = some true then s'
     else raise page (c % 8) 3 [faults] (s'.bumpSat (F.afgStatFaultCnt.ch c) 1))
  else if x.episode = some true then raise page (8 + c % 8) 3 [] s'
  else s'

/-- A completed result enters RAW and CH_STAT and goes to the filter engine (R137, R142, R145). -/
def completeResult (g : Nat) (r : ChResult) (s : State) : State :=
  let c := r.ch
  let s := s.bumpWrap (F.afgRawSeq.ch c) 1
  let s := s.put (F.afgRawCode.ch c) r.code
  let s := putStat c r.beyond r.ranging false r.faults s
  let s := episodeStep c r.faults s
  let s := s.setChan c { s.chan c with staleDue := false }
  let x := s.grp g
  s.setGrp g { x with results := x.results ++ [r] }

/-- A read-back that failed for good (R138). -/
def readbackLost (g : Nat) (s : State) : State :=
  let page := afgPage g
  let s := lastingFault page (s.put (F.afgGstatReadbackFault.page g) 1)
  let s := raise page 16 3 [] (s.setLasting page 0x40)
  let s := s.setGrp g { s.grp g with reinit := true, kept := none }
  staleChans (s.staleSet g) s

/-- A frame of the phase failed its check at both reads (R138, R145). -/
def convLost (v : ConvReading) : Bool := v.frames.any fun f => f.1 && f.2

/-- The frames read once more with success, up to one that is lost (R138, R145). -/
def convTrips (v : ConvReading) : Nat := ((v.frames.takeWhile fun f => !(f.1 && f.2)).filter (·.1)).length

/-- Return trips of the read-back are counted (R138, R365). -/
def readbackTrips (g n : Nat) (s : State) : State :=
  if n = 0 then s else s.bumpSat (F.hdrRetryCntTransient.page (afgPage g)) n

/-- A result that was read back correctly ends a fault of the path (R138). -/
def readbackOk (g : Nat) (s : State) : State :=
  let page := afgPage g
  if s.flag (F.afgGstatReadbackFault.page g) && !(s.grp g).reinit then
    (s.put (F.afgGstatReadbackFault.page g) 0).setLasting page 0
  else s

/-! The commands. -/

/-- The slot a group starts: its channel connected, band and curve copy latched (R121, R164). -/
def newSlot (g j : Nat) (l : Latch) (s : State) : State :=
  let x := s.grp g
  let s := s.setGrp g { x with
    slot := some ⟨8 * g + j, .mux, 1, none, false, false, 0, false, false, false, l⟩
    next := j + 1, kept := if x.kept = some j then none else x.kept }
  (s.put (F.afgGstatSlotBusy.page g) 1).put (F.afgGstatSlotCh.page g) j

/-- The channel the next slot of a group takes: FAST_CH in fast mode, else the next enabled one of the pass; in
continuous mode a new pass follows without a gap (R121, R148). -/
def State.nextChan (s : State) (g : Nat) : Option Nat :=
  let x := s.grp g
  if !s.canScan || !s.pageEn (afgPage g) || x.slot.isSome then none
  else match x.fast with
    | some j => some j
    | none =>
      if !s.scanned g then none
      else
        let js := s.enabledChans g
        let left := js.filter fun j => decide (x.next ≤ j)
        if s.afe.period = 0 then (match left with
          | j :: _ => some j
          | [] => js.head?)
        else if x.inPass then left.head? else none

/-- Sources or bridge supply on at the end of t_mux; settling begins (R133). EXC_LIVE shows the excitation of resistance and
bridge modes and not the check current of R136 (DESIGN CHOICE: the spec does not say whether it counts, log entry 102). -/
def excitationOn (g : Nat) (s : State) : State :=
  let x := s.grp g
  match x.slot with
  | some sl =>
    if sl.stage = .mux then
      let w := s.wiring sl.ch
      let s := s.setGrp g { x with slot := some { sl with stage := .settle } }
      if excited w then setExc g true s else s
    else s
  | none => s

/-- The check current is removed; V_SP − V_SN above 0.5 V during it is an open loop (R135, R136). -/
def checkEnd (g : Nat) (mv : Int) (s : State) : State :=
  let x := s.grp g
  match x.slot with
  | some sl =>
    if sl.stage = .settle && s.checks sl.ch && !sl.checkDone then
      s.setGrp g { x with slot := some { sl with checkDone := true, checkOpen := decide (500 < mv) } }
    else s
  | none => s

/-- The settling delay has run; it includes the check current where one runs (R123, R136, R146). The modulators stay
idle while PLL_AFE is unlocked (R68). -/
def conversionStart (g : Nat) (s : State) : State :=
  let x := s.grp g
  match x.slot with
  | some sl =>
    if sl.stage = .settle && (sl.checkDone || !s.checks sl.ch) && s.flag F.clkStatPllAfeLock then
      s.setGrp g { x with slot := some { sl with stage := .conv, mon := none, moved := false, overTop := false } }
    else s
  | none => s

/-- MON_X and MON_Y (R142). -/
def putMon (c : Nat) (m : MonReading) (s : State) : State :=
  let s := (s.put (F.afgMonXVout.ch c) m.xVout.toNat).put (F.afgMonXIdel.ch c) (if s.wiring c = 9 then 0 else m.xIdel.toNat)
  (s.put (F.afgMonYVout.ch c) m.yVout.toNat).put (F.afgMonYIdel.ch c) m.yIdel.toNat

/-- The measurement at the midpoint of a conversion (R134). -/
def monitorMeasure (g : Nat) (m : MonReading) (s : State) : State :=
  let x := s.grp g
  match x.slot with
  | some sl =>
    if sl.stage = .conv then (putMon sl.ch m s).setGrp g { x with slot := some { sl with mon := some m } } else s
  | none => s

/-- Average of two phase codes; the rounding of a half is not stated, so it is free (R125). -/
def meanCode (a b : Nat) (s : State) : Nat × State :=
  let t := signedOf 24 a + signedOf 24 b
  if t % 2 = 0 then (unsignedOf 24 (t / 2), s)
  else
    let (r, s) := s.draw 1
    (unsignedOf 24 (t / 2 + r), s)

/-- A result of the slot's channel as the channel's configuration and RANGE_NOW now give it (R156, R162). -/
def resultOf (sl : Slot) (code : Nat) (beyond ranging : Bool) (faults : Nat) (s : State) : ChResult :=
  ⟨sl.ch, code, ranging, beyond, faults, s.fscale sl.ch (s.get (F.afgStatRangeNow.ch sl.ch)), sl.latch⟩

/-- The last phase of a slot: the result is complete (R125, R137, R156). -/
def finishSlot (g : Nat) (sl : Slot) (code : Nat) (beyond : Bool) (faults : Nat) (s : State) : State :=
  let ch := s.chan sl.ch
  let s := s.setChan sl.ch { ch with narrowed := false }
  let s := s.setGrp g { s.grp g with slot := some { sl with stage := .ended } }
  completeResult g (resultOf sl code beyond (sl.moved || ch.narrowed) faults s) s

/-- A conversion phase ends (R126, R137, R138). A fault in the first phase of two ends the slot with no combined code,
so RAW.CODE keeps its value (R124, R137). A read-back that fails for good in phase 1 ends the slot there too (DESIGN
CHOICE, log entry 109). -/
def phaseComplete (g : Nat) (v : ConvReading) (s : State) : State :=
  let x := s.grp g
  match x.slot with
  | some sl =>
    if sl.stage ≠ .conv ∨ x.fast.isSome then s
    else
      let s := readbackTrips g (convTrips v) s
      if convLost v then readbackLost g (s.setGrp g { x with slot := some { sl with stage := .ended, lost := true } })
      else
        let s := readbackOk g s
        let c := sl.ch
        let (code, clamped) := clampCode v.code.toNat
        let beyond := s.beyond c clamped v.limited code || sl.overTop
        let faults := faultsOf c sl.mon sl.phase sl.checkOpen s
        if twoPhase (s.wiring c) && sl.phase = 1 then
          if faults ≠ 0 then finishSlot g sl (s.get (F.afgRawCode.ch c)) beyond faults s
          else s.setGrp g { s.grp g with slot := some { sl with stage := .settle, phase := 2, code1 := code + 2 ^ 24 * b2n beyond } }
        else if twoPhase (s.wiring c) then
          let (mean, s) := meanCode (sl.code1 % 2 ^ 24) code s
          finishSlot g sl mean (beyond || sl.code1.testBit 24) faults s
        else finishSlot g sl code beyond faults s
  | none => s

/-- The end of a slot: excitation off, the path reinitialised, a pending commit taken, the pass and the burst
ended where this was their last slot (R133, R138, R139, R148). -/
def slotEnd (g : Nat) (s : State) : State :=
  let x := s.grp g
  match x.slot with
  | some sl =>
    if sl.stage ≠ .ended ∨ x.fast.isSome then s
    else
      let s := setExc g false (s.put (F.afgGstatSlotBusy.page g) 0)
      let s := s.setGrp g { x with slot := none, reinit := false }
      staleSweep (passFollow g (afgCommit g s))
  | none => s

/-- The extra result of a range change: the signed full scale of the range left, counted by RAW.SEQ (R158). -/
def extraResult (g : Nat) (sl : Slot) (range : Nat) (positive : Bool) (s : State) : State :=
  let c := sl.ch
  let code := if positive then 2 ^ 23 - 1 else 2 ^ 23 + 1
  let s := (s.bumpWrap (F.afgRawSeq.ch c) 1).put (F.afgRawCode.ch c) code
  let s := putStat c true false false 0 s
  let x := s.grp g
  s.setGrp g { x with results := x.results ++ [⟨c, code, false, true, 0, s.fscale c range, sl.latch⟩] }

/-- A stage overload: one range wider, with an extra result of the full scale left behind. At AR_TOP no switch is made
and the conversion's own result carries OVERRANGE (R158). -/
def rangeOverload (g : Nat) (positive : Bool) (s : State) : State :=
  let x := s.grp g
  match x.slot with
  | some sl =>
    let c := sl.ch
    let r := s.get (F.afgStatRangeNow.ch c)
    if sl.stage ≠ .conv ∨ !currentMode (s.wiring c) ∨ !s.flag (F.afgCfg0ArEn.ch c) then s
    else if r ≤ s.get (F.afgCfg0ArTop.ch c) then s.setGrp g { x with slot := some { sl with overTop := true } }
    else extraResult g sl r positive (moveRange c (r - 1) (s.setGrp g { x with slot := some { sl with moved := true } }))
  | none => s

end Sys2Proof.Machine
end

