-- ==== Sys2Proof/Machine/Linear.lean ====
section
/-!
DEFINITION. The filter engine (R162 to R170, R174): physical input, curve records, bands, range ends, curve loads
and the commit of page LIN.
-/

namespace Sys2Proof.Machine

/-! Curve records (R167). -/

def Curve.word (c : Curve) (off : Nat) : Word := nth c (off / 4) 0
def Curve.id (c : Curve) : Nat := getBits (c.word 0) 15 0
def Curve.nBands (c : Curve) : Nat := getBits (c.word 0) 23 16
def Curve.flags (c : Curve) : Nat := getBits (c.word 0) 31 24
def Curve.bandVar (c : Curve) : Bool := c.flags.testBit 0
def Curve.usesT (c : Curve) : Bool := c.flags.testBit 1
def Curve.xOff (c : Curve) : Word := c.word 0x004
def Curve.xScale (c : Curve) : Word := c.word 0x008
def Curve.tOff (c : Curve) : Word := c.word 0x00C
def Curve.tScale (c : Curve) : Word := c.word 0x010
def Curve.uMin (c : Curve) : Word := c.word 0x014
def Curve.uMax (c : Curve) : Word := c.word 0x018
def Curve.tMin (c : Curve) : Word := c.word 0x01C
def Curve.tMax (c : Curve) : Word := c.word 0x020

/-- The boundaries in use, B1 upwards: the first N_BANDS − 1. -/
def Curve.bounds (c : Curve) : List Word := [c.word 0x024, c.word 0x028, c.word 0x02C].take (c.nBands - 1)

/-- Coefficient c_ij of a band. -/
def Curve.coef (c : Curve) (band i j : Nat) : Word := c.word (0x030 + 0x48 * band + 4 * (3 * i + j))

/-! The curve (R163). -/

/-- The a[i] of R163. -/
def curveA (c : Curve) (band i : Nat) (t : Word) : Word :=
  F32.fma (F32.fma (c.coef band i 2) t (c.coef band i 1)) t (c.coef band i 0)

/-- The value of a curve in a band at `x` and `t`. -/
def curveAt (c : Curve) (band : Nat) (x t : Word) : Word :=
  [4, 3, 2, 1, 0].foldl (fun v i => F32.fma v x (curveA c band i t)) (curveA c band 5 t)

def curveX (c : Curve) (u : Word) : Word := F32.mul (F32.sub u c.xOff) c.xScale

/-- The value at a physical input. -/
def curveOf (c : Curve) (band : Nat) (u t : Word) : Word := curveAt c band (curveX c u) t

/-! The curves of the node (R167 to R169). -/

/-- The active user curve of an ID; an empty list stands for the empty curve. -/
def State.userCurve (s : State) (id : Nat) : Curve := Sparse.get (fun _ => []) s.afe.curves id

/-- What R169 fixes of the built-in record `id`: N_BANDS and FLAGS, X_SCALE, T_SCALE, none for an ID that is empty. -/
def builtinHead (id : Nat) : Option (Nat × Nat × Word × Word) :=
  if 0xF00 ≤ id ∧ id ≤ 0xF07 then some (4, 2, F32.ofInt 20, F32.ofRatio 1 100)
  else match id with
    | 0xF10 => some (2, 0, F32.ofRatio 1 100, 0)
    | 0xF11 => some (2, 0, F32.ofRatio 1 500, 0)
    | 0xF12 => some (2, 0, F32.ofRatio 1 1000, 0)
    | _ => none

/-- The measured range of a built-in type in °C: platinum as R169 gives it, thermocouples as IEC 60584-1 gives
them (log entry 30). -/
def measuredRange (id : Nat) : Option (Int × Int) :=
  match id with
  | 0xF00 => some (-210, 1200)
  | 0xF01 => some (-270, 1372)
  | 0xF02 => some (-270, 1300)
  | 0xF03 => some (-270, 400)
  | 0xF04 => some (-270, 1000)
  | 0xF05 => some (-50, 1768)
  | 0xF06 => some (-50, 1768)
  | 0xF07 => some (250, 1820)
  | 0xF10 => some (-200, 850)
  | 0xF11 => some (-200, 850)
  | 0xF12 => some (-200, 850)
  | _ => none

/-- Boundaries strictly increase (R168, R169). -/
def strictlyRising : List Word → Bool
  | a :: b :: l => F32.lt a b && strictlyRising (b :: l)
  | _ => true

/-- The boundaries of a thermocouple record: the part's own, which lie inside the measured range and strictly increase
(R169); words that do not are no part's, and the quarters of the range stand for them (log entry 10). -/
def builtinBounds (id : Nat) : List Word :=
  let ws := [9, 10, 11].map (Config.builtinCurveWord id)
  match measuredRange id with
  | none => ws
  | some (lo, hi) =>
    if (ws.all F32.isFinite) && strictlyRising ([F32.ofInt lo] ++ ws ++ [F32.ofInt hi]) then ws
    else [1, 2, 3].map fun (k : Int) => F32.ofRatio (4 * lo + k * (hi - lo)) 4

/-- A coefficient of the part's own, finite as R168 asks. -/
def builtinCoef (id k : Nat) : Word :=
  let w := Config.builtinCurveWord id k
  if F32.isFinite w then w else 0

/-- A built-in record without its domain: what R169 fixes, and within its bounds the part's own value where it fixes none
(log entry 10). -/
def builtinBody (id : Nat) (h : Nat × Nat × Word × Word) (k : Nat) : Word :=
  let (nb, fl, xs, ts) := h
  match k with
  | 0 => BitVec.ofNat 32 (id + nb * 2 ^ 16 + fl * 2 ^ 24)
  | 1 => 0
  | 2 => xs
  | 3 => 0
  | 4 => ts
  | 5 => 0
  | 6 => 0
  | 7 => F32.ofInt (-50)
  | 8 => F32.ofInt 125
  | 9 | 10 | 11 => if nb = 2 then (if k = 9 then 0 else builtinCoef id k) else nth (builtinBounds id) (k - 9) 0
  | _ => if 0x150 / 4 ≤ k then 0 else builtinCoef id k

/-- The domain from `a` to `b` encloses the measured range: at every whole degree of *tc* from T_MIN to T_MAX the curve has
reached the low end at `a` and the high end at `b` (R169). -/
def builtinEncloses (id : Nat) (h : Nat × Nat × Word × Word) (a b : Word) : Bool :=
  let cv : Curve := (List.range 0x54).map (builtinBody id h)
  match measuredRange id with
  | none => false
  | some (lo, hi) => (List.range 176).all fun k =>
    let t := if cv.usesT then F32.mul (F32.ofInt ((k : Int) - 50)) cv.tScale else 0
    F32.le (curveOf cv 0 a t) (F32.ofInt lo) && F32.le (F32.ofInt hi) (curveOf cv (cv.nBands - 1) b t)

/-- U_MIN and U_MAX of a built-in record: the part's own, finite, U_MIN below U_MAX as R168 asks, and around the measured
range as R169 asks; words that are not so are no part's, and ±1 V or 0 Ω to 10 kΩ stand for them (log entry 10). -/
def builtinDomain (id : Nat) (h : Nat × Nat × Word × Word) : Word × Word :=
  let a := Config.builtinCurveWord id 5
  let b := Config.builtinCurveWord id 6
  if F32.isFinite a && F32.isFinite b && F32.lt a b && builtinEncloses id h a b then (a, b)
  else if h.1 == 2 then (0, F32.ofInt 10000) else (F32.ofInt (-1), F32.ofInt 1)

/-- One word of a built-in record (R169). -/
def builtinWord (id : Nat) (h : Nat × Nat × Word × Word) (k : Nat) : Word :=
  match k with
  | 5 => (builtinDomain id h).1
  | 6 => (builtinDomain id h).2
  | _ => builtinBody id h k

/-- A built-in record with its CRC (R167, R169). -/
def builtinCurve (id : Nat) : Curve :=
  match builtinHead id with
  | none => []
  | some h =>
    let ws := (List.range 255).map (builtinWord id h)
    ws ++ [BitVec.ofNat 32 (crc32c (wordsBytes ws))]

/-- The active curve of an ID; none when it is empty. -/
def State.curve (s : State) (id : Nat) : Option Curve :=
  let c := if id ≤ 0x3FF then s.userCurve id else builtinCurve id
  if c.nBands = 0 then none else some c

/-! The checks of a load (R168). -/

/-- RESULT of a load: 0 when every check passes. -/
def curveResult (id : Nat) (bs : List Byte) : Nat :=
  let c : Curve := bytesWords 256 bs
  if 0x3FF < id then 1
  else if crc32c (bs.take 0x3FC) ≠ leAt bs 0x3FC 4 then 2
  else if c.id ≠ id then 3
  else if 4 < c.nBands then 4
  else if c.nBands = 0 then 0
  else if F32.eq c.xScale 0 || F32.le c.uMax c.uMin || F32.lt c.tMax c.tMin || !strictlyRising c.bounds then 5
  else if ((List.range 83).any fun k => !F32.isFinite (c.word (4 + 4 * k)))
      || ((List.range 171).any fun k => c.word (0x150 + 4 * k) != 0) || decide (3 < c.flags) then 6
  else 0

/-! Bands (R164). -/

/-- The band that contains a value, with no hysteresis. -/
def bandOf (c : Curve) (v : Word) : Nat := (c.bounds.filter fun b => F32.le b v).length

/-- One step of the latched band, with a hysteresis of 0.25. -/
def bandStep (c : Curve) (b : Nat) (v : Word) : Nat :=
  let q := F32.ofRatio 1 4
  if b + 1 < c.nBands ∧ F32.le (F32.add (nth c.bounds b 0) q) v then b + 1
  else if 0 < b ∧ F32.lt v (F32.sub (nth c.bounds (b - 1) 0) q) then b - 1
  else b

/-- The search of R164, BAND_VAR = 0: at most `n` evaluations, the last band used. -/
def bandSearch (c : Curve) (x t : Word) : Nat → Nat → Nat
  | 0, b => b
  | n + 1, b =>
    let b' := bandOf c (curveAt c b x t)
    if b' = b ∨ n = 0 then b else bandSearch c x t n b'

/-- The compensation temperature, when usable (R165). -/
def State.compTemp (s : State) (c : Nat) : Option Word :=
  let cj := s.get (F.afgCfg2CjSrc.ch c)
  if cj ≤ 0xFF then
    match (s.chan cj).last with
    | some (v, .valid, t) => if s.since t ≤ 64 ∧ s.wiring cj ≠ 5 then some v else none
    | _ => none
  else if cj ≤ 0x103 then
    (if s.flag (F.afcTsValid.idx (cj - 0x100)) then some (F32.ofRatio (signedOf 16 (s.get (F.afcTsTemp.idx (cj - 0x100)))) 64) else none)
  else if cj = 0x1FF then some 0 else none

/-- The start of a measurement sequence: binding, curve copy and band latched (R164). A curve of BAND_VAR = 1 whose *tc* is
not usable takes band 0 and chooses afresh next, also where a band was latched before (DESIGN CHOICE, log entry 109). -/
def latchSeq (c : Nat) (s : State) : Latch × State :=
  let pass := s.flag (F.linBindPass.idx c)
  let id := s.get (F.linBindCurveId.idx c)
  let cv := if pass then none else s.curve id
  match cv with
  | none => (⟨pass, id, none, none, false⟩, s)
  | some cv =>
    let held := s.flag (F.linBindBandValid.idx c)
    let now := min (s.get (F.linBindBandNow.idx c)) (cv.nBands - 1)
    let var := if cv.bandVar then s.compTemp c else (s.chan c).prev
    let (band, afresh) : Option Nat × Bool :=
      match var with
      | some v =>
        if held then (some (bandStep cv now v), false)
        else if cv.bandVar then (some (bandOf cv v), false) else (none, false)
      | none => if cv.bandVar then (some 0, true) else (none, false)
    let s := match band with
      | some b => (s.put (F.linBindBandValid.idx c) 1).put (F.linBindBandNow.idx c) b
      | none => s
    (⟨pass, id, some cv, band, afresh⟩, s)

/-! Range ends (R166). -/

/-- The direction of an OVERRANGE status, from the end of the input at which the result stands (R166). -/
def overDirection (c : Curve) (band : Nat) (u t fscale : Word) : SrcStatus :=
  let full := F32.mul (F32.ofInt (2 ^ 23 - 1)) fscale
  let uLo := if F32.lt c.uMin (F32.negate full) then F32.negate full else c.uMin
  let uHi := if F32.lt full c.uMax then full else c.uMax
  let vLo := curveOf c band uLo t
  let vHi := curveOf c band uHi t
  let atHi := decide (F32.scaled uLo + F32.scaled uHi ≤ 2 * F32.scaled u)
  if F32.eq vLo vHi then (if atHi then .overHi else .overLo)
  else if F32.lt vLo vHi == atHi then .overHi else .overLo

/-- The range limit at which a value outside the measured range of a built-in type is delivered, as OVERRANGE (R166). -/
def builtinLimit (id : Nat) (v : Word) : Option Word :=
  match measuredRange id with
  | none => none
  | some (lo, hi) =>
    if F32.lt v (F32.ofInt lo) then some (F32.ofInt lo)
    else if F32.lt (F32.ofInt hi) v then some (F32.ofInt hi)
    else none

/-! Linearisation of one result. -/

/-- What the filter engine delivers for a result, and the state with the events it raised: of FAULT, STALE, RANGING and
OVERRANGE the first that applies (R157, R162 to R170). The OVERRANGE flag stands beside another status too (R156). -/
def linearise (r : ChResult) (s : State) : (Word × SrcStatus) × State :=
  let c := r.ch
  let x := s.chan c
  let unlessRanging (v : Word) (st : SrcStatus) : Word × SrcStatus := if r.ranging then (0, .ranging) else (v, st)
  if r.faults ≠ 0 then ((0, .fault), s)
  else
    let u := F32.mul (F32.ofInt (signedOf 24 r.code)) r.fscale
    if r.latch.pass then (unlessRanging u (if r.beyond then (if F32.lt u 0 then .overLo else .overHi) else .valid), s)
    else match r.latch.curve with
    | none =>
      let s' := if x.curveEmpty then s else raise 0x031 5 3 [c] (s.setChan c { x with curveEmpty := true })
      ((0, .stale), s')
    | some cv =>
      let s := s.setChan c { x with curveEmpty := false }
      let x := s.chan c
      let tc := if cv.usesT then s.compTemp c else some 0
      match tc with
      | none =>
        let s' := if x.cjLost then s else raise 0x031 2 3 [c] (s.setChan c { x with cjLost := true })
        ((0, .stale), s')
      | some tc =>
        let s := if cv.usesT then s.setChan c { x with cjLost := false } else s
        let x := s.chan c
        let clamped := cv.usesT && (F32.lt tc cv.tMin || F32.lt cv.tMax tc)
        let tc := if F32.lt tc cv.tMin then cv.tMin else if F32.lt cv.tMax tc then cv.tMax else tc
        let s := if clamped && !x.tClamp then raise 0x031 3 3 [c] (s.setChan c { x with tClamp := true }) else s
        let t := if cv.usesT then F32.mul (F32.sub tc cv.tOff) cv.tScale else 0
        let outside := F32.lt u cv.uMin || F32.lt cv.uMax u
        let s := if outside then s.put (F.afgStatOverrange.ch c) 1 else s
        let ub := if F32.lt u cv.uMin then cv.uMin else if F32.lt cv.uMax u then cv.uMax else u
        let band := match r.latch.band with
          | some b => b
          | none => bandSearch cv (curveX cv ub) t cv.nBands 0
        let s := (s.put (F.linBindBandValid.idx c) (b2n !r.latch.afresh)).put (F.linBindBandNow.idx c) band
        let v := curveOf cv band ub t
        if !F32.isFinite v then ((0, .stale), raise 0x031 4 3 [c] s)
        else
          let dir := overDirection cv band u t r.fscale
          match builtinLimit r.latch.curveId v with
          | some lim => (unlessRanging lim dir, s.put (F.afgStatOverrange.ch c) 1)
          | none => (unlessRanging v (if r.beyond || outside then dir else .valid), s)

/-- The result reaches the points, with the flags as delivered (R156, R157). -/
def deliverResult (r : ChResult) (s : State) : State :=
  let c := r.ch
  let again := s.wasStale c
  let ((v, st), s) := linearise r s
  let s := match st with
    | .stale => dropBand c .stale (s.put (F.afgStatStale.ch c) 1)
    | .fault => dropBand c .fault s
    | .ranging => s.setChan c { s.chan c with last := some (0, .ranging, s.now) }
    | _ =>
      let s := s.setChan c { s.chan c with last := some (v, st, s.now), prev := some v }
      if st = .valid then s else s.put (F.afgStatOverrange.ch c) 1
  let s := countNarrow c r.code (st == .valid) s
  if st = .stale ∧ again then s
  else sendChannel c v st (if st = .fault then r.faults else 0) (if st = .fault then 1 else 0) s

/-- The oldest result of a group is linearised and delivered (R163), and behind a channel's last one the STALE that
follows it (R150, R160). -/
def resultLinearise (g : Nat) (s : State) : State :=
  let x := s.grp g
  match x.results with
  | [] => s
  | r :: rs =>
    let s := deliverResult r (s.setGrp g { x with results := rs })
    if (s.chan r.ch).staleDue && !s.inFilter r.ch then staleSend r.ch s else s

/-! Fast mode (R152 to R154, R161). -/

/-- A fast group that no longer runs ends with the output in progress: excitation off, its channels STALE (R150,
R152). -/
def fastEnd (g : Nat) (s : State) : State :=
  let s := setExc g false (s.put (F.afgGstatSlotBusy.page g) 0)
  staleSweep (s.setGrp g { s.grp g with slot := none, fastFaults := 0, reinit := false, kept := none })

/-- The faults that an output in fast mode carries: those of the last measurement, and what the check at the entry found
(R135, R154). -/
def State.fastFault (s : State) (g c : Nat) (sl : Slot) : Nat := (s.grp g).fastFaults ||| b2n (sl.checkOpen && s.checks c)

/-- One output of a group in fast mode (R152): its sequence latches at the output (R164), and a narrowing that is due
takes effect at this boundary, behind the output that ends there (R159). -/
def fastOutput (g : Nat) (v : ConvReading) (s : State) : State :=
  let x := s.grp g
  match x.fast, x.slot with
  | some j, some sl =>
    if sl.stage ≠ .conv then s
    else
      let c := 8 * g + j
      let (l, s) := latchSeq c s
      let sl' := { sl with latch := l, overTop := false }
      let s := readbackTrips g (convTrips v) (s.setGrp g { s.grp g with slot := some sl' })
      let s :=
        if convLost v then readbackLost g s
        else
          let s := readbackOk g (s.setGrp g { s.grp g with reinit := false })
          let (code, clamped) := clampCode v.code.toNat
          let ch := s.chan c
          let s := s.setChan c { ch with rangingLeft := ch.rangingLeft - 1, narrowed := false }
          completeResult g (resultOf { sl' with ch := c } code (s.beyond c clamped v.limited code || sl.overTop)
            (decide (0 < ch.rangingLeft)) (s.fastFault g c sl) s) s
      let s := afgQuiet g (narrowNow c s)
      if (s.grp g).fast.isSome && !s.fastRuns g then fastEnd g s else s
  | _, _ => s

/-- The measurement every 10 ms in fast mode (R154). An open loop found by the one check at the entry stands until fast
mode is entered again (DESIGN CHOICE, log entry 109). -/
def fastMonitor (g : Nat) (m : MonReading) (s : State) : State :=
  let x := s.grp g
  match x.fast, x.slot with
  | some j, some sl =>
    if sl.stage ≠ .conv then s
    else
      let c := 8 * g + j
      let f := phaseFaults c m 1 (sl.checkOpen && s.checks c) s
      (putMon c m s).setGrp g { x with fastFaults := f }
  | _, _ => s

/-- A group takes its next channel (R121). -/
def slotStart (g : Nat) (s : State) : State :=
  match s.nextChan g with
  | none => s
  | some j =>
    let s := if (s.grp g).fast.isSome then s else narrowNow (8 * g + j) s
    let (l, s) := latchSeq (8 * g + j) s
    newSlot g j l s

/-! Curve loads (R168) and the commit of LIN (R170). -/

/-- The address of a curve's slot in the window, bank aside (R167). -/
def curveAddr (id : Nat) : Nat := 0xC40000 + 0x400 * id

/-- CURVE_CMD.LOAD: the load begins; the record is judged when it ends (R168). -/
def curveLoad (h : HostId) (v m : Word) (s : State) : State :=
  let s := storeFields h 0x031040 v m s
  if getBit m 31 && getBit v 31 then
    (s.put F.linCurveCmdLoad 1).withAfe { s.afe with load := some (s.get F.linCurveCmdId) }
  else s

/-- A load completes (R168). -/
def curveLoadDone (s : State) : State :=
  match s.afe.load with
  | none => s
  | some id =>
    let bs := s.winBytes (curveAddr id) 0x400
    let res := curveResult id bs
    let s := ((s.put F.linCurveCmdLoad 0).put F.linCurveResResult res).put F.linCurveResId id
    let s := s.withAfe { s.afe with load := none }
    if res = 0 then
      let c := bytesWords 256 bs
      let cv := if Curve.nBands c = 0 then [] else c
      raise 0x031 0 3 [id] (s.withAfe { s.afe with curves := Sparse.set (fun _ => []) s.afe.curves id cv })
    else accessFault 0x031 0x31 (raise 0x031 1 3 [id, res] s)

/-- A binding as the commit would leave it names no curve that can be bound (R170). -/
def bindRefused (c : Nat) (s : State) : Bool :=
  let id := s.getAfter (F.linBindCurveId.idx c)
  s.getAfter (F.linBindPass.idx c) == 0
    && ((decide (0x3FF < id) && (decide (id < 0xF00) || decide (0xF3F < id))) || (s.curve id).isNone)

/-- The quiet point of LIN: no linearisation in progress (R170). -/
def State.linQuiet (s : State) : Bool := s.afe.grps.all fun g => g.2.results.isEmpty

/-- The commit of LIN (R170); a changed filter interrupts the fast conversion of its group (R161). -/
def linCommit (s : State) : State :=
  if !s.flag (F.hdrPageCommitCommit.page 0x031) then s
  else if s.staged.any fun w => decide (0x031400 ≤ w.addr) && decide (w.addr < 0x031800) && bindRefused ((w.addr - 0x031400) / 4) s then
    commitRefused 0x031 0x30 s
  else
    let s' := commitTaken 0x031 s
    (List.range 32).foldl (fun t g =>
      if s.reg (0x031100 + 4 * g) != s'.reg (0x031100 + 4 * g) then restartFast g t else t) s'

/-! The commands of scanning and linearisation. -/

def execSlotStart (g : BitVec 5) (s : State) : Host.Outcome State Fault Refusal := .next (slotStart g.toNat s)

def execExcitationOn (g : BitVec 5) (s : State) : Host.Outcome State Fault Refusal := .next (excitationOn g.toNat s)

def execCheckCurrentEnd (g : BitVec 5) (mv : BitVec 16) (s : State) : Host.Outcome State Fault Refusal :=
  .next (checkEnd g.toNat (signedOf 16 mv.toNat) s)

def execConversionStart (g : BitVec 5) (s : State) : Host.Outcome State Fault Refusal := .next (conversionStart g.toNat s)

def execMonitorMeasure (g : BitVec 5) (mon : MonReading) (s : State) : Host.Outcome State Fault Refusal :=
  .next (monitorMeasure g.toNat mon s)

def execPhaseComplete (g : BitVec 5) (conv : ConvReading) (s : State) : Host.Outcome State Fault Refusal :=
  .next (phaseComplete g.toNat conv s)

def execSlotEnd (g : BitVec 5) (s : State) : Host.Outcome State Fault Refusal := .next (slotEnd g.toNat s)

def execResultLinearise (g : BitVec 5) (s : State) : Host.Outcome State Fault Refusal := .next (resultLinearise g.toNat s)

def execRangeOverload (g : BitVec 5) (positive : Bool) (s : State) : Host.Outcome State Fault Refusal :=
  .next (rangeOverload g.toNat positive s)

def execFastOutput (g : BitVec 5) (conv : ConvReading) (s : State) : Host.Outcome State Fault Refusal :=
  .next (fastOutput g.toNat conv s)

def execFastMonitor (g : BitVec 5) (mon : MonReading) (s : State) : Host.Outcome State Fault Refusal :=
  .next (fastMonitor g.toNat mon s)

/-- A reading of an on-package sensor: VALID, TEMP and TS_FAULT (R144). -/
def tsRead (k : Nat) (ok : Bool) (temp : Int) (s : State) : State :=
  let inRange := ok && decide (-45 * 64 ≤ temp) && decide (temp ≤ 130 * 64)
  let first := !s.afe.tsRead.contains k
  let wasBad := s.afe.tsBad.contains k
  let s := (s.putFlag (F.afcTsValid.idx k) inRange).put (F.afcTsTemp.idx k) (unsignedOf 16 temp)
  let bad := s.afe.tsBad.filter (· != k)
  let s := s.withAfe { s.afe with tsRead := (if first then s.afe.tsRead ++ [k] else s.afe.tsRead), tsBad := if inRange then bad else bad ++ [k] }
  if !inRange && (first || !wasBad) then raise 0x030 1 3 [k] s else s

def execTsRead (sensor : BitVec 2) (ok : Bool) (temp : BitVec 16) (s : State) : Host.Outcome State Fault Refusal :=
  .next (if s.configured && s.flag F.afcCtlScanEn then tsRead sensor.toNat ok (signedOf 16 temp.toNat) s else s)

def execCurveLoad (host : HostId) (id : BitVec 12) (s : State) : Host.Outcome State Fault Refusal :=
  let v : Word := BitVec.ofNat 32 (2 ^ 31 + id.toNat)
  .next (hostWord host 0x031040 v (curveLoad host v) s)

def execCurveLoadDone (s : State) : Host.Outcome State Fault Refusal := .next (curveLoadDone s)

end Sys2Proof.Machine
end

