-- ==== Sys2Proof/Machine/Outputs.lean ====
section
/-!
DEFINITION. Repeater outputs (R171 to R175) and discrete inputs and outputs (R176 to R180, R184).
-/

namespace Sys2Proof.Machine

/-! Repeaters. -/

/-- Round a fraction to the nearest integer, halves upwards (DESIGN CHOICE: R171 says "rounded to the unit" and gives no
direction for a half, log entry 102). -/
def roundFrac (n : Int) (d : Int) : Int := if d < 0 then (2 * (-n) - d) / (2 * (-d)) else (2 * n + d) / (2 * d)

/-- The output for a value, clamped to the interval between OUT_LO and OUT_HI (R171). -/
def repScaled (n : Nat) (v : Word) (s : State) : Nat :=
  let lo := F32.scaled (s.reg (F.repLoLo.idx n).addr)
  let hi := F32.scaled (s.reg (F.repHiHi.idx n).addr)
  let oLo : Int := s.get (F.repOutLoOutLo.idx n)
  let oHi : Int := s.get (F.repOutHiOutHi.idx n)
  let o := if hi = lo then oLo else oLo + roundFrac ((F32.scaled v - lo) * (oHi - oLo)) (hi - lo)
  (max (min oLo oHi) (min (max oLo oHi) o)).toNat

/-- The fault output of an output (R172); 2 % of OUT_HI is brought to the nearest unit of 0.01 Hz, halves up (DESIGN CHOICE,
log entry 102). -/
def repFault (n : Nat) (s : State) : Nat :=
  let f := s.get (F.repOutFaultOutFault.idx n)
  if f ≠ 0xFFFFF then f
  else if s.get (F.repCfgMode.idx n) = 1 then 200
  else (2 * s.get (F.repOutHiOutHi.idx n) + 50) / 100

/-- What an output is to drive: none holds it, otherwise whether it is the fault output, and the value (R172). -/
def repWanted (n : Nat) (s : State) : Option (Bool × Nat) :=
  match s.pt (s.get (F.repCfgPoint.idx n)) with
  | none => some (true, repFault n s)
  | some p =>
    if p.vstate == .fault || p.vstate == .unknown then some (true, repFault n s)
    else match p.status with
      | .stale | .fault | .none => some (true, repFault n s)
      | .ranging => none
      | _ => some (false, repScaled n p.value s)

/-- The output takes its latest value or its fault output (R172, R173). -/
def repDrive (n : Nat) (s : State) : State :=
  if s.get (F.repCfgMode.idx n) = 0 then
    (s.put (F.repStatNow.idx n) 0).put (F.repStatFaultOut.idx n) 0
  else match repWanted n s with
    | none => s
    | some (fault, v) =>
      let had := s.outs.repValued.testBit n
      let s := (s.put (F.repStatNow.idx n) v).putFlag (F.repStatFaultOut.idx n) fault
      if fault then
        let s := s.withOuts { s.outs with repValued := if had then s.outs.repValued - 2 ^ n else s.outs.repValued }
        if had then raise 0x032 n 3 [n] s else s
      else s.withOuts { s.outs with repValued := s.outs.repValued ||| 2 ^ n }

/-- All outputs off: in a reset and in STANDBY (R36, R172, R173). -/
def repOff (s : State) : State :=
  (List.range 16).foldl (fun s n => ((s.put (F.repStatNow.idx n) 0).put (F.repStatFaultOut.idx n) 0).put (F.repStatLf.idx n) 0) s

/-- The outputs are off: unconfigured, in STANDBY, the block disabled or in its reset (R36, R37). -/
def State.repDead (s : State) : Bool :=
  !s.configured || s.standby || !s.pageEn 0x032 || s.flag (F.hdrPageCtlBlkRst.page 0x032)

/-- Every output takes its value, where none is held off. -/
def repDriveAll (s : State) : State := if s.repDead then s else (List.range 16).foldl (fun s n => repDrive n s) s

/-- The timing reference of an output at a boundary (R173): without HFXO it runs on LFXO. -/
def repTiming (n : Nat) (s : State) : State :=
  if s.get (F.repCfgMode.idx n) = 0 then s.put (F.repStatLf.idx n) 0
  else if s.flag F.clkStatHfxoRun then s.put (F.repStatLf.idx n) 0
  else if s.flag (F.repStatLf.idx n) then s
  else raise 0x032 16 3 [n] (s.put (F.repStatLf.idx n) 1)

/-- The checks of R175 on one output, on the values as the commit would leave them. -/
def repRefused (n : Nat) (s : State) : Bool :=
  let get (f : Fld) : Nat := s.getAfter (f.idx n)
  let mode := get F.repCfgMode
  let car := get F.repCarrierCarrier
  let lo := s.afterCommit (F.repLoLo.idx n).addr
  let hi := s.afterCommit (F.repHiHi.idx n).addr
  let bad (v : Nat) : Bool := if mode = 1 then decide (10000 < v) else decide (v < 100) || decide (1000000 < v)
  mode == 3
    || (mode == 1 && (decide (car < 100) || decide (20000 < car)))
    || (mode != 0 && (bad (get F.repOutLoOutLo) || bad (get F.repOutHiOutHi)
        || (get F.repOutFaultOutFault != 0xFFFFF && bad (get F.repOutFaultOutFault))))
    || F32.eq lo hi || !F32.isFinite lo || !F32.isFinite hi

/-- One output takes its staged words (R175). -/
def repTake (n : Nat) (s : State) : State :=
  (List.range 7).foldl (fun s k =>
    let a := 0x032100 + 0x20 * n + 4 * k
    let w := s.afterCommit a
    (s.setReg a w).withStaged (s.staged.filter fun x => x.addr != a)) s

/-- The pending commit reaches output `n` (R175): refused as a whole, or taken by this output; COMMIT clears once
every enabled output has taken it. -/
def repCommitAt (ns : List Nat) (s : State) : State :=
  if !s.flag (F.hdrPageCommitCommit.page 0x032) then s
  else if s.outs.repTaken = 0 && (List.range 16).any fun n => repRefused n s then commitRefused 0x032 0x30 s
  else
    let s := ns.foldl (fun s n =>
      if s.outs.repTaken.testBit n then s else (repTake n s).withOuts { s.outs with repTaken := s.outs.repTaken ||| 2 ^ n }) s
    if (List.range 16).all fun n => s.outs.repTaken.testBit n || s.get (F.repCfgMode.idx n) = 0 then
      (commitTaken 0x032 s).withOuts { s.outs with repTaken := 0 }
    else s

/-- A period boundary of an output (R173, R175). -/
def repBoundary (n : Nat) (s : State) : State :=
  if s.repDead then s else repDrive n (repTiming n (repCommitAt [n] s))

def execRepPeriodBoundary (out : BitVec 4) (s : State) : Host.Outcome State Fault Refusal :=
  .next (repBoundary out.toNat s)

/-! Discrete outputs. -/

/-- The state an output of SRC 2 to 4 takes from its point or group (R177). -/
def doFollow (k : Nat) (s : State) : Bool :=
  let t := s.get (F.dioDoCfgTarget.idx k)
  match s.get (F.dioDoCfgSrc.idx k) with
  | 2 => (match s.usablePt t with
    | some p => nonZero p.value
    | none => s.flag (F.dioDoCfgFailOn.idx k))
  | 3 => decide (0 < s.actCnt (t % 4096))
  | 4 => decide (0 < s.unackCnt (t % 4096))
  | _ => false

/-- The commanded state of an output (R177). -/
def State.doCommanded (s : State) (k : Nat) : Bool :=
  if (s.get F.dioDoCallCall).testBit k then s.outs.callOn.testBit k
  else
    let c := match s.get (F.dioDoCfgSrc.idx k) with
      | 0 => false
      | 1 => (s.get F.dioDoSetSet).testBit k
      | _ => s.outs.doCmd.testBit k
    c != s.flag (F.dioDoCfgInv.idx k)

/-- Every output is off (R36, R52, R178). -/
def State.doDead (s : State) : Bool :=
  !s.configured || s.standby || s.flag F.pwrStatVfieldFail || !s.pageEn 0x033 || s.flag (F.hdrPageCtlBlkRst.page 0x033)

/-- DO_NOW follows the commanded states: an output commanded off leaves its overload episode (R178). -/
def refreshDo (s : State) : State :=
  let cmd := (List.range 16).foldl (fun m k => m + b2n (s.doCommanded k) * 2 ^ k) 0
  let ovl := s.get F.dioDoNowOvl &&& cmd
  let at_ := s.outs.ovlAt.filter fun x => ovl.testBit x.1
  let retry := s.outs.retry &&& ovl
  let s := (s.put F.dioDoNowOvl ovl).withOuts { s.outs with ovlAt := at_, retry := retry }
  let paused := ovl &&& (0xFFFF - retry)
  s.put F.dioDoNowOn (if s.doDead then 0 else cmd &&& (0xFFFF - paused))

/-- At the end of an engine pass the outputs of SRC 2 to 4 take their commanded states (R177). -/
def updateDo (s : State) : State :=
  let cmd := (List.range 16).foldl (fun m k => m + b2n (doFollow k s) * 2 ^ k) 0
  refreshDo (s.withOuts { s.outs with doCmd := cmd })

/-- The checks of R179 on one output. -/
def doRefused (k : Nat) (s : State) : Bool :=
  let w := s.afterCommit (0x033100 + 4 * k)
  let src := getBits w 31 29
  decide (5 ≤ src) || ((src == 3 || src == 4) && getBits w 16 12 != 0)

/-- The commit of DIO at the end of the engine pass (R179). -/
def dioCommit (s : State) : State :=
  if !s.flag (F.hdrPageCommitCommit.page 0x033) then s
  else if (List.range 16).any fun k => doRefused k s then commitRefused 0x033 0x30 s
  else updateDo (commitTaken 0x033 s)

/-- DIO.DO_SET (R178). -/
def actDoSet (h : HostId) (v m : Word) (s : State) : State := refreshDo (storeFields h 0x03304C v m s)

def execDoSet (host : HostId) (value : BitVec 16) (s : State) : Host.Outcome State Fault Refusal :=
  let v : Word := value.setWidth 32
  .next (hostWord host 0x03304C v (actDoSet host v) s)

/-- The overload limit switches an output off (R178): the event is raised once for the episode. -/
def doOverload (k : Nat) (s : State) : State :=
  if !(s.get F.dioDoNowOn).testBit k then s
  else
    let had := (s.get F.dioDoNowOvl).testBit k
    let s := s.put F.dioDoNowOvl (s.get F.dioDoNowOvl ||| 2 ^ k)
    let s := s.withOuts { s.outs with
      ovlAt := s.outs.ovlAt.filter (fun x => x.1 != k) ++ [(k, s.now)]
      retry := if s.outs.retry.testBit k then s.outs.retry - 2 ^ k else s.outs.retry }
    let s := refreshDo s
    if had then s else raise 0x033 k 3 [k] s

def execDoOverload (out : BitVec 4) (s : State) : Host.Outcome State Fault Refusal := .next (doOverload out.toNat s)

/-- 32 tide ticks after the overload the output tries again while commanded on (R178). -/
def doRetry (k : Nat) (s : State) : State :=
  match s.outs.ovlAt.find? fun x => x.1 == k with
  | some (_, t) =>
    if s.since t < 32 then s
    else refreshDo (s.withOuts { s.outs with ovlAt := s.outs.ovlAt.filter (fun x => x.1 != k), retry := s.outs.retry ||| 2 ^ k })
  | none => s

def execDoOverloadRetry (out : BitVec 4) (s : State) : Host.Outcome State Fault Refusal := .next (doRetry out.toNat s)

/-! Discrete inputs. -/

/-- Used points of KIND 2 in a mode, on an input (R184). An OUT-OF-SERVICE point still follows its source, but
advances no accumulator (R230); source values for a point in an open edit range are discarded (R200). -/
def State.diPoints (s : State) (mode : Nat) (di : Nat → Bool) : List Nat :=
  (s.eng.pts.filter fun x =>
    let c := s.pcfg x.1
    !(x.2.oos && mode == 1) && !s.inEdit x.1 && c.kind == 2 && c.diMode == mode && di c.di).map (·.1)

/-- Count the rising edges of one sample in CNTn and in the points that count them (R176, R184). -/
def diEdges (rise : Nat) (s : State) : State :=
  let s := (List.range 8).foldl (fun s n => if rise.testBit (56 + n) then s.bumpWrap (F.dioCntCount.idx n) 1 else s) s
  let cs := s.diPoints 1 rise.testBit
  let is := cs ++ s.diPoints 2 rise.testBit
  let s := is.foldl (fun s i => match s.pt i with
    | some p => s.setPt i { p with acc := (p.acc + 1) % 2 ^ 40 }
    | none => s) s
  s.withOuts { s.outs with dirty := s.outs.dirty ++ cs.filter fun i => !s.outs.dirty.contains i }

/-- One sample of every input (R176). -/
def diSample (v : Nat) (s : State) : State :=
  if !s.diGood then s
  else
    let s := (s.put F.dioDiLoLevel v).put F.dioDiHiLevel (v / 2 ^ 32)
    let rise := match s.outs.diPrev with
      | some p => v &&& (2 ^ 64 - 1 - p)
      | none => 0
    diEdges rise (s.withOuts { s.outs with diPrev := some v })

def execDiSample (levels : BitVec 64) (s : State) : Host.Outcome State Fault Refusal := .next (diSample levels.toNat s)

/-- A level that has held for a filter time reaches the LEVEL points of the input with that FILT (R184). -/
def diAccept (di filt : Nat) (level : Bool) (s : State) : State :=
  if !s.diGood then s
  else ((s.diPoints 0 (· == di)).filter fun i => (s.pcfg i).diFilt == filt).foldl
    (fun s i => s.trigger (.deliver i (F32.ofInt (b2n level)) .valid 0 0)) s

def execDiChangeAccept (di : BitVec 6) (filt : Byte) (level : Bool) (s : State) : Host.Outcome State Fault Refusal :=
  .next (diAccept di.toNat filt.toNat level s)

/-- The frequency of the last 32 tide ticks reaches a FREQ point (R184). -/
def diFreq (i : Nat) (s : State) : State :=
  if !s.diGood || !(s.diPoints 2 fun _ => true).contains i then s
  else match s.pt i with
    | some p =>
      if s.since p.accTick < 32 then s
      else (s.setPt i { p with acc := 0, accTick := s.now }).trigger (.deliver i (F32.ofInt p.acc) .valid 0 0)
    | none => s

def execDiFreqSample (point : PointIdx) (s : State) : Host.Outcome State Fault Refusal := .next (diFreq point.toNat s)

/-- Inputs are sampled again after a failure of VFIELD or STANDBY: FREQ points count a window of 32 ticks afresh, and a COUNT
point that reads FAULT takes its count, whose source is VALID again, at the next tick (R184). -/
def diResume (s : State) : State :=
  let s := (s.diPoints 2 fun _ => true).foldl (fun s i => match s.pt i with
    | some p => s.setPt i { p with acc := 0, accTick := s.now }
    | none => s) s
  let cs := (s.diPoints 1 fun _ => true).filter fun i => (s.pt i).any (·.status == .fault)
  s.withOuts { s.outs with dirty := s.outs.dirty ++ cs.filter fun i => !s.outs.dirty.contains i }

/-- VFIELD is below its threshold: inputs read 0, DI_INVALID once, DI points take FAULT with reason 7 (R52, R176,
R184). -/
def diInvalid (s : State) : State :=
  let s := (s.put F.dioDiLoLevel 0).put F.dioDiHiLevel 0
  let s := s.withOuts { s.outs with diPrev := none }
  let s := raise 0x033 16 3 [] s
  s.eng.pts.foldl (fun s x => if (s.pcfg x.1).kind == 2 then s.trigger (.deliver x.1 0 .fault 0 7) else s) s

/-- While VFIELD is below its threshold every DI point holds FAULT with reason 7, one rebuilt meanwhile too (R184). -/
def diHeldFault (s : State) : State :=
  if s.configured && !s.standby && s.flag F.pwrStatVfieldFail then
    s.eng.pts.foldl (fun s x =>
      if (s.pcfg x.1).kind == 2 && x.2.status != .fault then s.trigger (.deliver x.1 0 .fault 0 7) else s) s
  else s

/-- A LEVEL point at a tide tick: while VALID its source counts as fresh, which a RATE of it follows (R184, R190); a
point that holds no value yet, or whose VFIELD has come back, takes the level of the last sample, as its source is
VALID and never goes stale (DESIGN CHOICE: R184 gives the status and not the moment, log entry 101). One whose staleness count ran
out while the block was off takes it too: the fresh value ends the condition (R195). -/
def levelTick (i : Nat) (s : State) : State :=
  match s.pt i with
  | none => s
  | some p =>
    if s.heldPt i p then s
    else if p.status == .valid && !(p.vstate == .fault && p.reason == 2) then notify i true false (if p.oos then s else s.setPt i (p.restale (s.pcfg i) s.now))
    else match s.outs.diPrev with
      | some v => s.trigger (.deliver i (F32.ofInt (b2n (v.testBit (s.pcfg i).di))) .valid 0 0)
      | none => s

/-- What a tide tick does to inputs and outputs: changed counts are delivered, LEVEL sources count as fresh, a
retry that has run ends its episode (R178, R184). -/
def dioTick (s : State) : State :=
  let s := diHeldFault s
  let ds := s.outs.dirty
  let s := ds.foldl (fun s i => match s.pt i with
    | some p => if s.diGood then s.trigger (.deliver i (F32.ofInt p.acc) .valid 0 0) else s
    | none => s) (s.withOuts { s.outs with dirty := [] })
  let s := if s.diGood then (s.diPoints 0 fun _ => true).foldl (fun s i => levelTick i s) s else s
  let r := s.outs.retry
  if r = 0 then s
  else (s.put F.dioDoNowOvl (s.get F.dioDoNowOvl &&& (0xFFFF - r))).withOuts { s.outs with retry := 0 }

end Sys2Proof.Machine
end

