-- ==== Sys2Proof/Machine/Frames.lean ====
section
/-!
DEFINITION. Received crossing frames read from their bytes (R322, R323).
-/

namespace Sys2Proof.Machine

/-- A received frame: its header and body, and HSEQ. -/
structure RxFrame where
  frame : XFrame
  hseq : Nat
  /-- The port number and node of the source address (R322). -/
  srcPort : Nat
  srcNode : Nat
deriving DecidableEq, Repr

/-- The bytes of a frame from the destination address on; none where R322 has it discarded: another destination
address or EtherType, another VER, a bad HCRC, or fewer bytes than a header. -/
def parseFrame (bs : List Byte) : Option RxFrame :=
  let h := slice bs 14 32
  if bs.length < 46 then none
  else if slice bs 0 6 ≠ [0x03, 0x58, 0x4B, 0x43, 0x52, 0x00] ∨ slice bs 12 2 ≠ [0x88, 0xB5] then none
  else if leAt h 0 1 ≠ 1 ∨ crc16 (h.take 30) ≠ leAt h 0x1E 2 then none
  else
    some
      { frame :=
          { cls := leAt h 0x01 1, flags := leAt h 0x02 2, origin := leAt h 0x08 2 % 1024, dest := leAt h 0x0A 2 % 1024,
            epoch := leAt h 0x0C 2, hops := leAt h 0x0E 2, tally := leAt h 0x10 8, oseq := leAt h 0x18 4,
            body := slice bs 46 (sat 96 (leAt h 0x06 2)) }
        hseq := leAt h 0x04 2
        srcPort := leAt bs 9 1
        srcNode := (leAt bs 10 1 * 256 + leAt bs 11 1) % 1024 }

def XFrame.bcast (f : XFrame) : Bool := f.flags.testBit 0
def XFrame.partitioned (f : XFrame) : Bool := f.flags.testBit 1
def XFrame.replay (f : XFrame) : Bool := f.flags.testBit 2
def XFrame.sync (f : XFrame) : Bool := f.flags.testBit 3

/-- The body length matches the class (R324). -/
def XFrame.lenOk (f : XFrame) : Bool :=
  let n := f.body.length
  match f.cls with
  | 0x01 => let c := leAt f.body 0 1
    decide (1 ≤ c) && decide (c ≤ 7) && n == 4 + 12 * c
  | 0x02 => (match leAt f.body 0 1 with
    | 0 => n == 32 | 1 => n == 32 | 2 => n == 68 | _ => false)
  | 0x03 => n == 14
  | 0x04 => if leAt f.body 0 1 = 3 then n == 16 else decide (leAt f.body 0 1 ≤ 3) && decide (leAt f.body 10 1 ≤ 34) && n == 12 + 2 * leAt f.body 10 1
  | 0x05 => n == 8
  | 0x06 => n == 32
  | 0x07 => n == 80
  | 0x08 => n == 14
  | 0x09 => if leAt f.body 0 1 = 0 then n == 76 else decide (leAt f.body 0 1 ≤ 2) && n == 12
  | _ => false

end Sys2Proof.Machine
end

