-- ==== Sys2Proof/Machine/Calls.lean ====
section
/-!
DEFINITION. The duty-engineer call (chapter 9): occurrences, calls and their stages, call units, call frames, the
dead-man watch, duty changes.
-/

namespace Sys2Proof.Machine

/-! Settings. -/

def State.isDuty (s : State) : Bool := s.flag F.callStatIsDuty

/-- This node's base image declares it call-capable (R17). -/
def State.callCapable (s : State) : Bool := s.flag F.xnetCfgCallcap

def State.withCalls (s : State) (cs : List Call) : State := s.withCall { s.call with calls := cs }

def State.callOf (s : State) (k : Nat) : Option Call := s.call.calls.find? fun c => c.cls == k

/-- Put a call at its place by rising class, replacing one of its class. -/
def putCall (c : Call) : List Call → List Call
  | [] => [c]
  | x :: xs => if x.cls = c.cls then c :: xs else if c.cls < x.cls then c :: x :: xs else x :: putCall c xs

def State.setCallOf (s : State) (c : Call) : State := s.withCalls (putCall c s.call.calls)

/-- The occurrences that hold the call of a class open. -/
def State.heldOccs (s : State) (k : Nat) : List Occ := s.call.occs.filter fun o => o.cls == k && o.held

/-- The units of an engineer; 0xFFFF is no unit (R247, R249). -/
def State.rosterUnits (s : State) (n : Nat) : List Nat :=
  if s.flag (F.callRosterHiEn.idx n) then
    [s.get (F.callRosterUnitA.idx n), s.get (F.callRosterUnitB.idx n)].filter (· != 0xFFFF)
  else []

/-- The units a stage calls (R252). -/
def State.stageUnits (s : State) (stage : Nat) : List Nat :=
  let all := (List.range 16).flatMap s.rosterUnits
  match stage with
  | 1 => dedupe (s.rosterUnits (s.get F.callDutyEngineer))
  | 2 => dedupe all
  | 3 => dedupe ([s.get F.callBridgeUnitA, s.get F.callBridgeUnitB].filter (· != 0xFFFF) ++ all)
  | _ => []

/-- A node is present for this node (R337); the node itself always is. -/
def State.isPresent (s : State) (n : Nat) : Bool := n == s.nodeId || s.xnet.present.toNat.testBit n

/-- A unit is reachable (R248). -/
def State.unitReachable (s : State) (a : Nat) : Bool :=
  let n := a / 64
  let u := a % 64
  if u = 63 ∨ 1023 < n then false
  else if n = s.nodeId then s.flag (F.callUnitEn.idx u)
  else s.isPresent n && (match s.call.frames.find? fun f => f.1 == n with
    | some (_, us, t) => us.testBit u && decide (s.since t ≤ 96)
    | none => false)

/-! Local units (R247). -/

/-- A local unit is called steadily. -/
def State.unitSteady (s : State) (u : Nat) : Bool := s.call.named.any fun n => n.unit == u

/-- The dead-man pre-warning is in its on phase: 16 tide ticks on, 16 off (R247). -/
def State.flashOn (s : State) : Bool := s.get F.callDmStatState == 2 && (s.since s.call.flashAt / 16) % 2 == 0

/-- DO_CALL and the outputs that call units switch on (R177, R247). -/
def refreshUnits (s : State) : State :=
  let us := (List.range 63).filter fun u => s.flag (F.callUnitEn.idx u)
  let doOf (u : Nat) : Nat := 2 ^ s.get (F.callUnitDo.idx u)
  let mask := us.foldl (fun m u => m ||| doOf u) 0
  let on := (us.filter fun u => s.unitSteady u || (s.get F.callDmCfgDmUnit == u && s.flashOn)).foldl (fun m u => m ||| doOf u) 0
  refreshDo ((s.put F.dioDoCallCall mask).withOuts { s.outs with callOn := on })

/-- The units that a call frame of a class names, as this node's hosted units take it. -/
def nameUnits (origin cls : Nat) (addrs : List Nat) (s : State) : State :=
  let mine := (addrs.filter fun a => a / 64 == s.nodeId && a % 64 != 63).map (· % 64)
  let rest := s.call.named.filter fun n => !(n.origin == origin && n.cls == cls)
  refreshUnits (s.withCall { s.call with named := rest ++ mine.map fun u => ⟨origin, cls, u, s.now⟩ })

/-! Call frames (R246, R324). -/

/-- The body of a call frame of SUB 0 to 2. -/
def callBody (sub cls st acceptBy remain duty joined : Nat) (units : List Nat) : List Byte :=
  [BitVec.ofNat 8 sub, BitVec.ofNat 8 cls, BitVec.ofNat 8 st, BitVec.ofNat 8 acceptBy] ++ leBytes 2 remain ++ leBytes 2 duty
    ++ leBytes 2 (sat 0xFFFF joined) ++ leBytes 1 units.length ++ [0] ++ units.flatMap (leBytes 2)

/-- Seconds left in a call's stage or attendance. -/
def State.callRemain (s : State) (c : Call) : Nat := match c.deadline with
  | some t => sat 0xFFFF (s.secondsTo t)
  | none => 0

/-- The units a call drives now, kept with it (R252, R259). -/
def driveCall (k : Nat) (s : State) : State :=
  match s.callOf k with
  | none => s
  | some c =>
    s.setCallOf { c with units := if c.stage ≤ 3 then (s.stageUnits c.stage).filter s.unitReachable else [], part := s.isSplit }

/-- The units kept with a call. -/
def State.callUnits (s : State) (k : Nat) : List Nat := ((s.callOf k).map (·.units)).getD []

/-- The call frame that gives a call's full state (R246). -/
def State.callFrame (s : State) (k : Nat) : List Byte :=
  match s.callOf k with
  | none => callBody 0 k 0 0 0 s.nodeId 0 []
  | some c => callBody 0 k c.stage c.acceptBy (s.callRemain c) s.nodeId (s.heldOccs k).length c.units

/-- The duty node sends the full state of a call, and its own units follow it (R246, R247, R259). -/
def sendCall (k : Nat) (s : State) : State :=
  if !s.isDuty then s
  else
    let s := driveCall k s
    nameUnits s.nodeId k (s.callUnits k) (originateNew 0x04 0 true (s.callFrame k) s)

/-- The record of a call event (R252, R257). -/
def callWords (bit cls st acceptBy joined : Nat) : List Byte := payloadWords [bit, cls, st, acceptBy, joined]

/-- A change of a call's state: its event, and the call frame that carries the event's tally (R252, R246, R352). -/
def changeCall (bit k st acceptBy : Nat) (s : State) : State :=
  let s := driveCall k s
  let e : Evt := ⟨.call (s.callFrame k), 0x043, 0x4380, 6, callWords bit k st acceptBy (s.heldOccs k).length, false⟩
  let s := emit e (mark 0x043 bit s)
  nameUnits s.nodeId k (s.callUnits k) s

/-- The event of a change of the dead-man watch (R257). -/
def dmEvent (bit cls st : Nat) (s : State) : State :=
  emitLocal ⟨.node, 0x043, 0x4380, 6, callWords bit cls st 0 0, false⟩ (mark 0x043 bit s)

/-- Units of a stage that are not reachable are logged once for each call (R248). -/
def logUnreachable (k : Nat) (s : State) : State :=
  match s.callOf k with
  | none => s
  | some c =>
    let bad := (s.stageUnits c.stage).filter fun a => !s.unitReachable a && !c.logged.contains a
    let s := s.setCallOf { c with logged := c.logged ++ bad }
    bad.foldl (fun s a => raise 0x043 4 3 [a, k] s) s

/-- The time of a stage in tide ticks; none for STAGE3 (R252). -/
def State.stageTicks (s : State) (k stage : Nat) : Option Nat :=
  match stage with
  | 1 => some (32 * s.get (F.callClassT1.idx k))
  | 2 => some (32 * s.get (F.callClassHiT2.idx k))
  | _ => none

/-- A call enters a stage; a stage with no reachable unit, or with a time of 0, is left in the same evaluation (R211, R252). -/
def enterStage (k stage bit : Nat) (acceptBy : Nat) : Nat → State → State
  | 0, s => s
  | n + 1, s =>
    let old := (s.callOf k).getD ⟨k, stage, 0, none, false, [], [], s.get (F.callClassMinPrio.idx k)⟩
    let c := { old with stage := stage, acceptBy := acceptBy, deadline := (s.stageTicks k stage).map s.inTicks }
    let s := logUnreachable k (changeCall bit k stage acceptBy (s.setCallOf c))
    if stage < 3 && !(s.stageUnits stage).any s.unitReachable then
      enterStage k (stage + 1) 1 acceptBy n (record 0x043 0x4320 3 [k, stage] s)
    else if stage < 3 && s.stageTicks k stage == some 0 then enterStage k (stage + 1) 1 acceptBy n s
    else s

/-- The state of an open call is sent again; a stage that no unit is reachable in is left instead (R246, R252). -/
def resendCall (k : Nat) (s : State) : State :=
  match s.callOf k with
  | none => s
  | some c =>
    if c.stage < 3 && !(s.stageUnits c.stage).any s.unitReachable then
      enterStage k (c.stage + 1) 1 c.acceptBy 3 (record 0x043 0x4320 3 [k, c.stage] s)
    else sendCall k s

/-- A call closes (R251, R252). -/
def closeCall (k : Nat) (s : State) : State :=
  match s.callOf k with
  | none => s
  | some c =>
    let s := s.withCalls (s.call.calls.filter fun x => x.cls != k)
    changeCall 3 k 0 c.acceptBy s

/-! Tracked occurrences (R246, R250, R251). -/

/-- The opening stage named by START; a START of 0 stands in no enabled class (R261). -/
def State.startStage (s : State) (k : Nat) : Nat := max 1 (s.get (F.callClassStart.idx k))

/-- MIN_PRIO as it counts for a class: a running call keeps the one it opened with (R255). -/
def State.minPrioOf (s : State) (k : Nat) : Nat := ((s.callOf k).map (·.minPrio)).getD (s.get (F.callClassMinPrio.idx k))

/-- The duty node's call of a class once its occurrences have changed: opened by a new one, closed with the last, sent
again otherwise. -/
def followCall (k stage : Nat) (joins : Bool) (s : State) : State :=
  if !s.isDuty then s
  else match s.callOf k with
    | some _ => if (s.heldOccs k).isEmpty then closeCall k s else sendCall k s
    | none => if joins then enterStage k stage 0 0 3 s else s

/-- Occurrences leave their calls and one may join, in one evaluation: a later INSTANCE of the only occurrence joins the
call again without closing it (R251). -/
def changeOccs (p : Occ → Bool) (o : Option Occ) (stage : Nat) (s : State) : State :=
  let gone := s.call.occs.filter fun x => p x && x.held
  let s := s.withCall { s.call with occs := (s.call.occs.filter fun x => !p x) ++ o.toList }
  (dedupe ((gone ++ o.toList).map (·.cls))).foldl (fun s k => followCall k stage (o.any fun x => x.cls == k) s) s

/-- A call-relevant event of a point, live or replayed (R246, R250, R251). -/
def trackPoint (node : Nat) (payload : List Byte) (s : State) : State :=
  if !s.callCapable then s
  else
    let point := leField payload 0 16 0
    let ast := leField payload 0 24 23
    let inst := leAt payload 8 4
    let prio := leField payload 16 17 16
    let k := leField payload 16 23 20
    let unacked := ast == 1 || ast == 3
    let leaves (o : Occ) : Bool := o.node == node && o.point == point && (!unacked || laterMod 32 inst o.inst)
    let known := s.call.occs.any fun o => o.cls == k && o.node == node && o.point == point && o.inst == inst
    let joins := k != 0 && ast == 1 && !known && decide (prio ≤ s.minPrioOf k) && s.flag (F.callClassEn.idx k)
    changeOccs leaves (if joins then some ⟨k, node, point, inst, true⟩ else none) (s.startStage k) s

/-- The number under which a node's dead-man watch is tracked. -/
def dmPoint : Nat := 2 ^ 17

/-- A dead-man call frame, or this node's own watch (R257). -/
def trackDeadMan (node st cls : Nat) (s : State) : State :=
  if !s.callCapable then s
  else if st = 3 then
    (if cls ≠ 0 && !(s.call.occs.any fun o => o.node == node && o.point == dmPoint) then
      changeOccs (fun _ => false) (some ⟨cls, node, dmPoint, 0, true⟩) 2 s else s)
  else changeOccs (fun o => o.node == node && o.point == dmPoint) none 0 s

/-! Acceptance (R253). -/

/-- The engineer an accepting unit stands for: the lowest-numbered that names it, 15 for a bridge unit. -/
def State.engineerOf (s : State) (addr : Nat) : Nat :=
  ((List.range 16).find? fun n => (s.rosterUnits n).contains addr).getD 15

/-- The duty node receives an acceptance: every open call that drives the unit is accepted. -/
def acceptAt (addr : Nat) (s : State) : State :=
  if !s.isDuty then s
  else s.call.calls.foldl (fun s c =>
    if c.stage ≤ 3 && c.units.contains addr then
      let e := s.engineerOf addr
      let att := s.get (F.callClassHiAttend.idx c.cls)
      let s := s.setCallOf { c with stage := 4, acceptBy := e, deadline := if att = 0 then none else some (s.inTicks (32 * att)), units := [] }
      changeCall 2 c.cls 4 e s
    else s) s

/-! The dead-man watch (R256, R257). -/

/-- The event bit of a watch state. -/
def dmBit : Nat → Nat
  | 1 => 16 | 2 => 17 | 3 => 18 | _ => 19

/-- The watch's timer starts over. -/
def dmRestart (s : State) : State := s.withCall { s.call with dmAt := s.now }

/-- The watch changes state: event, dead-man frame, the call it opens or leaves. -/
def dmSet (st : Nat) (s : State) : State :=
  if s.get F.callDmStatState = st then s
  else
    let cls := s.get F.callDmCfgDmClass
    let s := s.put F.callDmStatState st
    let s := if st = 2 then s.withCall { s.call with flashAt := s.now } else s
    let s := dmEvent (dmBit st) cls st s
    let s := originateNew 0x04 0 true (callBody 2 cls st 0 0 (s.get F.callStatDutyNode) 0 []) s
    refreshUnits (trackDeadMan s.nodeId st cls s)

def State.dmEn (s : State) : Bool := s.flag F.callDmCfgEn && s.configured

/-- The watch takes its inputs: enabled, and VFIELD good (R224, R247, R256). -/
def State.dmInput (s : State) : Bool := s.dmEn && s.diGood

/-- RST_DI, or an acceptance at DM_UNIT. -/
def dmReset (s : State) : State :=
  if !s.dmEn then s
  else match s.get F.callDmStatState with
    | 0 => s
    | 1 => dmRestart s
    | _ => dmSet 1 (dmRestart s)

def execDmOnInput (s : State) : Host.Outcome State Fault Refusal :=
  .next (if !s.dmInput || s.get F.callDmStatState == 3 then s else dmSet 1 (dmRestart s))

def execDmResetInput (s : State) : Host.Outcome State Fault Refusal := .next (if s.dmInput then dmReset s else s)

def execDmOffInput (s : State) : Host.Outcome State Fault Refusal :=
  .next (if !s.dmInput || s.get F.callDmStatState == 3 then s else dmSet 0 s)

/-- The tick at which the watch's timer reaches a number of seconds. -/
def State.dmDue (s : State) (sec : Nat) : Bool := s.reached ((s.call.dmAt + 32 * sec) % 2 ^ 32)

def execDmPrewarn (s : State) : Host.Outcome State Fault Refusal :=
  .next (if s.dmEn && s.get F.callDmStatState == 1 && s.dmDue (s.get F.callDmTimeLimit - s.get F.callDmTimePrewarn) then dmSet 2 s else s)

def execDmExpired (s : State) : Host.Outcome State Fault Refusal :=
  .next (if s.dmEn && s.get F.callDmStatState == 2 && s.dmDue (s.get F.callDmTimeLimit) then dmSet 3 s else s)

/-! CALL.CMD (R254, R256, R261). -/

def callCmdWord (op cls : Nat) : Word := BitVec.ofNat 32 (op * 2 ^ 28 + cls)

/-- The duty node has closed a call: what this node still tracks of it was cancelled there and holds no call any more
(R246, R254). -/
def dropOccs (k : Nat) (s : State) : State :=
  s.withCall { s.call with occs := s.call.occs.map fun o => if o.cls == k then { o with held := false } else o }

/-- CANCEL by the owner on the duty node; otherwise ignored with code 0x31 (R254). -/
def cancelCall (h : HostId) (k : Nat) (s : State) : State :=
  if s.isDuty && (s.callOf k).isSome then
    let s := record 0x043 0x4321 3 [k, hostIdx h] s
    closeCall k (dropOccs k s)
  else accessFault 0x043 0x31 s

/-- A write of CALL.CMD. -/
def actCallCmd (h : HostId) (v m : Word) (s : State) : State :=
  if getBits m 31 28 = 0 then s
  else match getBits v 31 28 with
    | 1 => cancelCall h (getBits v 3 0) s
    | 2 => dmSet 0 s
    | _ => accessFault 0x043 0x31 s

def execCallCancel (host : HostId) (cls : BitVec 4) (s : State) : Host.Outcome State Fault Refusal :=
  let v := callCmdWord 1 cls.toNat
  .next (hostWord host 0x043058 v (actCallCmd host v) s)

def execDmDisarm (host : HostId) (s : State) : Host.Outcome State Fault Refusal :=
  let v := callCmdWord 2 0
  .next (hostWord host 0x043058 v (actCallCmd host v) s)

/-! Time-driven commands. -/

/-- T1 or T2 of a call expires (R252). -/
def stageExpiry (k : Nat) (s : State) : State :=
  match s.callOf k with
  | some c =>
    if s.isDuty && decide (c.stage ≤ 2) && c.deadline.any s.reached then enterStage k (c.stage + 1) 1 c.acceptBy 3 s else s
  | none => s

def execStageTimerExpiry (cls : BitVec 4) (s : State) : Host.Outcome State Fault Refusal := .next (stageExpiry cls.toNat s)

/-- ATTEND of an accepted call expires (R252). -/
def attendExpiry (k : Nat) (s : State) : State :=
  match s.callOf k with
  | some c => if s.isDuty && c.stage == 4 && c.deadline.any s.reached then enterStage k 1 1 0 3 s else s
  | none => s

def execAttendExpiry (cls : BitVec 4) (s : State) : Host.Outcome State Fault Refusal := .next (attendExpiry cls.toNat s)

/-- The refresh of every open call (R246); STAGE3 with no reachable unit raises UNIT_UNREACHABLE (R252). -/
def callRefresh (s : State) : State :=
  if !s.isDuty then s
  else s.call.calls.foldl (fun s c =>
    let s := resendCall c.cls (logUnreachable c.cls s)
    if c.stage = 3 && !(s.stageUnits 3).any s.unitReachable then raise 0x043 4 3 [0xFFFF, c.cls] s else s) s

def execCallRefresh (s : State) : Host.Outcome State Fault Refusal := .next (callRefresh s)

/-- The units enabled here, as a unit frame names them (R324). -/
def State.unitsEnabled (s : State) : Nat :=
  (List.range 63).foldl (fun m u => m + b2n (s.flag (F.callUnitEn.idx u)) * 2 ^ u) 0

/-- A unit frame (R248). -/
def sendUnits (s : State) : State :=
  if s.configured then originateNew 0x04 0 true ([3, 0, 0, 0, 0, 0, 0, 0] ++ leBytes 8 s.unitsEnabled) s else s

def execUnitFrameTimer (s : State) : Host.Outcome State Fault Refusal := .next (sendUnits s)

/-- No call frame has named a unit for 96 tide ticks (R247). -/
def unitTimeout (u : Nat) (s : State) : State :=
  refreshUnits (s.withCall { s.call with named := s.call.named.filter fun n => !(n.unit == u && decide (96 ≤ s.since n.at_)) })

def execUnitTimeout (unit : BitVec 6) (s : State) : Host.Outcome State Fault Refusal :=
  if unit = 63 then .fault (.illFormed "UNIT_TIMEOUT") else .next (unitTimeout unit.toNat s)

/-- A unit's accept input acts, not while VFIELD is low (R224, R247, R253, R256). -/
def unitAccept (u : Nat) (s : State) : State :=
  if !s.diGood || !s.flag (F.callUnitEn.idx u) then s
  else
    let addr := s.nodeId * 64 + u
    let s := if s.isDuty then acceptAt addr s
      else if s.flag F.callStatDutyValid then
        originateNew 0x04 (s.get F.callStatDutyNode) false (callBody 1 0 0 0 0 (s.get F.callStatDutyNode) 0 [addr]) s
      else s
    if s.get F.callDmCfgDmUnit = u then dmReset s else s

def execUnitAcceptInput (unit : BitVec 6) (s : State) : Host.Outcome State Fault Refusal :=
  if unit = 63 then .fault (.illFormed "UNIT_ACCEPT_INPUT") else .next (unitAccept unit.toNat s)

/-! Received call frames. -/

/-- The unit addresses a call frame carries. -/
def frameUnits (b : List Byte) : List Nat := (List.range (sat 34 (leAt b 10 1))).map fun i => leAt b (12 + 2 * i) 2

/-- The timer of a call's state starts over in full (R258, R260). -/
def restartTimer (c : Call) (s : State) : Call :=
  let att := s.get (F.callClassHiAttend.idx c.cls)
  { c with deadline := if c.stage = 4 then (if att = 0 then none else some (s.inTicks (32 * att)))
      else (s.stageTicks c.cls c.stage).map s.inTicks }

/-- The winning duty node merges another's call of a class into its own (R260); an event is raised where the state
changes. -/
def mergeCall (k stage acceptBy : Nat) (s : State) : State :=
  let s := if s.call.merged.contains k then s
    else record 0x043 0x4322 3 [k] (s.withCall { s.call with merged := s.call.merged ++ [k] })
  let own := s.callOf k
  let mine := (own.map (·.stage)).getD 0
  let st := max stage mine
  let by_ := if st = 4 then (match own with
    | some c => if c.stage = 4 then c.acceptBy else acceptBy
    | none => acceptBy) else 0
  let c : Call := { own.getD ⟨k, st, by_, none, false, [], [], s.get (F.callClassMinPrio.idx k)⟩ with stage := st, acceptBy := by_ }
  if st = mine then resendCall k (s.setCallOf (restartTimer c s))
  else if st = 4 then changeCall (if mine = 0 then 0 else 2) k 4 by_ (s.setCallOf (restartTimer c s))
  else enterStage k st (if mine = 0 then 0 else 1) 0 3 s

/-- A call state frame: on the duty node a merge, elsewhere the shadow (R246, R258, R260). -/
def callStateRx (f : XFrame) (s : State) : State :=
  let b := f.body
  let k := leAt b 1 1 % 16
  let st := leAt b 2 1
  let s := nameUnits f.origin k (if st = 4 ∨ st = 0 then [] else frameUnits b) s
  if !s.callCapable then s
  else if s.isDuty then (if st = 0 ∨ f.origin = s.nodeId ∨ 4 < st then s else mergeCall k st (leAt b 3 1 % 16) s)
  else if st = 0 ∨ 4 < st then dropOccs k (s.withCalls (s.call.calls.filter fun c => c.cls != k))
  else
    let rem := leAt b 4 2
    s.setCallOf ⟨k, st, leAt b 3 1 % 16, if st = 3 ∨ (st = 4 ∧ rem = 0) then none else some (s.inTicks (32 * rem)),
      f.partitioned, frameUnits b, [], s.minPrioOf k⟩

/-- A delivered call frame (R246, R247, R248, R253, R257). -/
def callRx (f : XFrame) (s : State) : State :=
  let b := f.body
  match leAt b 0 1 with
  | 0 => callStateRx f s
  | 1 => (frameUnits b).foldl (fun s a => acceptAt a s) s
  | 2 => trackDeadMan f.origin (leAt b 2 1) (leAt b 1 1 % 16) s
  | 3 => s.withCall { s.call with frames := s.call.frames.filter (fun x => x.1 != f.origin) ++ [(f.origin, leAt b 8 8, s.now)] }
  | _ => s

/-! Duty changes (R258) and the commit of CALL (R255, R261). -/

/-- The occurrences that an adopted call is held by: those tracked for its class, where none is held (R246, R258). -/
def adoptOccs (s : State) : State :=
  s.withCall { s.call with occs := s.call.occs.map fun o =>
    if (s.callOf o.cls).isSome && (s.heldOccs o.cls).isEmpty then { o with held := true } else o }

/-- Occurrences held for a class that the shadow has no call of open it: those of point states rebuilt while no duty node
was known (R258). -/
def reopenCalls (s : State) : State :=
  (dedupe ((s.call.occs.filter (·.held)).map (·.cls))).foldl (fun s k =>
    if (s.callOf k).isSome then s
    else
      let dm := (s.heldOccs k).all fun o => o.point == dmPoint
      if dm || s.flag (F.callClassEn.idx k) then enterStage k (if dm then 2 else s.startStage k) 0 0 3 s else s) s

/-- This node becomes duty node: it adopts its shadow and resumes driving units (R258); first word 0 of the event (R417). -/
def becomeDuty (s : State) : State :=
  let s := raise 0x043 5 4 [0] (s.put F.callStatIsDuty 1)
  let s := s.withCalls (s.call.calls.map fun c => restartTimer c s)
  reopenCalls (callRefresh (adoptOccs s))

/-- It ceases to be duty node: no call frame from now on (R258); first word 1 (R417). -/
def ceaseDuty (s : State) : State := raise 0x043 5 4 [1] (s.put F.callStatIsDuty 0)

/-- A unit address that names unit 63 (R247, R261). -/
def badUnit (a : Nat) : Bool := a != 0xFFFF && a % 64 == 63

/-- The checks of R261 on the values as the commit would leave them. -/
def callRefused (s : State) : Bool :=
  let g (f : Fld) : Nat := s.getAfter f
  let en := g F.callDmCfgEn == 1
  let us := (List.range 63).filter fun u => g (F.callUnitEn.idx u) == 1
  let dos := us.map fun u => g (F.callUnitDo.idx u)
  ((List.range 15).any fun i => g (F.callClassEn.idx (i + 1)) == 1 && g (F.callClassStart.idx (i + 1)) == 0)
    || (en && g F.callDmCfgDmClass == 0)
    || (en && decide (g F.callDmTimeLimit ≤ g F.callDmTimePrewarn))
    || badUnit (g F.callBridgeUnitA) || badUnit (g F.callBridgeUnitB)
    || ((List.range 16).any fun n => badUnit (g (F.callRosterUnitA.idx n)) || badUnit (g (F.callRosterUnitB.idx n)))
    || (dedupe dos).length != dos.length

/-- What a change of settings does to running calls and the watch (R255, R256): a new duty engineer is called at
once, a watch without EN disarms, changed unit enables are announced. -/
def callTaken (duty units : Nat) (s : State) : State :=
  let s := if duty = s.get F.callDutyEngineer then s
    else s.call.calls.foldl (fun s c =>
      if s.isDuty && c.stage == 1 then resendCall c.cls s
      else s) s
  let s := if !s.flag F.callDmCfgEn && s.get F.callDmStatState != 0 then dmSet 0 s else s
  let s := refreshUnits s
  if units = s.unitsEnabled then s else sendUnits s

/-- The quiet point of CALL: the end of the engine pass (R255). -/
def callCommit (s : State) : State :=
  if !s.flag (F.hdrPageCommitCommit.page 0x043) then s
  else if callRefused s then commitRefused 0x043 0x30 s
  else
    let duty := s.get F.callDutyEngineer
    let units := s.unitsEnabled
    callTaken duty units (commitTaken 0x043 s)

/-- What a tide tick does to the call units: the pre-warning flashes (R247). -/
def callTick (s : State) : State := if s.get F.callDmStatState = 2 then refreshUnits s else s

end Sys2Proof.Machine
end

