-- ==== Sys2Proof/Machine/FieldBus.lean ====
section
/-!
DEFINITION. Field-bus segments and the sailing matrix (chapter 11) and the extraction of signals (R185, R186).
-/

namespace Sys2Proof.Machine

/-! Segments and the window (R294, R295). -/

def Seg.init : Seg := ⟨none, [], [], [], none, 0, false, false, false, 0, 0, none, false, []⟩
def State.seg (s : State) (n : Nat) : Seg := Sparse.get (fun _ => Seg.init) s.segs n
def State.setSeg (s : State) (n : Nat) (x : Seg) : State := s.withSegs (Sparse.set (fun _ => Seg.init) s.segs n x)

def fbPage (n : Nat) : Nat := 0x050 + n
def segBase (n : Nat) : Nat := 0xF00000 + 0x2000 * n
def mbxAddr (n m : Nat) : Nat := segBase n + 0x900 + 0x58 * m

/-- Descriptor word `k` of a mailbox as it is in effect. -/
def State.desc (s : State) (n m k : Nat) : Word := s.winWord (mbxAddr n m + 4 * k)

/-- Descriptor word `k` as a SAIL commit would leave it. -/
def State.descAfter (s : State) (n m k : Nat) : Word := s.afterCommit (mbxAddr n m + 4 * k)

def State.mbxEn (s : State) (n m : Nat) : Bool := getBit (s.desc n m 0) 31
def State.mbxTx (s : State) (n m : Nat) : Bool := getBit (s.desc n m 0) 30

/-- An enabled transmit mailbox in event mode. -/
def State.eventMbx (s : State) (n m : Nat) : Bool := s.mbxEn n m && s.mbxTx n m && !getBit (s.desc n m 2) 5

/-- An enabled transmit mailbox in matrix mode. -/
def State.matrixMbx (s : State) (n m : Nat) : Bool := s.mbxEn n m && s.mbxTx n m && getBit (s.desc n m 2) 5

def State.mbxHold (s : State) (n m : Nat) : Bool := getBit (s.desc n m 2) 6

/-- Set or clear bits of descriptor word 3. -/
def putDesc3 (n m hi lo v : Nat) (s : State) : State :=
  let a := mbxAddr n m + 12
  s.setWinWord a (setBits (s.winWord a) hi lo v)

/-- Buffer words of a mailbox (R295). -/
def bufAddr (n m : Nat) : Nat := mbxAddr n m + 0x10

/-- Payload bytes of a DLC in a classical or FD frame. -/
def dlcLen (fdf : Bool) (dlc : Nat) : Nat :=
  if dlc ≤ 8 then dlc
  else if !fdf then 8
  else match dlc with
    | 9 => 12 | 10 => 16 | 11 => 20 | 12 => 24 | 13 => 32 | 14 => 48 | _ => 64

/-- The snapshot of a transmit mailbox (R295, R299). -/
def State.snapshot (s : State) (n m : Nat) : CanFrame :=
  let d0 := s.desc n m 0
  let d2 := s.desc n m 2
  let rtr := getBit d2 1
  let fdf := getBit d2 2
  let dlc := getBits (s.winWord (bufAddr n m + 4)) 3 0
  { ide := getBit d0 29, id := BitVec.ofNat 29 (getBits d0 28 0), fdf := fdf, brs := fdf && getBit d2 3, rtr := rtr, esi := false,
    data := s.winBytes (bufAddr n m + 8) (if rtr then 0 else dlcLen fdf dlc), dlc := BitVec.ofNat 4 dlc }

/-- What decides arbitration between two frames: the lower key wins (R300). -/
def arbKey (f : CanFrame) : Nat :=
  let id := f.id.toNat
  if f.ide then id / 2 ^ 18 * 2 ^ 21 + 2 ^ 20 + 2 ^ 19 + id % 2 ^ 18 * 2 + b2n f.rtr
  else id % 2 ^ 11 * 2 ^ 21 + b2n f.rtr * 2 ^ 20

/-! Bit timing and worst-case times (R291, R304), in periods of 80 MHz. -/

/-- Periods of a nominal bit and of a data bit. -/
def nomBit (nbt : Word) : Nat := (getBits nbt 31 24 + 1) * (1 + (getBits nbt 23 16 + 1) + (getBits nbt 14 8 + 1))
def datBit (dbt : Word) : Nat := (getBits dbt 28 24 + 1) * (1 + (getBits dbt 20 16 + 1) + (getBits dbt 11 8 + 1))

/-- WC_US of a frame with `len` payload bytes (R304). -/
def wcUs (ide fdf brs rtr : Bool) (len nom dat : Nat) : Nat :=
  let ticks :=
    if fdf then
      let a := if ide then 36 else 17
      let f := if len ≤ 16 then 28 else 33
      (a + (a - 1) / 4 + 13) * nom + (5 + 8 * len + (4 + 8 * len) / 4 + f) * (if brs then dat else nom)
    else
      let g := if ide then 54 else 34
      let n := if rtr then 0 else len
      (g + 8 * n + 13 + (g + 8 * n - 1) / 4) * nom
  (ticks + 79) / 80

/-- WC_US of a transmit mailbox, as descriptor word 3 shows it. -/
def State.mbxWc (s : State) (n m : Nat) : Nat :=
  let f := s.snapshot n m
  wcUs f.ide f.fdf f.brs f.rtr f.data.length (nomBit (s.reg (0x050044 + 0x1000 * n))) (datBit (s.reg (0x050048 + 0x1000 * n)))

def State.frameWc (s : State) (n : Nat) (f : CanFrame) : Nat :=
  wcUs f.ide f.fdf f.brs f.rtr f.data.length (nomBit (s.reg (0x050044 + 0x1000 * n))) (datBit (s.reg (0x050048 + 0x1000 * n)))

/-- A bit timing that R292 refuses. -/
def timingRefused (nbt dbt : Word) (tdc : Bool) : Bool :=
  let nom := nomBit nbt
  let dat := datBit dbt
  let fd := getBit dbt 31
  decide (80000000 < 10000 * nom) || decide (1000000 * nom < 80000000) || decide (getBits nbt 23 16 + 1 < 2)
    || decide (getBits nbt 14 8 < getBits nbt 6 0)
    || (fd && (decide (nom < dat) || decide (8000000 * dat < 80000000) || decide (getBits dbt 11 8 < getBits dbt 3 0)
      || decide (3 + getBits dbt 20 16 + getBits dbt 11 8 < 5)))
    || (fd && decide (1000000 * dat < 80000000) && !tdc)

/-! The state of a segment. -/

/-- The segment is enabled and its clock runs (R66, R68, R313). -/
def State.fbLive (s : State) (n : Nat) : Bool :=
  s.configured && s.pageEn (fbPage n) && !s.standby && !s.flag F.clkStatHfxoFail && s.flag F.clkStatPllBusLock
    && !s.flag (F.hdrPageCtlBlkRst.page (fbPage n))

def State.opmode (s : State) (n : Nat) : Nat := s.get (F.fbCtlOpmode.page n)
def State.estate (s : State) (n : Nat) : Nat := s.get (F.fbStatEstate.page n)
def State.asleep (s : State) (n : Nat) : Bool := s.flag (F.fbStatAsleep.page n)

/-- The segment takes part on the bus. -/
def State.fbOn (s : State) (n : Nat) : Bool :=
  s.fbLive n && !s.asleep n && !s.flag (F.fbStatIntegrating.page n) && decide (s.estate n < 2) && !s.flag (F.fbStatDetecting.page n)

/-- MX_CFG (R302). -/
def State.mxCfg (s : State) (n : Nat) : Word := s.winWord (segBase n)
def State.mxRun (s : State) (n : Nat) : Bool := s.flag (F.sailNowRun.idx n)

/-- TYPE and MBX of the current entry. -/
def State.mxEntry (s : State) (n : Nat) : Nat × Nat :=
  let e := (s.winByte (segBase n + 0x100 + 32 * s.get (F.sailNowCycle.idx n) + s.get (F.sailNowSlot.idx n))).toNat
  (e / 64, e % 64)

/-- Used KIND 3 points of a segment (R185). -/
def State.fbPoints (s : State) (n : Nat) (p : PCfg → Bool) : List Nat :=
  (s.eng.pts.filter fun x => let c := s.pcfg x.1
    c.kind == 3 && c.fbSeg == n && p c).map (·.1)

/-- A segment disabled, in bus-off or asleep: its points report STALE once (R186). -/
def staleBus (n : Nat) (s : State) : State :=
  (s.fbPoints n fun _ => true).foldl (fun s i => s.trigger (.deliver i 0 .stale 0 0)) s

/-- The matrix stops; MISS_RUN is held (R303). -/
def stopMatrix (n : Nat) (s : State) : State := s.put (F.sailNowRun.idx n) 0

/-! Transmission (R299 to R305, R310). -/

/-- A frame fits what is left of the slot; with the matrix off every frame does (R304). -/
def State.fits (s : State) (n wc : Nat) : Bool :=
  if !s.mxRun n then true
  else
    let extra := if s.estate n = 1 then (8 * nomBit (s.reg (0x050044 + 0x1000 * n)) + 79) / 80 else 0
    decide (wc + extra ≤ (s.seg n).left)

/-- Pending requests as one number. -/
def State.requests (s : State) (n : Nat) : Nat := s.get (F.fbTxreqLoReq.page n) + s.get (F.fbTxreqHiReq.page n) * 2 ^ 32

def putRequests (n v : Nat) (s : State) : State := (s.put (F.fbTxreqLoReq.page n) v).put (F.fbTxreqHiReq.page n) (v / 2 ^ 32)

def clearRequest (n m : Nat) (s : State) : State :=
  let r := s.requests n
  if r.testBit m then putRequests n (r - 2 ^ m) s else s

def setDrop (n m : Nat) (s : State) : State :=
  if m < 32 then s.put (F.fbDropLoDrop.page n) (s.get (F.fbDropLoDrop.page n) ||| 2 ^ m)
  else s.put (F.fbDropHiDrop.page n) (s.get (F.fbDropHiDrop.page n) ||| 2 ^ (m - 32))

def clearDrop (n m : Nat) (s : State) : State :=
  if m < 32 then s.put (F.fbDropLoDrop.page n) (s.get (F.fbDropLoDrop.page n) &&& (2 ^ 32 - 1 - 2 ^ m))
  else s.put (F.fbDropHiDrop.page n) (s.get (F.fbDropHiDrop.page n) &&& (2 ^ 32 - 1 - 2 ^ (m - 32)))

/-- The try of a mailbox for its next attempt: the one that waits, or a new snapshot (R299). -/
def State.nextTry (s : State) (n m : Nat) : TxTry :=
  match (s.seg n).tries.find? fun t => t.mbx == m && !t.kept with
  | some t => t
  | none => ⟨m, s.snapshot n m, 0, false, false, false, none, false⟩

/-- A frame of the mailbox has been started and waits for its next attempt: HOLD does not stop it (R299). -/
def State.goesOn (s : State) (n m : Nat) : Bool := (s.seg n).tries.any fun t => t.mbx == m && !t.kept && decide (0 < t.made)

/-- An enabled transmit mailbox sends FD frames (R292). -/
def State.sendsFd (s : State) (n : Nat) : Bool :=
  (List.range 64).any fun m => s.mbxEn n m && s.mbxTx n m && getBit (s.desc n m 2) 2

/-- The best of some tries: the one that would win arbitration, the lowest mailbox between equal frames (R300). -/
def bestTry : List TxTry → Option TxTry
  | [] => none
  | t :: ts => match bestTry ts with
    | none => some t
    | some u => if arbKey u.snap < arbKey t.snap ∨ (arbKey u.snap = arbKey t.snap ∧ u.mbx < t.mbx) then some u else some t

/-- The kept frame's next attempt (R310). -/
def State.keptTry (s : State) (n : Nat) : Option TxTry :=
  if s.flag (F.fbKeptValid.page n) && !s.flag (F.fbKeptAtPartner.page n) then
    match (s.seg n).tries.find? (·.kept), (s.seg n).kept with
    | some t, _ => some t
    | none, some f => some ⟨s.get (F.fbKeptMbx.page n), f, 0, false, false, true, none, false⟩
    | none, none => none
  else none

/-- The kept frame stands for its mailbox's request (R308). -/
def State.keptOf (s : State) (n m : Nat) : Bool := s.flag (F.fbKeptValid.page n) && s.get (F.fbKeptMbx.page n) == m

/-- The event-mode frame that may start: one with HOLD = 1 only where it has been started before (R299, R300). -/
def State.eventTry (s : State) (n : Nat) : Option TxTry :=
  bestTry (((bitsSet 64 (s.requests n)).filter fun m =>
    s.eventMbx n m && (!s.mbxHold n m || s.goesOn n m) && !s.keptOf n m).map (s.nextTry n))

/-- The frame that is next on the segment, whether or not it fits its slot (R300, R302, R305, R310). -/
def State.dueTry (s : State) (n : Nat) : Option TxTry :=
  let kept := s.keptTry n
  if !s.mxRun n then (match kept with
    | some t => some t
    | none => if getBit (s.mxCfg n) 31 then none else s.eventTry n)
  else match s.mxEntry n with
    | (2, _) => (match kept with
      | some t => some t
      | none => s.eventTry n)
    | (1, m) =>
      let waits := (s.seg n).tries.any fun t => t.mbx == m && !t.kept
      let own := if s.matrixMbx n m && (!s.mbxHold n m || s.goesOn n m) && (!(s.seg n).sent || waits) then some (s.nextTry n m) else none
      (match kept with
      | some t => if t.mbx = m then some t else own
      | none => own)
    | _ => none

/-- The frame the segment starts now: the one that is next, where it fits (R304). -/
def State.pickTry (s : State) (n : Nat) : Option TxTry :=
  match s.dueTry n with
  | some t => if s.fits n (s.frameWc n t.snap) then some t else none
  | none => none

/-- The segment is free to start a frame; in listen-only mode it starts none (R311, R314). -/
def State.maySend (s : State) (n : Nat) : Bool :=
  s.fbOn n && (s.seg n).tx.isNone && s.opmode n != 1 && !s.flag (F.fbCtlSleep.page n)

/-- A frame that is due in an exclusive slot and cannot start in it: TX_MISSED, once for the slot (R304). -/
def txMissed (n : Nat) (s : State) : State :=
  match s.mxRun n && (s.mxEntry n).1 == 1 && !(s.seg n).missed, s.dueTry n with
  | true, some t => raise (fbPage n) 4 3 [t.mbx] (s.setSeg n { s.seg n with missed := true })
  | _, _ => s

/-- Start the next frame where the segment may send: an FD frame says by ESI that the segment is error-passive (R290);
loop-back drives nothing (R311). -/
def fbStart (n : Nat) (s : State) : State :=
  if !s.maySend n then s
  else match s.pickTry n with
    | none => txMissed n s
    | some t =>
      let t := { t with snap := { t.snap with esi := t.snap.fdf && decide (s.estate n = 1) } }
      let x := s.seg n
      let x := { x with tx := some t, tries := x.tries.filter (fun u => !(u.mbx == t.mbx && u.kept == t.kept)),
                        sent := x.sent || (s.mxRun n && (s.mxEntry n).1 == 1) }
      if s.opmode n = 2 then s.setSeg n x else (s.setSeg n x).withOut (s.out ++ [.can n t.snap])

/-- LEN of the current slot in µs (R302). -/
def State.slotLen (s : State) (n : Nat) : Nat :=
  getBits (s.winWord (segBase n + 0x080 + 4 * s.get (F.sailNowSlot.idx n))) 15 0

/-- The time left in the slot at a start decision after its beginning: LEN less the µs that have run (R304). DESIGN
CHOICE (log entry 46): where the command does not say how many have run, a free value of at most what was left before. -/
def passTime (n : Nat) (ran : Option Nat) (s : State) : State :=
  if !s.mxRun n then s
  else match ran with
    | some u =>
      let x := s.seg n
      s.setSeg n { x with left := min x.left (s.slotLen n - u) }
    | none =>
      let (d, s) := s.draw 16
      let x := s.seg n
      s.setSeg n { x with left := d % (x.left + 1) }

/-- A start decision after the beginning of the slot (R304, R305). -/
def fbLater (n : Nat) (ran : Option Nat) (s : State) : State := fbStart n (passTime n ran s)

/-! Error confinement (R307 to R309). -/

/-- TEC and REC with what follows for ESTATE (R307). -/
def putCounters (n tec rec : Nat) (s : State) : State :=
  let rec' := sat 255 rec
  let s := ((s.put (F.fbErrTec.page n) (sat 511 tec)).put (F.fbErrRec.page n) rec').putFlag (F.fbErrRp.page n) (decide (128 ≤ rec'))
  if 2 ≤ s.estate n then s
  else
    let passive := decide (128 ≤ tec) || decide (128 ≤ rec')
    if passive && s.estate n == 0 then raise (fbPage n) 6 3 [] (s.put (F.fbStatEstate.page n) 1)
    else if passive then s else s.put (F.fbStatEstate.page n) 0

/-- The partner of a segment accepts a failover frame (R309). -/
def State.partnerOk (s : State) (n p : Nat) : Bool :=
  p != n && s.fbLive p && decide (s.estate p < 2) && !s.asleep p && s.opmode p != 1 && s.flag (F.fbCtlFoEn.page p)

/-- A failover frame comes back to its own segment, which sends it if it has recovered (R309, R310). -/
def returnKept (n : Nat) (s : State) : State := fbLater n none (s.put (F.fbKeptAtPartner.page n) 0)

/-- A failover frame waits at the mailbox whose own frame is still in transmission: that frame is displaced at the
end of its attempt (R309, log entry 46). -/
def State.displaced (s : State) (n m : Nat) : Bool :=
  (s.seg n).tries.any fun t => t.mbx == m && !t.kept && t.fromSeg.isSome

/-- The words of a frame that the node itself puts into a transmit buffer (R295, R309). -/
def copyWords (f : CanFrame) : List Word :=
  let len := sat 64 f.data.length
  let w0 := b2n f.rtr * 2 ^ 30 + b2n f.ide * 2 ^ 29 + f.id.toNat
  let w1 := f.dlc.toNat + b2n f.fdf * 16 + b2n f.brs * 32 + b2n f.esi * 64 + len * 2 ^ 8
  [BitVec.ofNat 32 w0, BitVec.ofNat 32 w1] ++ bytesWords 16 f.data

def putBuffer (n m : Nat) (ws : List Word) (s : State) : State := s.setWinBytes (bufAddr n m) (wordsBytes ws)

/-- The kept frame goes to the partner's failover mailbox, unless it is at a partner already; the partner's own pending frame there is dropped, another
segment's that waits there goes back, and one in transmission ends its attempt first (R309). -/
def failover (n : Nat) (s : State) : State :=
  let p := s.get (F.fbCtlPartner.page n)
  match (s.seg n).kept with
  | some f =>
    if s.flag (F.fbCtlPartnerEn.page n) && s.partnerOk n p && !s.flag (F.fbKeptAtPartner.page n) then
      let m := s.get (F.fbCtlFoMbx.page p)
      let x := s.seg p
      let here := fun (t : TxTry) => t.mbx == m && !t.kept
      let foreign := (x.tries.filter here).filterMap (·.fromSeg)
      let own := foreign.isEmpty && (s.requests p).testBit m && !x.tx.any here
      let s := if own then raise (fbPage p) 10 3 [m] (setDrop p m s) else s
      let t : TxTry := ⟨m, f, 0, false, false, false, some n, false⟩
      let s := s.setSeg p { x with tries := x.tries.filter (fun u => !here u) ++ [t] }
      let s := putBuffer p m (copyWords f) (putRequests p (s.requests p ||| 2 ^ m) s)
      let s := (foreign.foldl (fun s k => returnKept k s) s).put (F.fbKeptAtPartner.page n) 1
      fbLater p none s
    else s
  | none => s

/-- Entry to bus-off: one frame is kept and every other pending request dropped; the kept mailbox's own bit stays
until the kept frame is done, and another segment's frame goes back (R307, R308, R309). -/
def busOff (n : Nat) (s : State) : State :=
  let x := s.seg n
  let s := (s.put (F.fbStatEstate.page n) 2).bumpSat (F.fbCntBoffCnt.page n) 1
  let s := stopMatrix n s
  let all := x.tx.toList ++ x.tries
  let foreign := all.filterMap (·.fromSeg)
  let own := x.tx.toList.filter fun t => t.fromSeg.isNone && !t.cancel
  let gone := fun m => all.any fun t => t.mbx == m && (t.fromSeg.isSome || (t.cancel && !t.kept))
  let reqs := (bitsSet 64 (s.requests n)).filter fun m => !gone m
  let cands := own ++ ((reqs.filter fun m => s.eventMbx n m && !own.any fun t => t.mbx == m).map (s.nextTry n))
  let already := s.flag (F.fbKeptValid.page n)
  let best := if already then none else bestTry cands
  let keeps := fun m => s.keptOf n m || best.any fun t => t.mbx == m
  let dropped := reqs.filter fun m => !keeps m
  let s := dropped.foldl (fun s m => setDrop n m s) s
  let s := (bitsSet 64 (s.requests n)).foldl (fun s m => if keeps m && !gone m then s else clearRequest n m s) s
  let s := match best with
    | some t => (((s.put (F.fbKeptValid.page n) 1).put (F.fbKeptAtPartner.page n) 0).put (F.fbKeptMbx.page n) t.mbx).setSeg n
        { x with tx := none, tries := [], kept := some t.snap, boffAt := s.now }
    | none => s.setSeg n { x with tx := none, tries := [], boffAt := s.now }
  let s := foreign.foldl (fun s m => returnKept m s) s
  let s := raise (fbPage n) 7 3 [] s
  let s := if dropped.isEmpty then s else raise (fbPage n) 10 3 [] s
  failover n (staleBus n s)

/-! Reception (R185, R186, R296, R297). -/

/-- Bit `b` of a payload (R185). -/
def payloadBit (p : List Byte) (b : Nat) : Nat := b2n ((nth p (b / 8) 0).toNat.testBit (b % 8))

/-- The bits a big-endian signal reads, most significant first. -/
def bigBits (b : Nat) : Nat → List Nat
  | 0 => []
  | n + 1 => b :: bigBits (if b % 8 = 0 then b + 15 else b - 1) n

/-- The bits a signal reads, most significant first (R185). -/
def signalBits (c : PCfg) : List Nat :=
  if c.fbOrder = 0 then ((List.range c.fbLen).map (c.fbStart + ·)).reverse else bigBits c.fbStart c.fbLen

/-- What a point takes from a frame: nothing, or value, status and reason (R185, R186). -/
def extractSignal (c : PCfg) (p : List Byte) : Option (Word × SrcStatus × Nat) :=
  let mux := c.fbMuxEn && (decide (p.length ≤ c.fbMuxByte) || (nth p c.fbMuxByte 0).toNat != c.fbMuxVal)
  if mux then none
  else
    let bits := signalBits c
    if bits.any fun b => decide (8 * p.length ≤ b) then some (0, .fault, 5)
    else
      let raw := bits.foldl (fun r b => r * 2 + payloadBit p b) 0
      if c.fbAll1Na && raw == 2 ^ c.fbLen - 1 then some (0, .stale, 0)
      else match c.fbType with
        | 0 => some (F32.ofInt raw, .valid, 0)
        | 1 => some (F32.ofInt (signedOf c.fbLen raw), .valid, 0)
        | _ =>
          let w : Word := BitVec.ofNat 32 raw
          if F32.isFinite w then some (w, .valid, 0) else some (0, .fault, 5)

/-- The signals of a mailbox are extracted at acceptance (R185, R296). -/
def extractAll (n m : Nat) (p : List Byte) (s : State) : State :=
  (s.fbPoints n fun c => c.fbMbx == m).foldl (fun s i => match extractSignal (s.pcfg i) p with
    | some (u, st, r) => s.trigger (.deliver i u st 0 r)
    | none => s) s

/-- The first receive mailbox that takes a frame (R296). -/
def State.matchMbx (s : State) (n : Nat) (f : CanFrame) : Option Nat :=
  (List.range 64).find? fun m =>
    let d0 := s.desc n m 0
    let d2 := s.desc n m 2
    let mask := getBits (s.desc n m 1) 28 0 % (if f.ide then 2 ^ 29 else 2 ^ 11)
    getBit d0 31 && !getBit d0 30 && getBit d0 29 == f.ide && ((f.id.toNat ^^^ getBits d0 28 0) &&& mask) == 0
      && (if f.rtr then getBit d2 1 else if f.fdf then getBit d2 2 else getBit d2 3)

/-- The 18 words a frame leaves in a receive buffer (R295). -/
def frameWords (f : CanFrame) (seq : Nat) : List Word :=
  let len := sat 64 f.data.length
  let w0 := 2 ^ 31 + b2n f.rtr * 2 ^ 30 + b2n f.ide * 2 ^ 29 + f.id.toNat
  let w1 := f.dlc.toNat + b2n f.fdf * 16 + b2n f.brs * 32 + b2n f.esi * 64 + len * 2 ^ 8 + seq % 2 ^ 16 * 2 ^ 16
  [BitVec.ofNat 32 w0, BitVec.ofNat 32 w1] ++ bytesWords 16 f.data

def putRxNew (n m : Nat) (b : Bool) (s : State) : State :=
  let f := if m < 32 then F.fbRxNewLoNew.page n else F.fbRxNewHiNew.page n
  let k := 2 ^ (m % 32)
  s.put f (if b then s.get f ||| k else s.get f &&& (2 ^ 32 - 1 - k))

/-- A mailbox takes a frame into its buffers (R297). -/
def takeFrame (n m : Nat) (f : CanFrame) (s : State) : State :=
  let x := s.seg n
  let s := s.setSeg n { x with seen := if x.seen.contains m then x.seen else x.seen ++ [m] }
  let s := if getBits (s.desc n m 2) 19 16 = 0 then s else putDesc3 n m 23 16 0 s
  let front := s.winWord (bufAddr n m)
  let full := getBit front 31
  let sh := (s.seg n).shadows.find? fun y => y.1 == m
  let last := match sh with
    | some y => nth y.2 1 0
    | none => s.winWord (bufAddr n m + 4)
  let ws := frameWords f (getBits last 31 16 + 1)
  if !getBit (s.desc n m 2) 0 || !full then putRxNew n m true (putBuffer n m ws s)
  else
    let x := s.seg n
    let s := s.setSeg n { x with shadows := x.shadows.filter (fun y => y.1 != m) ++ [(m, ws)] }
    if sh.isSome then
      let ovr := getBits (s.desc n m 3) 15 0
      raise (fbPage n) 0 3 [m] (putDesc3 n m 15 0 (sat 0xFFFF (ovr + 1)) s)
    else s

/-- A frame accepted by the segment is offered to its mailboxes (R296). -/
def acceptFrame (n : Nat) (f : CanFrame) (s : State) : State :=
  match s.matchMbx n f with
  | none => s.bumpSat (F.fbCnt2Unmatched.page n) 1
  | some m => takeFrame n m f (extractAll n m f.data s)

/-- REC after a frame received without error: one less, or between 119 and 127 from error-passive (R307). -/
def recAfterFrame (n : Nat) (s : State) : State :=
  let r := s.get (F.fbErrRec.page n)
  let tec := s.get (F.fbErrTec.page n)
  if r = 0 then s
  else if r < 128 then putCounters n tec (r - 1) s
  else
    let (d, s) := s.draw 4
    putCounters n tec (119 + d % 9) s

/-! The sailing matrix begins and steps (R302 to R304). -/

/-- A slot begins: its time, and the frame it starts; a frame longer than its exclusive slot is missed (R304). -/
def slotBegin (n : Nat) (s : State) : State :=
  fbStart n (s.setSeg n { s.seg n with left := s.slotLen n, sent := false, missed := false })

/-- A slot ends: an exclusive slot in which another frame was still in transmission missed its own (R304). -/
def slotOver (n : Nat) (s : State) : State :=
  let busy := (s.seg n).tx.isSome && s.fbOn n && s.opmode n != 1 && !s.flag (F.fbCtlSleep.page n)
  if busy then txMissed n s else s

/-- The matrix starts at cycle 0, slot 0 (R303). -/
def startMatrix (n : Nat) (s : State) : State :=
  let x := s.seg n
  let s := s.setSeg n { x with restart := false, seen := [] }
  if getBit (s.mxCfg n) 31 then
    let s := ((s.put (F.sailNowRun.idx n) 1).put (F.sailNowCycle.idx n) 0).put (F.sailNowSlot.idx n) 0
    slotBegin n (raise 0x058 n 3 [] s)
  else fbStart n (stopMatrix n s)

/-- The segment takes part again: a matrix that waits for it starts (R303). -/
def takesPart (n : Nat) (ran : Option Nat) (s : State) : State :=
  if 2 ≤ s.estate n then s else if (s.seg n).restart then startMatrix n s else fbLater n ran s

/-! Joining and leaving the bus (R313, R314). -/

/-- Sleep that waited for the frame in transmission (R314). -/
def goAsleep (n : Nat) (s : State) : State :=
  staleBus n (stopMatrix n ((s.put (F.fbStatAsleep.page n) 1).put (F.fbStatIntegrating.page n) 0))

/-- The transceiver is active and the controller integrates, unless sleep is requested (R313, R314). -/
def fbJoin (n : Nat) (s : State) : State :=
  let s := s.setSeg n { s.seg n with restart := true }
  if s.flag (F.fbCtlSleep.page n) then goAsleep n s else s.put (F.fbStatIntegrating.page n) 1

/-- A segment wakes (R313, R314). -/
def wakeSeg (n : Nat) (s : State) : State :=
  fbJoin n ((s.put (F.fbCtlSleep.page n) 0).put (F.fbStatAsleep.page n) 0)

/-- The segment follows CTL.SLEEP once it has changed from `was` (R314). -/
def sleepFollow (n : Nat) (was : Bool) (s : State) : State :=
  let now := s.flag (F.fbCtlSleep.page n)
  if !was && now then (if (s.seg n).tx.isNone && s.fbLive n then goAsleep n s else s)
  else if was && !now then (if s.asleep n then wakeSeg n s else s)
  else s

/-! The commit of SAIL (R317). -/

/-- A reserved descriptor bit that is not 0, or ID [28:11] with IDE = 0 (R295, R317). -/
def descBad (d0 d1 d2 : Word) : Bool :=
  let tx := getBit d0 30
  (!getBit d0 29 && getBits d0 28 11 != 0)
    || (if tx then d1 != 0 || outside d2.toNat 0x1F6E || getBit d2 0 || getBits d2 19 16 != 0
        else getBits d1 31 29 != 0 || outside d2.toNat 0xF000F)

/-- The first check of R317 that a segment fails on the values as the commit would leave them: REASON and ITEM. -/
def sailSegBad (n : Nat) (s : State) : Option (Nat × Nat) :=
  let cfg := s.afterCommit (segBase n)
  let slots := getBits cfg 4 0 + 1
  let cycles := getBits cfg 21 16 + 1
  let en := getBit cfg 31
  let entry (i : Nat) : Nat :=
    let a := segBase n + 0x100 + i
    getBits (s.afterCommit (a / 4 * 4)) (8 * (a % 4) + 7) (8 * (a % 4))
  let offs := (List.range cycles).flatMap fun c => (List.range slots).map fun k => 32 * c + k
  let txOk (m : Nat) (mode : Bool) : Bool :=
    let d0 := s.descAfter n m 0
    getBit d0 31 && getBit d0 30 && getBit (s.descAfter n m 2) 5 == mode
  let r1 := if en then (List.range slots).find? fun k => decide (getBits (s.afterCommit (segBase n + 0x080 + 4 * k)) 15 0 < 10) else none
  let r2 := offs.find? fun i => entry i / 64 == 1 && !txOk (entry i % 64) true
  let r3 := offs.find? fun i => entry i / 64 == 3 && (let m := entry i % 64
    !(getBit (s.descAfter n m 0) 31 && !getBit (s.descAfter n m 0) 30 && getBits (s.descAfter n m 2) 19 16 != 0))
  let r4 := (List.range 64).find? fun m =>
    let d2 := s.descAfter n m 2
    getBit (s.descAfter n m 0) 30 && getBit d2 2 && (!s.flag (F.fbDbtFdEn.page n) || getBit d2 1)
  let fo := s.get (F.fbCtlFoMbx.page n)
  let r6 := (List.range 64).find? fun m => descBad (s.descAfter n m 0) (s.descAfter n m 1) (s.descAfter n m 2)
  match r1, r2, r3, r4 with
  | some k, _, _, _ => some (1, k)
  | none, some i, _, _ => some (2, i)
  | none, none, some i, _ => some (3, i)
  | none, none, none, some m => some (4, m)
  | none, none, none, none =>
    if s.flag (F.fbCtlFoEn.page n) && !txOk fo false then some (5, fo)
    else r6.map fun m => (6, m)

/-- The first segment that fails, with REASON and ITEM. -/
def sailBad (s : State) : Option (Nat × Nat × Nat) :=
  (List.range 8).findSome? fun n => (sailSegBad n s).map fun r => (n, r)

/-- A segment takes the staged window words (R303, R317): a change of MX_CFG starts the matrix anew. -/
def sailTake (n : Nat) (s : State) : State :=
  let old := s.mxCfg n
  let s := s.takeStaged fun a => decide (segBase n ≤ a) && decide (a < segBase n + 0x2000)
  let s := s.setSeg n { s.seg n with taken := true }
  if s.mxCfg n = old then s
  else if s.fbOn n then startMatrix n s
  else stopMatrix n (s.setSeg n { s.seg n with restart := true })

/-- The pending SAIL commit reaches some segments; it is checked at the first quiet point of any (R317). -/
def sailCommitAt (ns : List Nat) (s : State) : State :=
  if !s.flag (F.hdrPageCommitCommit.page 0x058) || ns.isEmpty then s
  else
    let fresh := (List.range 8).all fun n => !(s.seg n).taken
    match (if fresh then sailBad s else none) with
    | some (n, r, i) =>
      let s := ((s.put F.sailRefuseReason r).put F.sailRefuseSeg n).put F.sailRefuseItem i
      commitRefused 0x058 0x30 (raise 0x058 8 2 [r, n, i] s)
    | none =>
      let s := ns.foldl (fun s n => if (s.seg n).taken then s else sailTake n s) s
      if (List.range 8).all fun n => (s.seg n).taken then
        let s := (List.range 8).foldl (fun s n => s.setSeg n { s.seg n with taken := false }) s
        commitTaken 0x058 s
      else s

/-- The segments that are at their quiet point now (R317). -/
def State.sailQuiet (s : State) : List Nat := (List.range 8).filter fun n => !s.mxRun n && (s.seg n).tx.isNone

/-! The commit of an FB page (R292, R293). -/

/-- Detection ends, and CMD.DETECT reads 0 (R10, R312). -/
def detectOver (n : Nat) (s : State) : State :=
  ((s.setSeg n { s.seg n with det := none }).put (F.fbStatDetecting.page n) 0).put (F.fbCmdDetect.page n) 0

/-- Detection ends without a candidate: the segment integrates again at its own timing (R312). -/
def detectFail (n : Nat) (s : State) : State := raise (fbPage n) 13 3 [] ((detectOver n s).put (F.fbStatIntegrating.page n) 1)

/-- Abandon a detection (R312). -/
def detectAbandon (n : Nat) (s : State) : State := if (s.seg n).det.isSome then detectFail n s else s

/-- The checks of R292. -/
def fbRefused (n : Nat) (s : State) : Bool :=
  let a := 0x050000 + 0x1000 * n
  let ctl := s.afterCommit (a + 0x40)
  let dbt := s.afterCommit (a + 0x48)
  timingRefused (s.afterCommit (a + 0x44)) dbt (getBit (s.afterCommit (a + 0x4C)) 31)
    || getBits ctl 1 0 == 3
    || (getBit ctl 7 && !s.eventMbx n (getBits ctl 13 8))
    || (getBit ctl 3 && getBits ctl 6 4 == n)
    || (!getBit dbt 31 && s.sendsFd n)

/-- Transmit requests `ms` of a segment: each sets its pending bit and clears its bit of DROP (R308, R316). -/
def requestAll (n : Nat) (ms : List Nat) (s : State) : State :=
  ms.foldl (fun s k => clearDrop n k (putRequests n (s.requests n ||| 2 ^ k) s)) s

/-- Requests that writes of TXREQ have staged under PAGE_CTL.STAGE (R96). -/
def State.stagedRequests (s : State) (n : Nat) : List Nat :=
  [0, 1].flatMap fun k => match s.stagedAt (0x050060 + 0x1000 * n + 4 * k) with
    | some w => (bitsSet 32 (w.value &&& w.stageMask).toNat).map (32 * k + ·)
    | none => []

/-- The staged words of a segment's page without those of TXREQ, whose write is a request (R96, R316). -/
def withoutRequests (n : Nat) (s : State) : State :=
  s.withStaged (s.staged.filter fun w => w.addr != 0x050060 + 0x1000 * n && w.addr != 0x050064 + 0x1000 * n)

/-- Take or refuse the staged set of a segment (R292, R293): changed timing or OPMODE makes it integrate again. -/
def fbTake (n : Nat) (s : State) : State :=
  if !s.flag (F.hdrPageCommitCommit.page (fbPage n)) then s
  else if fbRefused n s then commitRefused (fbPage n) 0x30 s
  else
    let a := 0x050000 + 0x1000 * n
    let key (s : State) := (s.reg (a + 0x44), s.reg (a + 0x48), s.opmode n)
    let before := key s
    let slept := s.flag (F.fbCtlSleep.page n)
    let asked := s.stagedRequests n
    let s := commitTaken (fbPage n) (withoutRequests n (detectAbandon n s))
    let s := requestAll n asked (sleepFollow n slept s)
    if key s = before || !s.fbLive n || s.asleep n then s else s.put (F.fbStatIntegrating.page n) 1

/-- The commit of a segment outside a bus-idle moment, and the start decision after it (R293). -/
def fbCommit (n : Nat) (s : State) : State :=
  if !s.flag (F.hdrPageCommitCommit.page (fbPage n)) then s else fbLater n none (fbTake n s)

/-- An FB page is at its quiet point: no frame in progress, or bus-off (R293). -/
def State.fbQuiet (s : State) (n : Nat) : Bool := (s.seg n).tx.isNone || decide (2 ≤ s.estate n)

/-- The bus is idle after a frame or 11 recessive bits, and no frame has begun: a pending commit of the segment's page
acts, and without a running matrix SAIL's too, before any frame starts (R293, R317). -/
def fbIdle (n : Nat) (s : State) : State :=
  let s := if s.fbQuiet n then fbTake n s else s
  if !s.mxRun n && (s.seg n).tx.isNone then sailCommitAt [n] s else s

/-- The bus is idle: the segment goes to sleep where that has waited, or makes its next start decision (R304, R314). -/
def afterIdle (n : Nat) (s : State) : State :=
  if s.flag (F.fbCtlSleep.page n) && !s.asleep n then goAsleep n s else fbStart n s

/-! Detection (R312). -/

/-- The next candidate, the next round, or the end without success. -/
def detectNext (n : Nat) (s : State) : State :=
  let x := s.seg n
  match x.det with
  | none => s
  | some d =>
    match d.left with
    | _ :: c :: rest => (s.put (F.fbStatIntegrating.page n) 1).setSeg n { x with det := some { d with left := c :: rest, streak := 0, brs := false, at_ := s.now } }
    | _ =>
      if d.round < 3 then
        (s.put (F.fbStatIntegrating.page n) 1).setSeg n
          { x with det := some { d with left := d.cands, round := d.round + 1, streak := 0, brs := false, at_ := s.now } }
      else detectFail n s

/-- A candidate is accepted: its timing is in effect (R312). -/
def detectDone (n k : Nat) (brs : Bool) (s : State) : State :=
  let nbt := s.reg (0x050100 + 0x1000 * n + 8 * k)
  let dbt := s.reg (0x050104 + 0x1000 * n + 8 * k)
  let s := detectOver n ((s.setReg (0x050044 + 0x1000 * n) nbt).setReg (0x050048 + 0x1000 * n) dbt)
  let s := (s.put (F.fbStatDetOk.page n) 1).put (F.fbStatDetIdx.page n) k
  let s := raise (fbPage n) 12 3 [k] (s.putFlag (F.fbStatDataUnverified.page n) (getBit dbt 31 && !brs))
  takesPart n none s

/-- An error-free frame during detection; an FD frame is none to a classical candidate. -/
def detectFrame (n : Nat) (f : CanFrame) (s : State) : State :=
  let x := s.seg n
  match x.det with
  | none => s
  | some d =>
    let d := { d with streak := d.streak + 1, brs := d.brs || f.brs }
    if f.fdf && !getBit (s.reg (0x050104 + 0x1000 * n + 8 * d.left.headD 0)) 31 then s
    else if 2 ≤ d.streak then detectDone n (d.left.headD 0) d.brs s else s.setSeg n { x with det := some d }

/-- A frame passes EOF on the segment (R296, R311, R312). -/
def canReceived (n : Nat) (f : CanFrame) (s : State) : State :=
  if s.flag (F.fbStatDetecting.page n) then
    (if s.fbLive n && !s.flag (F.fbStatIntegrating.page n) then detectFrame n f s else s)
  else if !s.fbOn n || s.opmode n == 2 then s
  else if f.fdf && !s.flag (F.fbDbtFdEn.page n) then s
  else
    let s := if s.opmode n = 0 then recAfterFrame n s else s
    acceptFrame n f s

/-- A protocol error on a frame the segment does not send (R307, R311, R312): REC counts 1 for the error and 8 for
each case in which ISO 11898-1 adds 8 to a receiver (a dominant bit after its error flag, a bit error in an active error
or overload flag, each further run of dominant bits). Of kind 0 only the latter happened, over an overload flag. -/
def canRxError (n kind eights : Nat) (s : State) : State :=
  let seen := decide (kind ≠ 0)
  if s.flag (F.fbStatDetecting.page n) then
    (if seen then detectNext n ((s.bumpSat (F.fbCntLoErr.page n) 1).put (F.fbStatLec.page n) kind) else s)
  else if !s.fbOn n || s.opmode n == 2 then s
  else
    let s := if seen then s.put (F.fbStatLec.page n) kind else s
    if s.opmode n = 1 then (if seen then s.bumpSat (F.fbCntLoErr.page n) 1 else s)
    else putCounters n (s.get (F.fbErrTec.page n)) (s.get (F.fbErrRec.page n) + b2n seen + 8 * eights) s

/-- Release of a front buffer (R297). -/
def releaseFront (n m : Nat) (s : State) : State :=
  if !getBit (s.winWord (bufAddr n m)) 31 || s.mbxTx n m then s
  else
    let x := s.seg n
    match x.shadows.find? fun y => y.1 == m with
    | some y => putBuffer n m y.2 (s.setSeg n { x with shadows := x.shadows.filter fun y => y.1 != m })
    | none =>
      let a := bufAddr n m
      putRxNew n m false (s.setWinWord a (setBits (s.winWord a) 31 31 0))

/-- FB.RX_REL, by either host (R298). -/
def actRxRel (n : Nat) (v m : Word) (s : State) : State := if m = 0 then s else releaseFront n (getBits v 5 0) s

def execRxRelease (host : HostId) (seg : BitVec 3) (mbx : BitVec 6) (s : State) : Host.Outcome State Fault Refusal :=
  let v : Word := mbx.setWidth 32
  .next (hostWord host (0x050080 + 0x1000 * seg.toNat) v (actRxRel seg.toNat v) s)

/-! Requests and cancels (R300, R308). -/

/-- TXREQ: bit `i` of the word requests mailbox `base + i`. -/
def actTxReq (n base : Nat) (ran : Option Nat) (v m : Word) (s : State) : State :=
  fbLater n ran (requestAll n ((bitsSet 32 (v &&& m).toNat).map (base + ·)) s)

/-- Segment `p` gives up the failover frame of segment `n`: at once where it waits, else at the end of its attempt. -/
def takeBack (n p : Nat) (s : State) : State :=
  let y := s.seg p
  let mine := fun (t : TxTry) => t.fromSeg == some n
  let s := ((y.tries.filter mine).map (·.mbx)).foldl (fun s m => clearRequest p m s) s
  s.setSeg p { y with tries := y.tries.filter (fun t => !mine t), tx := y.tx.map fun t => if mine t then { t with cancel := true } else t }

/-- Discard the kept frame, at the partner too (R308, R309). -/
def discardKept (n : Nat) (s : State) : State :=
  let x := s.seg n
  let s := s.setSeg n { x with kept := none, tries := x.tries.filter fun t => !t.kept }
  let s := if s.flag (F.fbKeptAtPartner.page n) then (List.range 8).foldl (fun s p => takeBack n p s) s else s
  (clearRequest n (s.get (F.fbKeptMbx.page n)) s |>.put (F.fbKeptValid.page n) 0).put (F.fbKeptAtPartner.page n) 0

/-- TXCAN of one mailbox; a failover frame that waits there goes back (R300, R309). -/
def cancelTx (n m : Nat) (s : State) : State :=
  let s := if s.flag (F.fbKeptValid.page n) && s.get (F.fbKeptMbx.page n) == m then discardKept n s else s
  let x := s.seg n
  let sending := x.tx.any fun t => t.mbx == m
  let s := if sending then s.setSeg n { x with tx := x.tx.map fun t => { t with cancel := true } } else s
  if x.tx.any fun t => t.mbx == m && !t.kept then s
  else
    let x := s.seg n
    let back := (x.tries.filter fun t => t.mbx == m).filterMap (·.fromSeg)
    let s := clearRequest n m (s.setSeg n { x with tries := x.tries.filter fun t => t.mbx != m })
    back.foldl (fun s k => returnKept k s) s

def actTxCan (n base : Nat) (ran : Option Nat) (v m : Word) (s : State) : State :=
  fbLater n ran (((bitsSet 32 (v &&& m).toNat).map (base + ·)).foldl (fun s k => cancelTx n k s) s)

/-- A write of one word of a pair where its mask names a mailbox. -/
def pairWrite (h : HostId) (a mask : Nat) (act : Nat → Word → Word → State → State) (s : State) : State :=
  let lo : Word := BitVec.ofNat 32 mask
  let hi : Word := BitVec.ofNat 32 (mask / 2 ^ 32)
  let s := if lo = 0 ∧ hi ≠ 0 then s else hostWord h a lo (act 0 lo) s
  if hi = 0 then s else hostWord h (a + 4) hi (act 32 hi) s

def execTxRequest (host : HostId) (seg : BitVec 3) (mask : BitVec 64) (s : State) (ran : BitVec 16 := 0) :
    Host.Outcome State Fault Refusal :=
  .next (pairWrite host (0x050060 + 0x1000 * seg.toNat) mask.toNat (fun b => actTxReq seg.toNat b (some ran.toNat)) s)

def execTxCancel (host : HostId) (seg : BitVec 3) (mask : BitVec 64) (s : State) (ran : BitVec 16 := 0) :
    Host.Outcome State Fault Refusal :=
  .next (pairWrite host (0x050068 + 0x1000 * seg.toNat) mask.toNat (fun b => actTxCan seg.toNat b (some ran.toNat)) s)

/-! The end of an attempt (R300, R301, R308, R309). -/

/-- RETRY allows no further retransmission. -/
def State.retryOver (s : State) (n : Nat) (t : TxTry) : Bool :=
  let d2 := s.desc n t.mbx 2
  !getBit d2 12 && decide (getBits d2 11 8 ≤ t.made)

/-- The mailbox's request is done with, and so is a kept frame (R300, R308); a request that a waiting failover frame
holds stays. -/
def doneWith (n : Nat) (t : TxTry) (s : State) : State :=
  let s := if s.displaced n t.mbx then s else clearRequest n t.mbx s
  if t.kept then (s.put (F.fbKeptValid.page n) 0).setSeg n { s.seg n with kept := none } else s

/-- The frame leaves the segment: request cleared, a displaced frame dropped, a failover frame back to its own segment. -/
def abandonTx (n : Nat) (t : TxTry) (report : Bool) (s : State) : State :=
  let drop := t.fromSeg.isNone && !t.kept && s.displaced n t.mbx
  let s := doneWith n t s
  let s := if drop then raise (fbPage n) 10 3 [t.mbx] (setDrop n t.mbx s) else s
  let s := match t.fromSeg with
    | some m => returnKept m s
    | none => s
  if report then raise (fbPage n) 3 3 [t.mbx] s else s

/-- The frame waits for its next attempt. -/
def retryTx (n : Nat) (t : TxTry) (s : State) : State :=
  let x := s.seg n
  s.setSeg n { x with tries := x.tries ++ [{ t with made := t.made + 1 }] }

/-- A completed transmission. -/
def txCompleted (n : Nat) (t : TxTry) (s : State) : State :=
  let s := putCounters n (s.get (F.fbErrTec.page n) - 1) (s.get (F.fbErrRec.page n)) s
  let s := if t.trip then transient (fbPage n) s else s
  let s := doneWith n t (putDesc3 n t.mbx 25 24 0 s)
  let s := match t.fromSeg with
    | some m =>
      let s := clearRequest m (s.get (F.fbKeptMbx.page m)) s
      let s := ((s.put (F.fbKeptValid.page m) 0).put (F.fbKeptAtPartner.page m) 0).setSeg m { s.seg m with kept := none }
      raise (fbPage m) 9 3 [n] s
    | none => s
  if s.opmode n = 2 then acceptFrame n t.snap s else s

/-- TEC after an attempt that ended in an error: 8 more, but unchanged for an ACK error while error-passive and for
a stuff error, which a transmitter meets only in arbitration; and 8 for each further case over its error flag (R307). -/
def txErrorTec (n lec eights : Nat) (s : State) : Nat :=
  let tec := s.get (F.fbErrTec.page n) + 8 * eights
  if lec = 1 ∨ (lec = 3 ∧ s.estate n = 1) then tec else tec + 8

/-- The mailbox's attempt ended, in a bit error of R301 or not. -/
def noteBitError (n m : Nat) (b : Bool) (s : State) : State :=
  let x := s.seg n
  let others := x.bitErrs.filter (· != m)
  s.setSeg n { x with bitErrs := if b then others ++ [m] else others }

/-- Another node sends the same identifier with other content (R301). -/
def clash (n : Nat) (t : TxTry) (s : State) : State :=
  let id := t.snap.id.toNat
  let s := putDesc3 n t.mbx 25 25 1 s
  let s := ((s.put (F.fbClashValid.page n) 1).putFlag (F.fbClashIde.page n) t.snap.ide).put (F.fbClashId.page n) id
  abandonTx n t true (raise (fbPage n) 5 3 [id] s)

/-- An attempt that ended in an error: its return trip ends as lasting, or it is the first and one more follows; there
is never a second (R300, R365). -/
def txError (n lec eights : Nat) (bitError : Bool) (t : TxTry) (s : State) : State :=
  let s := putCounters n (txErrorTec n lec eights s) (s.get (F.fbErrRec.page n)) (s.put (F.fbStatLec.page n) lec)
  let again := bitError && (s.seg n).bitErrs.contains t.mbx
  let s := noteBitError n t.mbx bitError s
  let s := if t.trip then raise (fbPage n) 2 3 [t.mbx] (putDesc3 n t.mbx 24 24 1 (lastingFault (fbPage n) s)) else s
  let t := { t with trip := !t.trip && !t.lasting, lasting := t.lasting || t.trip }
  let boff := decide (255 < s.get (F.fbErrTec.page n))
  if again then (if boff then busOff n (clash n t s) else clash n t s)
  else if boff then busOff n (s.setSeg n { s.seg n with tx := some t })
  else if t.cancel || s.displaced n t.mbx then abandonTx n t false s
  else if t.lasting && s.retryOver n t then abandonTx n t true s
  else retryTx n t s

/-- An attempt lost to arbitration: no error, but it counts against RETRY (R300). -/
def txArbLost (n : Nat) (t : TxTry) (s : State) : State :=
  let s := noteBitError n t.mbx false s
  if t.cancel || s.displaced n t.mbx then abandonTx n t false s
  else if s.retryOver n t then abandonTx n t true s
  else retryTx n t s

/-- The overload flag after a completed frame: TEC counts 8 for each bit error in it and for each run of dominant bits
after it (R8, R307). -/
def txOverload (n k : Nat) (s : State) : State :=
  if k = 0 then s
  else
    let s := putCounters n (s.get (F.fbErrTec.page n) + 8 * k) (s.get (F.fbErrRec.page n)) s
    if 255 < s.get (F.fbErrTec.page n) then busOff n s else s

/-- A transmission attempt ends. The bus is idle after it unless the frame that won arbitration goes on; then the next
frame starts. -/
def txAttemptEnd (n m : Nat) (o : TxOutcome) (overload ran : Nat) (s : State) : State :=
  let x := s.seg n
  match x.tx with
  | none => s
  | some t =>
    if t.mbx ≠ m then s
    else
      let s := passTime n (some ran) (s.setSeg n { x with tx := none })
      let s := match o with
        | .completed => txOverload n overload (txCompleted n t (noteBitError n m false s))
        | .arbLost => txArbLost n t s
        | .error lec b k => txError n lec.toNat k.toNat b t s
      let idle := s.fbLive n && !s.asleep n && decide (o ≠ .arbLost)
      afterIdle n (if idle then fbIdle n s else s)

def execTxAttemptEnd (seg : BitVec 3) (mbx : BitVec 6) (outcome : TxOutcome) (s : State) (overload : BitVec 4 := 0)
    (ran : BitVec 16 := 0) : Host.Outcome State Fault Refusal :=
  .next (txAttemptEnd seg.toNat mbx.toNat outcome overload.toNat ran.toNat s)

/-! The end of another node's frame (R293, R300, R304). -/

/-- Another node's frame held the bus, so a frame that had been taken up has not begun: it waits again, and a cancel or
a displacement that waited for the end of its attempt acts. -/
def notBegun (n : Nat) (s : State) : State :=
  let x := s.seg n
  match x.tx with
  | none => s
  | some t =>
    let sent := x.sent && (decide (0 < t.made) || s.mxEntry n != (1, t.mbx))
    let back := decide (0 < t.made) || t.kept || t.fromSeg.isSome
    if t.cancel || s.displaced n t.mbx then abandonTx n t false (s.setSeg n { x with tx := none, sent := sent })
    else s.setSeg n { x with tx := none, sent := sent, tries := if back then x.tries ++ [t] else x.tries }

/-- The frame taken up before `s` and taken up again in `s'` is put out once. -/
def putOutOnce (n : Nat) (s s' : State) : State :=
  match (s.seg n).tx, (s'.seg n).tx with
  | some t, some u =>
    if t.mbx = u.mbx ∧ t.snap = u.snap then s'.withOut (s.out ++ (s'.out.drop s.out.length).erase (.can n t.snap)) else s'
  | _, _ => s'

/-- The bus is idle after another node's frame: pending commits act, and the next frame starts where it fits the time
left in the slot. -/
def idleAfter (n ran : Nat) (s : State) : State :=
  if s.fbLive n && !s.asleep n then putOutOnce n s (afterIdle n (fbIdle n (passTime n (some ran) (notBegun n s)))) else s

def execCanFrameReceived (seg : BitVec 3) (frame : CanFrame) (s : State) (ran : BitVec 16 := 0) : Host.Outcome State Fault Refusal :=
  .next (idleAfter seg.toNat ran.toNat (canReceived seg.toNat frame s))

def execCanRxError (seg : BitVec 3) (kind : BitVec 3) (s : State) (eights : BitVec 4 := 0) (ran : BitVec 16 := 0) :
    Host.Outcome State Fault Refusal :=
  .next (idleAfter seg.toNat ran.toNat (canRxError seg.toNat kind.toNat eights.toNat s))

/-! The sailing matrix (R302 to R306). -/

/-- The next slot begins; a basic-cycle boundary takes a pending SAIL commit (R302, R317). -/
def matrixSlot (n : Nat) (s : State) : State :=
  if !s.mxRun n || !s.fbLive n then s
  else
    let s := slotOver n s
    let cfg := s.mxCfg n
    let slot := s.get (F.sailNowSlot.idx n)
    if slot < getBits cfg 4 0 then slotBegin n (s.put (F.sailNowSlot.idx n) (slot + 1))
    else
      let cyc := s.get (F.sailNowCycle.idx n)
      let cyc' := if cyc < getBits cfg 21 16 then cyc + 1 else 0
      let s := (s.put (F.sailNowSlot.idx n) 0).put (F.sailNowCycle.idx n) cyc'
      let s' := sailCommitAt [n] s
      if s'.mxCfg n = cfg then slotBegin n s' else s'

def execMatrixSlotStart (seg : BitVec 3) (s : State) : Host.Outcome State Fault Refusal := .next (matrixSlot seg.toNat s)

/-- The end of a receive-expectation slot (R306). -/
def expectationCheck (n : Nat) (s : State) : State :=
  let (ty, m) := s.mxEntry n
  if !s.mxRun n || ty != 3 || !s.fbLive n then s
  else
    let x := s.seg n
    if x.seen.contains m then putDesc3 n m 23 16 0 (s.setSeg n { x with seen := x.seen.filter (· != m) })
    else
      let run := sat 255 (getBits (s.desc n m 3) 23 16 + 1)
      let lim := getBits (s.desc n m 2) 19 16
      let was := getBits (s.desc n m 3) 23 16
      let s := putDesc3 n m 23 16 run s
      if lim ≠ 0 ∧ run = lim ∧ was < lim then
        let s := (s.fbPoints n fun c => c.fbMbx == m).foldl (fun s i => s.trigger (.deliver i 0 .fault 0 5)) s
        raise (fbPage n) 1 3 [m] s
      else s

def execRxExpectationCheck (seg : BitVec 3) (s : State) : Host.Outcome State Fault Refusal := .next (expectationCheck seg.toNat s)

/-! Integration, recovery, sleep (R307, R313 to R315). -/

/-- 11 recessive bits have been seen (R303, R312, R313). -/
def integrated (n ran : Nat) (s : State) : State :=
  if !s.fbLive n || s.asleep n || !s.flag (F.fbStatIntegrating.page n) then s
  else
    let s := s.put (F.fbStatIntegrating.page n) 0
    let x := s.seg n
    match x.det with
    | some d => s.setSeg n { x with det := some { d with at_ := s.now } }
    | none => takesPart n (some ran) (fbIdle n s)

def execIntegrationComplete (seg : BitVec 3) (s : State) (ran : BitVec 16 := 0) : Host.Outcome State Fault Refusal :=
  .next (integrated seg.toNat ran.toNat s)

/-- BOFF_HOLD has run: the recovery count starts (R307). -/
def boffHold (n : Nat) (s : State) : State :=
  if s.fbLive n && s.estate n == 2 && s.flag (F.fbCtlAutoRec.page n)
      && s.reached (((s.seg n).boffAt + s.get (F.fbCtlBoffHold.page n)) % 2 ^ 32) then s.put (F.fbStatEstate.page n) 3 else s

def execBoffHoldExpiry (seg : BitVec 3) (s : State) : Host.Outcome State Fault Refusal := .next (boffHold seg.toNat s)

/-- The recovery count completes (R307). -/
def busRecovered (n : Nat) (s : State) : State :=
  if s.fbLive n && s.estate n == 3 then
    let s := ((s.put (F.fbErrTec.page n) 0).put (F.fbErrRec.page n) 0).put (F.fbErrRp.page n) 0
    let s := raise (fbPage n) 8 3 [] (s.put (F.fbStatEstate.page n) 0)
    if s.flag (F.fbStatIntegrating.page n) || s.asleep n then s.setSeg n { s.seg n with restart := true } else startMatrix n s
  else s

def execBusOffRecovered (seg : BitVec 3) (s : State) : Host.Outcome State Fault Refusal := .next (busRecovered seg.toNat s)

/-- CTL: a write of SLEEP (R314); the other fields are staged. -/
def actFbCtl (h : HostId) (n : Nat) (v m : Word) (s : State) : State :=
  sleepFollow n (s.flag (F.fbCtlSleep.page n)) (storeFields h (0x050040 + 0x1000 * n) v m s)

def execFbSleep (host : HostId) (seg : BitVec 3) (s : State) : Host.Outcome State Fault Refusal :=
  let a := 0x050040 + 0x1000 * seg.toNat
  let v := setBits (readReg host a s) 15 15 1
  .next (hostWord host a v (fun m => actFbCtl host seg.toNat v (m &&& bitWord 15)) s)

/-- The candidates of DETCFG that pass R292 (R312, R316). -/
def State.goodCand (s : State) (n k : Nat) : Bool :=
  let dbt := s.reg (0x050104 + 0x1000 * n + 8 * k)
  !timingRefused (s.reg (0x050100 + 0x1000 * n + 8 * k)) dbt (s.flag (F.fbTdcEn.page n)) && (getBit dbt 31 || !s.sendsFd n)

/-- CMD.DETECT, which reads 1 until detection ends (R10, R312). -/
def startDetect (n : Nat) (s : State) : State :=
  let en := bitsSet 8 (s.get (F.fbDetcfgEn.page n))
  if s.opmode n ≠ 1 ∨ en.isEmpty then accessFault (fbPage n) 0x31 s
  else
    let bad := en.filter fun k => !s.goodCand n k
    let good := en.filter fun k => s.goodCand n k
    let s := bad.foldl (fun s k => record (fbPage n) (evtCode (fbPage n) 0x20) 3 [k] s) s
    if good.isEmpty then raise (fbPage n) 13 3 [] s
    else
      let x := s.seg n
      let s := s.setSeg n { x with det := some ⟨good, good, 1, 0, false, s.now⟩ }
      let s := (s.put (F.fbStatDetOk.page n) 0).put (F.fbStatDataUnverified.page n) 0
      ((s.put (F.fbStatDetecting.page n) 1).put (F.fbCmdDetect.page n) 1).put (F.fbStatIntegrating.page n) 1

/-- FB.CMD: REC_START, DETECT, WAKE, each refused out of place with code 0x31 (R307, R312, R314). -/
def actFbCmd (n : Nat) (v m : Word) (s : State) : State :=
  let w := v &&& m
  let s := if !getBit w 0 then s
    else if s.estate n = 2 then s.put (F.fbStatEstate.page n) 3
    else accessFault (fbPage n) 0x31 s
  let s := if getBit w 1 then startDetect n s else s
  if !getBit w 2 then s
  else if s.asleep n then wakeSeg n s
  else accessFault (fbPage n) 0x31 s

def execRecStart (host : HostId) (seg : BitVec 3) (s : State) : Host.Outcome State Fault Refusal :=
  .next (hostWord host (0x05008C + 0x1000 * seg.toNat) 1 (actFbCmd seg.toNat 1) s)

def execDetect (host : HostId) (seg : BitVec 3) (s : State) : Host.Outcome State Fault Refusal :=
  .next (hostWord host (0x05008C + 0x1000 * seg.toNat) 2 (actFbCmd seg.toNat 2) s)

def execFbWake (host : HostId) (seg : BitVec 3) (s : State) : Host.Outcome State Fault Refusal :=
  .next (hostWord host (0x05008C + 0x1000 * seg.toNat) 4 (actFbCmd seg.toNat 4) s)

/-- A candidate's wait expires, or an error is seen (R312). -/
def detectTimeout (n : Nat) (error : Bool) (s : State) : State :=
  match (s.seg n).det with
  | some d => if error || decide (s.get (F.fbDetcfgTmo.page n) ≤ s.since d.at_) then detectNext n s else s
  | none => s

def execDetectCandidateTimeout (seg : BitVec 3) (error : Bool) (s : State) : Host.Outcome State Fault Refusal :=
  .next (detectTimeout seg.toNat error s)

/-- RXD low for 5 µs while asleep, or in STANDBY (R315). -/
def wakePattern (n : Nat) (s : State) : State :=
  if !s.configured || !s.pageEn (fbPage n) || !s.flag (F.fbCtlWakeEn.page n) || !(s.asleep n || s.standby) then s
  else
    let s := raise (fbPage n) 11 3 [] s
    if s.standby then s else wakeSeg n s

def execWakePattern (seg : BitVec 3) (s : State) : Host.Outcome State Fault Refusal := .next (wakePattern seg.toNat s)

/-- No idle moment for 32 tide ticks: the frame in progress is abandoned without counting an error (R293). -/
def fbForce (n : Nat) (s : State) : State :=
  let x := s.seg n
  if s.flag (F.hdrPageCommitCommit.page (fbPage n)) && decide (32 ≤ s.since x.commitAt) then
    let s := match x.tx with
      | some t => abandonTx n t true (s.setSeg n { x with tx := none })
      | none => s
    fbCommit n s
  else s

def execFbCommitForce (seg : BitVec 3) (s : State) : Host.Outcome State Fault Refusal := .next (fbForce seg.toNat s)

/-! Segments as a whole. -/

/-- A segment stops: disabled, without a clock, or in STANDBY (R66, R74, R313). -/
def fbStop (n : Nat) (s : State) : State :=
  let x := s.seg n
  let s := s.setSeg n { x with tx := none, tries := x.tries ++ x.tx.toList.map fun t => { t with made := t.made + 1 }, restart := false }
  staleBus n (stopMatrix n (s.put (F.fbStatIntegrating.page n) 0))

def fbSegs : List Nat := List.range 8

/-- Every enabled segment stops. -/
def fbStopAll (s : State) : State := fbSegs.foldl (fun s n => if s.pageEn (fbPage n) then fbStop n s else s) s

/-- Every enabled segment that is awake integrates. -/
def fbJoinAll (s : State) : State := fbSegs.foldl (fun s n => if s.fbLive n && !s.asleep n then fbJoin n s else s) s

end Sys2Proof.Machine
end

