-- ==== Sys2Proof/Machine/Panel.lean ====
section
/-!
DEFINITION. The lantern panel (chapter 17): display states, intensity, frames and rows, power sequences, lamp test,
beacon.
-/

namespace Sys2Proof.Machine

/-! Window records (R456). -/

def State.winRec0 (s : State) (w : Nat) : Word := s.winWord (winRec w 0)
def State.winRec1 (s : State) (w : Nat) : Word := s.winWord (winRec w 1)

/-- The windows whose record has a SRC other than 0, ascending: bits 6:5 of the last byte of word 0. -/
def State.sourcedWins (s : State) : List Nat :=
  (s.win.filter fun c => decide (0x1000000 ≤ c.1) && c.1 % 8 == 3 && c.2.toNat / 32 % 4 != 0).map fun c => (c.1 - 0x1000000) / 8

/-! Display states (R457). -/

/-- The order of urgency 7, 5, 6, 4, 3, 2, 1, 0. -/
def urgency : Nat → Nat
  | 5 => 6 | 6 => 5 | n => n

def moreUrgent (a b : Nat) : Nat := if urgency a < urgency b then b else a

/-- The display state of a point. -/
def pointDisplay (c : PCfg) (p : Point) : Nat :=
  let pr := effPrio c p
  match p.astate with
  | .activeUnack => if pr = 0 then 7 else if pr = 1 then 5 else if pr = 2 then 3 else 0
  | .rectUnack => if pr ≤ 1 then 6 else if pr = 2 then 3 else 0
  | .activeAck => if pr ≤ 1 then 4 else if pr = 2 then 2 else 1
  | .normal => 0

/-- The display state of a group. -/
def State.groupDisplay (s : State) (g : Nat) : Nat :=
  let act := decide (0 < s.actCnt g)
  let un := decide (0 < s.unackCnt g)
  let p := s.topPrio g
  if p = 0 ∧ act ∧ un then 7
  else if p ≤ 1 then (if act && un then 5 else if un then 6 else if act then 4 else 0)
  else if p = 2 then (if un then 3 else if act then 2 else 0)
  else if act then 1 else 0

/-- The display state of a window with SRC 1 or 2. -/
def State.windowDisplay (s : State) (w : Nat) : Nat :=
  let r := s.winRec0 w
  match getBits r 30 29 with
  | 1 => (s.eng.pts.filter fun x => (s.pcfg x.1).winEn && (s.pcfg x.1).window == w).foldl
      (fun m x => moreUrgent m (pointDisplay (s.pcfg x.1) x.2)) 0
  | 2 => s.groupDisplay (getBits r 27 16)
  | _ => 0

/-- The engine updates the table in one step at the end of a pass (R463). -/
def updatePanel (s : State) : State :=
  let t := s.sourcedWins.foldl (fun t w => Sparse.set (fun _ => 0) t w (s.windowDisplay w)) []
  s.withPanel { s.panel with table := t }

/-- The state of a window as it stands now, a host window's own among them. -/
def State.displayNow (s : State) (w : Nat) : Nat :=
  if getBits (s.winRec0 w) 30 29 = 0 then Sparse.get (fun _ => 0) s.panel.hostWin w else Sparse.get (fun _ => 0) s.panel.table w

/-! Intensity (R459 to R462). -/

/-- Round a fraction to the nearest integer, halves away from zero. -/
def roundAway (n d : Int) : Int := if n < 0 then -((2 * (-n) + d) / (2 * d)) else (2 * n + d) / (2 * d)

/-- A request for a region (R462): the later of two is latched. -/
def regionRequest (r level fade : Nat) (s : State) : State :=
  s.withPanel { s.panel with requests := Sparse.insert s.panel.requests r (level, fade) }

/-- Step `k` of a fade. -/
def fadeAt (c0 : Int) (level fade k : Nat) : Int :=
  if fade = 0 then level else c0 + roundAway ((level - c0) * k) fade

/-- Take step `k` of a region's fade: NOW, LEFT and the fade still to run. -/
def fadeStep (r : Nat) (c0 : Int) (level fade k : Nat) (s : State) : State :=
  let s := (s.put (F.lanRegionHiNow.idx r) (fadeAt c0 level fade k).toNat).put (F.lanRegionHiLeft.idx r) (fade - k)
  s.withPanel { s.panel with
    requests := Sparse.erase s.panel.requests r
    fades := if k < fade then Sparse.insert s.panel.fades r (c0, level, fade, k) else Sparse.erase s.panel.fades r }

/-- A region at a frame boundary. -/
def regionBoundary (s : State) (r : Nat) : State :=
  match s.panel.requests.find? fun x => x.1 == r with
  | some (_, level, fade) => fadeStep r (s.get (F.lanRegionHiNow.idx r)) level fade 1 s
  | none =>
    match s.panel.fades.find? fun x => x.1 == r with
    | some (_, c0, level, fade, k) => fadeStep r c0 level fade (k + 1) s
    | none => s

/-- The factor of the derating band in effect. -/
def State.derate (s : State) : Nat :=
  match s.get F.lanStatBand with
  | 0 => s.get F.lanDrfDr0
  | 1 => s.get F.lanDrfDr1
  | 2 => s.get F.lanDrfDr2
  | _ => s.get F.lanDrfDr3

/-- The level of an LED from C, its gain, DIM and DR (R459). -/
def ledLevel (c gain dim dr : Nat) : Nat := (2 * (c * gain * dim * dr) + 255 ^ 3) / (2 * 255 ^ 3)

/-- The gain of an LED (R460). -/
def State.ledGain (s : State) (i : Nat) : Nat := (s.winByte (0xF10000 + 4 * i)).toNat

/-- A blink is in its on-phase (R458). -/
def blinkOn (now code : Nat) : Bool :=
  match code with
  | 0 => true
  | 1 => decide (now % 64 < 32)
  | 2 => decide (now % 32 < 16)
  | _ => decide (now % 16 < 8)

/-- An element of a window is lit in the frame (R456, R458, R466). -/
def State.elementLit (s : State) (w e : Nat) : Bool :=
  if s.flag F.lanStatLamptest then true
  else
    let look := ((s.winRec1 w).toNat >>> (4 * Sparse.get (fun _ => 0) s.panel.latched w)) % 16
    getBit (s.winRec0 w) 31 && (look / 4).testBit e && blinkOn s.now (look % 4)

/-- The first LED of a window (R456). -/
def firstLed (w : Nat) : Nat := 64 * (w / 32) + 2 * (w % 32)

/-- The level an element takes in the frame. -/
def State.elementLevel (s : State) (w e : Nat) : Nat :=
  let c := if s.flag F.lanStatLamptest then 4095 else s.get (F.lanRegionHiNow.idx (getBits (s.winRec0 w) 15 12))
  if s.elementLit w e then ledLevel c (s.ledGain (firstLed w + e)) (s.get F.lanCtlDim) s.derate else 0

/-- The levels of every LED that are not 0. -/
def State.frameLevels (s : State) : List (Nat × Nat) :=
  (List.range 512).flatMap fun w => [0, 1].filterMap fun e =>
    let v := s.elementLevel w e
    if v = 0 then none else some (firstLed w + e, v)

/-! Frame boundaries (R463, R464, R455). -/

/-- Latch the display states; with SLOW_LATCH a less urgent one waits for the second (R464). -/
def latchDisplay (s : State) : State :=
  let all := !s.flag F.lanCtlSlowLatch || s.panel.slowDue
  let l := (List.range 512).foldl (fun l w =>
    let old := Sparse.get (fun _ => 0) s.panel.latched w
    let new := s.displayNow w
    if all || decide (urgency old < urgency new) then Sparse.set (fun _ => 0) l w new else l) s.panel.latched
  s.withPanel { s.panel with latched := l, slowDue := false }

/-- A band change takes effect (R461). -/
def bandBoundary (s : State) : State :=
  if s.panel.bandWant = s.get F.lanStatBand then s
  else raise 0x088 1 3 [s.panel.bandWant, s.get F.lanStatTemp] (s.put F.lanStatBand s.panel.bandWant)

/-- A lamp test applies: the host's 320 tide ticks or the input's 1,920 (R466). -/
def State.testWanted (s : State) : Bool := s.panel.hostTest.isSome || (s.panel.inputTest.isSome && s.flag F.lanCtlLtEn)

/-- A lamp test starts or ends. -/
def testBoundary (s : State) : State :=
  if s.testWanted = s.flag F.lanStatLamptest then s
  else if s.testWanted then raise 0x088 2 3 [] (s.put F.lanStatLamptest 1)
  else raise 0x088 3 3 [] (s.put F.lanStatLamptest 0)

/-- HFXO timing returns at the first boundary after HFXO runs; without it the panel runs on LF timing (R455). -/
def panelTiming (s : State) : State :=
  if s.flag F.clkStatHfxoRun then s.put F.lanStatLf 0
  else if s.flag F.lanStatLf then s
  else raise 0x088 0 3 [] (s.put F.lanStatLf 1)

/-- HFXO stops: a running panel goes on with the frame in progress on LF timing (R455). -/
def panelLf (s : State) : State := if s.panel.pwr = .lit ∧ !s.standby ∧ !s.flag F.clkStatHfxoRun then panelTiming s else s

/-- The checks of R468 on the values as the commit would leave them. -/
def lanRefused (s : State) : Bool :=
  let w0 (w : Nat) : Word := s.afterCommit (winRec w 0)
  let t (f : Fld) : Int := signedOf 8 (s.getAfter f)
  (List.range 512).any (fun w => getBits (w0 w) 30 29 == 3 || getBit (w0 w) 28 || getBits (w0 w) 11 0 != 0)
    || (List.range 1024).any (fun i => decide (256 ≤ (s.afterCommit (0xF10000 + 4 * i)).toNat))
    || decide (t F.lanDerateT2 ≤ t F.lanDerateT1) || decide (t F.lanDerateT3 ≤ t F.lanDerateT2)
    || (s.getAfter F.lanBeaconEn == 1 && (s.getAfter F.lanBeaconDuty == 0 || decide (8 < s.getAfter F.lanBeaconDuty)))

/-- A refusal of LAN: REFUSED with its code, and the access fault (R417, R469). -/
def refuseLan (code : Nat) (s : State) : State := accessFault 0x088 code (raise 0x088 5 2 [code] s)

/-- STAT.BEACON shows whether the beacon runs in STANDBY (R467). -/
def beaconFollow (s : State) : State := s.putFlag F.lanStatBeacon (s.flag F.lanBeaconEn)

/-- The quiet point of LAN (R468). -/
def lanCommit (s : State) : State :=
  if !s.flag (F.hdrPageCommitCommit.page 0x088) then s
  else if lanRefused s then refuseLan 0x30 (s.putFlag (F.hdrPageCommitCommit.page 0x088) false)
  else
    let rs := (List.range 16).filter fun r => (s.stagedAt (0x088100 + 8 * r)).isSome
    let s := rs.foldl (fun s r => regionRequest r (s.get (F.lanRegionLevel.idx r)) (s.get (F.lanRegionFade.idx r)) s)
      (commitTaken 0x088 s)
    if s.standby then beaconFollow s else s

/-- One frame boundary. -/
def frameLatch (s : State) : State :=
  let s := latchDisplay (lanCommit s)
  let s := testBoundary (bandBoundary s)
  let s := panelTiming ((List.range 16).foldl regionBoundary s)
  s.withPanel { s.panel with levels := s.frameLevels, row := 0 }

/-- A frame begins when the sixteen rows of the one before have ended (R455). -/
def frameBoundary (s : State) : State := if s.panel.pwr = .lit ∧ 16 ≤ s.panel.row then frameLatch s else s

def execFrameBoundary (s : State) : Host.Outcome State Fault Refusal := .next (frameBoundary s)

/-! Rows (R454, R455). -/

/-- The on-time of a level: 5 ns steps, or LFXO periods on LF timing. -/
def onTime (lf : Bool) (e : Nat) : Nat := if lf then (8 * e + 4095) / (2 * 4095) else (2 * e * 31050 + 4095) / (2 * 4095)

/-- The columns of a row in the running frame. -/
def State.rowCols (s : State) (r : Nat) : List Nat :=
  (List.range 64).map fun c => onTime (s.flag F.lanStatLf) (Sparse.get (fun _ => 0) s.panel.levels (64 * r + c))

/-- A row slot: the rows of a frame come in order (R455). -/
def rowSlot (r : Nat) (s : State) : State :=
  if s.panel.pwr = .lit ∧ r = s.panel.row then
    (s.withPanel { s.panel with row := r + 1 }).withOut
      (s.out ++ [.row r (s.flag F.lanStatLf) (s.get F.lanCtlIset) (s.get F.lanCtlPrech) (s.rowCols r)])
  else s

def execRowSlot (row : BitVec 4) (s : State) : Host.Outcome State Fault Refusal := .next (rowSlot row.toNat s)

/-! Derating (R461). -/

/-- The band after a reading: up at the thresholds, down 2 K below them. -/
def bandAfter (t1 t2 t3 temp : Int) (b : Nat) : Nat :=
  let th (k : Nat) : Int := if k = 1 then 64 * t1 else if k = 2 then 64 * t2 else 64 * t3
  let up := ([1, 2, 3].filter fun k => decide (th k ≤ temp)).foldl max b
  let down := if th 3 - 128 ≤ temp then 3 else if th 2 - 128 ≤ temp then 2 else if th 1 - 128 ≤ temp then 1 else 0
  if b < up then up else min b down

/-- A reading of the driver temperature is due: every 32 tide ticks while the panel is not dark. -/
def State.tempDue (s : State) : Bool :=
  !s.flag F.lanStatDark && s.panel.tempAt.all fun t => decide (32 ≤ s.since t)

def panelTemp (raw : BitVec 16) (s : State) : State :=
  if !s.tempDue then s
  else
    let s := s.put F.lanStatTemp raw.toNat
    let t (f : Fld) : Int := signedOf 8 (s.get f)
    s.withPanel { s.panel with
      tempAt := some s.now
      bandWant := bandAfter (t F.lanDerateT1) (t F.lanDerateT2) (t F.lanDerateT3) (signedOf 16 raw.toNat) s.panel.bandWant }

def execPanelTempRead (temp : BitVec 16) (s : State) : Host.Outcome State Fault Refusal := .next (panelTemp temp s)

/-! Register writes. -/

/-- REGIONr (R462). -/
def actRegion (h : HostId) (r : Nat) (v m : Word) (s : State) : State :=
  let a := 0x088100 + 8 * r
  let s := storeFields h a v m s
  if m = 0 then s
  else regionRequest r (s.get (F.lanRegionLevel.idx r)) (s.get (F.lanRegionFade.idx r)) s

def execRegionRequest (host : HostId) (region : BitVec 4) (value : Word) (s : State) : Host.Outcome State Fault Refusal :=
  .next (hostWord host (0x088100 + 8 * region.toNat) value (actRegion host region.toNat value) s)

/-- HOSTWIN (R457, R468). -/
def actHostwin (v m : Word) (s : State) : State :=
  if m = 0 then s
  else
    let w := getBits v 24 16
    if getBits (s.winRec0 w) 30 29 ≠ 0 then refuseLan 0x31 s
    else s.withPanel { s.panel with hostWin := Sparse.set (fun _ => 0) s.panel.hostWin w (getBits v 2 0) }

def execHostwinWrite (host : HostId) (value : Word) (s : State) : Host.Outcome State Fault Refusal :=
  .next (hostWord host 0x088058 value (actHostwin value) s)

/-- WINCFG0 and WINCFG1: the word of the window that the writing host selects is staged (R456, R468). -/
def actWincfg (h : HostId) (k : Nat) (v m : Word) (s : State) : State :=
  if m = 0 then s else s.stage (winRec (s.getH h F.lanWinselWindow) k) m 0 v

/-- The panel shows no frames. -/
def State.panelDark (s : State) : Bool := decide (s.panel.pwr ≠ .lit) || s.standby

/-- CMD: LT_STOP and LAMPTEST (R466). -/
def actLanCmd (v m : Word) (s : State) : State :=
  let x := v &&& m
  let s := if getBit x 1 then s.withPanel { s.panel with hostTest := none } else s
  if getBit x 0 then
    (if s.panelDark then refuseLan 0x31 s else s.withPanel { s.panel with hostTest := some s.now })
  else s

def execLamptest (host : HostId) (s : State) : Host.Outcome State Fault Refusal :=
  .next (hostWord host 0x088048 (bitWord 0) (actLanCmd (bitWord 0)) s)

def execLtStop (host : HostId) (s : State) : Host.Outcome State Fault Refusal :=
  .next (hostWord host 0x088048 (bitWord 1) (actLanCmd (bitWord 1)) s)

/-- A lamp test has run its time (R466). -/
def testExpiry (s : State) : State :=
  let p := s.panel
  let h := match p.hostTest with
    | some t => if 320 ≤ s.since t then none else some t
    | none => none
  let beyond := p.inputTest.any fun t => decide (1920 ≤ s.since t)
  s.withPanel { p with hostTest := h, inputTest := if beyond then none else p.inputTest, inputSpent := p.inputSpent || beyond }

def execLamptestExpiry (s : State) : Host.Outcome State Fault Refusal := .next (testExpiry s)

/-- The level of a DI as last sampled (R176). -/
def State.diLevel (s : State) (k : Nat) : Bool := (s.get F.dioDiLoLevel + 2 ^ 32 * s.get F.dioDiHiLevel).testBit k

/-- The input asks for a lamp test: LT_EN is 1, it is high and has not had its 60 s since it was low (R466). -/
def inputAsk (s : State) : State :=
  if !s.flag F.lanCtlLtEn || !s.panel.inputHigh || s.panel.inputSpent || s.panel.inputTest.isSome then s
  else if s.panelDark then refuseLan 0x31 s
  else s.withPanel { s.panel with inputTest := some s.now }

/-- The lamp-test input reads low: its test ends, and it may act again (R466). -/
def inputLow (s : State) : State := s.withPanel { s.panel with inputTest := none, inputSpent := false, inputHigh := false }

/-- An accepted level of the DI that LT_DI names, which its samples bear out; while VFIELD is below its threshold edges
are ignored (R224, R466). -/
def testInput (level : Bool) (s : State) : State :=
  if !s.configured || s.flag F.pwrStatVfieldFail || s.diLevel (s.get F.lanCtlLtDi) != level then s
  else if level then inputAsk (s.withPanel { s.panel with inputHigh := true })
  else inputLow s

/-- LT_DI or LT_EN has changed: another input counts as it was last sampled, and a test may be due at once (R466). -/
def inputFollow (before s : State) : State :=
  let di := s.get F.lanCtlLtDi
  let s := if di = before.get F.lanCtlLtDi then s
    else (let s := inputLow s; s.withPanel { s.panel with inputHigh := s.diLevel di })
  inputAsk s

/-- A write of CTL. -/
def actLanCtl (h : HostId) (v m : Word) (s : State) : State :=
  if m = 0 then s else inputFollow s (storeFields h 0x088040 v m s)

def execLamptestInput (level : Bool) (s : State) : Host.Outcome State Fault Refusal := .next (testInput level s)

/-! Power sequences (R465), VLED (R52), standby (R467). -/

/-- The panel may run: in service, enabled, VLED and VDD33 good, out of STANDBY and of a block reset. -/
def State.panelMay (s : State) : Bool :=
  s.configured && s.pageEn 0x088 && !s.flag F.pwrStatVledFail && !s.flag F.pwrStatVdd33Warn && !s.standby
    && !s.flag (F.hdrPageCtlBlkRst.page 0x088)

/-- A power-off sequence is asked for; it starts at the end of the row slot, even when its cause is over by then (R465). -/
def panelOffAsk (s : State) : State :=
  if s.panel.pwr = .lit ∨ s.panel.pwr = .rising then s.withPanel { s.panel with offDue := true } else s

/-- The power-on sequence starts where it may. -/
def panelStart (s : State) : State :=
  if s.panelMay && s.panel.pwr == .dark then s.withPanel { s.panel with pwr := .rising } else s

/-- Everything off at once: the engine's table and host windows stay (R52, R465). -/
def panelOff (s : State) : State :=
  ((s.put F.lanStatDark 1).put F.lanStatLf 0).withPanel { s.panel with pwr := .dark, levels := [], offDue := false, tempAt := none }

/-- A commit pending on a dark panel takes effect at once (R468). -/
def lanQuiet (s : State) : State := if s.panel.pwr = .dark then lanCommit s else s

/-- The discharge ends, and the first frame starts with row 0. -/
def panelOn (s : State) : State :=
  if s.panel.pwr = .rising ∧ s.panelMay ∧ !s.panel.offDue then frameLatch ((s.put F.lanStatDark 0).withPanel { s.panel with pwr := .lit }) else s

def execPanelPowerOnDone (s : State) : Host.Outcome State Fault Refusal := .next (panelOn s)

/-- The power-off sequence starts at the end of the row slot: the VDD33 warning has set, or EN has been cleared. -/
def panelFall (s : State) : State :=
  if (s.panel.pwr = .lit ∨ s.panel.pwr = .rising) ∧ (s.panel.offDue ∨ s.flag F.pwrStatVdd33Warn ∨ !s.pageEn 0x088) then
    s.withPanel { s.panel with pwr := .falling, levels := [], offDue := false }
  else s

def execPanelPowerOff (s : State) : Host.Outcome State Fault Refusal := .next (panelFall s)

/-- The power-off sequence ends: DARK, and a power-on sequence asked for meanwhile follows. -/
def panelFallDone (s : State) : State :=
  if s.panel.pwr = .falling then panelStart (lanQuiet (raise 0x088 4 3 [] (panelOff s))) else s

def execPanelPowerOffDone (s : State) : Host.Outcome State Fault Refusal := .next (panelFallDone s)

/-- The panel goes over to beacon mode (R74 step 6, R467). -/
def panelBeacon (s : State) : State := beaconFollow (panelOff s)

/-- It returns to the configured layout (R75 step 4). -/
def panelReturn (s : State) : State := panelStart (s.put F.lanStatBeacon 0)

/-- One beacon pulse, at a tide tick that is a multiple of 32: the power-on sequence in the 66 LFXO periods before it, the
row for 1,638 periods with its elements sinking for DUTY of every 8, and the power-off sequence (R467). DESIGN CHOICE (log
entry 49): these sequences drive the pins alone, DARK stays 1 and DARK_SEQ is not raised. -/
def beaconPulse (s : State) : State :=
  if s.standby && s.now % 32 == 0 && s.flag F.lanBeaconEn && s.pageEn 0x088 && !s.flag F.pwrStatVledFail
      && !s.flag F.pwrStatVdd33Warn then
    let w := s.get F.lanBeaconWindow
    let d := s.get F.lanBeaconDuty
    let c := 2 * (w % 32)
    let e := s.get F.lanBeaconElem
    let cols := (List.range 64).map fun i => if (i = c ∧ e.testBit 0) ∨ (i = c + 1 ∧ e.testBit 1) then d else 0
    s.withOut (s.out ++ [.panelSeq true 66, .beacon (w / 32) (s.get F.lanCtlIset) (s.get F.lanCtlPrech) cols 1638, .panelSeq false 66])
  else s

def execBeaconPulse (s : State) : Host.Outcome State Fault Refusal := .next (beaconPulse s)

/-- SUPPLY_FAIL and SUPPLY_OK report PWR bits 4 to 6 (R417, R488): 0 = AVDD5, 1 = VFIELD, 2 = VLED. -/
def supplyRecord (k : Nat) (fell : Bool) (s : State) : State :=
  noteRecord 0x001 (if fell then 0x0120 else 0x0121) 4 [k] (mark 0x001 (4 + k) s)

/-- VLED fails (R52). -/
def execVledFail (s : State) : Host.Outcome State Fault Refusal :=
  .next (if s.flag F.pwrStatVledFail then s else panelOff (supplyRecord 2 true (s.put F.pwrStatVledFail 1)))

/-- VLED recovers: the power-on sequence runs (R52). -/
def execVledRecover (s : State) : Host.Outcome State Fault Refusal :=
  .next (if s.flag F.pwrStatVledFail then panelStart (supplyRecord 2 false (s.put F.pwrStatVledFail 0)) else s)

/-- What a tide tick does to the panel: the second of R464. -/
def panelTick (s : State) : State :=
  if s.now % 32 = 0 then s.withPanel { s.panel with slowDue := true } else s

end Sys2Proof.Machine
end

