-- ==== Sys2Proof/Machine/Rtc.lean ====
section
/-!
DEFINITION. The real-time clock (chapter 16): ticks and trim, calendar, shadows, halting and releasing, the
oscillator-stopped flag, alarms.
-/

namespace Sys2Proof.Machine

/-! The calendar (R440, R444, R445). -/

/-- The fields from SECONDS to YEAR. -/
structure Cal where
  sec : Nat
  min : Nat
  hour : Nat
  wday : Nat
  date : Nat
  month : Nat
  year : Nat
deriving DecidableEq, Repr

/-- The fields of a pair of words laid out as TIME_LO and TIME_HI. -/
def Cal.ofWords (lo hi : Word) : Cal :=
  ⟨getBits lo 13 8, getBits lo 21 16, getBits lo 28 24, getBits hi 2 0, getBits hi 12 8, getBits hi 19 16, getBits hi 31 24⟩

def State.cal (s : State) : Cal := Cal.ofWords (s.reg 0x080044) (s.reg 0x080048)

def State.setCal (s : State) (c : Cal) : State :=
  let s := ((s.put F.rtcTimeLoSeconds c.sec).put F.rtcTimeLoMinutes c.min).put F.rtcTimeLoHours c.hour
  (((s.put F.rtcTimeHiWeekday c.wday).put F.rtcTimeHiDate c.date).put F.rtcTimeHiMonth c.month).put F.rtcTimeHiYear c.year

/-- A leap year under LEAP_RULE (R445). -/
def leapYear (gregorian : Bool) (year : Nat) : Bool :=
  let y := 2000 + year
  if gregorian then (y % 4 == 0 && y % 100 != 0) || y % 400 == 0 else year % 4 == 0

/-- The month length (R444). -/
def monthLen (gregorian : Bool) (year month : Nat) : Nat :=
  if month = 4 ∨ month = 6 ∨ month = 9 ∨ month = 11 then 30
  else if month = 2 then (if leapYear gregorian year then 29 else 28) else 31

/-- A carry into DATE and WEEKDAY; whether YEAR wrapped (R444). -/
def carryDay (g : Bool) (c : Cal) : Cal × Bool :=
  let c := { c with wday := if 1 ≤ c.wday ∧ c.wday ≤ 6 then c.wday + 1 else 1 }
  let odd := c.month = 0 ∨ 13 ≤ c.month
  if c.date = 0 then ({ c with date := 1 }, false)
  else if odd then
    (if c.date ≤ 30 then ({ c with date := c.date + 1 }, false) else ({ c with date := 1, month := 1 }, false))
  else if c.date < monthLen g c.year c.month then ({ c with date := c.date + 1 }, false)
  else if c.month ≤ 11 then ({ c with date := 1, month := c.month + 1 }, false)
  else if c.year ≤ 198 then ({ c with date := 1, month := 1, year := c.year + 1 }, false)
  else ({ c with date := 1, month := 1, year := 0 }, true)

/-- A carry into SECONDS (R444). -/
def carrySec (g : Bool) (c : Cal) : Cal × Bool :=
  if c.sec < 59 then ({ c with sec := c.sec + 1 }, false)
  else if c.min < 59 then ({ c with sec := 0, min := c.min + 1 }, false)
  else if c.hour < 23 then ({ c with sec := 0, min := 0, hour := c.hour + 1 }, false)
  else carryDay g { c with sec := 0, min := 0, hour := 0 }

def State.gregorian (s : State) : Bool := s.flag F.rtcCtlLeapRule

/-- One second boundary of the counter; a wrap of YEAR is raised and logged (R444). -/
def secondCarry (s : State) : State :=
  let (c, wrapped) := carrySec s.gregorian s.cal
  let s := s.setCal c
  if wrapped then raise 0x080 8 3 [] s else s

/-- `n` second boundaries in a row. -/
def secondCarries : Nat → State → State
  | 0, s => s
  | n + 1, s => secondCarries n (secondCarry s)

/-- Add ticks to the 15-bit prescaler; the number of second boundaries it makes (R440, R447). -/
def addTicks (n : Nat) (s : State) : Nat × State :=
  let p := s.get F.rtcTimeLoSubsec * 128 + s.rtc.pre + n
  (p / 2 ^ 15, (s.put F.rtcTimeLoSubsec (p / 128 % 256)).withRtc { s.rtc with pre := p % 128 })

/-! Waking from STANDBY (R75). -/

/-- A wake source acts: 0 = PWR.CTL write, 1 = DI edge, 2 = RTC alarm, with its word (R488). -/
def requestWake (src word : Nat) (s : State) : State :=
  if s.standby && s.pwr.wake.isNone then s.withPwr { s.pwr with wake := some (src, word) } else s

/-! Alarms (R450, R451). -/

/-- The registers of alarm `x`: LO, HI, CTL. -/
def almLo (x : Nat) (s : State) : Word := s.reg (0x080060 + 0x10 * x)
def almHi (x : Nat) (s : State) : Word := s.reg (0x080064 + 0x10 * x)
def almCtl (x : Nat) (s : State) : Word := s.reg (0x080068 + 0x10 * x)

/-- A compared field equals the alarm's. -/
def almField (mask bit a b : Nat) : Bool := !mask.testBit bit || a == b

/-- The day fields match. -/
def almDay (mask : Nat) (a c : Cal) : Bool :=
  almField mask 3 a.wday c.wday && almField mask 4 a.date c.date && almField mask 5 a.month c.month && almField mask 6 a.year c.year

/-- The time-of-day fields match. -/
def almTime (mask : Nat) (a : Cal) (h m sec : Nat) : Bool :=
  almField mask 0 a.sec sec && almField mask 1 a.min m && almField mask 2 a.hour h

def almMask (x : Nat) (s : State) : Nat := getBits (almCtl x s) 6 0
def almCal (x : Nat) (s : State) : Cal := Cal.ofWords (almLo x s) (almHi x s)

/-- Alarm `x` fires: it raises its event and wakes the node, under the page lock too; in BACKUP only its flag sets (R450,
R75, R76). -/
def almFire (x : Nat) (s : State) : State :=
  let s := if x = 0 then s.put F.rtcStatAlmA 1 else s.put F.rtcStatAlmB 1
  if s.phase = .backup then s
  else
    let s := note 0x080 x 3 [x] s
    if s.flag F.pwrCtlWakeRtc then requestWake 2 x s else s

/-- Evaluate an alarm at a second boundary. -/
def almEval (s : State) (x : Nat) : State :=
  let c := s.cal
  let k := almMask x s
  if getBit (almCtl x s) 31 && almDay k (almCal x s) c && almTime k (almCal x s) c.hour c.min c.sec then almFire x s else s

/-- A counted second boundary: the carry, then both alarms (R444, R450). -/
def secondBoundary (s : State) : State := [0, 1].foldl almEval (secondCarry s)

/-- The order of moments of one day, and of days. -/
def Cal.sod (c : Cal) : Nat := c.hour * 4096 + c.min * 64 + c.sec
def Cal.day (c : Cal) : Nat := c.year * 1024 + c.month * 32 + c.date

/-- The counter passes the time of day h:m:sec on a day that it begins at midnight, or at `lo`: from an hour or a minute
out of range it counts the seconds of that minute, then carries (R444). -/
def Cal.passes (lo : Option Cal) (h m sec : Nat) : Bool :=
  match lo with
  | none => decide (h < 24) && decide (m < 60)
  | some c => if h = c.hour then (if m = c.min then decide (c.sec < sec) else decide (c.min < m) && decide (m < 60))
      else decide (c.hour < h) && decide (h < 24) && decide (m < 60)

/-- Some moment of a day, later than `lo` and no later than `hi`, matches the time-of-day fields. -/
def almWithin (mask : Nat) (a : Cal) (lo : Option Cal) (hi : Nat) : Bool :=
  (List.range 32).any fun h => (List.range 64).any fun m => (List.range 60).any fun sec =>
    almTime mask a h m sec && Cal.passes lo h m sec && decide (h * 4096 + m * 64 + sec ≤ hi)

/-- Some skipped moment after `c` and up to `e` matches (R451): day by day, as the counter would have carried. -/
def almSkipped (g : Bool) (mask : Nat) (a e : Cal) : Nat → Option Cal → Cal → Bool
  | 0, _, _ => false
  | n + 1, lo, c =>
    if e.day < c.day then false
    else
      let hi := if c.day = e.day then e.sod else 32 * 4096
      if almDay mask a c && almWithin mask a lo hi then true
      else if c.day = e.day then false
      else
        let c' := (carryDay g c).1
        if c'.day ≤ c.day then false else almSkipped g mask a e n none c'

/-- Days that 200 years can hold. -/
def maxDays : Nat := 200 * 372

/-- After a release from `t0`: an alarm with CATCHUP fires once when a skipped moment would have matched (R451). -/
def almCatchup (t0 : Cal) (s : State) (x : Nat) : State :=
  let c := almCtl x s
  let e := s.cal
  if getBit c 31 && getBit c 30 && decide ((t0.day, t0.sod) ≠ (e.day, e.sod))
      && almSkipped s.gregorian (almMask x s) (almCal x s) e maxDays (some t0) t0 then
    let s := almFire x s
    let s := if x = 0 then s.put F.rtcStatSkippedA 1 else s.put F.rtcStatSkippedB 1
    if s.phase = .backup then s else note 0x080 (2 + x) 3 [x] s
  else s

/-! Ticks and trim (R441 to R443). -/

/-- The nine bits of `j` reversed. -/
def rev9 (j : Nat) : Nat := (List.range 9).foldl (fun r k => r + b2n (j.testBit k) * 2 ^ (8 - k)) 0

/-- The tick at position `pos` of its window carries a correction (R443). -/
def corrected (pos mag : Nat) : Bool := pos % 8192 == 8191 && decide (rev9 (pos / 8192) < mag)

/-- By how much the prescaler advances on the tick at POS (R442, R441: trim only on LFXO). -/
def State.tickStep (s : State) : Nat :=
  let t := signedOf 10 s.rtc.trim
  if !s.flag F.rtcStatOnLfrc && corrected (s.get F.rtcTrimPosPos) t.natAbs then (if 0 < t then 2 else 0) else 1

/-- TRIM_POS advances; a written TRIM takes effect at the start of a window (R443). -/
def trimAdvance (s : State) : State :=
  let p := (s.get F.rtcTrimPosPos + 1) % 2 ^ 22
  let s := s.put F.rtcTrimPosPos p
  if p = 0 then s.withRtc { s.rtc with trim := s.get F.rtcTrimTrim } else s

/-- The counter stands still. -/
def State.rtcHalted (s : State) : Bool := s.flag F.rtcCtlHalt && !s.rtc.haltPend

/-- One tick while halted (R447). -/
def heldTick (s : State) : State :=
  let s := s.bumpSat F.rtcHaltTicksTicks 1
  if s.get F.rtcHaltTicksTicks = 2 ^ 24 - 1 then s.put F.rtcStatHeldSat 1 else s

/-- The time before the halt: the time now, or the one that a write already replaced (R447, R451). -/
def State.timeBefore (s : State) : Word × Word := s.rtc.haltTime.getD (s.reg 0x080044, s.reg 0x080048)

/-- One tick of the tick source. A halt takes effect at the end of the first tick after its write. -/
def rtcTick (s : State) : State :=
  let n := s.tickStep
  let s := trimAdvance s
  if s.rtcHalted then heldTick s
  else
    let (k, s) := addTicks n s
    let s := if k = 0 then s else secondBoundary s
    if s.rtc.haltPend then
      s.withRtc { s.rtc with haltPend := false, haltTime := some s.timeBefore }
    else s

def execRtcTick (s : State) : Host.Outcome State Fault Refusal := .next (rtcTick s)

/-! Shadows (R446). -/

def State.setShadow (s : State) (h : HostId) (x : Option (Word × Word)) : State :=
  match h with
  | .a => s.withRtc { s.rtc with shadowA := x }
  | .b => s.withRtc { s.rtc with shadowB := x }

/-- A read of TIME_LO captures unless the shadow is held; nothing while the page is locked. -/
def timeLoEffect (h : HostId) (s : State) : State :=
  if s.flag F.pwrStatLockout || (s.shadow h).isSome then s else s.setShadow h (some (s.reg 0x080044, s.reg 0x080048))

/-- A read of TIME_HI releases the shadow. -/
def timeHiEffect (h : HostId) (s : State) : State := if s.flag F.pwrStatLockout then s else s.setShadow h none

/-- A shadow not released is released after 33 LFXO periods. -/
def execShadowReleaseTimeout (host : HostId) (s : State) : Host.Outcome State Fault Refusal := .next (s.setShadow host none)

/-! Halting and releasing (R447, R448). -/

/-- HALT = 1. -/
def rtcHalt (s : State) : State :=
  let s := ((s.put F.rtcCtlHalt 1).put F.rtcHaltTicksTicks 0).put F.rtcStatHeldSat 0
  s.withRtc { s.rtc with haltPend := true, haltTime := none }

/-- A release: the held ticks are added or discarded, TIME_SET, the alarms that were skipped. -/
def rtcRelease (applyHeld : Bool) (s : State) : State :=
  let ticks := s.get F.rtcHaltTicksTicks
  let t0 := s.timeBefore
  let s := (s.put F.rtcCtlHalt 0).withRtc { s.rtc with haltPend := false, haltTime := none }
  let (k, s) := if applyHeld then addTicks ticks s else (0, s)
  let s := secondCarries k s
  let s := s.put F.rtcStatTimeSet 1
  let s := note 0x080 5 3 [t0.1.toNat, t0.2.toNat, (s.reg 0x080044).toNat, (s.reg 0x080048).toNat, ticks, b2n applyHeld] s
  [0, 1].foldl (almCatchup (Cal.ofWords t0.1 t0.2)) s

/-- HALT_FORCED (R448). -/
def haltForced (s : State) : State :=
  if s.flag F.rtcCtlHalt then raise 0x080 6 3 [] (rtcRelease true s) else s

/-- A write of RTC.CTL: HALT acts on a change of its value. -/
def actRtcCtl (h : HostId) (v m : Word) (s : State) : State :=
  let was := s.flag F.rtcCtlHalt
  let s := storeFields h 0x080040 v (m &&& ~~~(bitWord 0)) s
  if !getBit m 0 then s
  else if getBit v 0 && !was then rtcHalt s
  else if !getBit v 0 && was then rtcRelease (s.flag F.rtcCtlApplyHeld) s
  else s

def execRtcHalt (host : HostId) (s : State) : Host.Outcome State Fault Refusal :=
  let v := s.reg 0x080040 ||| bitWord 0
  .next (hostWord host 0x080040 v (actRtcCtl host v) s)

def execRtcRelease (host : HostId) (s : State) : Host.Outcome State Fault Refusal :=
  let v := s.reg 0x080040 &&& ~~~(bitWord 0)
  .next (hostWord host 0x080040 v (actRtcCtl host v) s)

/-- TIME_LO and TIME_HI are written only while HALT reads 1; SUBSEC leaves the prescaler's low bits, and the first write
keeps the time before the halt (R447). -/
def actRtcTime (h : HostId) (a : Nat) (v m : Word) (s : State) : State :=
  if m = 0 then s
  else if s.flag F.rtcCtlHalt then storeFields h a v m (s.withRtc { s.rtc with haltTime := some s.timeBefore })
  else accessFault 0x080 0x31 s

/-- TRIM: −512 is refused (R443). -/
def actRtcTrim (h : HostId) (v m : Word) (s : State) : State :=
  if m = 0 then s
  else if getBits v 9 0 = 0x200 then accessFault 0x080 0x33 s
  else storeFields h 0x080054 v m s

/-! The oscillator-stopped flag (R449). -/

def setOsf (s : State) : State :=
  let s := (s.put F.rtcStatOsf 1).put F.rtcStatTimeSet 0
  note 0x080 4 4 [] s

/-- A write of STAT: ALM_x and SKIPPED_x clear by writing 1, OSF only while TIME_SET = 1. -/
def actRtcStat (v m : Word) (s : State) : State :=
  let x := v &&& m
  let s := s.setReg 0x08004C (s.reg 0x08004C &&& ~~~(x &&& 0xF))
  if getBit x 31 then
    (if s.flag F.rtcStatTimeSet then s.put F.rtcStatOsf 0 else accessFault 0x080 0x32 s)
  else s

/-- The word that writes 1 to OSF and leaves the RO fields of STAT as they read (R10). -/
def osfWord (h : HostId) (s : State) : Word := bitWord 31 ||| (readReg h 0x08004C s &&& 0x70000000)

def execOsfClear (host : HostId) (s : State) : Host.Outcome State Fault Refusal :=
  .next (hostWord host 0x08004C (osfWord host s) (actRtcStat (osfWord host s)) s)

/-! The page lock of R60. -/

/-- The registers whose values the locked page holds. -/
def rtcAddrs : List Nat := (List.range 32).map fun k => 0x080000 + 4 * k

/-- VDD33 falls below the lockout level. -/
def rtcLock (s : State) : State :=
  let s := haltForced s
  s.withPwr { s.pwr with rtcFrozen := rtcAddrs.filterMap fun a =>
    if (regRow a).isSome then some (a, if a = 0x080044 ∨ a = 0x080048 then s.reg a else readReg .a a s) else none }

/-- The lock is released. -/
def rtcUnlock (s : State) : State := s.withPwr { s.pwr with rtcFrozen := [] }

end Sys2Proof.Machine
end

