-- ==== Sys2Proof/Machine/Ports.lean ====
section
/-!
DEFINITION. The crossing ports (R318 to R328, R350): port states, the SYNC exchange, hop acknowledgements and
retransmission, PHY management.
-/

namespace Sys2Proof.Machine

def xpPage (n : Nat) : Nat := 0x060 + n

def State.xpState (s : State) (n : Nat) : Nat := s.get (F.xpStatState.page n)

def allPorts : List Nat := [0, 1, 2, 3]

/-- A port may be enabled: in service, out of STANDBY, its PLL locked, the PHYs out of reset (R68, R75, R320). -/
def State.xpMay (s : State) (n : Nat) : Bool :=
  s.configured && !s.standby && s.pageEn (xpPage n) && s.flag F.clkStatPllLnkLock && (!s.pwr.phyReset || s.flag F.xnetCtlPhyHold)
    && !s.flag (F.hdrPageCtlBlkRst.page (xpPage n))

/-- A port goes into a state that carries no traffic: its frames are discarded, its hop sequences start over, and a
fault code of the state it leaves ends (R321, R328, R350). -/
def portTo (n st : Nat) (s : State) : State :=
  let s := s.setXport n { s.xport n with unacked := [], retried := false, resent := 0, syncRx := false, syncAck := false, loadSeen := false, noted := (s.xport n).noted && st != 0 }
  let s := (s.put (F.xpHseqRxNext.page n) 0).put (F.xpHseqTxNext.page n) 0
  (s.put (F.xpStatState.page n) st).setLasting (xpPage n) (if st = 4 then 0x40 else if st = 5 then 0x41 else 0)

/-- The link of a port is down: PHY_DOWN, with DOWN when it was UP (R321). -/
def portDown (n : Nat) (s : State) : State :=
  let was := s.xpState n
  if was = 0 ∨ was = 1 then s
  else
    let s := portTo n 1 s
    if was = 3 then raise (xpPage n) 1 4 [n] s else s

/-- A port is enabled. -/
def portEnable (n : Nat) (s : State) : State := if s.xpMay n && s.xpState n == 0 then portTo n 1 s else s

/-- A port is disabled. -/
def portDisable (n : Nat) (s : State) : State :=
  if s.xpState n = 0 then s
  else ((portTo n 0 (portDown n s)).put (F.xpStatPhyLink.page n) 0).put (F.xpStatSpeed1g.page n) 0

def portsEnable (s : State) : State := allPorts.foldl (fun s n => portEnable n s) s
def portsDisable (s : State) : State := allPorts.foldl (fun s n => portDisable n s) s

/-- The port restarts in PHY_DOWN (R350). -/
def portRestart (n : Nat) (s : State) : State :=
  if s.xpMay n then
    portTo n 1 (((portDown n s).put (F.xpStatPhyLink.page n) 0).setXport n { (portDown n s).xport n with refused := false })
  else portDisable n s

/-! PHY management (R319). -/

/-- The highest full-duplex rate common to registers 4, 5, 9 and 10: 2 = 1 Gbit/s, 1 = 100 Mbit/s, 0 = none (R319;
the bits are those of IEEE 802.3 Clause 22, log entry 31). -/
def phyRate (p : PhyRegs) : Nat :=
  if p.r9.toNat.testBit 9 && p.r10.toNat.testBit 11 then 2
  else if p.r4.toNat.testBit 8 && p.r5.toNat.testBit 8 then 1
  else 0

/-- The speed a port takes from its PHY: none while negotiation runs, 0 = never brought up, whatever SPEED asks for: a
link that negotiation has resolved to half duplex or 10 Mbit/s. -/
def State.phySpeed (s : State) (n : Nat) (p : PhyRegs) : Option Nat :=
  match s.get (F.xpCtlSpeed.page n) with
  | 0 => if p.r1.toNat.testBit 5 then some (phyRate p) else none
  | k => if p.r1.toNat.testBit 5 && phyRate p == 0 then some 0 else some k

/-- The node reads registers 1, 4, 5, 9 and 10 of the port's PHY, at its address in CTL.PHYAD (R319). -/
def phyReads (n : Nat) (s : State) : State :=
  s.withOut (s.out ++ [1, 4, 5, 9, 10].map fun r => .mdio false (s.get (F.xpCtlPhyad.page n)) r 0)

/-- One poll of a port's PHY (R319, R321); a port whose PHY shows no link from its enabling on reports it once (R40). -/
def phyPoll (n : Nat) (p : PhyRegs) (s : State) : State :=
  if s.xpState n = 0 then s
  else
    let s := phyReads n s
    if !p.r1.toNat.testBit 2 then
      let s := (portDown n s).put (F.xpStatPhyLink.page n) 0
      let first := !(s.xport n).noted
      let s := s.setXport n { s.xport n with refused := false, noted := true }
      if first then raise (xpPage n) 1 4 [n] s else s
    else
      let s := (s.put (F.xpStatPhyLink.page n) 1).setXport n { s.xport n with noted := true }
      match s.phySpeed n p with
      | none => s
      | some 0 =>
        let s := portDown n s
        if (s.xport n).refused then s else raise (xpPage n) 5 4 [n] (s.setXport n { s.xport n with refused := true })
      | some k =>
        let s := if s.get (F.xpStatSpeed1g.page n) ≠ k - 1 ∧ s.xpState n ≠ 1 then portDown n s else s
        let s := s.put (F.xpStatSpeed1g.page n) (k - 1)
        if s.xpState n = 1 then portTo n 2 s else s

def execPhyPoll (port : BitVec 2) (phy : PhyRegs) (s : State) : Host.Outcome State Fault Refusal := .next (phyPoll port.toNat phy s)

/-- CLKO25 runs: HFXO does, CLKO25_EN is set, and the pin is neither held low by STANDBY nor without supply (R36, R71). -/
def State.clko25Runs (s : State) : Bool :=
  s.flag F.clkStatHfxoRun && s.flag F.clkCtlClko25En && !s.standby && s.phase != .backup && s.phase != .testHold

/-- XPHY_RST_N is released, 10 ms after CLKO25 runs (R320, R75 step 5). -/
def phyRelease (s : State) : State :=
  if s.clko25Runs && !s.standby && s.configured && !s.flag F.xnetCtlPhyHold then
    portsEnable (s.withPwr { s.pwr with phyReset := false })
  else if s.flag F.xnetCtlPhyHold then portsEnable s
  else s

def execPhyResetRelease (s : State) : Host.Outcome State Fault Refusal := .next (phyRelease s)

/-- XNET.CTL: PHY_HOLD drives XPHY_RST_N low (R351). -/
def actXnetCtl (h : HostId) (v m : Word) (s : State) : State :=
  let s := storeFields h 0x064068 v m s
  if s.flag F.xnetCtlPhyHold then s.withPwr { s.pwr with phyReset := true } else s

/-- The access of XNET.MDIO goes out on XMDC and XMDIO (R319). -/
def mdioDrive (s : State) : State :=
  s.withOut (s.out ++ [.mdio (s.flag F.xnetMdioWrite) (s.get F.xnetMdioPhyad) (s.get F.xnetMdioRegad) (s.get F.xnetMdioData)])

/-- XMDC and XMDIO are held: unconfigured and in STANDBY (R36). -/
def State.mdioHeld (s : State) : Bool := !s.configured || s.standby

/-- An access that STANDBY held goes out at its exit (DESIGN CHOICE, log entry 31). -/
def mdioResume (s : State) : State := if s.flag F.xnetMdioGo && !s.mdioHeld then mdioDrive s else s

/-- XNET.MDIO: GO starts an access; a write while GO reads 1 is ignored with code 0x31 (R351). While the pins are held
the access waits, GO reading 1 (DESIGN CHOICE, log entry 31). -/
def actMdio (h : HostId) (v m : Word) (s : State) : State :=
  if s.flag F.xnetMdioGo then (if s.isOwner h then accessFault 0x064 0x31 s else s)
  else
    let s := storeFields h 0x064070 v m s
    if getBit (v &&& m) 31 then mdioResume (s.put F.xnetMdioGo 1) else s

def execMdioAccess (host : HostId) (value : Word) (s : State) : Host.Outcome State Fault Refusal :=
  .next (hostWord host 0x064070 value (actMdio host value) s)

/-- The access completes. -/
def mdioComplete (data : BitVec 16) (s : State) : State :=
  if s.flag F.xnetMdioGo && !s.mdioHeld then
    let s := s.put F.xnetMdioGo 0
    raise 0x064 17 3 [] (if s.flag F.xnetMdioWrite then s else s.put F.xnetMdioData data.toNat)
  else s

def execMdioComplete (data : BitVec 16) (s : State) : Host.Outcome State Fault Refusal := .next (mdioComplete data s)

/-! Hop-acknowledgement frames (R324, R326) and the SYNC exchange (R321). -/

/-- A hop-ack naming `hseq`; with SYNC in the exchange, and PARTITIONED while Split (R321, R323, R342). -/
def hopAck (n hseq : Nat) (sync : Bool) (s : State) : State :=
  let body := leBytes 2 hseq ++ leBytes 1 n ++ List.replicate 11 0
  let f : XFrame := ⟨0x08, s.frameFlags false false + 8 * b2n sync, s.nodeId, 0, s.epoch, 0, 0, 0, body⟩
  s.withOut (s.out ++ [.frame n (f.bytes n s.nodeId 0)])

def execSyncSend (port : BitVec 2) (s : State) : Host.Outcome State Fault Refusal :=
  .next (if s.xpState port.toNat = 2 then hopAck port.toNat 0 true s else s)

/-- The port that port `n` must face (R321). -/
def facing (n : Nat) : Nat := if n % 2 = 0 then n + 1 else n - 1

/-- The node becomes passive, and no census master, its rounds over: another node has its ID (R336). -/
def nidClash (s : State) : State :=
  if s.flag F.xnetStatPassive then s
  else
    let s := s.withXnet { s.xnet with ringP := { s.xnet.ringP with round := none }, ringS := { s.xnet.ringS with round := none } }
    raise 0x064 16 4 [s.nodeId] (((s.put F.xnetStatPassive 1).put F.xnetStatMasterP 0).put F.xnetStatMasterS 0)

/-- The exchange completes: the port is UP with the neighbour recorded (R321). -/
def portUpNow (n node port : Nat) (s : State) : State :=
  let known := s.flag (F.xpStatNeighValid.page n)
  let other := s.get (F.xpStatNeighNode.page n) ≠ node ∨ s.get (F.xpStatNeighPort.page n) ≠ port
  let s := ((s.put (F.xpStatNeighValid.page n) 1).put (F.xpStatNeighNode.page n) node).put (F.xpStatNeighPort.page n) port
  let s := raise (xpPage n) 0 4 [node, port] (portTo n 3 s)
  let s := if known ∧ other then raise (xpPage n) 4 4 [node, port] s else s
  xpump s.ord.xq.length s

/-- Both halves of the exchange are there. -/
def syncCheck (n node port : Nat) (s : State) : State :=
  if (s.xport n).syncRx && (s.xport n).syncAck then portUpNow n node port s else s

/-- A SYNC frame arrives (R321, R336). -/
def syncReceive (n : Nat) (f : RxFrame) (s : State) : State :=
  let port := leAt f.frame.body 2 1
  let s := if f.frame.origin = s.nodeId then nidClash s else s
  if s.xpState n ≠ 2 then s
  else if port ≠ facing n then raise (xpPage n) 3 4 [f.frame.origin, port] (portTo n 5 s)
  else
    let s := hopAck n 0 false s
    syncCheck n f.frame.origin port (s.setXport n { s.xport n with syncRx := true })

/-! Epochs heard (R341). -/

/-- The event of an epoch that has wrapped from what it was (R341). -/
def epochTold (was : Nat) (s : State) : State := if s.epoch < was ∧ laterMod 16 s.epoch was then raise 0x064 5 4 [] s else s

/-- A new epoch; a wrap raises EPOCH_WRAP. -/
def setEpoch (e : Nat) (s : State) : State := epochTold s.epoch (s.put F.xnetEpochEpoch e)

/-- An epoch in a header or summary received (R341). -/
def noteEpoch (e : Nat) (s : State) : State :=
  s.withXnet { s.xnet with epochs := (s.xnet.epochs.filter fun x => x.1 != e) ++ [(e, 0)] }

/-- A header or summary of `node` carries an epoch: it is remembered, and the head's is adopted. -/
def heardEpoch (node e : Nat) (s : State) : State :=
  let s := noteEpoch e s
  if node = s.get F.xnetStatHead ∧ node ≠ s.nodeId then setEpoch e s else s

/-- A frame that R322 discards. -/
def badFrame (n : Nat) (s : State) : State := s.bumpSat (F.xpErrcntFcs.page n) 1

/-- A frame whose length does not match its class (R324). -/
def badLength (n : Nat) (s : State) : State := s.bumpSat (F.xpErrcntDiscard.page n) 1

/-- 32 tide ticks after a lasting fault the port returns to SYNCING (R321). -/
def execFaultyRecovery (port : BitVec 2) (s : State) : Host.Outcome State Fault Refusal :=
  let n := port.toNat
  .next (if s.xpState n = 4 ∧ 32 ≤ s.since (s.xport n).faultAt then portTo n 2 s else s)

/-- `a` is `b` or earlier modulo 2^16 (R326). -/
def hseqLe (a b : Nat) : Bool := decide ((b + 2 ^ 16 - a % 2 ^ 16) % 2 ^ 16 < 2 ^ 15)

/-- A hop-ack acknowledges its HSEQ and every earlier frame; in SYNCING it answers the SYNC frame (R326, R327). -/
def hopAcked (n : Nat) (r : RxFrame) (s : State) : State :=
  match s.xpState n with
  | 2 => syncCheck n r.frame.origin (leAt r.frame.body 2 1) (s.setXport n { s.xport n with syncAck := true })
  | 3 =>
    let ack := leAt r.frame.body 0 2
    let p := s.xport n
    let left := p.unacked.filter fun x => !hseqLe x.1 ack
    if left.length = p.unacked.length then s
    else
      let gone := p.unacked.length - left.length
      let s := s.setXport n { p with unacked := left, retried := false, resent := p.resent - gone, loadSeen := p.loadSeen && decide (portQueueMax ≤ left.length) }
      let s := if p.retried then transient (xpPage n) s else s
      xpump s.ord.xq.length s
  | _ => s

/-- A frame of class 0x08 of another length than its class has (R322, R324). -/
def hopBadLength (n : Nat) (s : State) : State := if s.xpState n = 0 then s else badLength n s

/-- A SYNC frame: its header's epoch is heard (R341). -/
def syncRx (n : Nat) (r : RxFrame) (s : State) : State :=
  if !r.frame.lenOk then hopBadLength n s else syncReceive n r (heardEpoch r.frame.origin r.frame.epoch s)

/-- A hop-ack frame: its header's epoch is heard (R341). -/
def hopAckRx (n : Nat) (r : RxFrame) (s : State) : State :=
  if !r.frame.lenOk then hopBadLength n s else hopAcked n r (heardEpoch r.frame.origin r.frame.epoch s)

def execSyncReceive (port : BitVec 2) (frame : List Byte) (s : State) : Host.Outcome State Fault Refusal :=
  .next (match parseFrame frame with
    | none => if s.xpState port.toNat = 0 then s else badFrame port.toNat s
    | some r => if r.frame.cls = 0x08 ∧ r.frame.sync then syncRx port.toNat r s else s)

def execHopAckReceive (port : BitVec 2) (frame : List Byte) (s : State) : Host.Outcome State Fault Refusal :=
  .next (match parseFrame frame with
    | none => if s.xpState port.toNat = 0 then s else badFrame port.toNat s
    | some r => if r.frame.cls = 0x08 ∧ !r.frame.sync then hopAckRx port.toNat r s else s)

/-- The oldest unacknowledged frame that has not been sent again, and every later one, are, in order, each once in its
life (R327, R365). -/
def hopRetransmit (n : Nat) (s : State) : State :=
  let p := s.xport n
  let again := p.unacked.drop p.resent
  if s.xpState n = 3 ∧ again ≠ [] then
    let s := (s.setXport n { p with retried := true, resent := p.unacked.length }).bumpWrap (F.xpTxcntCount.page n) again.length
    s.withOut (s.out ++ again.map fun x => .frame n (x.2.bytes n s.nodeId x.1))
  else s

def execHopRetransmit (port : BitVec 2) (s : State) : Host.Outcome State Fault Refusal := .next (hopRetransmit port.toNat s)

/-- A lasting hop fault: the oldest unacknowledged frame has had its retransmission (R328). -/
def hopLasting (n : Nat) (s : State) : State :=
  let p := s.xport n
  if s.xpState n = 3 ∧ p.unacked ≠ [] ∧ 0 < p.resent then
    let s := portTo n 4 (lastingFault (xpPage n) s)
    let s := raise (xpPage n) 2 4 [n] (s.setXport n { s.xport n with faultAt := s.now })
    xpump s.ord.xq.length s
  else s

def execHopLastingFault (port : BitVec 2) (s : State) : Host.Outcome State Fault Refusal := .next (hopLasting port.toNat s)

/-! The commit of an XP page (R350). -/

def xpRefused (n : Nat) (s : State) : Bool := s.getAfter (F.xpCtlSpeed.page n) == 3

def xpCommit (n : Nat) (s : State) : State :=
  let p := xpPage n
  if !s.flag (F.hdrPageCommitCommit.page p) then s
  else if xpRefused n s then commitRefused p 0x30 s
  else
    let before := s.reg (0x060040 + 0x1000 * n)
    let s := commitTaken p s
    if s.reg (0x060040 + 0x1000 * n) = before then s else portRestart n s

end Sys2Proof.Machine
end

