-- ==== Sys2Proof/Machine/Commit.lean ====
section
/-!
DEFINITION. The clocks that what is enabled needs (R18, R66, R72), and commits by page: the checks a block
makes of its staged set, and what happens at its quiet point (R97, R139, R161, R170, R175, R179, R255, R288,
R293, R317, R350, R468).
-/

namespace Sys2Proof.Machine

/-! Which clocks are needed (R18, R66, R72). -/

def State.anyPortEn (s : State) : Bool := allPorts.any fun n => s.pageEn (xpPage n)
def State.anySegEn (s : State) : Bool := fbSegs.any fun n => s.pageEn (fbPage n)

/-- STATE reads ACTIVE (R78). -/
def State.active (s : State) : Bool := decide (s.get F.pwrStatState = 0)

/-- HFXO is required (R66). -/
def State.hfxoNeeded (s : State) : Bool :=
  !s.standby && (s.active || s.anyPortEn || s.anySegEn || s.flag F.clkCtlHfxoKeep)

/-- Every loop is unlocked and the engine on FRC. -/
def pllsOff (s : State) : State :=
  ((((s.put F.clkStatPllEngLock 0).put F.clkStatPllLnkLock 0).put F.clkStatPllBusLock 0).put F.clkStatPllAfeLock 0).put
    F.clkStatEngOnPll 0

/-- HFXO stops, and with it every loop; the panel goes over to LF timing (R455). -/
def hfxoStop (s : State) : State := panelLf (pllsOff (s.put F.clkStatHfxoRun 0))

/-- HFXO and the loops follow what is enabled (R18, R66, R68). -/
def clockFollow (s : State) : State :=
  let s := if s.flag F.clkStatHfxoFail then s else if s.hfxoNeeded then hfxoStart s else hfxoStop s
  let s := if s.anyPortEn then s else s.put F.clkStatPllLnkLock 0
  if s.anySegEn then s else s.put F.clkStatPllBusLock 0

/-- Scanning loses its clock: slots are discarded and every channel reports STALE (R66, R68, R156, R160). -/
def scanLost (s : State) : State := staleAll (abandonSlots s)

/-! Commits. -/

/-- The commit of a page would be refused on the values as it would leave them; of LIN's bindings only the words
that the settings name count as staged (R170). -/
def pageRefused (page : Nat) (named : Nat → Bool) (s : State) : Bool :=
  if 0x010 ≤ page ∧ page < 0x030 then groupRefused (page - 0x010) s
  else if 0x050 ≤ page ∧ page < 0x058 then fbRefused (page - 0x050) s
  else if 0x060 ≤ page ∧ page < 0x064 then xpRefused (page - 0x060) s
  else match page with
    | 0x031 => (List.range 256).any fun c => named (0x031400 + 4 * c) && bindRefused c s
    | 0x032 => (List.range 16).any fun n => repRefused n s
    | 0x033 => (List.range 16).any fun k => doRefused k s
    | 0x043 => callRefused s
    | 0x058 => (sailBad s).isSome
    | 0x088 => lanRefused s
    | _ => false

/-- A segment's commit acts at once where the segment takes no part on the bus. DESIGN CHOICE (log entry 46): whether
the bus is idle at the write is outside the model, so elsewhere the commit waits for COMMIT_APPLY, for the end of a
frame or for 11 recessive bits (R293). -/
def fbCommitNow (n : Nat) (s : State) : State :=
  if !s.fbLive n || s.asleep n || decide (2 ≤ s.estate n) then fbCommit n s else s

/-- A pending commit acts at once where the block is at its quiet point at the moment of the commit. -/
def commitNow (page : Nat) (s : State) : State :=
  if 0x010 ≤ page ∧ page < 0x030 then
    (if (s.grp (page - 0x010)).slot.isNone then afgCommit (page - 0x010) s else s)
  else if 0x050 ≤ page ∧ page < 0x058 then fbCommitNow (page - 0x050) s
  else if 0x060 ≤ page ∧ page < 0x064 then xpCommit (page - 0x060) s
  else match page with
    | 0x031 => if s.linQuiet then linCommit s else s
    | 0x032 => repCommitAt ((List.range 16).filter fun n => s.get (F.repCfgMode.idx n) == 0 || s.repDead) s
    | 0x033 => s
    | 0x040 | 0x041 | 0x042 | 0x043 | 0x044 | 0x048 => s
    | 0x058 => sailCommitAt s.sailQuiet s
    | 0x088 => lanQuiet s
    | _ => if s.flag (F.hdrPageCommitCommit.page page) then commitTaken page s else s

/-- The commits whose quiet point is the end of the engine pass (R179, R215, R255, R288). -/
def passCommits (s : State) : State :=
  let s := callCommit (dioCommit s)
  [0x040, 0x041, 0x042, 0x044, 0x048].foldl (fun s p =>
    if s.flag (F.hdrPageCommitCommit.page p) then commitTaken p s else s) s

/-- COMMIT sets; an FB page notes the tick (R97, R293). -/
def startCommit (page : Nat) (s : State) : State :=
  let s := s.put (F.hdrPageCommitCommit.page page) 1
  let s := if 0x050 ≤ page ∧ page < 0x058 then s.setSeg (page - 0x050) { s.seg (page - 0x050) with commitAt := s.now } else s
  commitNow page s

end Sys2Proof.Machine
end

