-- ==== Sys2Proof/Machine/Images.lean ====
section
/-!
DEFINITION. Base images and timetables as bytes: their layouts (R262 to R265, R274, R275, R349), their validation
(R266), the configuration they make (R264, R273, R276, R277), and the NOR they stand in.
-/

namespace Sys2Proof.Machine

/-! NOR (R262, R55, R56). -/


/-- Erase a range: what is read back later is what is programmed then. -/
def norErase (a n : Nat) (s : State) : State :=
  let s := s.withTt { s.tt with norBad := s.tt.norBad.filter fun b => decide (b < a) || decide (a + n ≤ b) }
  s.withNor (s.nor.filter fun c => decide (c.1 < a) || decide (a + n ≤ c.1))

/-- Carry out a write or an erase of NOR. -/
def norDo (o : NorOp) (s : State) : State :=
  match o with
  | .write a bs => s.setNorBytes a bs
  | .erase a n => norErase a n s

/-- A write or an erase of NOR: at once, or held while the gate is closed (R55). -/
def norQueue (o : NorOp) (s : State) : State :=
  if s.gateClosed || !s.tt.norHeld.isEmpty then s.withTt { s.tt with norHeld := s.tt.norHeld ++ [o] } else norDo o s

/-- A NOR write: at once, or held while the gate is closed. -/
def norWrite (a : Nat) (bs : List Byte) (s : State) : State := norQueue (.write a bs) s

/-- What the gate held is carried out, in its original order (R56). -/
def norFlush (s : State) : State := s.tt.norHeld.foldl (fun s o => norDo o s) (s.withTt { s.tt with norHeld := [] })

def copyBase (k : Nat) : Nat := 0xC00000 * k
def storeBase (b slot : Nat) : Nat := 0x1800000 + 0x100000 * b + 0x10000 * slot

/-- Copies A and B of a safety configuration slot (R404). -/
def safeCopy (b slot : Nat) : Nat := 0x1A00000 + 0x80000 * b + 0x10000 * slot

/-- Where a copy or slot stands (R262, R404). -/
def regionBase : NorRegion → Nat
  | .image two => copyBase (b2n two)
  | .store b slot => storeBase (b2n b) slot.toNat
  | .safe b slot => safeCopy (b2n b) slot.toNat

/-- The copy or slot at a base address cannot be read: a read and its return trip fail (R262). -/
def State.norFails (s : State) (a : Nat) : Bool := s.tt.norBad.contains a

/-- The page that counts the return trips of a read (R366). -/
def norPage (a : Nat) : Nat := if 0x1A00000 ≤ a then 0x070 else 0x048

/-- A read has failed for good: the copy or slot is bad from now on, and the page counts it (R262, R365). -/
def noteNorBad (as : List Nat) (s : State) : State :=
  as.foldl (fun s a => if s.norFails a then s
    else lastingFault (norPage a) (s.withTt { s.tt with norBad := s.tt.norBad ++ [a] })) s

/-- A copy or slot is read: the return trip and its end (R262, R365). -/
def norRead (a : Nat) (o : NorRead) (s : State) : State :=
  match o with
  | .ok => s
  | .retryOk => transient (norPage a) s
  | .bad => noteNorBad [a] s

/-! The base image (R263 to R265). -/

def imgMax : Nat := 12582912

def imgLength (bs : List Byte) : Nat := leAt bs 0x08 4
def imgSerial (bs : List Byte) : Nat := leAt bs 0x0C 4
def imgFlags (bs : List Byte) : Nat := leAt bs 0x06 2
def imgKeySlot (bs : List Byte) : Nat := leAt bs 0x12 1
def imgPowerup (bs : List Byte) : Nat := leAt bs 0x13 1
def imgNSect (bs : List Byte) : Nat := leAt bs 0x14 1

/-- The image in a copy of NOR: its header's LENGTH of bytes, or the header alone where that is out of range. -/
def State.norImage (s : State) (copy : Nat) : List Byte :=
  let h := s.norBytes (copyBase copy) 64
  let n := imgLength h
  if 128 ≤ n ∧ n ≤ imgMax then s.norBytes (copyBase copy) n else h

/-- A directory entry (R264). -/
structure Section where
  ty : Nat
  zero : Nat
  off : Nat
  len : Nat
  crc : Nat
deriving DecidableEq, Repr

def imgDir (bs : List Byte) : List Section :=
  (List.range (imgNSect bs)).map fun k =>
    let a := 0x40 + 16 * k
    ⟨leAt bs a 2, leAt bs (a + 2) 2, leAt bs (a + 4) 4, leAt bs (a + 8) 4, leAt bs (a + 12) 4⟩

/-- The bytes of a section; none when it is absent. -/
def imgSection (bs : List Byte) (ty : Nat) : Option (List Byte) :=
  ((imgDir bs).find? fun d => d.ty == ty).map fun d => slice bs d.off d.len

/-- Words of a section. -/
def sectWords (bs : List Byte) : List Word := bytesWords (bs.length / 4) bs

/-- The runs of a manifest section: first index, count, offset of the records; none when they are malformed
(R264). -/
def imgRuns (bs : List Byte) : Nat → Nat → Nat → Option (List (Nat × Nat × Nat))
  | 0, _, _ => none
  | n + 1, off, lo =>
    if off = bs.length then some []
    else
      let first := leAt bs off 4
      let count := leAt bs (off + 4) 4
      if bs.length < off + 8 ∨ first < lo ∨ 131072 < first + count ∨ bs.length < off + 8 + 64 * count then none
      else (imgRuns bs n (off + 8 + 64 * count) (first + count)).map ((first, count, off + 8) :: ·)

def manifestRuns (bs : List Byte) : Option (List (Nat × Nat × Nat)) := imgRuns bs (bs.length + 1) 0 0

/-- The settings of section 0x0007 are well formed (R349). -/
def crossingOk (bs : List Byte) : Bool :=
  bs.length == 16 && decide (leAt bs 0 1 < 4) && decide (leAt bs 1 1 < 16)
    && (allPorts.all fun n => (leAt bs 2 1 >>> (2 * n)) % 4 != 3 && decide (leAt bs (4 + n) 1 < 32)) && leAt bs 8 8 == 0

/-- The form of a section by its type; any other type is unknown. -/
def sectionOk (bs : List Byte) (d : Section) : Bool :=
  let c := slice bs d.off d.len
  match d.ty with
  | 1 => (manifestRuns c).isSome
  | 2 => d.len % 1024 == 0
  | 3 => d.len % 8 == 0
  | 4 => d.len == 16384
  | 5 => d.len == 65536
  | 6 => d.len == 8192
  | 7 => crossingOk c
  | _ => false

/-- Two sections do not overlap. -/
def apart (x y : Section) : Bool := decide (x.off + x.len ≤ y.off) || decide (y.off + y.len ≤ x.off)

def apartAll : List Section → Bool
  | [] => true
  | d :: ds => (ds.all fun e => apart d e && d.ty != e.ty) && apartAll ds

def authOf (flags : Nat) : Bool := flags.testBit 0

/-- Check 7 for a base image. -/
def imgHeaderBad (bs : List Byte) : Bool :=
  let fl := imgFlags bs
  let nid := leAt bs 0x10 2
  let n := imgNSect bs
  let stop := imgLength bs - 4 - 32 * b2n (authOf fl)
  decide (4 ≤ fl) || decide (1024 ≤ nid) || (!fl.testBit 1 && nid != 0) || decide (7 < imgKeySlot bs)
    || (!authOf fl && imgKeySlot bs != 0) || decide (15 < imgPowerup bs) || n == 0 || decide (7 < n)
    || leAt bs 0x15 11 != 0 || decide (stop < 0x40 + 16 * n)
    || ((imgDir bs).any fun d => d.zero != 0 || decide (d.off < 0x40 + 16 * n) || decide (stop < d.off + d.len) || !sectionOk bs d)
    || !apartAll (imgDir bs) || !(imgDir bs).any (·.ty == 1)

/-- The bits of a register word whose reset value comes from the configuration (R264). -/
def configMask (a : Nat) : Word :=
  (regFields a).foldl (fun m f => if f.config then m ||| fieldMask f else m) 0

/-- A register-settings entry is allowed (check 9). -/
def entryOk (w v : Word) : Bool :=
  let a := w.toNat
  let m := configMask a
  decide (a < 2 ^ 24) && a % 4 == 0 && m != 0 && v &&& ~~~m == 0

/-- The entries of section 0x0003. -/
def imgEntries (bs : List Byte) : List (Word × Word) :=
  let c := (imgSection bs 3).getD []
  (List.range (c.length / 8)).map fun k => (BitVec.ofNat 32 (leAt c (8 * k) 4), BitVec.ofNat 32 (leAt c (8 * k + 4) 4))

/-! The configuration (R87, R264). -/

/-- Every register word with some of its fields at their reset values. -/
def resetRegs (sel : FieldRow → Bool) (m : List (Nat × Word)) : List (Nat × Word) :=
  m.foldl (fun l x =>
    let mask := (regFields x.1).foldl (fun k f => if sel f then k ||| fieldMask f else k) (0 : Word)
    Sparse.set regDefault l x.1 ((x.2 &&& ~~~mask) ||| (regDefault x.1 &&& mask))) []

/-- No configuration: its register fields at their reset values, and nothing in the configured memories. -/
def clearConfig (s : State) : State :=
  let s := s.withRegs (resetRegs FieldRow.config s.regs)
  let s := s.withWin (s.win.filter fun c =>
    !(decide (0x400000 ≤ c.1) && decide (c.1 < 0xC00000)) && !(decide (0xF00000 ≤ c.1) && decide (c.1 < 0xF11000))
      && decide (c.1 < 0x1000000) && !(decide (0xC40000 ≤ c.1) && decide (c.1 < 0xD40000)))
  let s := s.withEng { s.eng with groupCfg := [] }
  (s.withAfe { s.afe with curves := [], load := none }).withTt { s.tt with image := [] }

/-- The port settings of section 0x0007 (R349). -/
def applyCrossing (bs : List Byte) (s : State) : State :=
  allPorts.foldl (fun s n =>
    let s := s.putFlag (F.hdrPageCtlEn.page (xpPage n)) ((leAt bs 1 1).testBit n)
    let s := s.put (F.xpCtlSpeed.page n) (leAt bs 2 1 >>> (2 * n))
    let s := s.putFlag (F.xpCtlTxdly.page n) ((leAt bs 3 1).testBit n)
    let s := s.putFlag (F.xpCtlRxdly.page n) ((leAt bs 3 1).testBit (4 + n))
    s.put (F.xpCtlPhyad.page n) (leAt bs (4 + n) 1))
    ((s.put F.xnetCfgCallcap (leAt bs 0 1)).put F.xnetCfgRemoteCfg (leAt bs 0 1 / 2))

/-- The user curves of section 0x0002. -/
def imgCurves (bs : List Byte) : List (List Byte) :=
  let c := (imgSection bs 2).getD []
  (List.range (c.length / 1024)).map fun k => slice c (1024 * k) 1024

/-- Load one curve record (R168). -/
def applyCurve (bs : List Byte) (s : State) : State :=
  let c : Curve := bytesWords 256 bs
  let s := s.setWinBytes (curveAddr (c.id % 0x400)) bs
  s.withAfe { s.afe with curves := Sparse.set (fun _ => []) s.afe.curves (c.id % 0x400) (if c.nBands = 0 then [] else c) }

/-- The defaults of R256 and R261, for words that no settings entry of the image names (DESIGN CHOICE of when a default
applies, log entry 103). -/
def callDefaults (s : State) : State :=
  let s := (s.put F.callDmTimePrewarn 180).put F.callDmTimeLimit 1620
  (List.range 15).foldl (fun s i =>
    let k := i + 1
    let s := (s.put (F.callClassMinPrio.idx k) 1).put (F.callClassT1.idx k) 120
    (s.put (F.callClassHiAttend.idx k) 600).put (F.callClassHiT2.idx k) 120) s

/-- Bytes of the sailing window that read as zero or that only the node writes: section 5 loads the others (R294,
R295). -/
def sailFixed (i : Nat) : Bool :=
  let off := i % 0x2000
  (decide (4 ≤ off) && decide (off < 0x080)) || decide (0x1F00 ≤ off)
    || (decide (0x900 ≤ off) && decide ((off - 0x900) % 0x58 / 4 = 3))

/-- The configuration of an image on a state with none (R264, R349). -/
def applyImage (bs : List Byte) (s : State) : State :=
  let s := callDefaults (s.withTt { s.tt with image := bs })
  let s := (imgEntries bs).foldl (fun s e =>
    let m := configMask e.1.toNat
    s.setReg e.1.toNat ((s.reg e.1.toNat &&& ~~~m) ||| (e.2 &&& m))) s
  let man := (imgSection bs 1).getD []
  let s := ((manifestRuns man).getD []).foldl (fun s r => s.setWinBytes (manAddr r.1) (slice man r.2.2 (64 * r.2.1))) s
  let s := (imgCurves bs).foldl (fun s c => applyCurve c s) s
  let grp := sectWords ((imgSection bs 4).getD [])
  let s := s.withEng { s.eng with groupCfg := Sparse.setRange (fun _ => 0) [] 0 (grp.map fun w => w.toNat % 8) }
  let s := match imgSection bs 5 with
    | some c => s.setWinBytes 0xF00000 (c.mapIdx fun i b => if sailFixed i then 0 else b)
    | none => s
  let s := match imgSection bs 6 with
    | some c => (s.setWinBytes (winRec 0 0) (slice c 0 4096)).setWinBytes 0xF10000 (slice c 4096 4096)
    | none => s
  match imgSection bs 7 with
  | some c => applyCrossing c s
  | none => s

/-- Every mapped page (R89). -/
def mappedPages : List Nat := (List.range 0x89).filter fun p => (pageBlock p).isSome

/-- The pages an image has settings for: those whose block words its entries name, SAIL, LAN and the ports by their
sections (R264). A header word is never staged, so no commit checks it (R96; DEDUCED, log entry 33). -/
def imgPages (bs : List Byte) : List Nat :=
  let sect (ty : Nat) (ps : List Nat) : List Nat := if (imgSection bs ty).isSome then ps else []
  let blocks := ((imgEntries bs).map (·.1.toNat)).filter fun a => decide (0x040 ≤ a % 0x1000)
  blocks.map (· / 0x1000) ++ sect 5 [0x058] ++ sect 6 [0x088] ++ sect 7 [0x060, 0x061, 0x062, 0x063]

/-- Check 10: some block's own checks refuse the settings (R266). -/
def settingsRefused (bs : List Byte) (s : State) : Bool :=
  let t := applyImage bs (clearConfig (s.withStaged []))
  let es := imgEntries bs
  let named (a : Nat) : Bool := es.any fun e => e.1.toNat == a
  ((imgCurves bs).any fun c => curveResult (leAt c 0 2) c != 0) || (imgPages bs).any fun p => pageRefused p named t

/-! Authentication (R265, R266, R269, R289). -/

/-- A trailer's CRC agrees. -/
def trailerOk (bs : List Byte) (n : Nat) : Bool := crc32c (slice bs 0 (n - 4)) == leAt bs (n - 4) 4

/-- Checks 5 and 6 with a key slot: 0, 5 or 6. -/
def State.authResult (s : State) (slot : Nat) (bs : List Byte) (n : Nat) : Nat :=
  match s.tt.keys.find? fun k => k.1 == slot with
  | none => 5
  | some (_, key) =>
    if s.tt.revoked.testBit slot then 5
    else if hmacSha256 key (slice bs 0 (n - 36)) = slice bs (n - 36) 32 then 0 else 6

/-- SEC.LAST and AUTH_FAIL after an authentication (R289). -/
def noteAuth (slot result : Nat) (s : State) : State :=
  let s := ((s.put F.secLastValid 1).put F.secLastSlot slot).put F.secLastResult result
  if result = 0 then s else raise 0x007 2 5 [slot, result] s

/-- The four words of a 16-byte name at an offset, as a record carries them (R274, R407). -/
def nameWords (bs : List Byte) (off : Nat) : List Nat := (List.range 4).map fun k => leAt bs (off + 4 * k) 4

/-- A validation result, with the authentication it made, if any: slot and result. -/
abbrev Verdict := Nat × Option (Nat × Nat)

def noteVerdict (v : Verdict) (s : State) : State :=
  match v.2 with
  | some (slot, r) => noteAuth slot r s
  | none => s

/-- Checks 4 to 6, then `rest` (R266). -/
def authThen (auth : Bool) (slot : Nat) (bs : List Byte) (n : Nat) (rest : Nat) (s : State) : Verdict :=
  if !auth then (if s.tt.authReq then 4 else rest, none)
  else
    let r := s.authResult slot bs n
    (if r = 0 then rest else r, some (slot, r))

/-- Validate a base image (R266). -/
def validateImage (bs : List Byte) (s : State) : Verdict :=
  let n := imgLength bs
  if leAt bs 0 4 ≠ 0x46594E42 ∨ leAt bs 4 2 ≠ 1 then (1, none)
  else if n < 128 ∨ imgMax < n ∨ n % 4 ≠ 0 then (2, none)
  else if !trailerOk bs n then (3, none)
  else
    let rest :=
      if imgHeaderBad bs then 7
      else if (imgDir bs).any fun d => crc32c (slice bs d.off d.len) != d.crc then 8
      else if (imgEntries bs).any fun e => !entryOk e.1 e.2 then 9
      else if settingsRefused bs s then 10 else 0
    authThen (authOf (imgFlags bs)) (imgKeySlot bs) bs n rest s

/-- The verdict on a copy: one that cannot be read gives no bytes to check (R262, R266 result 11). -/
def State.copyVerdict (s : State) (copy : Nat) : Verdict :=
  if s.norFails (copyBase copy) then (11, none) else validateImage (s.norImage copy) s

/-! Timetables (R274 to R276). -/

def ttLength (bs : List Byte) : Nat := leAt bs 0x0C 4
def ttFlags (bs : List Byte) : Nat := leAt bs 0x05 1
def ttCount (bs : List Byte) : Nat := leAt bs 0x06 2
def ttSerial (bs : List Byte) : Nat := leAt bs 0x08 4

/-- A patch record (R275). -/
structure Patch where
  table : Nat
  index : Nat
  word : Nat
  mask : Word
  value : Word
deriving DecidableEq, Repr

def ttPatch (bs : List Byte) (k : Nat) : Patch :=
  let a := 0x20 + 16 * k
  ⟨leAt bs (a + 3) 1, leAt bs a 3, leAt bs (a + 4) 4, BitVec.ofNat 32 (leAt bs (a + 8) 4), BitVec.ofNat 32 (leAt bs (a + 12) 4)⟩

def ttPatches (bs : List Byte) : List Patch := if bs.isEmpty then [] else (List.range (ttCount bs)).map (ttPatch bs)

/-- Where group `g`'s configuration word stands among the targets. -/
def groupTarget (g : Nat) : Nat := 0x2000000 + g

/-- The word a patch selects (R276): a manifest word, a register, a group, a panel window word. -/
def Patch.target (p : Patch) : Nat :=
  match p.table with
  | 1 => manAddr p.index + 4 * p.word
  | 2 => 4 * p.index
  | 3 => groupTarget p.index
  | _ => winRec p.index p.word

/-- A page whose registers a patch may name (R276). -/
def patchPage (a : Nat) : Bool :=
  let p := a / 0x1000
  (pageBlock p).isSome && !(p = 0x000 || (p = 0x001 && a ≠ 0x001058 && a ≠ 0x00105C) || p = 0x002 || p = 0x003 || p = 0x004
    || p = 0x005 || p = 0x006 || p = 0x007 || p = 0x048 || p = 0x070 || p = 0x071)

/-- Settings of section 0x0007 are never patched (R276). -/
def crossingWord (a : Nat) : Bool :=
  a == 0x064064 || (decide (0x060000 ≤ a) && decide (a < 0x064000) && (a % 0x1000 == 0x004 || a % 0x1000 == 0x040))

/-- The bits of a manifest word that fields cover (R181). -/
def manFields (word : Nat) : Word :=
  match word with
  | 9 => 0x3FFFFFFF | 10 => 0x03FFFFFF | 11 => 0x1FFF1FFF | 12 => 0x0007FFFF | 14 => 0x03FFFFFF | 15 => 0x0007FFFF
  | _ => 0xFFFFFFFF

/-- The bits of a panel window's word that fields cover (R456). -/
def windowFields (word : Nat) : Word := if word = 0 then 0xEFFFF000 else 0xFFFFFFFF

/-- A patch passes check 9. -/
def Patch.ok (p : Patch) : Bool :=
  p.value &&& ~~~p.mask == 0 && (match p.table with
    | 1 => decide (p.index < 131072) && decide (p.word < 16) && p.value &&& ~~~(manFields p.word) == 0
    | 2 => p.word == 0 && decide (p.index < 2 ^ 22) && patchPage (4 * p.index) && !crossingWord (4 * p.index)
        && configMask (4 * p.index) != 0 && p.mask &&& ~~~(configMask (4 * p.index)) == 0
    | 3 => decide (p.index < 4096) && p.word == 0 && p.mask &&& ~~~(7 : Word) == 0
    | 4 => decide (p.index < 512) && decide (p.word < 2) && p.value &&& ~~~(windowFields p.word) == 0
    | _ => false)

/-- Validate a timetable for a slot, against a base image's SERIAL and key slot (R266). -/
def validateTt (bs : List Byte) (slot serial key : Nat) (s : State) : Verdict :=
  let n := ttLength bs
  let auth := authOf (ttFlags bs)
  if leAt bs 0 4 ≠ 0x54544659 then (1, none)
  else if 4091 < ttCount bs ∨ 15 < leAt bs 4 1 then (14, none)
  else if n ≠ 36 + 16 * ttCount bs + 32 * b2n auth then (2, none)
  else if !trailerOk bs n then (3, none)
  else
    let rest :=
      if 4 ≤ ttFlags bs ∨ (slot = 0 ∧ (ttFlags bs).testBit 1) ∨ leAt bs 4 1 ≠ slot then 7
      else if (ttPatches bs).any fun p => !p.ok then 9
      else if ttSerial bs ≠ serial then 12 else 0
    authThen auth key bs n rest s

/-! Layers (R273, R277). -/

/-- A target's word in a state. -/
def State.target (s : State) (a : Nat) : Word :=
  if 0x2000000 ≤ a then BitVec.ofNat 32 (s.groupCfg (a - 0x2000000)) else s.baseWord a

/-- A target's word under some layers over the base image's word. -/
def layered (layers : List (List Patch)) (a : Nat) (base : Word) : Word :=
  layers.foldl (fun w l => l.foldl (fun w p => if p.target = a then (w &&& ~~~p.mask) ||| (p.value &&& p.mask) else w) w) base

/-- The words a switch writes: target, bits, value, for every patch of the old and the new layers (R277). -/
def compose (old new : List (List Patch)) (base : State) : List (Nat × Word × Word) :=
  (old.flatten ++ new.flatten).map fun p => (p.target, p.mask, layered new p.target (base.target p.target))

/-- The base image's configuration alone. -/
def State.baseState (s : State) : State := applyImage s.tt.image (clearConfig (s.withStaged []))

/-- Write bits of a target: a staged field is staged for the page's commit, any other takes effect at once (R282). -/
def patchTarget (s : State) (x : Nat × Word × Word) : State :=
  let (a, m, v) := x
  if 0x2000000 ≤ a then
    s.withEng { s.eng with groupCfg := Sparse.set (fun _ => 0) s.eng.groupCfg (a - 0x2000000) ((s.target a &&& ~~~m) ||| (v &&& m)).toNat }
  else if 0x1000000 ≤ a then s.stage a m 0 v
  else if 0x400000 ≤ a then s.setWinWord a ((s.winWord a &&& ~~~m) ||| (v &&& m))
  else
    let stg := (regFields a).foldl (fun k f => if f.stg then k ||| fieldMask f else k) (0 : Word)
    let s := if m &&& stg = 0 then s else s.stage a (m &&& stg) 0 v
    let d := m &&& ~~~stg
    if d = 0 then s else s.setReg a ((s.reg a &&& ~~~d) ||| (v &&& d))

/-- The pages a switch patches, and the points. -/
def patchedPages (xs : List (Nat × Word × Word)) : List Nat :=
  dedupe (xs.filterMap fun x =>
    if 0x2000000 ≤ x.1 then none else if 0x1000000 ≤ x.1 then some 0x088 else if 0x400000 ≤ x.1 then none else some (x.1 / 0x1000))

def patchedPoints (xs : List (Nat × Word × Word)) : List Nat :=
  dedupe (xs.filterMap fun x => if 0x400000 ≤ x.1 ∧ x.1 < 0xC00000 then some ((x.1 - 0x400000) / 64) else none)

end Sys2Proof.Machine
end

