-- ==== Sys2Proof/Machine/Timetables.lean ====
section
/-!
DEFINITION. What the node does with images, timetables and keys (chapter 10): switching, installing, loading a base
image, trigger bindings, mode frames, the key commands.
-/

namespace Sys2Proof.Machine

/-! Switch requests (R279, R282, R283, R285). -/

/-- The timetable of a slot, as loaded. -/
def State.slotTt (s : State) (k : Nat) : Option (List Byte) := (s.tt.loaded.find? fun x => x.1 == k).map (·.2)

def State.setSlotTt (s : State) (k : Nat) (bs : Option (List Byte)) : State :=
  s.withTt { s.tt with loaded := match bs with
    | some b => Sparse.insert s.tt.loaded k b
    | none => Sparse.erase s.tt.loaded k }

def State.activeTt (s : State) : Nat := s.get F.ttbActiveTt

/-- The layers of the active configuration, and those that a switch to `tt` would apply (R273). -/
def State.oldLayers (s : State) : List (List Patch) := [ttPatches s.tt.always, ttPatches s.tt.active]

def State.newAlways (s : State) : List Byte := (s.slotTt 0).getD []
def State.newActive (s : State) (tt : Nat) : List Byte := if tt = 0 then [] else (s.slotTt tt).getD []

/-- The words a switch writes with two layers (R277). -/
def State.composedOf (s : State) (always active : List Patch) : List (Nat × Word × Word) :=
  compose s.oldLayers [always, active] s.baseState

/-- The commit of a page would be refused with two layers applied. -/
def State.layersRefused (s : State) (page : Nat) (always active : List Patch) : Bool :=
  let xs := s.composedOf always active
  pageRefused page (fun a => xs.any fun x => x.1 == a) (xs.foldl patchTarget s)

/-- The first record with which a page's commit is refused, counted in the always timetable where its records alone bring
that about, otherwise in the incoming one (R285). -/
def firstPatch (page : Nat) (always active : List Patch) (s : State) : Nat :=
  match (List.range always.length).find? fun k => s.layersRefused page (always.take (k + 1)) [] with
  | some k => k
  | none => ((List.range active.length).find? fun k => s.layersRefused page always (active.take (k + 1))).getD 0

/-- Step 2 of R282 for an always timetable and a selected one: none when the switch passes, otherwise the result and the
first failing record (R285). -/
def switchCheckOf (always active : List Byte) (s : State) : Option (Nat × Nat) :=
  let serial := imgSerial s.tt.image
  let bad (bs : List Byte) : Bool := !bs.isEmpty && ttSerial bs != serial
  if bad always || bad active then some (12, 0)
  else
    let xs := s.composedOf (ttPatches always) (ttPatches active)
    let t := xs.foldl patchTarget s
    match (patchedPoints xs).find? fun i => t.recReason i != 0 with
    | some i => some (3, i)
    | none =>
      match (patchedPages xs).find? fun p => pageRefused p (fun a => xs.any fun x => x.1 == a) t with
      | some p => some (10, firstPatch p (ttPatches always) (ttPatches active) s)
      | none => none

/-- Step 2 of R282 for a switch to `tt`. -/
def switchCheck (tt : Nat) (s : State) : Option (Nat × Nat) := switchCheckOf s.newAlways (s.newActive tt) s

/-- SWSTAT (R288). -/
def putSwstat (result tt index : Nat) (s : State) : State :=
  ((s.put F.ttbSwstatResult result).put F.ttbSwstatTt tt).put F.ttbSwstatIndex index

def putQueued (q : Option SwitchReq) (s : State) : State :=
  let s := s.withTt { s.tt with queued := q }
  match q with
  | some r => (s.put F.ttbReqQueued 1).put F.ttbReqQueuedTt r.tt
  | none => (s.put F.ttbReqQueued 0).put F.ttbReqQueuedTt 0

/-- A request reaches step 1: accepted, or refused as a whole (R282, R285). -/
def switchStart (r : SwitchReq) (s : State) : State :=
  match switchCheck r.tt s with
  | some (res, i) => raise 0x048 1 5 [res, r.tt, i] (putSwstat res r.tt i s)
  | none =>
    (s.withTt { s.tt with pending := some r, plan := (s.newAlways, s.newActive r.tt) }).put F.ttbReqPending 1

/-- A request must wait its turn: a switch is being applied, or the node is in STANDBY (R283, R287). -/
def State.switchWaits (s : State) : Bool := s.tt.pending.isSome || s.standby

/-- A request is accepted. While an edit range is open it is pending and keeps its place; its step 2 runs at the
close (R200, R282). -/
def switchAccept (r : SwitchReq) (s : State) : State :=
  if s.eng.edit.isSome then (s.withTt { s.tt with pending := some r }).put F.ttbReqPending 1 else switchStart r s

/-- The pending request of a range that has closed runs its step 2 (R200). -/
def switchResume (s : State) : State :=
  match s.tt.pending with
  | some r => switchStart r ((s.withTt { s.tt with pending := none }).put F.ttbReqPending 0)
  | none => s

/-- A switch request from any source (R279). -/
def ttRequest (r : SwitchReq) (s : State) : State :=
  let s := s.put F.ttbReqTt r.tt
  if r.src ≠ 0 ∧ r.tt = s.activeTt ∧ s.tt.pending.isNone ∧ s.tt.queued.isNone then s
  else if r.tt ≠ 0 ∧ (s.slotTt r.tt).isNone then record 0x048 0x4821 5 [r.tt, r.src] (putSwstat 7 r.tt 0 s)
  else if s.switchWaits then
    let s := if s.tt.queued.isSome then raise 0x048 2 5 [s.get F.ttbReqQueuedTt, r.tt] s else s
    putQueued (some r) s
  else switchAccept r s

/-- A queued request starts once nothing holds it back, unless it names the active timetable (R283). -/
def switchNext (s : State) : State :=
  match s.tt.queued with
  | none => s
  | some r =>
    if s.switchWaits then s
    else
      let s := putQueued none s
      if r.src ≠ 0 ∧ r.tt = s.activeTt then s else switchAccept r s

/-- Pending and queued requests are discarded, and each discard is logged (R283). -/
def discardSwitches (s : State) : State :=
  let rs := s.tt.pending.toList ++ s.tt.queued.toList
  let s := (putQueued none (s.withTt { s.tt with pending := none })).put F.ttbReqPending 0
  rs.foldl (fun s r => record 0x048 0x4822 5 [r.tt, r.src] s) s

/-- A mode frame (R281, R324). -/
def modeBroadcast (s : State) : State :=
  if s.flag F.ttbCtlLead && s.isDuty then originateNew 0x05 0 true (leBytes 4 s.activeTt ++ leBytes 4 s.gen) s else s

/-- Kept levels of the bindings that watch some points are undefined again (R280). -/
def dropLevels (is : List Nat) (s : State) : State :=
  s.withTt { s.tt with levels := s.tt.levels.filter fun x => !is.contains (s.get (F.ttbTrigPoint.idx x.1)) }

/-- The groups some points belong to. -/
def State.groupsOf (s : State) (is : List Nat) : List Nat := dedupe (is.flatMap fun i => (s.pcfg i).groups)

/-- A block's enable has changed (R93). -/
def enableFollow (page : Nat) (s : State) : State :=
  let on := s.pageEn page
  if 0x010 ≤ page ∧ page < 0x030 then scanWritten false false s
  else if 0x050 ≤ page ∧ page < 0x058 then
    (if on then (if s.fbLive (page - 0x050) then fbJoin (page - 0x050) s else s) else fbStop (page - 0x050) s)
  else if 0x060 ≤ page ∧ page < 0x064 then
    (if on then portEnable (page - 0x060) s else portDisable (page - 0x060) s)
  else match page with
    | 0x030 => if on then scanWritten true false s else scanLost s
    | 0x032 => if on then repDriveAll s else repOff s
    | 0x033 => updateDo s
    | 0x088 => if on then panelStart s else panelOffAsk s
    | _ => s

/-- What a page's block does when a patch has changed fields that take effect at once, as a host's write of them has it
do: EN, the scan controls, panel requests (R282). -/
def patchFollow (before : State) (xs : List (Nat × Word × Word)) (s : State) : State :=
  (dedupe (xs.map (·.1))).foldl (fun s a =>
    let page := a / 0x1000
    if 0x088100 ≤ a ∧ a < 0x088180 ∧ a % 8 = 0 then
      let r := (a - 0x088100) / 8
      regionRequest r (s.get (F.lanRegionLevel.idx r)) (s.get (F.lanRegionFade.idx r)) s
    else if a = 0x088040 then inputFollow before s
    else if a < 0x400000 ∧ a % 0x1000 = 0x004 then
      (if before.pageEn page = s.pageEn page then s else clockFollow (enableFollow page s))
    else if a = 0x030040 ∨ a = 0x030044 ∨ a = 0x030048 then
      (if before.reg a = s.reg a then s else scanWritten (decide (a = 0x030040)) (decide (a = 0x030048)) s)
    else s) s

/-- Step 4 of R282: the composed values are written, every patched page is committed, GEN advances. A switch is applied at
the end of an engine pass, which is the quiet point of the pages that commit there (R255). `always` and
`active` are the timetables that step 2 has composed and checked; an install since then does not change them (R277). The
points that name a rebuilt one are evaluated (R204). GEN advances while the NVM gate is closed too, and its new value stands
over a reset before the gate opens (R87, R286; DEDUCED, log entry 106). -/
def switchWrite (r : SwitchReq) (always active : List Byte) (s : State) : State :=
  let xs := s.composedOf (ttPatches always) (ttPatches active)
  let pts := patchedPoints xs
  let was := s
  let gs := dedupe (s.groupsIn pts ++ (xs.filterMap fun x => if 0x2000000 ≤ x.1 then some (x.1 - 0x2000000) else none))
  let s := xs.foldl patchTarget s
  let snaps := was.groupSnaps (dedupe (gs ++ s.groupsOf pts))
  let changed := pts.filter fun i =>
    was.winWord (manAddr i) != s.winWord (manAddr i) || was.winWord (manAddr i + 4) != s.winWord (manAddr i + 4)
      || (was.pcfg i).used != (s.pcfg i).used
  let faces := changed.map fun i => (i, s.ptFace i)
  let s := notifyRebuilt faces (changed.foldl (fun s i => renewPt i s) (dropLevels changed s))
  let s := pts.foldl (fun s i => match s.pt i with
    | some p => s.setPt i { p with groups := (s.pcfg i).groups }
    | none => s) s
  let s := s.withTt { s.tt with
    always := always, active := active, pending := none, standbyAsk := (ttFlags active).testBit 1, plan := ([], []) }
  let s := ((s.put F.ttbReqPending 0).put F.ttbActiveTt r.tt).putFlag F.ttbActiveAlways (!s.tt.always.isEmpty)
  let s := ((s.put F.ttbActiveSrc r.src).put F.ttbActiveTrig r.trig).put F.ttbActiveFromNode r.node
  let s := putSwstat 0 r.tt 0 (s.bumpWrap F.ttbGenGen 1)
  let s := raise 0x048 0 5 ([r.tt, r.src] ++ nameWords active 0x10) s
  let s := if s.gen = 0 then raise 0x048 7 5 [] s else s
  let s := recountGroups snaps s
  let s := passCommits ((patchedPages xs).foldl (fun s p => startCommit p s) s)
  patchFollow was xs (forceAll (pts.filter fun i => (s.pcfg i).used) s)

/-- Steps 4 and 5, at the end of the engine pass: not while a range is open (R200), nor in STANDBY, which runs no
pass. -/
def switchApply (s : State) : State :=
  match s.tt.pending with
  | none => s
  | some r =>
    if s.eng.edit.isSome || s.standby then s
    else
    let s := switchWrite r s.tt.plan.1 s.tt.plan.2 s
    let s := if r.src = 3 then s else modeBroadcast s
    switchNext s

def execTtSwitchApply (s : State) : Host.Outcome State Fault Refusal := .next (switchApply s)

/-- The owner writes REQ.TT (R279). -/
def actTtReq (h : HostId) (v m : Word) (s : State) : State :=
  if m &&& 0xF = 0 then s
  else
    let s := storeFields h 0x048048 v m s
    ttRequest ⟨getBits v 3 0, 1, 0, 0⟩ s

def execTtRequest (host : HostId) (tt : BitVec 4) (s : State) : Host.Outcome State Fault Refusal :=
  .next (hostWord host 0x048048 ((s.reg 0x048048 &&& ~~~(0xF : Word)) ||| tt.setWidth 32) (actTtReq host ((s.reg 0x048048 &&& ~~~(0xF : Word)) ||| tt.setWidth 32)) s)

/-- The trigger bindings at the end of a pass, over the points it evaluated. The kept level is the last one the binding acted
on, so with OFF_EN = 0 it stays ON (R280). -/
def bindings (evaluated : List Nat) (s : State) : State :=
  (List.range 16).foldl (fun s n =>
    let i := s.get (F.ttbTrigPoint.idx n)
    if !s.flag (F.ttbTrigEn.idx n) || !evaluated.contains i then s
    else match s.usablePt i with
      | none => s
      | some p =>
        let on := nonZero p.value
        let kept := (s.tt.levels.find? fun x => x.1 == n).map (·.2)
        if kept = some on then s
        else
          let acted := s.withTt { s.tt with levels := Sparse.insert s.tt.levels n on }
          if on then ttRequest ⟨s.get (F.ttbTrigTtOn.idx n), 2, n, 0⟩ acted
          else if s.flag (F.ttbTrigOffEn.idx n) then ttRequest ⟨s.get (F.ttbTrigTtOff.idx n), 2, n, 0⟩ acted
          else s) s

/-- A delivered mode frame (R281). -/
def modeRx (f : XFrame) (s : State) : State :=
  if !s.flag F.ttbCtlFollow then s
  else if s.flag F.callStatDutyValid && s.get F.callStatDutyNode == f.origin then
    ttRequest ⟨leAt f.body 0 1 % 16, 3, 0, f.origin⟩ s
  else raise 0x048 16 3 [f.origin] s

/-! Installing (R278). -/

/-- An install ends: INST_RES, and its event with the NAME of the staged copy (R274). -/
def installEnd (slot result : Nat) (s : State) : State :=
  let s := ((s.put F.ttbInstCmdInstall 0).put F.ttbInstResResult result).put F.ttbInstResSlot slot
  raise 0x048 (if result = 0 then 3 else 4) 5 ([slot, result] ++ nameWords (s.winBytes (0xE00000 + 0x10000 * slot) 0x20) 0x10) s

/-- Validate the staged copy of a slot; on result 0 the stores are written (R278). Emptying the active timetable's
slot is refused; answers the result, or none while the install runs. -/
def installStart (slot : Nat) (s : State) : Option Nat × State :=
  let bs := s.winBytes (0xE00000 + 0x10000 * slot) 0x10000
  if !s.configured then (some 12, s)
  else if leAt bs 0 4 = 0 then
    if slot ≠ 0 ∧ slot = s.activeTt then (some 16, accessFault 0x048 0x34 s)
    else (none, s.withTt { s.tt with install := some (slot, []) })
  else
    let v := validateTt bs slot (s.get F.ttbNorSerialSerial) s.tt.norKey s
    let s := noteVerdict v s
    if v.1 = 0 then (none, s.withTt { s.tt with install := some (slot, bs.take (ttLength bs)) }) else (some v.1, s)

/-- INST_CMD (R278). -/
def actInstCmd (h : HostId) (v m : Word) (s : State) : State :=
  if getBit v 31 && s.flag F.ttbInstCmdInstall then (if s.isOwner h then accessFault 0x048 0x30 s else s)
  else
    let s := storeFields h 0x048054 v m s
    if getBit (v &&& m) 31 then
      let k := s.get F.ttbInstCmdSlot
      let (r, s) := installStart k (s.put F.ttbInstCmdInstall 1)
      match r with
      | none => s
      | some 16 => s.put F.ttbInstCmdInstall 0
      | some r => installEnd k r s
    else s

def execTtInstall (host : HostId) (slot : BitVec 4) (s : State) : Host.Outcome State Fault Refusal :=
  let v := bitWord 31 ||| slot.setWidth 32
  .next (hostWord host 0x048054 v (actInstCmd host v) s)

/-- Stores B and A hold the timetable, and it is loaded into SRAM; slot 0 or the active slot is switched to at once
(R278). Held back by the gate of R55. -/
def installDone (s : State) : State :=
  match s.tt.install with
  | none => s
  | some (k, bs) =>
    if s.gateClosed then s
    else
      let s := norErase (storeBase 0 k) 0x10000 (norErase (storeBase 1 k) 0x10000 s)
      let s := (s.setNorBytes (storeBase 1 k) bs).setNorBytes (storeBase 0 k) bs
      let s := s.setSlotTt k (if bs.isEmpty then none else some bs)
      let s := s.withTt { s.tt with install := none }
      let s := if s.flag F.ttbInstCmdInstall then installEnd k 0 s else s
      if k = 0 ∨ k = s.activeTt then ttRequest ⟨s.activeTt, 0, 0, 0⟩ s else s

/-! Loading a base image (R270, R271). -/

def State.loading (s : State) : Bool := s.flag F.ttbImgStatLoading

/-- A load begins: copy 2 is erased, and a repair between the copies that still waits is not made any more, since copy 2 is
no longer what it was to copy (R270). -/
def loadBegin (len : Nat) (s : State) : State :=
  let s := ((s.put F.ttbImgStatLoading 1).put F.ttbImgStatReady 0).put F.ttbImgOffOff 0
  let s := s.withTt { s.tt with repairs := s.tt.repairs.filter fun r => decide (copyBase 2 ≤ r.1) }
  s.withTt { s.tt with erasing := true, page := [], copying := false, len := len }

/-- A load ends with a result; the record of a load that succeeds also carries the first words of the image's BUILD_ID (R263;
DESIGN CHOICE of the place, log entry 104). -/
def loadEnd (result : Nat) (build : List Nat) (s : State) : State :=
  let s := ((s.put F.ttbImgStatLoading 0).put F.ttbImgStatReady 0).put F.ttbImgStatResult result
  raise 0x048 5 5 (result :: build) (s.withTt { s.tt with erasing := false, page := [], copying := false })

/-- The copy that a restart would use (R267). -/
def State.restartCopy (s : State) : Option Nat :=
  if (s.copyVerdict 0).1 ≠ 0 then (if (s.copyVerdict 1).1 = 0 then some 1 else none)
  else some (b2n (laterMod 32 (imgSerial (s.norImage 1)) (imgSerial (s.norImage 0)) && (s.copyVerdict 1).1 == 0))

/-- NOR_SERIAL and NEWER follow the image that a restart would use (R272, R288). -/
def norFollow (s : State) : State :=
  match s.restartCopy with
  | none => s
  | some c =>
    let bs := s.norImage c
    ((s.put F.ttbNorSerialSerial (imgSerial bs)).withTt { s.tt with norKey := imgKeySlot bs }).putFlag F.ttbImgStatNewer
      (bs != s.tt.image)

/-- A load is abandoned with result 13, also while copy 1 is being rewritten: a complete copy 2 stays (R271). -/
def loadAbandon (s : State) : State :=
  if !s.loading then s else loadEnd 13 [] (if s.tt.copying then norFollow s else s)

/-- The erase of copy 2 completes; a failed erase is a lasting NOR fault. What copy 2 held can start no restart any more
(R288). -/
def eraseDone (ok : Bool) (s : State) : State :=
  if !s.loading || !s.tt.erasing || s.gateClosed then s
  else if !ok then loadEnd 11 [] (lastingFault 0x048 s)
  else norFollow ((norErase (copyBase 1) 0xC00000 (s.withTt { s.tt with erasing := false })).put F.ttbImgStatReady 1)

/-- Program the page buffer where it stands. -/
def loadFlush (s : State) : State :=
  if s.tt.page.isEmpty then s
  else
    let a := copyBase 1 + s.get F.ttbImgOffOff - s.tt.page.length
    norWrite a s.tt.page (s.withTt { s.tt with page := [] })

/-- The next word of the image (R270). READY ends with the last byte of IMG_LEN. -/
def loadWord (w : Word) (s : State) : State :=
  let s := (s.withTt { s.tt with page := s.tt.page ++ leBytes 4 w.toNat }).bumpSat F.ttbImgOffOff 4
  let off := s.get F.ttbImgOffOff
  let s := if off % 256 = 0 ∨ s.tt.len ≤ off then loadFlush s else s
  if s.tt.len ≤ off ∨ imgMax ≤ off then s.put F.ttbImgStatReady 0 else s

/-- IMG_DATA: a write out of turn is ignored with code 0x35 (R270). -/
def actImgData (v m : Word) (s : State) : State :=
  if m = 0 then s
  else if s.flag F.ttbImgStatReady then loadWord v s
  else accessFault 0x048 0x35 s

def execImgData (host : HostId) (value : Word) (s : State) : Host.Outcome State Fault Refusal :=
  .next (hostWord host 0x048068 value (actImgData value) s)

/-- What a command that may carry the END of a load says of the read of copy 2. -/
def noteEndRead (o : NorRead) (s : State) : State := if o = .ok then s else s.withTt { s.tt with endRead := o }

/-- END: copy 2 is validated, where it can be read; on result 0 copy 1 is rewritten (R262, R270, R271). -/
def loadFinish (s : State) : State :=
  if !s.loading || s.tt.copying then s
  else if s.tt.erasing || decide (s.get F.ttbImgOffOff < s.tt.len) then loadEnd 13 [] s
  else
    let s := (loadFlush s).put F.ttbImgStatReady 0
    let s := (norRead (copyBase 1) s.tt.endRead s)
    let s := s.withTt { s.tt with endRead := .ok }
    let v := (norFlush s).copyVerdict 1
    let s := noteVerdict v s
    if v.1 = 0 then (s.put F.ttbImgStatResult 0).withTt { s.tt with copying := true } else loadEnd v.1 [] s

/-- IMG_CTL (R270, R271). -/
def actImgCtl (v m : Word) (s : State) : State :=
  let x := v &&& m
  let s := if getBit x 2 then loadAbandon s else s
  let s := if getBit x 1 then loadFinish s else s
  if getBit x 0 then
    (if s.loading then accessFault 0x048 0x30 s else loadBegin (s.get F.ttbImgLenLen) s)
  else s

def execImgBegin (host : HostId) (s : State) : Host.Outcome State Fault Refusal :=
  .next (hostWord host 0x048060 (bitWord 0) (actImgCtl (bitWord 0)) s)

def execImgEnd (host : HostId) (s : State) (readOk : Bool := true) (trip : Bool := false) :
    Host.Outcome State Fault Refusal :=
  let o : NorRead := if !readOk then .bad else if trip then .retryOk else .ok
  .next (hostWord host 0x048060 (bitWord 1) (fun m s => actImgCtl (bitWord 1) m (noteEndRead o s)) s)

def execImgAbort (host : HostId) (s : State) : Host.Outcome State Fault Refusal :=
  .next (hostWord host 0x048060 (bitWord 2) (actImgCtl (bitWord 2)) s)

/-- Copy 1 holds the image of copy 2: NEWER, and the image a restart would use (R270, R272). -/
def copyWritten (s : State) : State :=
  let bs := s.norImage 1
  let s := (norErase (copyBase 0) 0xC00000 s).setNorBytes (copyBase 0) bs
  let s := (s.put F.ttbNorSerialSerial (imgSerial bs)).withTt { s.tt with norKey := imgKeySlot bs }
  loadEnd 0 ((List.range 3).map fun k => leAt bs (0x20 + 4 * k) 4) (s.put F.ttbImgStatNewer 1)

/-! The background repair of a copy or store (R267, R278). -/

/-- One repair, under the gate of R55. -/
def bootRepair (s : State) : State :=
  match s.tt.repairs with
  | [] => s
  | (src, dst, n) :: rest =>
    if s.gateClosed || s.loading then s
    else
      let bs := s.norBytes src n
      let s := (norErase dst (if n = 0x10000 then n else 0xC00000) s).setNorBytes dst bs
      s.withTt { s.tt with repairs := rest }

def execBootRepair (s : State) : Host.Outcome State Fault Refusal := .next (bootRepair s)

/-! Key slots (R269). -/

def State.keyProgrammed (s : State) (k : Nat) : Bool := s.tt.keys.any fun x => x.1 == k

/-- KEY_DATA0 to KEY_DATA7 clear. -/
def clearKeyData (s : State) : State := (List.range 8).foldl (fun s k => s.setReg (0x007060 + 4 * k) 0) s

/-- The bytes in KEY_DATA0 to KEY_DATA7. -/
def State.keyData (s : State) : List Byte := wordsBytes ((List.range 8).map fun k => s.reg (0x007060 + 4 * k))

/-- A key data word is stored and never read back. -/
def actKeyData (a : Nat) (v m : Word) (s : State) : State := if m = 0 then s else s.setReg a v

/-- SEC.KEY_CMD; one written while a key is being programmed is refused (log entry 52). -/
def actKeyCmd (v m : Word) (s : State) : State :=
  if m = 0 then s
  else
    let k := getBits v 2 0
    let refuse := clearKeyData (accessFault 0x007 0x30 s)
    if s.tt.keyCmd.isSome || getBits v 23 8 != 0xC3A5 then refuse
    else match getBits v 31 28 with
      | 1 =>
        if s.keyProgrammed k then refuse
        else s.withTt { s.tt with keyCmd := some (k, s.keyData) }
      | 2 =>
        if s.keyProgrammed k then
          clearKeyData (raise 0x007 1 5 [k] (s.withTt { s.tt with revoked := s.tt.revoked ||| 2 ^ k }))
        else refuse
      | 3 => clearKeyData (raise 0x007 3 5 [k] (s.withTt { s.tt with authReq := true }))
      | _ => refuse

def execKeyProgram (host : HostId) (value : Word) (s : State) : Host.Outcome State Fault Refusal :=
  .next (hostWord host 0x007040 value (actKeyCmd value) s)

def execKeyRevoke (host : HostId) (value : Word) (s : State) : Host.Outcome State Fault Refusal :=
  .next (hostWord host 0x007040 value (actKeyCmd value) s)

def execAuthReqSet (host : HostId) (value : Word) (s : State) : Host.Outcome State Fault Refusal :=
  .next (hostWord host 0x007040 value (actKeyCmd value) s)

/-- Programming completes: the slot holds the key for good. -/
def keyDone (s : State) : State :=
  match s.tt.keyCmd with
  | none => s
  | some (k, bs) =>
    let s := s.withTt { s.tt with keyCmd := none, keys := Sparse.insert s.tt.keys k bs }
    clearKeyData (raise 0x007 0 5 [k] s)

def execKeyProgramDone (s : State) : Host.Outcome State Fault Refusal := .next (keyDone s)

/-! Start-up (R267, R268, R278, R287). -/

/-- The copy a start uses, with both results (R267): 0xFF for a copy not validated. -/
def chooseCopy (s : State) : Option Nat × Nat × Nat × State :=
  let i1 := s.norImage 0
  let i2 := s.norImage 1
  let v1 := s.copyVerdict 0
  let s := noteVerdict v1 s
  if v1.1 = 0 then
    if laterMod 32 (imgSerial i2) (imgSerial i1) then
      let v2 := s.copyVerdict 1
      (some (if v2.1 = 0 then 1 else 0), 0, v2.1, noteVerdict v2 s)
    else (some 0, 0, 0xFF, s)
  else
    let v2 := s.copyVerdict 1
    (if v2.1 = 0 then some 1 else none, v1.1, v2.1, noteVerdict v2 s)

/-- A store that differs from the good one is due for repair (R278). -/
def addRepair (differ : Bool) (src dst : Nat) (s : State) : State :=
  if differ then s.withTt { s.tt with repairs := s.tt.repairs ++ [(src, dst, 0x10000)] } else s

/-- Read one timetable slot from store A, or from B when A fails (R278, R287). -/
def loadSlot (s : State) (k : Nat) : State :=
  let a := s.norBytes (storeBase 0 k) 0x10000
  let b := s.norBytes (storeBase 1 k) 0x10000
  let serial := imgSerial s.tt.image
  let key := imgKeySlot s.tt.image
  let badA := s.norFails (storeBase 0 k)
  let badB := s.norFails (storeBase 1 k)
  let va := if badA then (11, none) else validateTt a k serial key s
  if va.1 = 0 then addRepair (badB || a != b) (storeBase 0 k) (storeBase 1 k) ((noteVerdict va s).setSlotTt k (some (a.take (ttLength a))))
  else
    let vb := if badB then (11, none) else validateTt b k serial key s
    let s := noteVerdict vb (noteVerdict va s)
    if vb.1 = 0 then addRepair (badA || a != b) (storeBase 1 k) (storeBase 0 k) (s.setSlotTt k (some (b.take (ttLength b))))
    else if !badA ∧ !badB ∧ leAt a 0 4 = 0xFFFFFFFF ∧ leAt b 0 4 = 0xFFFFFFFF then s
    else raise 0x048 17 5 [k, va.1, vb.1] s

/-- The power-up switch (R287): a refusal is logged with its reason and timetable 0 is applied in place; where slot 0 itself
fails, what applies is the base image with the selected timetable, or alone. A slot 0 that is applied to nothing stays a
valid slot. -/
def powerupSwitch (s : State) : State :=
  let p := imgPowerup s.tt.image
  let why (always : List Byte) (tt : Nat) : Nat := if tt ≠ 0 ∧ (s.slotTt tt).isNone then 7
    else ((switchCheckOf always (s.newActive tt) s).map (·.1)).getD 0
  let go (tt : Nat) (always : List Byte) (s : State) : State := switchWrite ⟨tt, 0, 0, 0⟩ always (s.newActive tt) s
  let r := why s.newAlways p
  if r = 0 then go p s.newAlways s
  else
    let always := s.newAlways
    let s' := record 0x048 0x4823 5 [p, r] s
    if why always 0 = 0 then go 0 always s'
    else if why [] p = 0 then go p [] s'
    else go 0 [] s'

/-- A validated image becomes the running one (R268, R44): its configuration, its bad records counted. -/
def takeImage (copy : Nat) (s : State) : State :=
  let bs := s.norImage copy
  let s := applyImage bs (clearConfig s)
  let s := (s.put F.ttbSerialSerial (imgSerial bs)).put F.ttbNorSerialSerial (imgSerial bs)
  let s := (s.put F.ttbImgStatResult 0).put F.ttbImgStatNewer 0
  let s := (s.put F.ttbImgStatBootCopy copy).withTt { s.tt with norKey := imgKeySlot bs, loaded := [], always := [], active := [], levels := [] }
  let s := if (imgFlags bs).testBit 1 then (s.put F.sysNodeIdNodeId (leAt bs 0x10 2)).put F.sysNodeIdOverride 1 else s
  let bad := s.usedIdx.filter fun i => s.recReason i != 0
  let s := s.put F.ttbImgStatBadRecords (sat 0xFFFF bad.length)
  match bad with
  | [] => s
  | i :: _ => record 0x048 0x4820 5 [i, s.recReason i] s

end Sys2Proof.Machine
end

