-- ==== Sys2Proof/Machine/EngineCmds.lean ====
section
/-!
DEFINITION. The commands of the point engine: passes and expiries (R204 to R214, R236), counter loads (R194), edits
(R199 to R202), acknowledgements, silences, shelving and service (R220 to R230, R242), groups (R233), and engine
memory faults (R238 to R240, R371).
-/

namespace Sys2Proof.Machine

/-! The end of a pass. -/

/-- The duty-call engine takes the point events handed over since it last did (R15, R374). -/
def callSettle (s : State) : State :=
  let rs := s.callIn
  rs.foldl (fun s r => if r.code = 0x4080 then trackPoint s.nodeId r.payload s else s) (s.withCallIn [])

/-- The load figures of a pass (R237, R241). -/
def loadFigures (s : State) : State :=
  let n := s.eng.passEvals
  let s := s.withEng { s.eng with passEvals := 0 }
  let s := s.put F.pteLoadPeak (max (s.get F.pteLoadPeak) (sat 0xFFFF (n / 16)))
  if 38000 < n then raise 0x040 20 3 [n] s else s

/-- The commits of a pass; a switch request staged under TTB.PAGE_CTL.STAGE is made when its commit is (R96, R279). -/
def commitsAndRequest (s : State) : State :=
  let asked := s.flag (F.hdrPageCommitCommit.page 0x048)
    && (s.stagedAt 0x048048).any fun w => w.stageMask &&& 0xF != 0
  let s := passCommits s
  if asked then ttRequest ⟨s.get F.ttbReqTt, 1, 0, 0⟩ s else s

/-- The end of an engine pass over some points: the duty call, pending commits, outputs, the panel, bindings
(R179, R215, R255, R280, R374). -/
def endPass (evaluated : List Nat) (s : State) : State :=
  loadFigures (callSettle (bindings evaluated (updatePanel (updateDo (commitsAndRequest (callSettle s))))))

/-- The engine runs: a base image is in effect and the node is not in STANDBY (R27, R74). -/
def State.engineRuns (s : State) : Bool := s.configured && !s.standby

/-- The points with an entry that has reached its tick. -/
def State.duePts (s : State) : List Nat := (s.eng.pts.filter fun x => decide (0 < dueCount s x.2)).map (·.1)

/-- No trigger and no expiry waits: a command, a forced evaluation or a single expiry goes first. -/
def State.quiet (s : State) : Bool := s.eng.trigs.isEmpty && s.duePts.isEmpty

/-- One engine pass: triggers present at its start, expiries due, forced evaluations (R204, R206, R213). Those of a point
that waits for a restoration stay (R239, R371). -/
def enginePass (s : State) : State :=
  if !s.engineRuns then s
  else
    let ts := s.eng.trigs
    let wait := ts.filter fun t => s.barred t.point
    let now := ts.filter fun t => !s.barred t.point
    let due := s.duePts
    let s := s.withEng { s.eng with trigs := wait }
    let order := passOrder now
    let s := (order.filter fun t => t.stage < 2).foldl (fun s t => evalTrig t s) s
    let s := due.foldl (fun s i => expirePt i s) s
    let s := (order.filter fun t => 2 ≤ t.stage).foldl (fun s t => evalTrig t s) s
    endPass (dedupe (now.map Trig.point ++ due)) s

def execEnginePass (s : State) : Host.Outcome State Fault Refusal := .next (enginePass s)

/-- What waits goes ahead of a command or of forced work: gate changes, deliveries and expiries (R206, R236). -/
def settle (s : State) : State := if s.quiet then s else enginePass s

/-- One expiry, as a pass of its own, behind the gate changes and deliveries that wait (R206). -/
def expiryPass (i : Nat) (f : State → State) (s : State) : State :=
  if s.engineRuns && (s.pt i).isSome then endPass [i] (f (if s.eng.trigs.isEmpty then s else enginePass s)) else s

def execStalenessExpiry (point : PointIdx) (s : State) : Host.Outcome State Fault Refusal :=
  .next (expiryPass point.toNat (expireStale point.toNat) s)

def execDelayExpiry (point : PointIdx) (s : State) : Host.Outcome State Fault Refusal :=
  .next (expiryPass point.toNat (expireDly point.toNat) s)

def execRunupExpiry (point : PointIdx) (s : State) : Host.Outcome State Fault Refusal :=
  .next (expiryPass point.toNat (expireRunup point.toNat) s)

def execShelveExpiry (point : PointIdx) (s : State) : Host.Outcome State Fault Refusal :=
  .next (expiryPass point.toNat (expireShelve point.toNat) s)

def execEscalationExpiry (point : PointIdx) (s : State) : Host.Outcome State Fault Refusal :=
  .next (expiryPass point.toNat (expireEsc point.toNat) s)

/-- The 1,152-tick evaluation of a RUNHRS point whose subject is ON (R190, R194). -/
def runhrs (i : Nat) (s : State) : State :=
  let c := s.pcfg i
  let due := (s.pt i).any fun p => decide (1152 ≤ s.since p.accTick)
  if c.kind = 6 ∧ c.func = 8 ∧ s.ptOn c.subject ∧ !s.inEdit i ∧ due then evalDerived i false s else s

def execRunhrsTimer (point : PointIdx) (s : State) : Host.Outcome State Fault Refusal :=
  .next (expiryPass point.toNat (runhrs point.toNat) s)

/-! What a tide tick does to the engine. -/

/-- Entries of the wheel whose tick is this one (R213, R243). -/
def State.expiringNow (s : State) : Nat :=
  let at_ := fun (t : Option Nat) => b2n (t == some s.now)
  s.eng.pts.foldl (fun n x => n + at_ x.2.staleAt + at_ (x.2.dly.map (·.2)) + at_ x.2.shelveAt + at_ x.2.escAt) 0

/-- MAXEXP and EXPIRY_STORM (R243), and value frames whose 64 tide ticks have passed (R187), those of a point in an open edit
range too: R200 stops its evaluation and its events. -/
def engineTick (s : State) : State :=
  if !s.engineRuns then s
  else
    let n := s.expiringNow
    let s := s.put F.tideMaxexpCount (max (s.get F.tideMaxexpCount) n)
    let s := if 38000 < n then raise 0x041 0 3 [n] s else s
    s.eng.pts.foldl (fun s x =>
      let c := s.pcfg x.1
      match s.pt x.1 with
      | some p =>
        (match p.published with
          | some (_, t) => if c.publish && decide (64 ≤ s.since t) then valueFrame x.1 c p s else s
          | none => s)
      | none => s) s

/-! The wheel across STANDBY (R74, R75, R214) and across a reset of class K of TIDE (R216). -/

/-- STANDBY holds the wheel. -/
def holdWheel (s : State) : State := s.withEng { s.eng with heldAt := some s.now }

/-- Move every entry of a point by `d` ticks. -/
def Point.shift (d : Nat) (p : Point) : Point :=
  let f := fun (t : Option Nat) => t.map (tickPlus · d)
  let dly := p.dly.map fun x => (x.1, tickPlus x.2 d)
  { p with staleAt := f p.staleAt, dly := dly, shelveAt := f p.shelveAt, escAt := f p.escAt }

/-- A run-up is pending. -/
def Point.runsUp (p : Point) : Bool := match p.dly with
  | some (.runup, _) => true
  | _ => false

/-- STANDBY exit: entries keep their remainder, channel and bus sources read STALE with their staleness counts from
zero, and an enabling gate starts a run-up (R75, R214). The run-up acts as one of R228 does: INHIBITED sets, a standing
limit occurrence is withdrawn, and a pending on-delay or off-delay gives way to it (DESIGN CHOICE: R214 says only that a
run-up starts, log entry 100). A point in an open edit range takes none of this but the re-basing (R200). -/
def resumeWheel (s : State) : State :=
  match s.eng.heldAt with
  | none => s
  | some t =>
    let d := s.since t
    let s := s.withEng { s.eng with
      heldAt := none
      pts := s.eng.pts.map fun x => (x.1, x.2.shift d) }
    s.eng.pts.foldl (fun s x =>
      let i := x.1
      let c := s.pcfg i
      match s.pt i with
      | none => s
      | some p =>
        if s.inEdit i then s
        else
        let src := c.kind == 1 || c.kind == 3
        let p1 := if src && !p.oos then
            { p with staleAt := (if c.staleLim = 0 then none else some (tickPlus s.now c.staleLim)) } else p
        let s := s.setPt i p1
        let s := if src then s.trigger (.deliver i p1.value .stale 0 0) else s
        if c.gateEn && !p1.oos && !s.heldPt i p1 && decide (0 < c.runup) && !p1.runsUp && s.gateEnabling c then
          let new := applyGate c s.now true { p1 with gate := none }
          commitPt i p1 (alertStep c s.now p1 new) 7 0 false (countEval s)
        else s) s

/-- A reset of class K of TIDE (R216). The forced pass starts the run-ups that were pending anew; a point in an open edit
range loses its entries and is not evaluated (R200). Change-driven work goes ahead (R236). -/
def resetWheel (s : State) : State :=
  let s := settle s
  let is := s.eng.pts.map (·.1)
  let ups := (s.eng.pts.filter fun x => x.2.runsUp).map (·.1)
  let s := is.foldl (fun s i =>
    match s.pt i with
    | none => s
    | some p =>
      let c := s.pcfg i
      let p1 := { p with dly := none, escAt := none, shelveAt := none, staleAt := (if c.staleLim = 0 ∨ p.oos then none else some (tickPlus s.now c.staleLim)) }
      if p.shelved && !s.inEdit i then mark 0x040 3 (commitPt i p (alertStep c s.now p { p1 with shelved := false }) 7 0 false (countEval s))
      else s.setPt i p1) s
  let s := is.foldl (fun s i =>
    match s.pt i with
    | some p =>
      let c := s.pcfg i
      let p1 := if ups.contains i then { p with gate := none } else p
      let p2 := if p.astate == .activeUnack && c.prio == 2 && c.esc != 0 && !p.escalated then
          { p1 with escAt := some (tickPlus s.now (32 * c.esc)) } else p1
      if s.inEdit i then s else evalForce i (s.setPt i p2)
    | none => s) s
  endPass is s

/-- A reset of class K of GRP: captures are dropped, each with FIRST_LOST (R235). -/
def resetGroups (s : State) : State :=
  (s.eng.firsts.map (·.1)).foldl (fun s g => firstLost g s) s

/-! PTE.CTL, TIDE.CTL, GRP.CMD. -/

/-- A forced pass over all used points (R204, R241); change-driven work is served ahead of it (R236). -/
def forcePass (s : State) : State :=
  let is := s.eng.pts.map (·.1)
  if !s.engineRuns then forceAll is s
  else
    let s := settle s
    endPass is ((is.filter fun i => !s.inEdit i).foldl (fun s i => evalForce i s) s)

/-- PTE.CTL (R241). -/
def actPteCtl (m : Word) (s : State) : State :=
  let s := if getBit m 1 then s.put F.pteLoadPeak 0 else s
  if getBit m 0 then forcePass s else s

def execForceAll (host : HostId) (s : State) : Host.Outcome State Fault Refusal :=
  .next (hostWord host 0x04004C (bitWord 0) actPteCtl s)

def execPeakClr (host : HostId) (s : State) : Host.Outcome State Fault Refusal :=
  .next (hostWord host 0x04004C (bitWord 1) actPteCtl s)

/-- TIDE.CTL (R243). -/
def actTideCtl (m : Word) (s : State) : State := if getBit m 0 then s.put F.tideMaxexpCount 0 else s

def execMaxexpClr (host : HostId) (s : State) : Host.Outcome State Fault Refusal :=
  .next (hostWord host 0x041050 (bitWord 0) actTideCtl s)

/-- GRP.CMD: the group of the writing host's selection re-arms at once (R233, R244). -/
def actGrpCmd (h : HostId) (m : Word) (s : State) : State :=
  if getBit m 0 then s.setFirst (s.getH h F.grpSelGroup) none else s

def execGroupRearm (host : HostId) (s : State) : Host.Outcome State Fault Refusal :=
  .next (hostWord host 0x04205C (bitWord 0) (actGrpCmd host) s)

/-! Counter slots (R194). -/

/-- A refusal that is not logged: bit 31 and FAULT_CODE (R199). -/
def quietRefusal (page code : Nat) (s : State) : State :=
  mark page 31 (if s.lastingCode page = 0 then s.put (F.hdrPageStatFaultCode.page page) code else s)

/-- CNT_LOAD: the live accumulator and the slot take CNT_HI and CNT_LO; logged with the old and the new value, each
as its low and its high word. -/
def cntLoad (s : State) : State :=
  if s.eng.edit.isSome then accessFault 0x044 0x30 s
  else
    let k := s.get F.manCntSlotSlot
    let new := s.get F.manCntHiAcc * 2 ^ 32 + s.get F.manCntLoAcc
    let old := s.liveAcc k
    let users := s.eng.pts.filter fun x => x.2.slot == some k
    let s := users.foldl (fun s x => s.setPt x.1 { x.2 with acc := new }) s
    raise 0x044 4 3 [old % 2 ^ 32, old / 2 ^ 32, new % 2 ^ 32, new / 2 ^ 32] (writeSlot k new s)

/-! Edits (R199 to R202). -/

/-- The range that MAN.EDIT names. -/
def State.editRange (s : State) : Nat × Nat := (s.get F.manEditFirst, s.get F.manEditFirst + s.get F.manEditCountM1)

/-- CMD.OPEN is written (R199). -/
def editOpen (h : HostId) (s : State) : State :=
  let (f, l) := s.editRange
  if s.eng.edit.isSome || decide (131071 < l) then quietRefusal 0x044 0x30 s
  else (s.put F.manCmdOpen 1).withEng { s.eng with openReq := some (f, l, h) }

/-- CMD.CLOSE is written (R201). -/
def editClose (s : State) : State :=
  if s.eng.edit.isSome then s.put F.manCmdClose 1 else accessFault 0x044 0x30 s

/-- MAN.CMD (R203). -/
def actManCmd (h : HostId) (m : Word) (s : State) : State :=
  let s := if getBit m 0 then editOpen h s else s
  let s := if getBit m 1 then editClose s else s
  if getBit m 2 then cntLoad s else s

def execManOpen (host : HostId) (s : State) : Host.Outcome State Fault Refusal :=
  .next (hostWord host 0x044044 (bitWord 0) (actManCmd host) s)

def execManClose (host : HostId) (s : State) : Host.Outcome State Fault Refusal :=
  .next (hostWord host 0x044044 (bitWord 1) (actManCmd host) s)

def execCntLoad (host : HostId) (s : State) : Host.Outcome State Fault Refusal :=
  .next (hostWord host 0x044044 (bitWord 2) (actManCmd host) s)

/-- The subject of a RUNHRS point is not usable from the moment its range opens: the ticks up to it count, and none of the
open range (R190, R194, R200). -/
def settleHours (f l : Nat) (s : State) : State :=
  s.eng.pts.foldl (fun s x =>
    let c := s.pcfg x.1
    if c.kind = 6 ∧ c.func = 8 ∧ f ≤ c.subject ∧ c.subject ≤ l ∧ !s.heldPt x.1 x.2 ∧ !x.2.oos then
      s.setPt x.1 (accStep 8 s.now false false x.2) else s) s

/-- The requested range opens at the end of the engine pass, after a timetable switch in progress (R199, R200). -/
def editOpenApply (s : State) : State :=
  match s.eng.openReq with
  | none => s
  | some (f, l, h) =>
    if !s.engineRuns || s.tt.pending.isSome then s
    else
      let s := (s.put F.manCmdOpen 0).withEng { s.eng with openReq := none }
      if !s.isOwner h then quietRefusal 0x044 0x30 s
      else
        let s := settleHours f l s
        let s := s.withEng { s.eng with
          edit := some (f, l, s.now)
          trigs := s.eng.trigs.filter fun t => decide (t.point < f) || decide (l < t.point) }
        raise 0x044 0 5 [] (s.put F.manStatIsOpen 1)

def execManOpenApply (s : State) : Host.Outcome State Fault Refusal := .next (editOpenApply s)

/-- The points of a range that have a record in use or had one. -/
def State.rangePts (s : State) (f l : Nat) : List Nat :=
  dedupe ((s.usedIdx ++ s.eng.pts.map (·.1)).filter fun i => decide (f ≤ i) && decide (i ≤ l))

/-- Ascending order of a list without repeats. -/
def ascending (is : List Nat) : List Nat := is.foldl (fun l i => (l.filter (· < i)) ++ [i] ++ (l.filter (i < ·))) []

/-- The range closes: validate, rebuild, one forced pass behind the change-driven work, STAT, BAD and the edit event, which
is stamped after the pass's events (R201, R202, R236, R353). -/
def closeRange (auto : Bool) (s : State) : State :=
  match s.eng.edit with
  | none => s
  | some (f, l, _) =>
    let is := ascending (s.rangePts f l)
    let bad := is.filterMap fun i => if s.recReason i = 0 then none else some (i, s.recReason i)
    let s := s.withEng { s.eng with edit := none }
    let s := settle (rebuildSome is (dropLevels is s))
    let used := is.filter fun i => (s.pt i).isSome
    let s := callSettle (used.foldl (fun s i => evalForce i s) s)
    let b := bad.headD (0, 0)
    let s := ((s.put F.manCmdClose 0).put F.manStatIsOpen 0).put F.manStatBadCnt bad.length
    let s := ((s.putFlag F.manStatAutoClosed auto).put F.manBadReason b.2).put F.manBadIndex b.1
    let s := raise 0x044 1 5 [f, l + 1 - f, bad.length, b.1] s
    let s := if bad.isEmpty then s else raise 0x044 2 5 [] s
    let s := if auto then raise 0x044 3 5 [] s else s
    switchNext (switchResume (endPass used s))

/-- The requested close, at the quiet point (R201). -/
def editCloseApply (s : State) : State := if s.engineRuns && s.flag F.manCmdClose then closeRange false s else s

def execEditCloseApply (s : State) : Host.Outcome State Fault Refusal := .next (editCloseApply s)

/-- 320 tide ticks after the range opened (R202). -/
def editAutoClose (s : State) : State :=
  match s.eng.edit with
  | some (_, _, t) => if s.engineRuns && decide (320 ≤ s.since t) then closeRange true s else s
  | none => s

def execEditAutoClose (s : State) : Host.Outcome State Fault Refusal := .next (editAutoClose s)

/-! Operator commands (R220 to R223, R242, R343). -/

/-- An acknowledgement or silence for an absent node joins the pending list (R343). -/
def holdAck (a : PendAck) (s : State) : State :=
  let q := s.xnet.pendAcks
  if q.length < 1024 then s.withXnet { s.xnet with pendAcks := q ++ [a] }
  else raise 0x064 10 3 [] ((s.bumpSat F.xnetAckqDropped 1).withXnet { s.xnet with pendAcks := q.drop 1 ++ [a] })

/-- ISSUER of R324: the node in [9:0], the host in bit 15. -/
def issuerWord (h : HostId) (s : State) : Nat := s.nodeId + 0x8000 * hostIdx h

/-- A group-scope or all-points acknowledgement of this node's host, expanded for each lost node, or for the one it
aims at (R343). -/
def expandAcks (h : HostId) (group only : Option Nat) (s : State) : State :=
  let rs := s.xnet.remotes.filter fun r =>
    only.all (· == r.node) && s.xnet.lost.toNat.testBit r.node && (r.astate == 1 || r.astate == 3) && (match group with
      | some g => Config.remoteMember r.node r.point g
      | none => true)
  rs.foldl (fun s r => holdAck ⟨r.node, 1, r.point, r.inst, issuerWord h s⟩ s) s

/-- Run one OPCMD; its result and count (R242). -/
def opRun (h : HostId) (op target inst : Nat) (s : State) : (Nat × Nat) × State :=
  let src := hostIdx h
  match op with
  | 1 => let (r, s) := ackOne target inst src 0 s
    ((r, b2n (r == 0)), endPass [target] s)
  | 2 => let (r, s) := silenceOne target src 0 s
    ((r, b2n (r == 0)), endPass [target] s)
  | 3 =>
    let is := s.scopePts (some (target % 4096)) false
    let (n, s) := ackScope (some (target % 4096)) false src 0 s
    ((b2n (n == 0), n), expandAcks h (some (target % 4096)) none (endPass is s))
  | 4 =>
    let is := s.scopePts none false
    let (n, s) := silenceScope src 0 s
    ((b2n (n == 0), n), endPass is s)
  | 5 =>
    let is := s.scopePts none false
    let (n, s) := ackScope none false src 0 s
    ((b2n (n == 0), n), expandAcks h none none (endPass is s))
  | _ => ((15, 0), s)

/-- DONE, BUSY, RESULT and COUNT as a word. -/
def resWord (done busy result count : Nat) : Word :=
  BitVec.ofNat 32 (done * 2 ^ 31 + busy * 2 ^ 30 + result % 256 * 2 ^ 16 + sat 0xFFFF count)

/-- The severity of a done event: refused commands are 2 (R418). -/
def doneSev (result : Nat) : Nat := if 2 ≤ result then 2 else 3

/-- An OPCMD runs to its end, behind what waits (R206). -/
def opCommand (h : HostId) (w inst : Word) (s : State) : State :=
  let ((r, n), s) := opRun h (getBits w 31 28) (getBits w 16 0) inst.toNat (settle s)
  raise 0x040 (8 + hostIdx h) (doneSev r) [] (s.setRegH h F.pteOpresDone.addr (resWord 1 0 r n))

/-- A command waits: in STANDBY for its exit, and one that names a point under restoration for its end (R74, R239). -/
def State.cmdWaits (s : State) (single : Bool) (w : Word) : Bool :=
  s.standby || (single && s.eng.restoring.contains (getBits w 16 0))

/-- An OPCMD starts, or waits with BUSY = 1. -/
def opStart (h : HostId) (w inst : Word) (s : State) : State :=
  if s.cmdWaits (getBits w 31 28 == 1 || getBits w 31 28 == 2) w then
    (s.setRegH h F.pteOpresDone.addr (resWord 0 1 0 0)).withEng { s.eng with waiting := s.eng.waiting ++ [(some h, w, inst)] }
  else opCommand h w inst s

/-- A write of OPCMD: refused while busy. -/
def actOpcmd (h : HostId) (v m : Word) (s : State) : State :=
  if m = 0 then s
  else if s.getH h F.pteOpresBusy = 1 then accessFault 0x040 0x30 s
  else opStart h v (s.regH h F.pteOpargInstance.addr) s

/-- The word of an OPCMD or ADMCMD. -/
def opWord (op target : Nat) : Word := BitVec.ofNat 32 (op * 2 ^ 28 + target)

/-- A host writes OPCMD. -/
def hostOpcmd (h : HostId) (w : Word) (s : State) : State := hostWord h 0x040050 w (actOpcmd h w) s

def execAckPoint (host : HostId) (point : PointIdx) (s : State) : Host.Outcome State Fault Refusal :=
  .next (hostOpcmd host (opWord 1 point.toNat) s)

def execSilencePoint (host : HostId) (point : PointIdx) (s : State) : Host.Outcome State Fault Refusal :=
  .next (hostOpcmd host (opWord 2 point.toNat) s)

def execAckGroup (host : HostId) (group : GroupIdx) (s : State) : Host.Outcome State Fault Refusal :=
  .next (hostOpcmd host (opWord 3 group.toNat) s)

def execSilenceAll (host : HostId) (s : State) : Host.Outcome State Fault Refusal :=
  .next (hostOpcmd host (opWord 4 0) s)

def execAckAll (host : HostId) (s : State) : Host.Outcome State Fault Refusal :=
  .next (hostOpcmd host (opWord 5 0) s)

/-! Administrative commands (R225, R229, R230, R242). -/

/-- Take a point out of service (R230); one whose row has no spare stays in FAULT with reason 3 (R240), and a KIND 5 point of a
part without the safety functions keeps source status FAULT with reason 4 (R188). -/
def oosOn (i : Nat) (s : State) : State :=
  match s.pt i with
  | none => s
  | some p =>
    let c := s.pcfg i
    let s := match c.slot with
      | some k => if p.reason = 3 then s else writeSlot k p.acc s
      | none => s
    let q := if p.astate == .normal then p else withdraw p
    let q := { q with dly := none, staleAt := none, shelveAt := none, escAt := none, shelved := false, inhibited := false }
    let q := { q with gate := none, oos := true }
    let q := if p.dead then q else { q with vstate := .unknown, reason := if s.unfittedPt c then 4 else 0, srcFault := 0 }
    commitPt i p q 7 0 false (countEval s)

/-- Shelve a point (R229); as a first evaluation after a rebuild it applies the gate (R228). -/
def shelvePt (i dur : Nat) (s : State) : State :=
  match s.pt i with
  | none => s
  | some p =>
    let c := s.pcfg i
    let q := { firstGate c s p with shelved := true, shelveAt := some (s.inTicks (32 * dur)) }
    commitPt i p (alertStep c s.now p q) 7 0 false (countEval s)

/-- A point leaves SHELVED by command (R229). -/
def unshelvePt (i : Nat) (s : State) : State :=
  match s.pt i with
  | none => s
  | some p =>
    let c := s.pcfg i
    commitPt i p (alertStep c s.now p { firstGate c s p with shelved := false, shelveAt := none }) 7 0 false (countEval s)

/-- The result of an administrative command; 0 when it takes effect (R225, R229, R230, R242). -/
def admResult (op i dur : Nat) (s : State) : Nat :=
  if op = 0 ∨ 4 < op then 15
  else match s.pt i with
    | none => 4
    | some p =>
      if s.inEdit i || (p.oos && op != 4) then 4
      else match op with
        | 1 => if (s.pcfg i).prio == 0 || (s.pcfg i).cat == 0 then 6 else if dur = 0 then 7 else 0
        | 2 => if p.shelved then 0 else 1
        | 3 => 0
        | _ => if p.oos then 0 else 1

/-- An ADMCMD runs to its end, behind what waits (R206). -/
def admCommand (w arg : Word) (s : State) : State :=
  let s := settle s
  let op := getBits w 31 28
  let i := getBits w 16 0
  let dur := getBits arg 15 0
  let r := admResult op i dur s
  let s :=
    if r ≠ 0 then s
    else match op with
      | 1 => endPass [i] (shelvePt i dur s)
      | 2 => endPass [i] (unshelvePt i s)
      | 3 => endPass [i] (oosOn i s)
      | _ => endPass [i] (rebuildSome [i] (dropLevels [i] s))
  raise 0x040 10 (doneSev r) [] (s.setReg F.pteAdmresDone.addr (resWord 1 0 r (b2n (r == 0))))

/-- An ADMCMD starts, or waits with BUSY = 1. -/
def admStart (w arg : Word) (s : State) : State :=
  if s.cmdWaits (decide (1 ≤ getBits w 31 28) && decide (getBits w 31 28 ≤ 4)) w then
    (s.setReg F.pteAdmresDone.addr (resWord 0 1 0 0)).withEng { s.eng with waiting := s.eng.waiting ++ [(none, w, arg)] }
  else admCommand w arg s

/-- A write of ADMCMD. -/
def actAdmcmd (v m : Word) (s : State) : State :=
  if m = 0 then s
  else if s.get F.pteAdmresBusy = 1 then accessFault 0x040 0x30 s
  else admStart v (s.reg F.pteAdmargDuration.addr) s

/-- A host writes ADMCMD. -/
def hostAdmcmd (h : HostId) (w : Word) (s : State) : State := hostWord h 0x040060 w (actAdmcmd w) s

def execShelve (host : HostId) (point : PointIdx) (s : State) : Host.Outcome State Fault Refusal :=
  .next (hostAdmcmd host (opWord 1 point.toNat) s)

def execUnshelve (host : HostId) (point : PointIdx) (s : State) : Host.Outcome State Fault Refusal :=
  .next (hostAdmcmd host (opWord 2 point.toNat) s)

def execOosOn (host : HostId) (point : PointIdx) (s : State) : Host.Outcome State Fault Refusal :=
  .next (hostAdmcmd host (opWord 3 point.toNat) s)

def execOosOff (host : HostId) (point : PointIdx) (s : State) : Host.Outcome State Fault Refusal :=
  .next (hostAdmcmd host (opWord 4 point.toNat) s)

/-- An OPCMD or ADMCMD with an OP that R242 does not define: result 15. -/
def execOpcmdUndefined (host : HostId) (adm : Bool) (value : Word) (s : State) : Host.Outcome State Fault Refusal :=
  .next (if adm then hostAdmcmd host value s else hostOpcmd host value s)

/-- The commands that waited, at STANDBY exit and at the end of a restoration. -/
def runWaiting (s : State) : State :=
  let ws := s.eng.waiting
  ws.foldl (fun s w => match w.1 with
    | some h => opStart h w.2.1 w.2.2 s
    | none => admStart w.2.1 w.2.2 s) (s.withEng { s.eng with waiting := [] })

/-! The inputs of PTE.ACKDI (R223, R224). -/

/-- The acknowledge input acts. -/
def ackInput (s : State) : State :=
  if !s.diGood || !s.flag F.pteAckdiAckEn then s
  else
    let s := settle s
    let g := if s.flag F.pteAckdiAckScope then some (s.get F.pteAckdiAckGrp) else none
    let is := s.scopePts g true
    endPass is (ackScope g true 3 0 s).2

def execAckInput (s : State) : Host.Outcome State Fault Refusal := .next (ackInput s)

/-- The silence input acts. -/
def silenceInput (s : State) : State :=
  if !s.diGood || !s.flag F.pteAckdiSilEn then s
  else
    let s := settle s
    endPass (s.scopePts none false) (silenceScope 3 0 s).2

def execSilenceInput (s : State) : Host.Outcome State Fault Refusal := .next (silenceInput s)

/-! Engine memory faults (R238 to R240). -/

/-- A scrub that corrected some words (R238). -/
def eccScrub (n : Nat) (s : State) : State :=
  if n = 0 then s else raise 0x040 16 3 [n] (s.bumpSat F.pteEccCorr n)

def execEccScrub (corrected : Nat) (s : State) : Host.Outcome State Fault Refusal := .next (eccScrub corrected s)

/-- A point held in FAULT because no spare row is left: its groups count it no more, and then its state moves (R240); in an
open edit range at its close (R200). -/
def deadPt (i : Nat) (s : State) : State :=
  let s := s.withEng { s.eng with deadPts := s.eng.deadPts ++ if s.eng.deadPts.contains i then [] else [i] }
  match s.pt i with
  | none => s
  | some p =>
    let c := s.pcfg i
    let p := { p with dead := true }
    let s := recountGroups (s.groupSnaps p.groups) (s.setPt i p)
    if s.inEdit i then s else
    let q := { p.cancelDelay with vstate := .fault, reason := 3, staleAt := none }
    commitPt i p (alertStep c s.now p q) 7 0 false (countEval s)

/-- A group with state in a lost row: its counts are formed anew, its FIRST is gone (R235, R239, R240). -/
def groupLost (g : Nat) (s : State) : State := if (s.firstOut g).isSome then firstLost g s else s

/-- A group whose row has no spare cannot be held valid: it is out of use from now on (R240). -/
def deadGrp (g : Nat) (s : State) : State :=
  let s := groupLost g s
  s.withEng { s.eng with deadGrps := s.eng.deadGrps ++ if s.eng.deadGrps.contains g then [] else [g] }

/-- A lasting error of the row that holds the runtime of some points, the working records of others, the state of
some groups and a part of the logbook's index (R239, R240, R437). -/
def rowLost (is cfg gs : List Nat) (index : Bool) (s : State) : State :=
  let all := dedupe (is ++ cfg)
  let s := if index then s.put F.logStatIndexing 1 else s
  let s := raise 0x040 18 3 [] ((lastingFault 0x040 s).bumpSat F.pteEccUncorr 1)
  let left := s.get F.pteSpareLeft
  if left = 0 then
    endPass all (gs.foldl (fun s g => deadGrp g s) (all.foldl (fun s i => deadPt i s) (s.setLasting 0x040 0x41)))
  else
    let s := s.put F.pteSpareLeft (left - 1)
    let s := if left - 1 ≤ 4 then raise 0x040 19 3 [] s else s
    let more := all.filter (fun i => (s.pt i).isSome && !s.eng.restoring.contains i)
    s.withEng { s.eng with
      restoring := s.eng.restoring ++ more
      restoringCfg := s.eng.restoringCfg ++ cfg
      restoringGrp := s.eng.restoringGrp ++ gs }

/-- An uncorrectable error and its return trip (R239): the next event of a point that it affected carries RESYNC (R371). -/
def eccUncorrectable (secondOk : Bool) (is cfg gs : List Nat) (index : Bool) (s : State) : State :=
  if secondOk then
    raise 0x040 17 3 [] (transient 0x040 (is.foldl (fun s i => match s.pt i with
      | some p => s.setPt i { p with resync := true }
      | none => s) s))
  else rowLost is cfg gs index s

def execEccUncorrectable (secondOk : Bool) (points : List PointIdx) (s : State) (records : List PointIdx := [])
    (groups : List GroupIdx := []) (index : Bool := false) : Host.Outcome State Fault Refusal :=
  .next (eccUncorrectable secondOk (dedupe (points.map (·.toNat))) (dedupe (records.map (·.toNat)))
    (dedupe (groups.map (·.toNat))) index s)

/-- HOLD.EGRESS_MAX after a hold of `us` microseconds (R377). -/
def noteEgress (us : Nat) (s : State) : State := s.put F.ordHoldEgressMax (max (s.get F.ordHoldEgressMax) us)

/-- The working record of a point is derived anew from the base image and the active timetables; an edit that it held is
gone (R239). -/
def deriveRecord (i : Nat) (s : State) : State :=
  let base := s.baseState
  (List.range 16).foldl (fun t k => t.setWinWord (manAddr i + 4 * k) (layered s.oldLayers (manAddr i + 4 * k) (base.winWord (manAddr i + 4 * k)))) s

/-- Points are rebuilt and evaluated in a forced pass, behind the change-driven work (R197, R204, R236). Of one in an open edit
range only the GAP for what it held goes out: it keeps its record, and is rebuilt at the close (R200, R371). -/
def rebuildForced (is : List Nat) (s : State) : State :=
  let s := (is.filter s.inEdit).foldl (fun s i => egressGap i s) s
  let is := is.filter fun i => !s.inEdit i
  let s := settle (rebuildSome is (dropLevels is s))
  endPass is (is.foldl (fun s i => evalForce i s) s)

/-- The row's contents are restored: records, points and groups, and what waited for them runs (R239, R371). A hold that
ended before its limit lasted a time that the spec leaves open. -/
def rowRestored (s : State) : State :=
  let is := s.eng.restoring
  let s :=
    if s.eng.egress.any fun x => is.contains x.1 then
      let (v, s) := s.draw 10
      noteEgress (min v 1000) s
    else s
  let cfg := s.eng.restoringCfg
  let gs := s.eng.restoringGrp
  let s := s.withEng { s.eng with restoring := [], restoringCfg := [], restoringGrp := [] }
  let s := cfg.foldl (fun s i => deriveRecord i s) s
  let all := dedupe (is ++ cfg)
  let s := if all.isEmpty then s else rebuildForced all s
  let s := if gs.isEmpty then s else endPass [] (gs.foldl (fun s g => groupLost g s) s)
  if s.standby then s else runWaiting s

/-- The 1,000 µs limit of a hold at engine egress (R368, R371): the point is rebuilt, and its restoration goes on. -/
def egressExpiry (s : State) : State :=
  let is := dedupe (s.eng.egress.map (·.1))
  if is.isEmpty then s else rebuildForced is (noteEgress 1000 s)

def execEgressHoldExpiry (s : State) : Host.Outcome State Fault Refusal := .next (egressExpiry s)

end Sys2Proof.Machine
end

