-- ==== Sys2Proof/Machine/Logbook.lean ====
section
/-!
DEFINITION. The logbook (chapter 15): writing, severity policy, freeze and holding ring, gangway, clears, rate-limit
summaries, failure, the last-gasp area and the start.
-/

namespace Sys2Proof.Machine

def logPage : Nat := 0x078

/-! Sorted areas. -/

/-- Put a record at its place by key (R414). -/
def recInsert (r : Rec) : List Rec → List Rec
  | [] => [r]
  | x :: xs => if r.key < x.key then r :: x :: xs else x :: recInsert r xs

/-- A record of the same key is held (R426). -/
def recHeld (r : Rec) (rs : List Rec) : Bool := rs.any fun x => x.key == r.key

/-- Remove the first record that a test picks: in an ascending list, the oldest. -/
def dropFirst (p : Rec → Bool) (rs : List Rec) : List Rec := rs.eraseP p

/-- Slots of the main area that are not retired (R433). -/
def State.mainCap (s : State) : Nat := 131072 - s.lg.retired.length

def ringMax : Nat := 512
def failoverMax : Nat := 128

/-- Records of strictly lower severity, then of equal severity: what R428 replaces in a full area; none where the new
record is dropped. -/
def areaVictim (r : Rec) (rs : List Rec) : Option Rec :=
  (rs.find? fun x => decide (x.sev < r.sev)) <|> (rs.find? fun x => x.sev == r.sev)

/-- What R424 replaces in a full main area. -/
def mainVictim (r : Rec) (s : State) : Option Rec :=
  (s.lg.main.find? fun x => decide (x.sev < r.sev))
    <|> (if (s.get F.logCtlWrapEq).testBit r.sev then s.lg.main.find? fun x => x.sev == r.sev && decide (x.key < r.key) else none)

/-! The gangways (R429, R430). -/

/-- The key a host's gangway stands at. -/
def State.gwyKey (s : State) (h : HostId) : Nat :=
  (s.getH h F.gwyCurThiTally * 2 ^ 32 + s.getH h F.gwyCurTloTally) * 1024 + s.getH h F.gwyCurNodeNode

/-- The filter of a host passes a record. -/
def State.gwyPass (s : State) (h : HostId) (r : Rec) : Bool :=
  decide (s.getH h F.gwyFiltMinSev ≤ r.sev) && !(s.getH h F.gwyFiltOwnOnly == 1 && r.node != s.nodeId)

/-- Set the three key registers. -/
def putKey (h : HostId) (k : Nat) (s : State) : State :=
  ((s.putH h F.gwyCurTloTally (k / 1024 % 2 ^ 32)).putH h F.gwyCurThiTally (k / 1024 / 2 ^ 32)).putH h F.gwyCurNodeNode (k % 1024)

/-- Load a record into a gangway. -/
def gwyLoad (h : HostId) (r : Rec) (s : State) : State :=
  let ws := bytesWords 16 r.bytes
  let s := (List.range 16).foldl (fun s k => s.setRegH h (0x079080 + 4 * k) (nth ws k 0)) s
  ((putKey h r.key s).putH h F.gwyStatLoaded 1).putH h F.gwyStatEnd 0

/-- Nothing at or above the search key: END. -/
def gwyEnd (h : HostId) (s : State) : State := (s.putH h F.gwyStatLoaded 0).putH h F.gwyStatEnd 1

/-- Load the lowest passing record at or above the key, or end. -/
def gwySeek (h : HostId) (k : Nat) (s : State) : State :=
  match s.gwyRecs.find? fun r => decide (k ≤ r.key) && s.gwyPass h r with
  | some r => gwyLoad h r s
  | none => gwyEnd h (putKey h k s)

/-- A gangway returns to no record loaded (R432, R439). -/
def gwyReset (h : HostId) (s : State) : State :=
  let s := (List.range 16).foldl (fun s k => s.setRegH h (0x079080 + 4 * k) 0) s
  ((s.putH h F.gwyStatLoaded 0).putH h F.gwyStatEnd 0).putH h F.gwyStatWait 0

/-- A record has been written where the gangway reads: BEHIND, or TAIL at the end (R430). -/
def gwyNotice (r : Rec) (s : State) (h : HostId) : State :=
  if r.key < s.gwyKey h then
    (s.putH h F.gwyStatBehind (sat 0xFFFF (s.getH h F.gwyStatBehind + 1))).setRaw 0x079 (hostIdx h)
  else if s.getH h F.gwyStatEnd = 1 ∧ !s.gwyWait h ∧ s.gwyPass h r then (gwyLoad h r s).setRaw 0x079 (2 + hostIdx h)
  else s

def gwyNotices (r : Rec) (s : State) : State := [HostId.a, HostId.b].foldl (gwyNotice r) s

/-- A key plus one (R429): keys are tally × 1,024 + node. -/
def gwyAdvance (h : HostId) (s : State) : State :=
  if s.gwyWait h || s.getH h F.gwyStatLoaded == 0 then s else gwySeek h (s.gwyKey h + 1) s

def execGwyAdvance (host : HostId) (s : State) : Host.Outcome State Fault Refusal :=
  .next (if s.answers then gwyAdvance host s else s)

/-- GWY.CMD: a seek begins (R429, R439). -/
def actGwyCmd (h : HostId) (v m : Word) (s : State) : State :=
  let op := getBits (v &&& m) 1 0
  if m = 0 then s
  else if s.gwyWait h then accessFault 0x079 0x30 s
  else if op = 0 then s
  else (s.setRegH h F.gwyCmdOp.addr (BitVec.ofNat 32 op)).putH h F.gwyStatWait 1

/-- A host writes GWY.CMD. -/
def hostGwy (h : HostId) (op : Nat) (s : State) : State :=
  hostWord h 0x079050 (BitVec.ofNat 32 op) (actGwyCmd h (BitVec.ofNat 32 op)) s

def execSeekKey (host : HostId) (s : State) : Host.Outcome State Fault Refusal := .next (hostGwy host 1 s)
def execSeekFirst (host : HostId) (s : State) : Host.Outcome State Fault Refusal := .next (hostGwy host 2 s)
def execSeekLast (host : HostId) (s : State) : Host.Outcome State Fault Refusal := .next (hostGwy host 3 s)

/-- The seek completes (R429): not while the gangway is held for another reason (R430). -/
def gwySeekDone (h : HostId) (s : State) : State :=
  if s.getH h F.gwyStatWait = 0 ∨ s.gwyHeld then s
  else
    let s := s.putH h F.gwyStatWait 0
    match s.getH h F.gwyCmdOp with
    | 1 => gwySeek h (s.gwyKey h) s
    | 2 => gwySeek h 0 s
    | _ =>
      match s.gwyRecs.reverse.find? (s.gwyPass h) with
      | some r => gwyLoad h r s
      | none => gwyEnd h s

def execGwySeekDone (host : HostId) (s : State) : Host.Outcome State Fault Refusal := .next (gwySeekDone host s)

/-! Writing. -/

/-- LOSS.FULL and the pending loss range (R424, R425). -/
def dropRec (r : Rec) (s : State) : State :=
  ((s.withLg (noteLoss r false s.lg)).bumpSat F.logLossFull 1).setRaw logPage 2

/-- The main area has no free slot. -/
def State.mainFull (s : State) : Bool := decide (s.mainCap ≤ s.lg.main.length)

/-- FULL, the first time the main area has no free slot (R424). -/
def fullCheck (s : State) : State :=
  if s.mainFull then
    (if s.lg.fullSeen then s else (s.withLg { s.lg with fullSeen := true }).setRaw logPage 0)
  else s.withLg { s.lg with fullSeen := false }

/-- A record of the main area is overwritten (R424). -/
def overwrite (v : Rec) (s : State) : State :=
  ((s.withLg (noteGone v { s.lg with main := s.lg.main.erase v })).bumpSat F.logOvwrCount 1).setRaw logPage 1

/-- A record has entered the main area. -/
def mainWritten (r : Rec) (s : State) : State :=
  let s := s.setLastTally logPage r.tally
  fullCheck (if s.flag F.logStatFailed then s else gwyNotices r s)

/-- A record takes its place in the main area. -/
def mainStore (r : Rec) (s : State) : State := mainWritten r (s.withLg { s.lg with main := recInsert r s.lg.main })

/-- Write a record to the main area under R424 and R426; whether it was written. -/
def mainWrite (r : Rec) (s : State) : Bool × State :=
  if recHeld r s.lg.main then (false, s)
  else if !s.mainFull then (true, mainStore r s)
  else match mainVictim r s with
    | some v => (true, mainStore r (overwrite v s))
    | none => (false, dropRec r s)

/-- Write a record to an area of `cap` slots under R428; none where it was dropped. -/
def areaWrite (cap : Nat) (r : Rec) (rs : List Rec) : Option (List Rec) :=
  if recHeld r rs then some rs
  else if rs.length < cap then some (recInsert r rs)
  else (areaVictim r rs).map fun v => recInsert r (rs.erase v)

/-- The record that such a write overwrites is no longer held (R345). -/
def areaGone (cap : Nat) (r : Rec) (rs : List Rec) (l : Log) : Log :=
  if recHeld r rs || decide (rs.length < cap) then l
  else match areaVictim r rs with
    | some v => noteGone v l
    | none => l

/-- Write a record to the holding ring; RING_FULL the first time it is full during a freeze (R428). -/
def ringWrite (r : Rec) (s : State) : Bool × State :=
  match areaWrite ringMax r s.lg.ring with
  | none => (false, dropRec r s)
  | some rs =>
    let full := decide (ringMax ≤ rs.length)
    let first := full && s.lg.freezeAt.isSome && !s.lg.ringFullSeen
    let s := s.withLg { areaGone ringMax r s.lg.ring s.lg with ring := rs, ringFullSeen := s.lg.ringFullSeen || first }
    (true, if first then s.setRaw logPage 6 else s)

/-- The proxy node: LOG.PROXY where it is enabled and present, else the neighbour on the lowest UP port (R435). -/
def State.proxy (s : State) : Option Nat :=
  if s.flag F.logProxyEn && s.isPresent (s.get F.logProxyNode) then some (s.get F.logProxyNode)
  else
    ([0, 1, 2, 3].find? fun n => s.portUp n && s.flag (F.xpStatNeighValid.page n)).map fun n => s.get (F.xpStatNeighNode.page n)

/-- Send a record to the proxy (R435). -/
def proxySend (r : Rec) (s : State) : State :=
  match s.proxy with
  | none => (s.bumpSat F.logRetiredProxyLost 1).setRaw logPage 14
  | some n => originate (s.newFrame 0x02 n r.tally false false ([2, 0, 0, 0] ++ r.bytes)) s

/-- The last-gasp slots hold the newest three records (R434). -/
def gaspPush (r : Rec) (s : State) : State :=
  s.withLg { s.lg with lastGasp := { s.lg.lastGasp with slots := (r :: s.lg.lastGasp.slots).take 3 } }

/-- A record of a failed logbook goes to the fail-over area, the last-gasp slots and the proxy (R434). -/
def failoverWrite (r : Rec) (s : State) : Bool × State :=
  let s := proxySend r (gaspPush r s)
  match areaWrite failoverMax r s.lg.failover with
  | none => (false, dropRec r s)
  | some rs => (true, gwyNotices r (s.withLg { areaGone failoverMax r s.lg.failover s.lg with failover := rs }))

/-- After a successful write, the LOSS event for what was lost before (R425). -/
def lossReport (s : State) : State :=
  match s.lg.loss with
  | none => s
  | some p =>
    let payload := leBytes 4 p.queue ++ leBytes 4 p.full ++ leBytes 8 p.tLo ++ leBytes 8 p.tHi
    emitLocal ⟨.node, logPage, 0x7821, p.sev, payload, false⟩ (s.withLg { s.lg with loss := none })

/-- New records go to the holding ring: the main area is frozen, or a clear runs (R427, R432). -/
def State.ringing (s : State) : Bool := s.lg.freezeAt.isSome || s.lg.clear.isSome

/-- Write one record where it belongs now; whether it was written. -/
def writeRec (r : Rec) (s : State) : Bool × State :=
  if s.flag F.logStatFailed then failoverWrite r s
  else if s.ringing then ringWrite r s
  else mainWrite r s

/-- The logbook fails (R434). -/
def logFail (s : State) : State :=
  let s := (s.put F.logStatFailed 1).setLasting logPage 0x40
  record logPage 0x7824 5 [] (s.setRaw logPage 13)

/-- A lasting write fault retires the slot; the record waits for another one (R433, R434). In a full main area the slot
is that of the record that R424 gives up for it, which is gone. -/
def slotLost (r : Rec) (slot : Nat) (s : State) : State :=
  let s := lastingFault logPage s
  let known := s.lg.retired.contains slot
  let s := match if !known && s.mainFull then mainVictim r s else none with
    | some v => overwrite v s
    | none => s
  let s := s.withLg { s.lg with
    retired := if known then s.lg.retired else s.lg.retired ++ [slot]
    faultRun := s.lg.faultRun + 1 }
  let s := fullCheck (record logPage 0x7825 3 [slot] (s.setRaw logPage 12))
  if 256 ≤ s.lg.retired.length ∨ 8 ≤ s.lg.faultRun then logFail s else s

/-- A write of the queue's head may start: the NVM gate is open, no merge or index rebuild runs, the node is not in STANDBY and the
blocks run (R420, R427). -/
def State.logMay (s : State) : Bool :=
  s.answers && !s.gateClosed && !s.standby && !s.flag F.logStatMerging && !s.flag F.logStatIndexing

/-- The record at the front of the queue goes to its store; when it stands, waiting losses are reported (R424). -/
def writeFront (r : Rec) (q : List Rec) (s : State) : State :=
  let (ok, s) := writeRec r (s.withLg { s.lg with ingress := q, faultRun := 0 })
  if ok then lossReport s else s

/-- The main area, the holding ring or the fail-over area already holds the key of a record (R426). -/
def State.recStored (s : State) (r : Rec) : Bool :=
  recHeld r s.lg.main || recHeld r s.lg.ring || recHeld r s.lg.failover

/-- The next record of the ingress queue is written (R420, R424, R427, R433, R434), or discarded (R426). -/
def logWriteHead (o : LogWrite) (s : State) : State :=
  match s.lg.ingress with
  | [] => s
  | r :: q =>
    if s.recStored r then s.withLg { s.lg with ingress := q } else
    let toMain := !s.flag F.logStatFailed && !s.ringing
    match o with
    | .ok => writeFront r q s
    | .retryOk => writeFront r q (transient logPage s)
    | .lasting slot =>
      if !toMain then writeFront r q (lastingFault logPage s)
      else if s.mainFull && (mainVictim r s).isNone then writeFront r q s
      else slotLost r slot.toNat s

/-- A write of the queue's head, where one may start. -/
def logWriteNext (o : LogWrite) (s : State) : State := if s.logMay then logWriteHead o s else s

def execLogRecordWrite (outcome : LogWrite) (s : State) : Host.Outcome State Fault Refusal := .next (logWriteNext outcome s)

/-! Records of other nodes (R414, R416, R435). -/

/-- The record of a remote point or group event (R416). -/
def remoteRec (f : XFrame) (s : State) : Rec :=
  let sub := leAt f.body 0 1
  let payload := slice f.body 4 24
  let prio := if sub = 0 then leField payload 16 17 16 else leField payload 0 13 12
  { tally := f.tally, node := f.origin, code := if sub = 0 then 0x4080 else 0x4280, sev := prioSev prio,
    flags := 1 + 16 * b2n f.partitioned + 32 * b2n (!s.flag F.rtcStatOsf),
    epoch := f.epoch, gen := leAt f.body 28 4, cycles := s.pwr.cycles, svc := s.pwr.svc, rtc := s.rtcBytes, payload := payload }

/-- A record that arrives whole: REMOTE is set, and PROXY for a proxy record (R416). -/
def wholeRec (f : XFrame) : Rec :=
  let r := Rec.ofBytes (slice f.body 4 64)
  { r with flags := r.flags ||| 1 ||| (if f.bcast then 0 else 2) }

/-- The record of a live node event of another node: EPOCH, GEN and PARTITIONED come from the frame, CYCLES, SVC and RTC
are this node's at receipt (R416). -/
def liveNodeRec (f : XFrame) (s : State) : Rec :=
  { wholeRec f with
    flags := 1 + 16 * b2n f.partitioned + 32 * b2n (!s.flag F.rtcStatOsf)
    epoch := f.epoch, cycles := s.pwr.cycles, svc := s.pwr.svc, rtc := s.rtcBytes }

/-- The logbook already holds a record with this origin and tally (R345). -/
def State.recKnown (s : State) (r : Rec) : Bool :=
  s.recStored r || recHeld r s.lg.ingress

/-- A delivered event frame reaches the logbook; whether it was taken. -/
def logRemote (f : XFrame) (s : State) : State :=
  let r :=
    if leAt f.body 0 1 ≠ 2 then remoteRec f s
    else if f.bcast && !f.replay then liveNodeRec f s else wholeRec f
  if f.replay && s.recKnown r then s else logPush r s

/-! Freeze (R427). -/

/-- One record of a merge is written, after the lasting faults of the slots named; when it stands, waiting losses are
reported, and once the logbook has failed it goes the way of R434 (R424, R425, R426, R433). -/
def mergeOne (worn : List Nat) (r : Rec) (s : State) : State :=
  if recHeld r s.lg.main then s
  else
    let s := worn.foldl (fun s b =>
      if s.flag F.logStatFailed || (s.mainFull && (mainVictim r s).isNone) then s else slotLost r b s) s
    let (ok, s) := if s.flag F.logStatFailed then failoverWrite r s else mainWrite r (s.withLg { s.lg with faultRun := 0 })
    if ok then lossReport s else s

/-- Merge records into the main area in ascending key; `worn` names the record's place in that order and the slot of each
write that fails for good (R424, R433). -/
def mergeInto (worn : List (Nat × BitVec 17)) (rs : List Rec) (s : State) : State :=
  (rs.foldr recInsert []).zipIdx.foldl (fun s x =>
    mergeOne ((worn.filter fun w => w.1 == x.2).map fun w => w.2.toNat) x.1 s) s

/-- CTL.FREEZE = 1. A merge under way stops: its records stay in the ring until the freeze ends (R427). -/
def freezeOn (s : State) : State :=
  if s.flag F.logStatFailed then accessFault logPage 0x30 s
  else if s.lg.freezeAt.isSome then s.withLg { s.lg with freezeAt := some s.now }
  else
    let s := (s.withLg { s.lg with freezeAt := some s.now, ringFullSeen := false }).put F.logStatMerging 0
    record logPage 0x7826 3 [] (((s.put F.logStatFrozen 1).put F.logCtlFreeze 1).setRaw logPage 4)

/-- The freeze ends; the ring is merged, after a running clear where there is one. -/
def freezeOff (expired : Bool) (s : State) : State :=
  if s.lg.freezeAt.isNone then s
  else
    let s := s.withLg { s.lg with freezeAt := none }
    let s := ((s.put F.logStatFrozen 0).put F.logCtlFreeze 0).putFlag F.logStatMerging s.lg.clear.isNone
    record logPage 0x7827 3 [b2n expired] (s.setRaw logPage 5)

/-- LOG.CTL (R427, R438): WRAP_EQ is stored; FREEZE acts. -/
def actLogCtl (h : HostId) (v m : Word) (s : State) : State :=
  let s := storeFields h 0x078040 v (m &&& 0xFF00) s
  if getBit m 0 then (if getBit v 0 then freezeOn s else freezeOff false s) else s

/-- A write of LOG.CTL that changes FREEZE alone. -/
def hostFreeze (h : HostId) (on : Bool) (s : State) : State :=
  let w := setBits (s.reg 0x078040) 0 0 (b2n on)
  hostWord h 0x078040 w (actLogCtl h w) s

def execLogFreeze (host : HostId) (s : State) : Host.Outcome State Fault Refusal := .next (hostFreeze host true s)
def execLogUnfreeze (host : HostId) (s : State) : Host.Outcome State Fault Refusal := .next (hostFreeze host false s)

/-- 1,920 tide ticks after the last write of FREEZE = 1. -/
def freezeExpiry (s : State) : State :=
  match s.lg.freezeAt with
  | some t => if 1920 ≤ s.since t then freezeOff true s else s
  | none => s

def execFreezeExpiry (s : State) : Host.Outcome State Fault Refusal := .next (freezeExpiry s)

/-- The merge of the ring completes (R427). -/
def mergeRing (worn : List (Nat × BitVec 17)) (s : State) : State :=
  let rs := s.lg.ring
  let s := (s.withLg { s.lg with ring := [] }).put F.logStatMerging 0
  (mergeInto worn rs s).setRaw logPage 7

/-! Clearing (R431, R432). -/

/-- The clear key closes. -/
def closeKey (s : State) : State := (s.withLg { s.lg with clrKey := none }).setReg F.logClrKeyKey.addr 0

/-- A clear may not be asked for now. -/
def State.clearBars (s : State) : Bool :=
  s.lg.freezeAt.isSome || s.lg.clear.isSome || s.flag F.logStatMerging || s.flag F.logStatFailed

/-- CLR_REQ.REQ (R431). -/
def actClrReq (h : HostId) (m : Word) (s : State) : State :=
  if !getBit m 0 then s
  else if h = .b then accessFault logPage 0x36 s
  else if s.clearBars then accessFault logPage 0x30 s
  else
    let (k, s) := s.drawKey
    let s := s.withLg { s.lg with clrKey := some (k, s.now, 0) }
    ((s.put F.logClrKeyKey k).put F.logClrKeyValid 1).setRaw logPage 8

def execClrReq (host : HostId) (s : State) : Host.Outcome State Fault Refusal :=
  .next (hostWord host 0x0780D0 (bitWord 0) (actClrReq host) s)

/-- An accepted clear starts. -/
def clearStart (scope : Nat) (s : State) : State :=
  let hi := (s.lg.main.getLast?.map Rec.key).getD 0
  let s := closeKey s
  ((s.withLg { s.lg with clear := some (scope, hi) }).put F.logStatClearing 1).put F.logClrResDone 0

/-- CLR_CMD, checked in the order of R431: the writer, an open key, the key's value, SEAL_WE. -/
def actClrCmd (h : HostId) (v m : Word) (s : State) : State :=
  if m = 0 then s
  else if h = .b then accessFault logPage 0x36 s
  else
    match s.lg.clrKey with
    | none => accessFault logPage 0x30 s
    | some (k, t, wrong) =>
      let scope := getBits v 31 28
      if getBits v 15 0 ≠ k then
        let s := accessFault logPage 0x37 s
        if 2 ≤ wrong then closeKey s else s.withLg { s.lg with clrKey := some (k, t, wrong + 1) }
      else if scope = 1 ∧ !s.sealWe then accessFault logPage 0x23 s
      else if 1 < scope ∨ s.clearBars then accessFault logPage 0x30 s
      else clearStart scope s

def execClrCmd (host : HostId) (value : Word) (s : State) : Host.Outcome State Fault Refusal :=
  .next (hostWord host 0x0780D8 value (actClrCmd host value) s)

/-- 64 tide ticks after the key was drawn. -/
def clrExpiry (s : State) : State :=
  match s.lg.clrKey with
  | some (_, t, _) => if 64 ≤ s.since t then closeKey s else s
  | none => s

def execClrKeyExpiry (s : State) : Host.Outcome State Fault Refusal := .next (clrExpiry s)

/-- The 24 bytes of a CLEARED record (R432). -/
def clearedPayload (scope : Nat) (gone : List Rec) (loss ovwr : Nat) : List Byte :=
  let tLo := (gone.head?.map Rec.tally).getD 0
  let span := (gone.getLast?.map Rec.tally).getD 0 - tLo
  leBytes 4 (gone.length + scope * 2 ^ 28 + b2n (decide (0xFFFFFFFF < span)) * 2 ^ 29) ++ leBytes 4 loss ++ leBytes 4 ovwr
    ++ leBytes 8 tLo ++ leBytes 4 (sat 0xFFFFFFFF span)

/-- A running clear empties its scope and ends (R432). -/
def clearFinish (s : State) : State :=
  match s.lg.clear with
  | none => s
  | some (scope, hi) =>
    let p := fun (r : Rec) => decide (r.key ≤ hi) && (scope == 1 || decide (r.sev ≤ 6))
    let gone := s.lg.main.filter p
    let payload := clearedPayload scope gone (s.reg F.logLossQueue.addr).toNat (s.get F.logOvwrCount)
    let s := s.withLg { s.lg with main := s.lg.main.filter fun r => !p r, clear := none }
    let s := ((s.setReg F.logLossQueue.addr 0).put F.logOvwrCount 0).put F.logStatClearing 0
    let s := fullCheck (s.putFlag F.logStatMerging (!s.lg.ring.isEmpty))
    let s := emitLocal ⟨.node, logPage, 0x7823, if scope = 1 then 7 else 5, payload, false⟩ s
    let s := ((s.put F.logClrResDone 1).put F.logClrResCount gone.length).setRaw logPage 9
    gwyReset .b (gwyReset .a s)

/-- The clear completes: not while the gate is closed, in STANDBY or frozen (R427, R432, R55). -/
def clearComplete (s : State) : State :=
  if s.gateClosed || s.standby || s.lg.freezeAt.isSome then s else clearFinish s

def execClearComplete (s : State) : Host.Outcome State Fault Refusal := .next (clearComplete s)

/-! Rate limits (R422, R423). -/

/-- What a tide tick does to one bucket; none when it is full again. -/
def bucketTick (now : Nat) (rate : Option (Nat × Nat)) (b : Bucket) : Option Bucket :=
  let (burst, ival) := rate.getD (1, 0)
  let el := (now + 2 ^ 32 - b.since % 2 ^ 32) % 2 ^ 32
  if el < ival then some b
  else
    let b := { b with since := now }
    if 0 < b.folds ∧ !b.due then some { b with due := true }
    else if burst ≤ b.tokens + 1 ∧ b.folds = 0 then none
    else some { b with tokens := sat burst (b.tokens + 1) }

/-- Every bucket at a tide tick. -/
def bucketsTick (s : State) : State :=
  let bs := s.lg.buckets.filterMap fun b => bucketTick s.now (rateFor b.code b.sev s) b
  s.withLg { s.lg with buckets := bs }

/-- The token that came back to a bucket with folds is used for a SUMMARY event (R423). -/
def summaryEmit (code : Nat) (s : State) : State :=
  match s.lg.buckets.find? fun b => b.code == code with
  | none => s
  | some b =>
    if !b.due then s
    else
      let b' := { b with due := false, folds := 0, tFirst := 0, tLast := 0 }
      let s := s.withLg { s.lg with buckets := s.lg.buckets.map fun x => if x.code == code then b' else x }
      let payload := leBytes 4 b.code ++ leBytes 4 b.folds ++ leBytes 8 b.tFirst ++ leBytes 8 b.tLast
      (emitLocal ⟨.summary, logPage, 0x7820, b.sev, payload, false⟩ s).setRaw logPage 10

def execSummaryEmit (code : BitVec 16) (s : State) : Host.Outcome State Fault Refusal := .next (summaryEmit code.toNat s)

/-! Rate registers (R438). -/

/-- A write of RATEs, or of the second word of RATE_OVRk: refused as a whole outside the ranges of R438. -/
def actRate (h : HostId) (a : Nat) (zeroOk : Bool) (v m : Word) (s : State) : State :=
  if m = 0 then s
  else if (v = 0 ∧ zeroOk) ∨ (getBits v 31 24 ≠ 0 ∧ getBits v 15 0 ≠ 0) then storeFields h a v m s
  else accessFault logPage 0x30 s

/-! The last-gasp area and the start (R436, R437). -/

/-- The supervisor writes the header of the last-gasp area. -/
def gaspWrite (qlost : Nat) (coreLost : Bool) (s : State) : State :=
  let flags := b2n (!s.flag F.rtcStatOsf) + 2 * b2n s.gateClosed + 4 * b2n (s.flag F.logStatFailed)
    + 8 * b2n (!s.lg.ring.isEmpty) + 16 * b2n coreLost
  s.withLg { s.lg with
    lastGasp :=
      { valid := true, merged := false, qlost := if coreLost then 0xFFFF else qlost, flags := flags,
        tLg := if coreLost then 0 else s.ord.tally, cycles := s.pwr.cycles, svc := s.pwr.svc, rtc := s.rtcBytes,
        epoch := if coreLost then 0 else s.epoch, gen := if coreLost then 0 else s.gen, slots := s.lg.lastGasp.slots } }

/-- The area may be taken in (R436). -/
def LastGasp.usable (g : LastGasp) : Bool := g.valid && !g.merged

def LastGasp.coreLost (g : LastGasp) : Bool := g.flags.testBit 4

/-- The LAST_GASP record takes the next tally. -/
def gaspStamp (r : Rec) (s : State) : State :=
  let t := s.ord.tally + 1
  refreshCeil (logOwn { r with tally := t } (s.withOrd { s.ord with tally := t }))

/-- The LAST_GASP record is stamped, or waits (R355). -/
def gaspEmit (r : Rec) (s : State) : State :=
  if s.mayStamp (s.ord.tally + 1) then gaspStamp r s else holdEvt (.gasp r) s

/-- The LAST_GASP record: its fields come from the area, its tally is new (R437). -/
def gaspRecord (s : State) : State :=
  let g := s.lg.lastGasp
  let r : Rec :=
    { tally := 0, node := s.nodeId, code := 0x7822, sev := 5, flags := 8 + 32 * (g.flags % 2),
      epoch := if g.coreLost then s.epoch else g.epoch, gen := if g.coreLost then s.gen else g.gen,
      cycles := g.cycles, svc := g.svc, rtc := g.rtc,
      payload := pad24 (leBytes 8 g.tLg ++ leBytes 2 g.qlost ++ leBytes 2 g.flags) }
  gaspEmit r s

/-- The array as a start or a block reset finds it: FAILED while 256 slots are retired, otherwise in use again (R434). -/
def logArray (s : State) : State :=
  let s := s.withLg { s.lg with faultRun := 0 }
  if s.lg.retired.length < 256 then (s.put F.logStatFailed 0).setLasting logPage 0
  else (s.put F.logStatFailed 1).setLasting logPage 0x40

/-- A record stands in a slot that cannot be read. -/
def recGone (f : ArrayFind) (r : Rec) : Bool :=
  f.lost.any fun y => y.1.toNat == r.tally && y.2.toNat == r.node

/-- The index rebuild finds torn slots, and slots that cannot be read, which it retires (R433, R437). -/
def arrayFound (f : ArrayFind) (s : State) : State :=
  let before := s.lg.retired.length
  let s := s.withLg { s.lg with torn := s.lg.torn + f.torn + f.unread.length, main := s.lg.main.filter fun r => !recGone f r }
  let s := f.unread.foldl (fun s b =>
    if s.lg.retired.contains b.toNat then s
    else record logPage 0x7825 3 [b.toNat] ((s.withLg { s.lg with retired := s.lg.retired ++ [b.toNat] }).setRaw logPage 12)) s
  if before < 256 ∧ 256 ≤ s.lg.retired.length then logFail s else s

/-- The torn slots that an index rebuild counted are reported (R437). -/
def tornReport (s : State) : State :=
  if s.lg.torn = 0 then s else (record logPage 0x7828 3 [s.lg.torn] (s.withLg { s.lg with torn := 0 })).setRaw logPage 15

/-- The index rebuild that a lasting fault of engine SRAM made run again is over (R437). -/
def indexRestored (f : ArrayFind) (s : State) : State :=
  if s.flag F.logStatIndexing && !s.flag (F.hdrPageCtlBlkRst.page logPage) then
    (tornReport (arrayFound f s)).put F.logStatIndexing 0
  else s

/-- The row's contents are restored, the logbook's index among them (R239, R437). -/
def execRowRestored (s : State) (array : ArrayFind := .whole) : Host.Outcome State Fault Refusal :=
  .next (indexRestored array (rowRestored s))

/-- A running clear completes at a start or a block restart, unless the gate is closed, or a freeze that a reset of class S
keeps bars it: it then goes on (R55, R427, R432). -/
def clearRestart (s : State) : State :=
  if s.gateClosed || s.lg.freezeAt.isSome then s.putFlag F.logStatClearing s.lg.clear.isSome else clearFinish s

/-- A merge that a reset of class S cut short goes on after it, but for a freeze or a clear (R427, R432). -/
def mergeResume (s : State) : State :=
  if s.ringing then s else s.putFlag F.logStatMerging (s.lg.mergeDue || !s.lg.ring.isEmpty)

/-- The index is rebuilt, and the last-gasp slots, the fail-over area and the ring are merged (R437); a closed gate holds
the whole until it opens (R55). -/
def logRestart (worn : List (Nat × BitVec 17)) (s : State) : State :=
  let s := tornReport s
  if s.gateClosed then (s.withLg { s.lg with mergeDue := true }).put F.logStatMerging 1 else
  let s := clearFinish (s.withLg { s.lg with mergeDue := false })
  let s :=
    if s.lg.lastGasp.usable then
      let s := gaspRecord s
      let slots := if s.flag F.logStatFailed then s.lg.lastGasp.slots else []
      let s := if s.flag F.logStatFailed then s else mergeInto [] s.lg.lastGasp.slots s
      let s := s.withLg { s.lg with lastGasp := { s.lg.lastGasp with slots := slots } }
      (s.withLg { s.lg with lastGasp := { s.lg.lastGasp with merged := true } }).setRaw logPage 16
    else s
  if s.flag F.logStatFailed then s
  else
    let rs := s.lg.failover ++ s.lg.ring
    (mergeInto worn rs (s.withLg { s.lg with failover := [], ring := [] })).put F.logStatMerging 0

/-- The merge completes: not while the gate is closed, in STANDBY or frozen (R55, R420, R427). What a start left to the
gate is merged with it (R437). -/
def mergeDone (worn : List (Nat × BitVec 17)) (s : State) : State :=
  if !s.flag F.logStatMerging || s.gateClosed || s.standby || s.lg.freezeAt.isSome then s
  else if s.lg.mergeDue then logRestart worn s
  else mergeRing worn s

def execLogMergeDone (s : State) (worn : List (Nat × BitVec 17) := []) : Host.Outcome State Fault Refusal :=
  .next (mergeDone worn s)

end Sys2Proof.Machine
end

