-- ==== Sys2Proof/Machine/SafetyCfg.lean ====
section
/-!
DEFINITION. The safety configuration: its layout (R407, R408), where it stands (R404), and its validation (R409).
-/

namespace Sys2Proof.Machine

def safeLen : Nat := 2048

/-- The bytes of a copy. -/
def State.safeBytes (s : State) (b slot : Nat) : List Byte := s.norBytes (safeCopy b slot) safeLen

/-! Entries (R408). -/

def pairOff (n : Nat) : Nat := 0x020 + 8 * n
def outOff (m : Nat) : Nat := 0x0A0 + 16 * m
def connOff (c : Nat) : Nat := 0x140 + 24 * c

def pFunc (cfg : List Byte) (n : Nat) : Nat := leAt cfg (pairOff n) 1
def pFilt (cfg : List Byte) (n : Nat) : Nat := leAt cfg (pairOff n + 1) 1
def pDisc (cfg : List Byte) (n : Nat) : Nat := leAt cfg (pairOff n + 2) 2
/-- The test pulse of input A (`w` = 0) or B (`w` = 1) of a pair; 7 for none. -/
def pTp (cfg : List Byte) (n w : Nat) : Nat := leAt cfg (pairOff n + 4) 1 / 16 ^ w % 8
def pSack (cfg : List Byte) (n : Nat) : Nat := leAt cfg (pairOff n + 5) 1 % 4
def pAuto (cfg : List Byte) (n : Nat) : Bool := (leAt cfg (pairOff n + 6) 1).testBit 0

def oLocal (cfg : List Byte) (m : Nat) : Nat := leAt cfg (outOff m) 2
def oFlags (cfg : List Byte) (m : Nat) : Nat := leAt cfg (outOff m + 2) 1
def oEn (cfg : List Byte) (m : Nat) : Bool := (oFlags cfg m).testBit 0
def oChain (cfg : List Byte) (m : Nat) : Bool := (oFlags cfg m).testBit 1
def oAuto (cfg : List Byte) (m : Nat) : Bool := (oFlags cfg m).testBit 2
def oEdmEn (cfg : List Byte) (m : Nat) : Bool := (oFlags cfg m).testBit 3
def oEdm (cfg : List Byte) (m : Nat) : Nat := leAt cfg (outOff m + 3) 1 % 8
def oSack (cfg : List Byte) (m : Nat) : Nat := leAt cfg (outOff m + 3) 1 / 16 % 4
def oTEdm (cfg : List Byte) (m : Nat) : Nat := leAt cfg (outOff m + 4) 2
def oRemote (cfg : List Byte) (m r : Nat) : Nat := leAt cfg (outOff m + 8 + 2 * r) 2
def remEn (w : Nat) : Bool := w.testBit 15
def remConn (w : Nat) : Nat := w / 16 % 64
def remBit (w : Nat) : Nat := w % 16

def cMember (cfg : List Byte) : Bool := (leAt cfg 0x120 1).testBit 0
def cMaster (cfg : List Byte) : Bool := (leAt cfg 0x120 1).testBit 1
def cSack (cfg : List Byte) : Nat := leAt cfg 0x120 1 / 4 % 4
def cFilt (cfg : List Byte) : Nat := leAt cfg 0x121 1
def cLocal (cfg : List Byte) : Nat := leAt cfg 0x122 2
def cRt (cfg : List Byte) : Nat := leAt cfg 0x124 2

def kId (cfg : List Byte) (c : Nat) : Nat := leAt cfg (connOff c) 4
def kEn (cfg : List Byte) (c : Nat) : Bool := (leAt cfg (connOff c + 4) 2).testBit 15
def kPartner (cfg : List Byte) (c : Nat) : Nat := leAt cfg (connOff c + 4) 2 % 1024
def kPeriod (cfg : List Byte) (c : Nat) : Nat := leAt cfg (connOff c + 6) 1
def kWd (cfg : List Byte) (c : Nat) : Nat := leAt cfg (connOff c + 8) 2
def kTx (cfg : List Byte) (c b : Nat) : Nat := leAt cfg (connOff c + 12) 12 / 64 ^ b % 64

def sixteen : List Nat := List.range 16
def eight : List Nat := List.range 8
def sixtyFour : List Nat := List.range 64

/-- The enabled connections. -/
def kEnabled (cfg : List Byte) : List Nat := if cfg.isEmpty then [] else sixtyFour.filter (kEn cfg)

/-! Validation (R409). -/

def within (lo hi v : Nat) : Bool := decide (lo ≤ v) && decide (v ≤ hi)

/-- A TX code of R408. -/
def txOk (c : Nat) : Bool := decide (c ≤ 0x18) || c == 0x3E || c == 0x3F

/-- A used entry has its fields in range. -/
def safeRangesOk (cfg : List Byte) : Bool :=
  sixteen.all (fun n => pFunc cfg n == 0
    || (decide (pFunc cfg n ≤ 6) && within 1 40 (pFilt cfg n) && within 1 500 (pDisc cfg n)
      && [0, 1].all fun w => decide (pTp cfg n w ≤ 3) || pTp cfg n w == 7))
    && eight.all (fun m => !oEn cfg m || within 1 100 (oTEdm cfg m))
    && (!cMember cfg || (within 3 40 (cFilt cfg) && within 1 40 (cRt cfg)))
    && (sixtyFour.all fun c => !kEn cfg c
      || (within 1 100 (kPeriod cfg c) && within 5 10000 (kWd cfg c) && sixteen.all fun b => txOk (kTx cfg c b)))

/-- Every bit and byte that R407 and R408 leave unnamed is 0. -/
def safeZerosOk (cfg : List Byte) : Bool :=
  leAt cfg 0x01C 4 == 0 && leAt cfg 0x128 24 == 0 && leAt cfg 0x740 188 == 0
    && sixteen.all (fun n => leAt cfg (pairOff n + 4) 1 &&& 0x88 == 0 && leAt cfg (pairOff n + 5) 1 &&& 0xFC == 0
      && leAt cfg (pairOff n + 6) 1 &&& 0xFE == 0 && leAt cfg (pairOff n + 7) 1 == 0)
    && eight.all (fun m => leAt cfg (outOff m + 2) 1 &&& 0xF0 == 0 && leAt cfg (outOff m + 3) 1 &&& 0xC8 == 0
      && leAt cfg (outOff m + 6) 2 == 0 && [0, 1, 2, 3].all fun r => oRemote cfg m r &&& 0x7C00 == 0)
    && leAt cfg 0x120 1 &&& 0xF0 == 0 && leAt cfg 0x126 2 == 0
    && (sixtyFour.all fun c => leAt cfg (connOff c + 4) 2 &&& 0x7C00 == 0 && leAt cfg (connOff c + 7) 1 == 0
      && leAt cfg (connOff c + 10) 2 == 0)

/-- A pair is consistent (check 34). -/
def pairConsistent (cfg : List Byte) (n : Nat) : Bool :=
  let f := pFunc cfg n
  f == 0
    || ((f != 4 || n % 2 == 0) && (f != 5 || (n % 2 == 1 && pFunc cfg (n - 1) == 4))
      && (if f = 6 then pTp cfg n 0 == 7 && pTp cfg n 1 == 7 && decide (3 ≤ pFilt cfg n)
        else decide (pTp cfg n 0 ≤ 3) && decide (pTp cfg n 1 ≤ 3) && pTp cfg n 0 != pTp cfg n 1)
      && !(f == 1 && pAuto cfg n))

/-- An output is consistent (check 34). -/
def outConsistent (cfg : List Byte) (m : Nat) : Bool :=
  !oEn cfg m
    || ((oLocal cfg m != 0 || oChain cfg m || [0, 1, 2, 3].any fun r => remEn (oRemote cfg m r))
      && sixteen.all (fun n => !(oLocal cfg m).testBit n || pFunc cfg n != 0)
      && [0, 1, 2, 3].all (fun r => !remEn (oRemote cfg m r) || kEn cfg (remConn (oRemote cfg m r)))
      && !(oEdmEn cfg m && eight.any fun j => j != m && oEn cfg j && oEdmEn cfg j && oEdm cfg j == oEdm cfg m))

/-- A connection is consistent (check 34). -/
def connConsistent (cfg : List Byte) (node c : Nat) : Bool :=
  !kEn cfg c
    || (kId cfg c != 0 && !(sixtyFour.any fun d => d != c && kEn cfg d && kId cfg d == kId cfg c)
      && kPartner cfg c != node && decide (2 * kPeriod cfg c + 2 ≤ kWd cfg c))

def safeConsistent (cfg : List Byte) (node : Nat) : Bool :=
  sixteen.all (pairConsistent cfg) && eight.all (outConsistent cfg) && sixtyFour.all (connConsistent cfg node)
    && !(cMaster cfg && !cMember cfg)

/-- A copy is erased. -/
def erasedBytes (bs : List Byte) : Bool := bs.all (· == 0xFF)

/-- The result of R409 for bytes that were read; `switches` is the code read, at a selection. Both channels read the same
bytes. -/
def safeResult (cfg : List Byte) (slot node : Nat) (switches : Option (BitVec 8)) : Nat :=
  if leAt cfg 0 4 ≠ 0x46594E53 ∨ leAt cfg 4 2 ≠ 1 then 1
  else if crc32c (cfg.take 0x7FC) ≠ leAt cfg 0x7FC 4 then 3
  else if !safeRangesOk cfg || !safeZerosOk cfg then 7
  else if leAt cfg 7 1 ≠ slot ∨ leAt cfg 6 1 % 8 ≠ slot then 32
  else if switches.any fun c => leAt cfg 6 1 != c.toNat then 33
  else if !safeConsistent cfg node then 34
  else 0

/-- The result of R409 for a copy; one that cannot be read gives no bytes to check (result 11). -/
def State.safeVerdict (s : State) (b slot : Nat) : Nat :=
  if s.norFails (safeCopy b slot) then 11 else safeResult (s.safeBytes b slot) slot s.nodeId none

/-- A copy that can be read is erased. -/
def State.safeErased (s : State) (b slot : Nat) : Bool := !s.norFails (safeCopy b slot) && erasedBytes (s.safeBytes b slot)

end Sys2Proof.Machine
end

