-- ==== Sys2Proof/Machine/SafetyFns.lean ====
section
/-!
DEFINITION. The evaluation of the safety functions in one channel: input filters (R382), functions (R384 to R387),
SACK (R388, R389), outputs (R390 to R394), connections (R399, R400) and the chain (R402, R403).
-/

namespace Sys2Proof.Machine

/-! The parts of a channel. -/

def SPair.init (st : PairSt) : SPair := ⟨st, 0, none, none, false⟩
def SOut.init (st : OutSt) : SOut := ⟨st, true, false, 0, none, none, false⟩
def SConn.init : SConn := ⟨.starting, 0, 0, false, none, []⟩

def SCh.pair (x : SCh) (n : Nat) : SPair := nth x.pairs n (SPair.init .unused)
def SCh.out (x : SCh) (m : Nat) : SOut := nth x.outs m (SOut.init .unused)
def SCh.conn (x : SCh) (c : Nat) : Option SConn := (x.conns.find? fun y => y.1 == c).map (·.2)
def SCh.filtBit (x : SCh) (i : Nat) : Bool := x.filt.toNat.testBit i
def SCh.rawBit (x : SCh) (i : Nat) : Bool := x.raw.toNat.testBit i
def SCh.sackHigh (x : SCh) (k : Nat) : Bool := x.filtBit (32 + k)
def SCh.edmBit (x : SCh) (e : Nat) : Bool := x.edm.toNat.testBit e
/-- Since when the filtered level of a SACK input stands. -/
def SCh.sackSince (x : SCh) (k : Nat) : Nat := Sparse.get (fun _ => 0) x.sackAt k

def SCh.setPair (x : SCh) (n : Nat) (p : SPair) : SCh := { x with pairs := setNth x.pairs n p }
def SCh.setOut (x : SCh) (m : Nat) (o : SOut) : SCh := { x with outs := setNth x.outs m o }
def SCh.setConn (x : SCh) (c : Nat) (k : SConn) : SCh :=
  { x with conns := x.conns.map fun y => if y.1 == c then (c, k) else y }

/-- Every function of a configuration in its safe state, every output OFF with MANUAL set (R405). -/
def SCh.restart (x : SCh) (cfg : List Byte) : SCh :=
  { x with
    pairs := if cfg.isEmpty then [] else sixteen.map fun n => SPair.init (if pFunc cfg n = 0 then .unused else .demand)
    outs := if cfg.isEmpty then [] else eight.map fun m => SOut.init (if oEn cfg m then .off else .unused)
    chain := if cfg.isEmpty || !cMember cfg then .noMember else .opened
    chainDis := none
    permits := 0
    chainPermit := false
    conns := (kEnabled cfg).map fun c => (c, SConn.init)
    edges := 0
    tpFails := []
    differs := 0 }

/-- The wires of pair `m` are commanded on (R392). -/
def SCh.wireOn (x : SCh) (m : Nat) : Bool := (x.out m).st == .on

/-- The wire of pair `m` is off for its dark test (R393). -/
def SCh.isDark (x : SCh) (m : Nat) : Bool := decide (x.t < Sparse.get (fun _ => 0) x.dark m)

/-! What a cycle finds. -/

inductive SNote where
  | demand (n : Nat)
  | tolerated (n : Nat)
  | pairFault (n : Nat) (tp : Bool)
  | noEffect (sack : Nat) (pair : Option Nat)
  | acted (sack : Nat)
  | outFault (m : Nat)
  | edmFault (m : Nat)
  | chainOpen
  | chainFault
  | connTimeout (c : Nat)
deriving DecidableEq, Repr

/-! Input samples (R382, R388). -/

/-- The samples for which a new level must stand: SI in bits 0 to 31, SACK in 32 to 35, CHN in 36 and 37 (R382). -/
def filterNeed (cfg : List Byte) (i : Nat) : Nat :=
  if i < 32 then (if cfg.isEmpty then 1 else max 1 (5 * pFilt cfg (i / 2)))
  else if i < 36 then 50
  else if cfg.isEmpty then 1 else max 1 (5 * cFilt cfg)

def flipBit (w : BitVec 38) (i : Nat) : BitVec 38 := w ^^^ BitVec.ofNat 38 (2 ^ i)

/-- A filtered SACK level changes (R388): on its fall after 50 ms to 5.0 s an edge waits for the next cycle. -/
def sackChange (k stuck : Nat) (x : SCh) : SCh :=
  let held := x.t - x.sackSince k
  let edge := !x.sackHigh k && decide (500 ≤ held) && decide (held ≤ 50000) && !stuck.testBit k
  { x with sackAt := Sparse.set (fun _ => 0) x.sackAt k x.t
           edges := if edge then x.edges ||| 2 ^ k else x.edges }

/-- One input's filter takes a sample (R382). -/
def filterOne (cfg : List Byte) (stuck : Nat) (x : SCh) (i : Nat) : SCh :=
  if x.rawBit i == x.filtBit i then { x with cnt := Sparse.set (fun _ => 0) x.cnt i 0 }
  else
    let n := Sparse.get (fun _ => 0) x.cnt i + 1
    if filterNeed cfg i ≤ n then
      let x := { x with filt := flipBit x.filt i, cnt := Sparse.set (fun _ => 0) x.cnt i 0 }
      if 32 ≤ i ∧ i < 36 then sackChange (i - 32) stuck x else x
    else { x with cnt := Sparse.set (fun _ => 0) x.cnt i n }

/-- The raw levels of a sample as one word. -/
def rawOf (l : SafetyLevels) : BitVec 38 :=
  let si := sixteen.foldl (fun w n => w + b2n (l.si.toNat.testBit n) * 4 ^ n + b2n (l.si.toNat.testBit (16 + n)) * 2 * 4 ^ n) 0
  BitVec.ofNat 38 (si + l.sack.toNat * 2 ^ 32 + l.chn.toNat * 2 ^ 36)

/-- A sample of a readback differs from its wire's command, away from a change of it (R393). -/
def readbackBad (x : SCh) (m : Nat) (onA onB : Bool) : Bool :=
  let quiet := fun w => decide (x.t ≤ Sparse.get (fun _ => 0) x.quiet w)
  (!quiet m && x.sb.toNat.testBit m != onA) || (!quiet (8 + m) && x.sb.toNat.testBit (8 + m) != onB)

/-- The EDM timers of an output at a sample (R394). -/
def edmSample (x : SCh) (edm : Bool) (o : SOut) : SOut :=
  if o.st == .on then { o with wait := if edm then o.wait else none, low := none }
  else { o with wait := none, low := if edm then none else some (o.low.getD x.t) }

/-- A channel takes one sample (R382). `onA` and `onB` are the outputs whose wires are commanded on. -/
def sampleCh (cfg : List Byte) (stuck : Nat) (onA onB : Nat → Bool) (l : SafetyLevels) (x : SCh) : SCh :=
  let x := { x with t := x.t + 1, raw := rawOf l, sb := l.sb, edm := l.edm }
  let x := (List.range 38).foldl (filterOne cfg stuck) x
  if cfg.isEmpty then x
  else
    eight.foldl (fun x m =>
      if !oEn cfg m then x
      else
        let o := edmSample x (x.edmBit (oEdm cfg m)) (x.out m)
        x.setOut m { o with rbBad := o.rbBad || readbackBad x m (onA m) (onB m) }) x

/-! Input functions (R384 to R387). -/

inductive Agree where
  | run | safe | dis
deriving DecidableEq, Repr

/-- What a pair shows at the cycle start (R384). -/
def agreeOf (cfg : List Byte) (x : SCh) (n : Nat) : Agree :=
  let a := x.filtBit (2 * n)
  let b := x.filtBit (2 * n + 1)
  match pFunc cfg n with
  | 3 | 4 | 5 => if a && !b then .run else if !a && b then .safe else .dis
  | _ => if a && b then .run else if !a && !b then .safe else .dis

def PairSt.isFault (p : PairSt) : Bool := p == .faultDisc || p == .faultTp

/-- T_D in samples. -/
def discT (cfg : List Byte) (n : Nat) : Nat := 100 * pDisc cfg n

/-- A single pair at a cycle start, no SACK edge considered (R385). -/
def pairStep (cfg : List Byte) (x : SCh) (n : Nat) (p : SPair) : SPair :=
  let ag := agreeOf cfg x n
  if p.tpBad && p.st != .faultTp then { p with st := .faultTp, tpBad := false }
  else match p.st, ag with
    | .run, .safe => { p with st := .demand }
    | .run, .dis | .demand, .dis => { p with st := .disagree, since := x.t }
    | .demand, .run | .disagree, .run => { p with st := .run }
    | .disagree, .safe => { p with st := .demand }
    | .disagree, .dis => if discT cfg n ≤ x.t - p.since then { p with st := .faultDisc } else p
    | _, _ => p

/-- The timer of a hand's disagreement. -/
def handTimer (t : Nat) (ag : Agree) (d : Option Nat) : Option Nat := if ag == .dis then some (d.getD t) else none

def overdue (t lim : Nat) (d : Option Nat) : Bool := d.any fun a => decide (lim ≤ t - a)

/-- 499 ms in samples (R387). -/
def syncT : Nat := 4990

/-- A two-hand function in pairs `n` and `n + 1` at a cycle start (R387). -/
def handsStep (cfg : List Byte) (x : SCh) (n : Nat) (tp : Bool) (p : SPair) : SPair :=
  let l := agreeOf cfg x n
  let r := agreeOf cfg x (n + 1)
  let p := { p with disL := handTimer x.t l p.disL, disR := handTimer x.t r p.disR }
  let both := l == .run && r == .run
  let none' := l == .safe && r == .safe
  if tp && p.st != .faultTp then { p with st := .faultTp, tpBad := false }
  else if p.st.isFault then p
  else if overdue x.t (discT cfg n) p.disL || overdue x.t (discT cfg (n + 1)) p.disR then { p with st := .faultDisc }
  else match p.st with
    | .demand =>
      if both then { p with st := .run }
      else if (l == .run && r == .safe) || (l == .safe && r == .run) then { p with st := .oneHand, since := x.t }
      else p
    | .oneHand =>
      if syncT ≤ x.t - p.since then { p with st := .syncFail }
      else if both then { p with st := .run }
      else if none' then { p with st := .demand }
      else p
    | .run => if both then p else if none' then { p with st := .demand } else { p with st := .syncFail }
    | .syncFail => if none' then { p with st := .demand } else p
    | _ => p

/-- Pair `n` agrees-safe; a two-hand function with both hands (R385, R387). -/
def showsSafe (cfg : List Byte) (x : SCh) (n : Nat) : Bool :=
  agreeOf cfg x n == .safe && (pFunc cfg n != 4 || agreeOf cfg x (n + 1) == .safe)

/-- The pulse checks of a pair that a SACK edge releases, both hands' of a two-hand function, start over (R383). -/
def clearFails (hands : Bool) (x : SCh) (n : Nat) : SCh :=
  { x with tpFails := x.tpFails.filter fun y => y.1 / 2 != n && !(hands && y.1 / 2 == n + 1) }

/-- One pair of a cycle, the SACK step 1 of R389 in it, with what it notes. -/
def pairCycle (cfg : List Byte) (acc : SCh × List SNote) (n : Nat) : SCh × List SNote :=
  let (x, ns) := acc
  let f := pFunc cfg n
  if f = 0 ∨ f = 5 then acc
  else
    let old := x.pair n
    let k := pSack cfg n
    let new := if f = 4 then handsStep cfg x n (old.tpBad || (x.pair (n + 1)).tpBad) old else pairStep cfg x n old
    let edge := x.edges.testBit k && old.st.isFault
    let ok := edge && new.st.isFault && new.st == old.st && showsSafe cfg x n
    let new := if ok then { new with st := .demand, tpBad := false } else new
    let x := if ok then clearFails (f == 4) x n else x
    let x := x.setPair n new
    let x := if f = 4 then x.setPair (n + 1) { x.pair (n + 1) with st := new.st, tpBad := false } else x
    let note := (if old.st == .run && new.st != .run then [SNote.demand n] else [])
      ++ (if old.st == .disagree && new.st == .run then [SNote.tolerated n] else [])
      ++ (if new.st.isFault && new.st != old.st then [SNote.pairFault n (new.st == .faultTp)] else [])
      ++ (if ok then [SNote.acted k] else if edge then [SNote.noEffect k (some n)] else [])
    (x, ns ++ note)

/-- The permits of the pairs as a mask (R385). -/
def SCh.permitMask (x : SCh) : Nat := sixteen.foldl (fun w n => if (x.pair n).st == .run then w + 2 ^ n else w) 0

/-! The chain (R401 to R403). -/

/-- A channel's contribution, the member's own state apart (R401). -/
def contribution (cfg : List Byte) (safeState : Bool) (permits : Nat) : Bool :=
  !safeState && !cfg.isEmpty && (cLocal cfg &&& permits) == cLocal cfg

/-- The loop is closed: the inputs that the master has seen at 1 are its accepted levels, so that only a 0 which t_Fc
accepts opens it again (R403; DEDUCED, log entry 66). -/
def SCh.chainClosed (x : SCh) : SCh :=
  { x with chain := .closed, filt := x.filt ||| BitVec.ofNat 38 (3 * 2 ^ 36), cnt := x.cnt.filter fun y => y.1 < 36 }

def chainEnds (x : SCh) (st : ChainSt) : List SNote :=
  if x.chain != st && st == .opened && x.chain == .closed then [.chainOpen]
  else if x.chain != st && st == .fault then [.chainFault] else []

/-- The chain at a cycle start (R402, R403). -/
def chainCycle (cfg : List Byte) (safeState : Bool) (permits : Nat) (acc : SCh × List SNote) : SCh × List SNote :=
  let (x, ns) := acc
  if x.chain == .noMember then acc
  else
    let a := x.filtBit 36
    let b := x.filtBit 37
    if cMaster cfg then
      let own := contribution cfg safeState permits
      let k := cSack cfg
      let edge := x.edges.testBit k
      let (st, did) := match x.chain with
        | .opened => if edge && own then (ChainSt.establishing, true) else (.opened, false)
        | .closed => if !own || !a || !b then (.opened, false) else (.closed, false)
        | .fault => if !own then (.opened, false) else if edge && !a && !b then (.opened, true) else (.fault, false)
        | st => if !own then (.opened, false) else (st, false)
      ({ x with chain := st }, ns ++ chainEnds x st ++ (if did then [.acted k] else []))
    else
      let x := { x with chainDis := if a != b then some (x.chainDis.getD x.t) else none }
      let st := match x.chain with
        | .opened => if a && b then ChainSt.closed else if overdue x.t 100 x.chainDis then .fault else .opened
        | .closed => if !a && !b then .opened else if overdue x.t 100 x.chainDis then .fault else .closed
        | .fault => if !a && !b then .opened else .fault
        | st => st
      ({ x with chain := st }, ns ++ chainEnds x st)

/-! Connections (R400). -/

def connCycle (acc : SCh × List SNote) (c : Nat) : SCh × List SNote :=
  let (x, ns) := acc
  match x.conn c with
  | none => acc
  | some k =>
    if k.got then (x.setConn c { k with st := .run, got := false }, ns)
    else if k.st == .run && decide (k.fresh < x.t) then
      (x.setConn c { k with st := .timeout, rxPermit := 0 }, ns ++ [.connTimeout c])
    else acc

/-- A REMOTE bit (R390). -/
def remoteBit (x : SCh) (w : Nat) : Bool := (x.conn (remConn w)).any fun k => k.st == .run && k.rxPermit.testBit (remBit w)

/-! Outputs (R390 to R394). -/

def remotes (cfg : List Byte) (x : SCh) (m : Nat) : Nat :=
  [0, 1, 2, 3].foldl (fun w r => if remEn (oRemote cfg m r) && remoteBit x (oRemote cfg m r) then w + 2 ^ r else w) 0

def remotesOn (cfg : List Byte) (m : Nat) : Nat :=
  [0, 1, 2, 3].foldl (fun w r => if remEn (oRemote cfg m r) then w + 2 ^ r else w) 0

/-- T_EDM in samples (R394). -/
def edmT (cfg : List Byte) (m : Nat) : Nat := 100 * oTEdm cfg m

def edmBad (cfg : List Byte) (x : SCh) (m : Nat) (o : SOut) : Bool :=
  oEdmEn cfg m && ((o.wait.any fun a => decide (edmT cfg m < x.t - a)) || (o.low.any fun a => decide (edmT cfg m < x.t - a)))

/-- An output switches on: MANUAL clears, the EDM rule starts (R391, R394). -/
def SOut.toOn (o : SOut) (t : Nat) : SOut := { o with st := .on, manual := false, wait := some t, low := none }

/-- One output of a cycle (R391, R392). `chainWas` and `permitsWas` are the permits of the cycle before, `faulted` the
pairs whose faults latched in this one. -/
def outCycle (cfg : List Byte) (safeState chainWas : Bool) (permitsWas permits faulted : Nat)
    (acc : SCh × List SNote) (m : Nat) : SCh × List SNote :=
  let (x, ns) := acc
  let o := x.out m
  if o.st == .unused then acc
  else
    let loc := oLocal cfg m
    let chainOk := x.chain == .closed
    let rem := remotes cfg x m
    let permit := !safeState && (loc &&& permits) == loc && (!oChain cfg m || chainOk) && rem == remotesOn cfg m
    let fellPairs := bitsSet 16 (loc &&& permitsWas &&& (0xFFFF ^^^ permits))
    let fellOther := (oChain cfg m && chainWas && !chainOk) || (o.remote &&& (15 ^^^ rem)) != 0
    let excused := oAuto cfg m && !fellOther && fellPairs != [] && fellPairs.all fun n => pAuto cfg n
    let manual := o.manual || safeState || (loc &&& faulted) != 0 || (o.permit && !permit && !excused)
    let o := { o with permit := permit, remote := rem, manual := manual }
    let k := oSack cfg m
    let edge := x.edges.testBit k
    let edm := !oEdmEn cfg m || x.edmBit (oEdm cfg m)
    let sbLow := !x.sb.toNat.testBit m && !x.sb.toNat.testBit (8 + m)
    let (o', note) : SOut × List SNote :=
      if o.st != .faultEdm && edmBad cfg x m o then
        ({ o with st := .faultEdm, manual := true, wait := none, low := none }, [SNote.edmFault m])
      else match o.st with
        | .off =>
          if o.rbBad then ({ o with st := .faultRb, manual := true }, [.outFault m])
          else if permit && edm then (if o.manual then { o with st := .ready } else o.toOn x.t, [])
          else (o, [])
        | .ready =>
          if o.rbBad then ({ o with st := .faultRb, manual := true }, [.outFault m])
          else if !permit then ({ o with st := .off }, [])
          else if edge && edm then (o.toOn x.t, [.acted k])
          else (o, [])
        | .on =>
          if o.rbBad then ({ o with st := .faultRb, manual := true, wait := none }, [.outFault m])
          else if !permit then ({ o with st := .off, wait := none }, [])
          else (o, [])
        | .faultRb | .faultEdm =>
          if edge && sbLow && edm then ({ o with st := .off, rbBad := false, wait := none, low := none }, [.acted k]) else (o, [])
        | .unused => (o, [])
    (x.setOut m o', ns ++ note)

/-- One SACK input whose edge acted on nothing and was not noted with a pair (R389). -/
def sackLeft (edges : Nat) (ns : List SNote) : List SNote :=
  ([0, 1, 2, 3].filter fun k => edges.testBit k && !ns.any fun n => match n with
    | .acted j | .noEffect j _ => j == k
    | _ => false).map fun k => .noEffect k none

def faultedMask (cfg : List Byte) (ns : List SNote) : Nat :=
  ns.foldl (fun w n => match n with
    | .pairFault n _ => w ||| 2 ^ n ||| (if pFunc cfg n = 4 then 2 ^ (n + 1) else 0)
    | _ => w) 0

/-- One safety cycle of one channel, from its filtered levels (R379). -/
def cycleCh (cfg : List Byte) (safeState : Bool) (x : SCh) : SCh × List SNote :=
  if cfg.isEmpty then ({ x with cyc := x.cyc + 1, edges := 0 }, [])
  else
    let was := x.permits
    let chainWas := x.chainPermit
    let r := sixteen.foldl (pairCycle cfg) (({ x with cyc := x.cyc + 1 } : SCh), ([] : List SNote))
    let permits := r.1.permitMask
    let faulted := faultedMask cfg r.2
    let r := chainCycle cfg safeState permits r
    let r := (kEnabled cfg).foldl connCycle r
    let r := eight.foldl (outCycle cfg safeState chainWas was permits faulted) r
    let ns := r.2 ++ sackLeft x.edges r.2
    ({ r.1 with permits := permits, chainPermit := r.1.chain == .closed, edges := 0 }, ns)

/-- A fault that the other channel has found (R386, R380). -/
def adoptFault (cfg : List Byte) (x : SCh) : SNote → SCh
  | .pairFault n tp =>
    let st := if tp then PairSt.faultTp else .faultDisc
    let x := if (x.pair n).st == .faultTp then x else x.setPair n { x.pair n with st := st, tpBad := false }
    let x := if pFunc cfg n = 4 then x.setPair (n + 1) { x.pair (n + 1) with st := (x.pair n).st, tpBad := false } else x
    let hit := 2 ^ n + (if pFunc cfg n = 4 then 2 ^ (n + 1) else 0)
    { x with outs := (x.outs.zip eight).map fun y => if oLocal cfg y.2 &&& hit = 0 then y.1 else { y.1 with manual := true } }
  | .outFault m =>
    if (x.out m).st == .faultEdm then x else x.setOut m { x.out m with st := .faultRb, manual := true, wait := none }
  | .edmFault m => x.setOut m { x.out m with st := .faultEdm, manual := true, wait := none, low := none }
  | .chainFault => { x with chain := .fault }
  | _ => x

/-- Every output off with MANUAL set, the master's chain outputs off (R381, R391). -/
def SCh.allOff (x : SCh) (cfg : List Byte) : SCh :=
  { x with
    outs := x.outs.map fun o =>
      if o.st == .unused then o
      else
        let st := if o.st == .on || o.st == .ready then OutSt.off else o.st
        { o with st := st, manual := true, wait := none }
    chain := if !cfg.isEmpty && cMaster cfg && (x.chain == .closed || x.chain == .establishing) then .opened else x.chain }

/-- A wire's command changes: its readback is not judged for 1.0 ms (R393). -/
def hush (samples : Nat) (x : SCh) (ws : List Nat) : SCh :=
  { x with quiet := ws.foldl (fun q w => Sparse.set (fun _ => 0) q w (x.t + samples)) x.quiet }

/-- The states that the channels compare (R380). -/
def SCh.states (x : SCh) : List PairSt × List OutSt × ChainSt × List ConnSt :=
  (x.pairs.map (·.st), x.outs.map (·.st), x.chain, x.conns.map (·.2.st))

/-! Parcels (R396 to R399). -/

/-- The next consecutive number (R397). -/
def nextCnum (n : Nat) : Nat := if n = 0xFFFF then 1 else n + 1

/-- The permit and the state code of a TX source in one channel (R408). -/
def txSource (x : SCh) (code : Nat) : Bool × Nat :=
  if code < 0x10 then ((x.pair code).st == .run, (x.pair code).st.code)
  else if code < 0x18 then (x.wireOn (code - 0x10), (x.out (code - 0x10)).st.code)
  else if code = 0x18 then (x.chain == .closed, x.chain.code)
  else (code == 0x3E, 0)

/-- A channel's copy of a parcel of connection `c`, formed from what the channels exchange: the permits that both
grant, the state codes of channel A (R397; DESIGN CHOICE, log entry 63). -/
def parcelOf (cfg : List Byte) (a b : SCh) (node c cnum echo : Nat) (hold fresh : Bool) : List Byte :=
  let src := sixteen.map fun i => kTx cfg c i
  let permit := (src.zip sixteen).foldl (fun w y => if !hold && (txSource a y.1).1 && (txSource b y.1).1 then w + 2 ^ y.2 else w) 0
  let body := leBytes 4 (kId cfg c) ++ leBytes 2 cnum ++ leBytes 2 echo ++ leBytes 2 permit
    ++ ((src.take 14).flatMap fun y => leBytes 1 (txSource a y).2) ++ leBytes 2 node ++ leBytes 1 (b2n fresh) ++ leBytes 1 0
  body ++ leBytes 4 (crc32c body)

/-- What the checks of R399 make of a parcel. -/
inductive ParcelVerdict where
  /-- Check 1 or 2 failed: the connection that CONN_ID names, if any, and whether the CRC was good. -/
  | bad (conn : Option Nat) (crcOk : Bool)
  | old
  /-- Checks 1 to 3 passed; the send time of ECHO where check 4 passes. -/
  | passed (conn cnum : Nat) (echoAt : Option Nat)
deriving DecidableEq, Repr

def judgeParcel (cfg : List Byte) (p : List Byte) (x : SCh) : ParcelVerdict :=
  let conn := (kEnabled cfg).find? fun c => kId cfg c == leAt p 0 4
  if crc32c (slice p 0 28) ≠ leAt p 28 4 then .bad conn false
  else match conn with
    | none => .bad none true
    | some c =>
      if kPartner cfg c ≠ leAt p 0x18 2 % 1024 ∨ leAt p 0x18 2 / 1024 ≠ 0 ∨ leAt p 0x1A 1 / 2 ≠ 0 ∨ leAt p 0x1B 1 ≠ 0 then
        .bad (some c) true
      else
        let k := (x.conn c).getD SConn.init
        let n := leAt p 4 2
        let later := match k.rxLast with
          | none => true
          | some l => n != l && decide ((n + 2 ^ 16 - l) % 2 ^ 16 < 2 ^ 15)
        if n = 0 ∨ !later then .old
        else
          let at' := (k.sent.find? fun y => y.1 == leAt p 6 2).map (·.2)
          .passed c n (at'.filter fun t => decide (x.t - t ≤ 10 * kWd cfg c))

/-- A channel takes a parcel that passes checks 1 to 3 (R399). -/
def takeParcel (cfg : List Byte) (p : List Byte) (x : SCh) : SCh :=
  match judgeParcel cfg p x with
  | .passed c n at' =>
    match x.conn c with
    | none => x
    | some k =>
      let k := { k with rxLast := some n }
      match at' with
      | none => x.setConn c k
      | some t => x.setConn c { k with rxPermit := leAt p 8 2, fresh := t + 10 * kWd cfg c, got := true }
  | _ => x

end Sys2Proof.Machine
end

