-- ==== Sys2Proof/Machine/SafetyOps.lean ====
section
/-!
DEFINITION. The safety commands (chapter 14): samples, cycles, pulse checks and dark tests, SACK, parcels, the chain,
the seal switches, the selection and the writing of a safety configuration, and the KIND 5 points (R188, R411).
-/

namespace Sys2Proof.Machine

/-- The safety channels are there and run: not on the FYN-7256N, not in a reset (R2, R378). -/
def State.safeRuns (s : State) : Bool := s.part.safety && s.answers

def State.vfieldFail (s : State) : Bool := s.part.safety && s.flag F.pwrStatVfieldFail

/-- The node is in its safe state (R381). -/
def State.inSafe (s : State) : Bool :=
  s.safe.cfg.isEmpty || s.vfieldFail || s.flag F.safeStatSealSafe || s.flag F.safeStatChFault

def State.ch (s : State) : SafetyCh → SCh
  | .a => s.safe.chA | .b => s.safe.chB

def State.setCh (s : State) (c : SafetyCh) (x : SCh) : State :=
  match c with
  | .a => s.withSafe { s.safe with chA := x }
  | .b => s.withSafe { s.safe with chB := x }

def otherCh : SafetyCh → SafetyCh
  | .a => .b | .b => .a

def mapCh (f : SCh → SCh) (s : State) : State := s.withSafe { s.safe with chA := f s.safe.chA, chB := f s.safe.chB }

/-- The lasting block fault of SAFE (R412). -/
def safeFaultCode (s : State) : State :=
  s.setLasting 0x070 (if s.flag F.safeStatChFault then 0x40 else if s.vfieldFail then 0x41 else 0)

/-- The lasting block fault of SEAL: no configuration in effect (R413). -/
def sealFaultCode (s : State) : State := s.setLasting 0x071 (if s.part.safety && s.safe.cfg.isEmpty then 0x40 else 0)

def connReg (c : Nat) (s : State) : SConnReg := ((s.safe.regs.find? fun y => y.1 == c).map (·.2)).getD ⟨0, 0, 0, 0, 0, none⟩

def setConnReg (c : Nat) (r : SConnReg) (s : State) : State :=
  s.withSafe { s.safe with regs := s.safe.regs.filter (fun y => y.1 != c) ++ [(c, r)] }

/-! KIND 5 points (R188, R411). -/

/-- The code that SEL names (R188, R411). -/
def safetyCode (s : State) (sel : Nat) : Nat :=
  let cfg := s.safe.cfg
  let x := s.safe.chA
  if sel = 0x21 then s.safe.code.toNat
  else if sel = 0x22 then b2n s.safe.we
  else if 0x24 ≤ sel ∧ sel ≤ 0x27 then b2n (x.sackHigh (sel - 0x24))
  else if cfg.isEmpty then 0
  else if sel < 0x10 then (x.pair sel).st.code
  else if sel < 0x18 then (x.out (sel - 0x10)).st.code
  else if sel < 0x20 then
    match eight.find? fun m => oEn cfg m && oEdmEn cfg m && oEdm cfg m == sel - 0x18 with
    | none => 0
    | some m => if (x.out m).st == .faultEdm then 3 else if x.edmBit (sel - 0x18) then 1 else 2
  else if sel = 0x20 then x.chain.code
  else if 0x40 ≤ sel then ((x.conn (sel - 0x40)).map fun k => k.st.code).getD 0
  else 0

/-- The KIND 5 points with their selectors. -/
def State.safePoints (s : State) : List (Nat × Nat) :=
  (s.eng.pts.filter fun x => (s.pcfg x.1).kind == 5).map fun x => (x.1, (s.pcfg x.1).safeSel)

def safeDeliver (i sel : Nat) (s : State) : State :=
  if s.part.safety then s.trigger (.deliver i (F32.ofInt (safetyCode s sel)) .valid 0 0) else s.trigger (.deliver i 0 .fault 0 4)

/-- A safety state is fresh at every tide tick (R188). -/
def safePointsTick (s : State) : State := s.safePoints.foldl (fun s y => safeDeliver y.1 y.2 s) s

/-- A safety state is fresh at every change (R188): the points whose code differs from that of `s0`. -/
def safeNotify (s0 s : State) : State :=
  (s.safePoints.filter fun y => safetyCode s0 y.2 != safetyCode s y.2).foldl (fun s y => safeDeliver y.1 y.2 s) s

/-! Common effects. -/

/-- The readbacks of wires whose command has changed since `s0` are not judged for 1.0 ms (R393). -/
def hushChanged (s0 s : State) : State :=
  let ws := eight.filter (fun m => s0.safe.chA.wireOn m != s.safe.chA.wireOn m)
    ++ (eight.filter fun m => s0.safe.chB.wireOn m != s.safe.chB.wireOn m).map (8 + ·)
  if ws.isEmpty then s else mapCh (fun x => hush 10 x ws) s

/-- A safety command's end. -/
def safeDone (s0 s : State) : State := safeNotify s0 (hushChanged s0 s)

def safeAllOff (s : State) : State := mapCh (fun x => x.allOff s.safe.cfg) s

def lastFault (cause obj : Nat) (s : State) : State := (s.put F.safeLastfaultCause cause).put F.safeLastfaultObject obj

/-- A channel fault (R380): the cause is the place of its case in the rule, counted from 0. -/
def channelFault (cause : Nat) (s : State) : State :=
  if s.flag F.safeStatChFault then s
  else raise 0x070 24 7 [cause] (lastFault 6 0 (safeAllOff (safeFaultCode (s.put F.safeStatChFault 1))))

/-- The other channel takes over a fault that one channel notes (R380, R385). -/
def adoptOther (c : SafetyCh) (n : SNote) (s : State) : State :=
  s.setCh (otherCh c) (adoptFault s.safe.cfg (s.ch (otherCh c)) n)

/-- The effect of one note; channel B notes only faults, and with one that takes channel A's pair out of RUN its DEMAND
(R411, R412, R417). -/
def applyNote (c : SafetyCh) (s : State) (n : SNote) : State :=
  let cfg := s.safe.cfg
  match n with
  | .pairFault p tp =>
    let s := if c = .b ∧ (s.safe.chA.pair p).st = .run then raise 0x070 p 7 [p] s else s
    raise 0x070 16 7 [p, if tp then 5 else 4] (lastFault (if tp then 2 else 1) p (adoptOther c n s))
  | .outFault m => raise 0x070 17 7 [m] (lastFault 3 m (adoptOther c n s))
  | .edmFault m => raise 0x070 18 7 [oEdm cfg m] (lastFault 4 (oEdm cfg m) (adoptOther c n s))
  | .chainFault => raise 0x070 20 7 [] (lastFault 5 0 (adoptOther c n s))
  | .demand p => if c = .a then raise 0x070 p 7 [p] s else s
  | .tolerated p => if c = .a then record 0x070 0x7020 7 [p] s else s
  | .noEffect k p => if c = .a then record 0x070 0x7021 7 (k :: p.toList) s else s
  | .acted k => if c = .a then raise 0x070 23 7 [k] s else s
  | .chainOpen => if c = .a then raise 0x070 19 7 [] s else s
  | .connTimeout k =>
    if c = .a then
      let r := connReg k s
      raise 0x070 21 7 [k] (setConnReg k { r with timeouts := sat 0xFFFF (r.timeouts + 1) } s)
    else s

/-- One RESTART event for each SACK input whose edge acted (R412). -/
def dedupeNotes (ns : List SNote) : List SNote :=
  ns.foldl (fun l n => match n with
    | .acted _ => if l.contains n then l else l ++ [n]
    | _ => l ++ [n]) []

/-! Writes of a safety configuration that are under way (R410). -/

def cfgResult (result : Nat) (s : State) : State :=
  let s := ((s.put F.sealCfgResResult result).put F.sealCfgResDone 1).put F.sealCfgResReady 0
  s.withSafe { s.safe with write := none }

/-- The write that runs is abandoned. -/
def cfgAbandon (s : State) : State := if s.safe.write.isSome then cfgResult 35 s else s

/-- Before END. -/
def State.cfgOpen (s : State) : Bool :=
  match s.safe.write with
  | some (_, .copying, _) | none => false
  | _ => true

/-! Seal switches (R378, R406). -/

/-- What a channel reads at the seal switches, SEAL_WE in bit 8, and what it has accepted. -/
def State.sealRead (s : State) : SafetyCh → BitVec 9
  | .a => BitVec.ofNat 9 (s.safe.code.toNat + 256 * b2n s.safe.we)
  | .b => s.safe.sealB

def State.sealTaken (s : State) : SafetyCh → BitVec 9
  | .a => BitVec.ofNat 9 (s.safe.accCode.toNat + 256 * b2n s.safe.accWe)
  | .b => s.safe.accSealB

/-- The channel sees a switch differ from its accepted position. -/
def State.sealApart (s : State) (c : SafetyCh) : Bool := s.sealRead c != s.sealTaken c

/-- What both channels read is accepted from now on. -/
def acceptSeal (s : State) : State :=
  s.withSafe { s.safe with accCode := s.safe.code, accWe := s.safe.we, accSealB := s.safe.sealB }

/-- A channel sees a seal switch differ from its accepted position: the safe state until a selection (R406). The record
holds the old and the new positions, of channel A where it sees the change. -/
def sealSafe (s : State) : State :=
  let c : SafetyCh := if s.sealApart .a then .a else .b
  let was := (s.sealTaken c).toNat
  let is := (s.sealRead c).toNat
  let s1 := acceptSeal s
  let s1 := safeAllOff ((s1.put F.sealStatStable 0).put F.safeStatSealSafe 1)
  let s1 := s1.bumpSat F.sealChangesCount 1
  let s1 := if s.flag F.safeStatSealSafe then s1 else raise 0x070 26 7 [was, is] s1
  let s1 := if was % 256 ≠ is % 256 then raise 0x071 0 7 [was, is] s1 else s1
  let s1 := if was / 256 ≠ is / 256 then raise 0x071 1 7 [was, is] s1 else s1
  if !s1.safe.we && s1.cfgOpen then cfgAbandon s1 else s1

/-- The seal switches as the two channels read them from now on (R378). -/
def sealChange (code : BitVec 8) (we : Bool) (seenB : Option (BitVec 9)) (s : State) : State :=
  let b := seenB.getD (BitVec.ofNat 9 (code.toNat + 256 * b2n we))
  let moved := code != s.safe.code || we != s.safe.we || b != s.safe.sealB
  let s1 := s.withSafe { s.safe with code := code, we := we, sealB := b, sealAt := if moved then s.safe.chB.t else s.safe.sealAt }
  if !s.safeRuns then s1
  else
    let s1 := if moved then s1.put F.sealStatStable 0 else s1
    if s1.sealApart .a || s1.sealApart .b then safeDone s (sealSafe s1) else s1

def execSealChange (code : BitVec 8) (we : Bool) (s : State) (seenB : Option (BitVec 9) := none) : Host.Outcome State Fault Refusal :=
  .next (if s.part.safety then sealChange code we seenB s else s)

/-- The seal inputs have been unchanged for 100 ms of channel B's samples (R405, R413). -/
def sealStable (s : State) : State :=
  if s.safe.sealAt + 1000 ≤ s.safe.chB.t then s.put F.sealStatStable 1 else s

/-! Samples (R382). -/

/-- The channels disagree on a filtered level for longer than its t_F plus 3 ms (R380). -/
def diffSample (s : State) : State :=
  let x := s.safe.chA
  let apart := x.filt ^^^ s.safe.chB.filt
  let diff := ((List.range 38).filter fun i => apart.toNat.testBit i).map fun i =>
    (i, ((s.safe.diff.find? fun y => y.1 == i).map (·.2)).getD x.t)
  let s := s.withSafe { s.safe with diff := diff }
  if diff.any fun y => decide (filterNeed s.safe.cfg y.1 + 30 < x.t - y.2) then channelFault 0 s else s

/-- A stuck SACK input has read 0 for 1.0 s (R388). -/
def unstick (c : SafetyCh) (s : State) : State :=
  let x := s.ch c
  let free := [0, 1, 2, 3].filter fun k => s.safe.stuck.testBit k && !x.sackHigh k && decide (10000 ≤ x.t - x.sackSince k)
  s.withSafe { s.safe with stuck := free.foldl (fun w k => w ^^^ 2 ^ k) s.safe.stuck }

def safetySample (c : SafetyCh) (l : SafetyLevels) (s : State) : State :=
  if !s.safeRuns then s
  else
    let s1 := s.setCh c (sampleCh s.safe.cfg s.safe.stuck s.safe.chA.wireOn s.safe.chB.wireOn l (s.ch c))
    let s1 := unstick c s1
    safeDone s (if c = .a then diffSample s1 else sealStable s1)

def execSafetyInputSample (ch : SafetyCh) (levels : SafetyLevels) (s : State) : Host.Outcome State Fault Refusal :=
  .next (safetySample ch levels s)

/-! Parcels sent (R396, R397). -/

/-- Parcels are sent (R381, R336). -/
def State.sendsParcels (s : State) : Bool :=
  !s.safe.cfg.isEmpty && !s.flag F.safeStatSealSafe && !s.flag F.safeStatChFault && !s.standby && !s.flag F.xnetStatPassive

/-- A parcel frame carries L and does not advance it (R352). -/
def sendParcel (dest : Nat) (body : List Byte) (s : State) : State :=
  portsSend s.streamPorts (s.newFrame 0x06 dest s.ord.tally false false body) s

def noteSent (cnum : Nat) (x : SCh) (c : Nat) : SCh :=
  match x.conn c with
  | none => x
  | some k => x.setConn c { k with sent := ((cnum, x.t) :: k.sent).take 32 }

/-- A channel's copy of the next parcel of connection `c`: its own ECHO and CNUM, FRESH where both ends are RUN. -/
def parcelCopy (s : State) (c : Nat) (x : SCh) : List Byte :=
  let conn := fun (y : SCh) => (y.conn c).getD SConn.init
  parcelOf s.safe.cfg s.safe.chA s.safe.chB s.nodeId c (nextCnum (connReg c s).txLast) ((conn x).rxLast.getD 0) s.vfieldFail
    ((conn s.safe.chA).st == .run && (conn s.safe.chB).st == .run)

/-- Connection `c` sends its parcel; copies of the channels that differ are a channel fault, and nothing is sent (R380). -/
def parcelSend (s : State) (c : Nat) : State :=
  let r := connReg c s
  let n := nextCnum r.txLast
  let body := parcelCopy s c s.safe.chA
  if !s.sendsParcels then s
  else if body ≠ parcelCopy s c s.safe.chB then channelFault 2 s
  else sendParcel (kPartner s.safe.cfg c) body (mapCh (fun x => noteSent n x c) (setConnReg c { r with txLast := n } s))

def parcelsDue (s : State) : State :=
  ((kEnabled s.safe.cfg).filter fun c => s.safe.chA.cyc % max 1 (kPeriod s.safe.cfg c) == 0).foldl parcelSend s

/-! The cycle (R379, R380). -/

/-- The channels' exchange at a cycle (R14, R380). -/
def exchange (c : SafetyCh) (s : State) : State :=
  let x := s.ch c
  let y := s.ch (otherCh c)
  let s := s.setCh c { x with alone := x.alone + 1 }
  let s := s.setCh (otherCh c) { y with alone := 0 }
  let s := if 3 ≤ x.alone + 1 then channelFault 3 s else s
  if c = .b then
    let b := s.safe.chB
    let d := if b.states == s.safe.chA.states then 0 else b.differs + 1
    let s := s.setCh .b { b with differs := d }
    if 3 ≤ d then channelFault 1 s else s
  else s

/-- RT_MEAS, a measurement in µs: a free value of at most RT. -/
def measureLoop (s : State) : State :=
  let (v, s') := s.draw 16
  s'.put F.safeChainRtMeas (v % (100 * cRt s.safe.cfg + 1))

/-- The master that is establishing sees both raw inputs at 1: the loop is closed (R403). -/
def chainSettle (s : State) : State :=
  if s.safe.chnA && s.safe.chnB && !s.safe.cfg.isEmpty && cMaster s.safe.cfg && s.safe.chA.chain == .establishing then
    measureLoop (mapCh SCh.chainClosed s)
  else s

/-- A cycle of a channel: it looks at the seal switches, evaluates every function and output from its filtered levels, and
meets the other channel (R379, R380, R406). -/
def safetyCycle (c : SafetyCh) (s0 : State) : State :=
  if !s0.safeRuns then s0
  else
    let s := if s0.sealApart c then sealSafe s0 else s0
    let (x, ns) := cycleCh s.safe.cfg s.inSafe (s.ch c)
    let s1 := (dedupeNotes ns).foldl (applyNote c) (s.setCh c x)
    let s1 := chainSettle (exchange c s1)
    safeDone s0 (if c = .a then parcelsDue s1 else s1)

def execSafetyCycle (ch : SafetyCh) (s : State) : Host.Outcome State Fault Refusal := .next (safetyCycle ch s)

/-! Test pulses and dark tests (R383, R393). -/

/-- One input at a dark pulse of its TP output: checked while its filtered level is 1. -/
def pulseInput (c : SafetyCh) (levels : BitVec 32) (s : State) (i : Nat) : State :=
  let x := s.ch c
  let n := i / 2
  let reads := levels.toNat.testBit (if i % 2 = 0 then n else 16 + n)
  let fails := Sparse.get (fun _ => 0) x.tpFails i
  if !x.filtBit i then s
  else if !reads then s.setCh c { x with tpFails := Sparse.set (fun _ => 0) x.tpFails i 0 }
  else
    let s := s.setCh c { x with tpFails := Sparse.set (fun _ => 0) x.tpFails i (fails + 1) }
    if 1 ≤ fails then mapCh (fun x => x.setPair n { x.pair n with tpBad := true }) s
    else record 0x070 0x7022 7 [n, i % 2] s

/-- The inputs configured with test pulse `tp`. -/
def pulseInputs (cfg : List Byte) (tp : Nat) : List Nat :=
  if cfg.isEmpty then []
  else (List.range 32).filter fun i => pFunc cfg (i / 2) != 0 && pTp cfg (i / 2) (i % 2) == tp

def pulseCheck (c : SafetyCh) (tp : Nat) (levels : BitVec 32) (s : State) : State :=
  if s.safeRuns then (pulseInputs s.safe.cfg tp).foldl (pulseInput c levels) s else s

def execTestPulseCheck (ch : SafetyCh) (tp : BitVec 2) (levels : BitVec 32) (s : State) : Host.Outcome State Fault Refusal :=
  .next (pulseCheck ch tp.toNat levels s)

/-- The dark test of one wire of a pair that is ON: the wire is off for 0.4 ms, and its readback must read 0; samples in the test and 1.0 ms after it
are not judged (R393). `fed` tells that the readback read 1. -/
def darkTest (c : SafetyCh) (m : Nat) (fed : Bool) (s : State) : State :=
  if s.safeRuns && (s.ch c).wireOn m then
    let s := mapCh (fun x => hush 14 x [if c = .a then m else 8 + m]) s
    let s := s.setCh c { s.ch c with dark := Sparse.set (fun _ => 0) (s.ch c).dark m ((s.ch c).t + 4) }
    if fed then mapCh (fun x => x.setOut m { x.out m with rbBad := true }) s else s
  else s

def execOutputDarkTest (ch : SafetyCh) (out : BitVec 3) (fed : Bool) (s : State) : Host.Outcome State Fault Refusal :=
  .next (darkTest ch out.toNat fed s)

/-- A SACK input has read 1 for longer than 5.0 s (R388). -/
def sackStuck (k : Nat) (s : State) : State :=
  let long := fun (x : SCh) => x.sackHigh k && decide (50000 < x.t - x.sackSince k)
  if s.safeRuns && !s.safe.stuck.testBit k && (long s.safe.chA || long s.safe.chB) then
    raise 0x070 27 7 [k] (s.withSafe { s.safe with stuck := s.safe.stuck ||| 2 ^ k })
  else s

def execSackStuck (sack : BitVec 2) (s : State) : Host.Outcome State Fault Refusal := .next (sackStuck sack.toNat s)

/-! Parcels received (R399). -/

/-- CONN_ERROR, once per connection in any 1 s; a parcel that names no connection counts as one of its own. -/
def connError (c : Option Nat) (s : State) : State :=
  let k := c.getD 64
  let r := connReg k s
  let r := { r with integrity := sat 0xFFFF (r.integrity + 1) }
  let t := s.safe.chA.t
  if r.errAt.any fun a => decide (t - a < 10000) then setConnReg k r s
  else raise 0x070 22 7 c.toList (setConnReg k { r with errAt := some t } s)

/-- A parcel is handed to both channels. -/
def parcelIn (p : List Byte) (s : State) : State :=
  if !s.safeRuns || s.safe.cfg.isEmpty then s
  else
    let cfg := s.safe.cfg
    let x := s.safe.chA
    let s1 := match judgeParcel cfg p x with
      | .bad c crcOk =>
        let s := connError c s
        if crcOk then record 0x070 0x7024 7 [leAt p 0 4, leAt p 0x18 2] s else s
      | .passed c _ (some t) =>
        let r := connReg c s
        let age := (x.t - t) / 10
        setConnReg c { r with ageLast := age, ageMax := max r.ageMax age } s
      | _ => s
    mapCh (takeParcel cfg p) s1

def execParcelReceive (parcel : List Byte) (s : State) : Host.Outcome State Fault Refusal := .next (parcelIn parcel s)

/-! The chain's wires (R401, R403). -/

/-- The chain inputs change; the master that is establishing sees the loop close (R401, R403). -/
def chainInput (a b : Bool) (s : State) : State :=
  if !s.part.safety then s
  else
    let s1 := s.withSafe { s.safe with chnA := a, chnB := b }
    if s.safeRuns then safeDone s (chainSettle s1) else s1

def execChainInputChange (a b : Bool) (s : State) : Host.Outcome State Fault Refusal := .next (chainInput a b s)

/-- A dark pulse of 0.3 ms of the master on one channel's chain output, and its check (R403). -/
def chainPulse (c : SafetyCh) (ok : Bool) (s : State) : State :=
  if s.safeRuns && !s.safe.cfg.isEmpty && cMaster s.safe.cfg && s.safe.chA.chain == .closed then
    let s := s.setCh c { s.ch c with chainDark := (s.ch c).t + 3 }
    if ok then measureLoop s
    else safeDone s (raise 0x070 20 7 [] (lastFault 5 0 (mapCh (fun x => { x with chain := .fault }) s)))
  else s

def execChainDarkPulse (ch : SafetyCh) (ok : Bool) (s : State) : Host.Outcome State Fault Refusal := .next (chainPulse ch ok s)

/-- RT passes first (R403). -/
def chainLate (s : State) : State :=
  if s.safeRuns && s.safe.chA.chain == .establishing then
    safeDone s (record 0x070 0x7023 7 [] (mapCh (fun x => { x with chain := .opened }) s))
  else s

def execChainEstablishTimeout (s : State) : Host.Outcome State Fault Refusal := .next (chainLate s)

/-! Writing a safety configuration (R410). -/

/-- SLOTS as the copies stand (R413). -/
def refreshSlots (s : State) : State :=
  let valid := fun b k => !s.safeErased b k && s.safeVerdict b k == 0
  let mask := fun b => eight.foldl (fun w k => if valid b k then w + 2 ^ k else w) 0
  if s.part.safety then (s.put F.sealSlotsValidA (mask 0)).put F.sealSlotsValidB (mask 1) else s

def cfgBegin (s : State) : State :=
  if s.safe.write.isSome then accessFault 0x071 0x30 s
  else
    let s := s.withSafe { s.safe with write := some (s.get F.sealCfgCtlSlot, .erasing, 0) }
    (((s.put F.sealCfgResDone 0).put F.sealCfgResReady 0).put F.sealCfgResResult 0).put F.sealCfgResWords 0

/-- The two channels' results as one: the channels disagree where they differ, or take different copies (result 36). -/
def bothResults (a b : Nat × Nat) (same : Bool) : Nat :=
  if a.2 ≠ b.2 then 36 else if a.2 = 0 ∧ !(same && a.1 == b.1) then 36 else a.2

/-- The return trip of a read that channel B alone makes (R366). -/
def readByB (o : NorRead) (s : State) : State :=
  match o with
  | .ok => s
  | .retryOk => transient 0x070 s
  | .bad => lastingFault 0x070 s

/-- END: both channels validate copy B; `readB` is channel B's read of it (R410, check 36). -/
def cfgEnd (readB : NorRead) (s : State) : State :=
  match s.safe.write with
  | none | some (_, .copying, _) => accessFault 0x071 0x30 s
  | some (slot, .ready, 512) =>
    let ra := (norFlush s).safeVerdict 1 slot
    let r := bothResults (1, ra) (1, if readB = .bad then 11 else ra) true
    let s := readByB readB s
    if r = 0 then (s.put F.sealCfgResReady 0).withSafe { s.safe with write := some (slot, .copying, 512) }
    else refreshSlots (raise 0x071 3 7 [slot, r] (cfgResult r (norQueue (.erase (safeCopy 1 slot) 0x10000) s)))
  | _ => cfgAbandon s

/-- SEAL.CFG_CTL: ABORT, then END, then BEGIN act (R410, R413). -/
def actCfgCtl (h : HostId) (readB : NorRead) (v m : Word) (s : State) : State :=
  let s := storeFields h 0x071048 v m s
  let b := fun n => getBit (v &&& m) n
  let s := if b 2 then cfgAbandon s else s
  let s := if b 1 then cfgEnd readB s else s
  if b 0 then cfgBegin s else s

def execSafetyCfgBegin (host : HostId) (slot : BitVec 3) (s : State) : Host.Outcome State Fault Refusal :=
  let v : Word := BitVec.ofNat 32 (16 * slot.toNat + 1)
  .next (hostWord host 0x071048 v (actCfgCtl host .ok v) s)

/-- The word that repeats SLOT and sets one bit of CFG_CTL. -/
def cfgCtlWord (bit : Nat) (s : State) : Word := BitVec.ofNat 32 (16 * s.get F.sealCfgCtlSlot + 2 ^ bit)

def execSafetyCfgEnd (host : HostId) (s : State) (readB : NorRead := .ok) : Host.Outcome State Fault Refusal :=
  .next (hostWord host 0x071048 (cfgCtlWord 1 s) (actCfgCtl host readB (cfgCtlWord 1 s)) s)

def execSafetyCfgAbort (host : HostId) (s : State) : Host.Outcome State Fault Refusal :=
  .next (hostWord host 0x071048 (cfgCtlWord 2 s) (actCfgCtl host .ok (cfgCtlWord 2 s)) s)

/-- The erase of copy B ends: READY, or the lasting failure of its return trip (R410, R409, R366). -/
def cfgErased (ok : Bool) (s : State) : State :=
  match s.safe.write with
  | some (slot, .erasing, _) =>
    if s.gateClosed then s
    else if ok then
      refreshSlots ((norErase (safeCopy 1 slot) 0x10000 s).put F.sealCfgResReady 1 |>.withSafe { s.safe with write := some (slot, .ready, 0) })
    else cfgResult 11 (lastingFault 0x071 s)
  | _ => s

def execSafetyCfgEraseDone (ok : Bool) (s : State) : Host.Outcome State Fault Refusal := .next (cfgErased ok s)

/-- SEAL.CFG_DATA (R410). -/
def actCfgData (v m : Word) (s : State) : State :=
  if m ≠ 0xFFFFFFFF then s
  else match s.safe.write with
    | some (slot, .ready, n) =>
      if n < 512 then
        let s := norWrite (safeCopy 1 slot + 4 * n) (leBytes 4 v.toNat) s
        let s := (s.put F.sealCfgResWords (n + 1)).withSafe { s.safe with write := some (slot, .ready, n + 1) }
        if n + 1 = 512 then s.put F.sealCfgResReady 0 else s
      else accessFault 0x071 0x31 s
    | _ => accessFault 0x071 0x31 s

def execSafetyCfgData (host : HostId) (value : Word) (s : State) : Host.Outcome State Fault Refusal :=
  .next (hostWord host 0x07104C value (actCfgData value) s)

/-- The rewrite of copy A from copy B ends: of a write, or of a background repair (R410, R405). -/
def copyAWritten (s : State) : State :=
  if s.gateClosed then s else
  match s.safe.write with
  | some (slot, .copying, _) =>
    refreshSlots (raise 0x071 2 7 [slot] (cfgResult 0 (norWrite (safeCopy 0 slot) (s.safeBytes 1 slot) s)))
  | _ =>
    match s.safe.repair with
    | some slot =>
      refreshSlots ((norWrite (safeCopy 0 slot) (s.safeBytes 1 slot) s).withSafe { s.safe with repair := none })
    | none => s

def execSafetyCfgCopyAWritten (s : State) : Host.Outcome State Fault Refusal := .next (copyAWritten s)

/-! Seal switches and the selection (R405, R406). -/

/-- The copy a channel takes that reads the code `code`: its number and result (R405). Copy B is tried when copy A fails
its own checks, or cannot be read by this channel (`blind`); the seal code is compared last. -/
def selectBy (slot : Nat) (code : BitVec 8) (blind : Bool) (s : State) : Nat × Nat :=
  let a := s.safeBytes 0 slot
  let b := s.safeBytes 1 slot
  let ra := if blind then 11 else s.safeVerdict 0 slot
  let rb := s.safeVerdict 1 slot
  let codeOk := fun bs => if leAt bs 6 1 = code.toNat then 0 else 33
  if ra = 0 then (0, codeOk a)
  else if rb = 0 then (1, codeOk b)
  else if !blind && s.safeErased 0 slot && s.safeErased 1 slot then (0, 37)
  else if s.safeErased 1 slot then (0, ra)
  else (1, rb)

/-- The copy channel A takes. -/
def selectCopy (slot : Nat) (s : State) : Nat × Nat := selectBy slot s.safe.code false s

/-- The copy channel B takes; `blind` tells that its own read of copy A fails for good. -/
def selectCopyB (blind : Bool) (s : State) : Nat × Nat :=
  selectBy (s.safe.sealB.toNat % 8) (s.safe.sealB.setWidth 8) blind s

/-- The pages' figures of a selection. -/
def noteSelection (copy slot result serial : Nat) (s : State) : State :=
  (((s.put F.sealStatResult result).put F.sealStatCopy copy).put F.sealStatSlot slot).put F.sealSerialSerial serial

/-- The configuration takes effect: every pair in DEMAND, every output OFF with MANUAL (R405). -/
def safeInstall (cfg : List Byte) (s : State) : State :=
  let s := s.withSafe { s.safe with cfg := cfg, regs := [], diff := [] }
  mapCh (fun x => x.restart cfg) s

/-- Each channel selects and validates the safety configuration; both must take the same copy (R405). `readB` is channel
B's read of copy A. -/
def selectCfg (readB : NorRead) (s : State) : State :=
  let slot := s.safe.code.toNat % 8
  let a := selectCopy slot s
  let b := selectCopyB (decide (readB = .bad)) s
  let copy := a.1
  let r := bothResults a b (slot == s.safe.sealB.toNat % 8)
  let s := readByB readB s
  if r = 0 then
    let cfg := s.safeBytes copy slot
    let s := (safeInstall cfg (noteSelection copy slot 0 (leAt cfg 8 4) s)).put F.safeStatSealSafe 0
    let s := safeFaultCode (sealFaultCode s)
    let s := if copy = 1 then s.withSafe { s.safe with repair := some slot }
      else if s.safeVerdict 1 slot = 0 then s
      else norWrite (safeCopy 1 slot) cfg s
    refreshSlots (raise 0x071 4 7 ([slot + 2 ^ 8 * copy, leAt cfg 8 4] ++ nameWords cfg 0x00C) s)
  else
    let s := safeInstall [] (noteSelection copy slot r 0 (safeAllOff s))
    refreshSlots (raise 0x071 5 7 [a.2, b.2] (safeFaultCode (sealFaultCode s)))

/-- The seal inputs have been stable for 100 ms (R405). -/
def configSelection (readB : NorRead) (s : State) : State :=
  if s.part.safety && s.configured then safeDone s (selectCfg readB (s.put F.sealStatStable 1)) else s

def execConfigSelection (s : State) (readB : NorRead := .ok) : Host.Outcome State Fault Refusal := .next (configSelection readB s)

/-! Hooks for supplies and resets. -/

/-- VFIELD fails or recovers (R381, R52): PWR.STAT.VFIELD_FAIL already stands as it now is. -/
def safeVfield (s : State) : State :=
  if !s.part.safety then s
  else if s.vfieldFail then safeDone s (raise 0x070 25 7 [] (safeAllOff (safeFaultCode s)))
  else safeFaultCode s

/-- The safety functions after a reset (R385, R392, R400, R87): with `latched`, of class S, pairs and outputs in a
fault keep it. Wires that it turns off are not judged for 1.0 ms (R393). -/
def safeRestart (latched : Bool) (s : State) : State :=
  let cfg := s.safe.cfg
  let again := fun (x : SCh) =>
    let y := x.restart cfg
    let z : SCh :=
      if latched then
        { y with
          pairs := (y.pairs.zip x.pairs).map fun p => if p.2.st.isFault then p.2 else p.1
          outs := (y.outs.zip x.outs).map fun p => if p.2.st == .faultRb || p.2.st == .faultEdm then { p.2 with manual := true } else p.1
          chain := if x.chain == .fault then .fault else y.chain }
      else y
    { z with filt := 0, cnt := [], sackAt := [], sb := 0, edm := 0, alone := 0, cyc := 0 }
  hushChanged s ((mapCh again s).withSafe { (mapCh again s).safe with regs := [], stuck := 0, diff := [] })

end Sys2Proof.Machine
end

