-- ==== Sys2Proof/Machine/Net.lean ====
section
/-!
DEFINITION. What crosses the crossing: delivery and the tally (R352 to R357), origin streams (R330, R368 to R370),
frames on a hop (R326), the census, membership, duty and epoch (R333 to R344).
-/

namespace Sys2Proof.Machine

/-! Epochs (R341). -/

/-- The latest of some epochs. -/
def latestEpoch (own : Nat) (es : List Nat) : Nat := es.foldl (fun a e => if laterMod 16 e a then e else a) own

/-! Configuration frames are handed on by reference to what answers them (R347, R348). -/

/-- The frame is for this node (R323). -/
def State.forMe (s : State) (f : XFrame) : Bool := f.bcast || f.dest == s.nodeId

/-! Consumers of a delivered frame. -/

/-- One entry of a value frame reaches the remote points that name it (R187). -/
def valueEntry (origin : Nat) (b : List Byte) (s : State) (k : Nat) : State :=
  let w := leAt b (4 + 12 * k) 4
  let v := BitVec.ofNat 32 (leAt b (8 + 12 * k) 4)
  let st := SrcStatus.ofCode (w / 2 ^ 17 % 8)
  s.eng.pts.foldl (fun s x =>
    let c := s.pcfg x.1
    if c.kind == 4 && c.remNode == origin && c.remPoint == w % 2 ^ 17 then
      s.trigger (.deliver x.1 v st 0 (if st == .fault then 6 else 0))
    else s) s

def valueRx (f : XFrame) (s : State) : State := (List.range (sat 7 (leAt f.body 0 1))).foldl (valueEntry f.origin f.body) s

/-- The last event of a remote point (R343). -/
def noteRemote (node : Nat) (payload : List Byte) (s : State) : State :=
  let p := leField payload 0 16 0
  let rest := s.xnet.remotes.filter fun r => !(r.node == node && r.point == p)
  s.withXnet { s.xnet with remotes := rest ++ [⟨node, p, leField payload 0 24 23, leAt payload 8 4⟩] }

/-- A delivered event frame: the logbook, and call tracking; a replay touches nothing else (R245, R345). -/
def eventRx (f : XFrame) (s : State) : State :=
  if f.replay then
    let r := wholeRec f
    if s.recKnown r then s
    else
      let s := logPush r s
      if r.code = 0x4080 then trackPoint r.node r.payload s else s
  else
    let s := logRemote f s
    if leAt f.body 0 1 = 0 then
      let payload := slice f.body 4 24
      trackPoint f.origin payload (noteRemote f.origin payload s)
    else s

/-- A delivered acknowledgement is applied as source 2 (R346, R223). -/
def ackApply (op target inst issuer : Nat) (s : State) : State :=
  let n := issuer % 1024
  let s := settle s
  match op with
  | 1 | 2 =>
    if s.eng.restoring.contains target then s.trigger (.remote target op inst n)
    else endPass [target] (remoteOne target op inst n s)
  | 3 => endPass (s.scopePts (some (target % 4096)) false) (ackScope (some (target % 4096)) false 2 n s).2
  | 4 => endPass (s.scopePts none false) (silenceScope 2 n s).2
  | 5 => endPass (s.scopePts none false) (ackScope none false 2 n s).2
  | _ => s

def ackRx (f : XFrame) (s : State) : State :=
  ackApply (leAt f.body 0 1) (leAt f.body 4 4 % 2 ^ 17) (leAt f.body 8 4) (leAt f.body 12 2) s

/-! Configuration transfers at the target (R347, R348). -/

/-- A load or install of this node's own owner runs. -/
def State.localLoad (s : State) : Bool :=
  (s.loading && !s.xnet.xferIn.any fun x => !x.stage) || (s.tt.install.isSome && s.xnet.xferIn.isNone)

/-- The result frame (R348). -/
def xferReply (node op xfer off result ready : Nat) (s : State) : State :=
  originateNew 0x09 node false
    ([2] ++ leBytes 1 op ++ leBytes 2 xfer ++ leBytes 4 off ++ leBytes 1 result ++ leBytes 1 ready ++ leBytes 2 0) s

/-- Every transfer is logged with the sending node (R347). -/
def xferLog (node op result : Nat) (s : State) : State := record 0x048 0x4824 5 [node, op, result] s

def setXferIn (x : Option XferIn) (s : State) : State := s.withXnet { s.xnet with xferIn := x }

/-- RESULT 16, and the running transfer ends as ABORT would end it. -/
def xferRefuse (node op xfer : Nat) (s : State) : State :=
  let s := match s.xnet.xferIn with
    | some x => setXferIn none (if x.stage then s else loadAbandon s)
    | none => s
  xferReply node op xfer 0 16 0 (xferLog node op 16 s)

/-- A data frame. -/
def xferData (f : XFrame) (x : XferIn) (s : State) : State :=
  let b := f.body
  let n := leAt b 8 1
  let bytes := slice b 12 n
  let fits := x.node == f.origin && x.xfer == leAt b 2 2 && x.off == leAt b 4 4 && decide (4 ≤ n) && decide (n ≤ 64) && n % 4 == 0
  let room := if x.stage then decide (x.off + n ≤ 0x10000) else s.flag F.ttbImgStatReady
  if !fits || !room then xferRefuse f.origin 0 (leAt b 2 2) s
  else
    let s :=
      if x.stage then s.setWinBytes (0xE00000 + 0x10000 * x.slot + x.off) bytes
      else (bytesWords (n / 4) bytes).foldl (fun s w => if s.flag F.ttbImgStatReady then loadWord w s else s) s
    xferReply f.origin 0 x.xfer (x.off + n) 0 1 (setXferIn (some { x with off := x.off + n }) s)

/-- A control frame. -/
def xferControl (f : XFrame) (s : State) : State :=
  let b := f.body
  let op := leAt b 1 1
  let xf := leAt b 2 2
  let len := leAt b 4 4
  let slot := leAt b 8 1 % 16
  match op, s.xnet.xferIn with
  | 1, none =>
    let s := setXferIn (some ⟨f.origin, xf, false, 0, len, 0⟩) s
    loadBegin len (s.put F.ttbImgLenLen len)
  | 5, none => xferReply f.origin 5 xf 0 0 1 (setXferIn (some ⟨f.origin, xf, true, slot, len, 0⟩) s)
  | 4, none =>
    let s := (s.put F.ttbInstCmdSlot slot).put F.ttbInstCmdInstall 1
    let (r, s) := installStart slot s
    match r with
    | none => setXferIn (some ⟨f.origin, xf, true, slot, 0, 0⟩) s
    | some 16 => xferReply f.origin 4 xf 0 16 0 (xferLog f.origin 4 16 (s.put F.ttbInstCmdInstall 0))
    | some r => xferReply f.origin 4 xf 0 r 0 (xferLog f.origin 4 r (installEnd slot r s))
  | 2, some x =>
    if x.node ≠ f.origin ∨ x.xfer ≠ xf then xferRefuse f.origin op xf s
    else if x.stage then
      let r := if x.off = x.len then 0 else 13
      xferReply f.origin 2 xf x.off r 0 (xferLog f.origin 2 r (setXferIn none s))
    else
      let s := loadFinish s
      let r := s.get F.ttbImgStatResult
      xferReply f.origin 2 xf x.off r 0 (xferLog f.origin 2 r (setXferIn none s))
  | 3, some x =>
    if x.node ≠ f.origin ∨ x.xfer ≠ xf then xferRefuse f.origin op xf s
    else
      let s := if x.stage then s else loadAbandon s
      xferReply f.origin 3 xf x.off 13 0 (xferLog f.origin 3 13 (setXferIn none s))
  | _, _ => xferRefuse f.origin op xf s

/-- A configuration frame for the target (R348). -/
def configRx (f : XFrame) (s : State) : State :=
  let sub := leAt f.body 0 1
  if !s.flag F.xnetCfgRemoteCfg || s.localLoad || s.tt.install.isSome then
    xferRefuse f.origin (if sub = 1 then leAt f.body 1 1 else 0) (leAt f.body 2 2) s
  else if sub = 1 then xferControl f s
  else match s.xnet.xferIn with
    | some x => xferData f x s
    | none => xferRefuse f.origin 0 (leAt f.body 2 2) s

/-! Configuration transfers at the sender: results (R347, R348). -/

/-- The transfer ends. -/
def xferDone (result : Nat) (s : State) : State :=
  let s := s.withXnet { s.xnet with xferOut := none }
  raise 0x064 18 3 [result] (((s.put F.xnetRcfgResDone 1).put F.xnetRcfgResReady 0).put F.xnetRcfgResResult result)

def resultRx (f : XFrame) (s : State) : State :=
  match s.xnet.xferOut with
  | none => s
  | some x =>
    let b := f.body
    let op := leAt b 1 1
    let r := leAt b 8 1
    if x.node ≠ f.origin ∨ leAt b 2 2 ≠ s.xnet.xferNo then s
    else if r ≠ 0 then xferDone r s
    else if op = 2 ∨ op = 3 ∨ op = 4 then xferDone 0 s
    else if x.op = op then (s.withXnet { s.xnet with xferOut := some { x with op := 0 } }).put F.xnetRcfgResReady (leAt b 9 1 % 2)
    else s

/-! Delivery (R352, R355, R356). -/

/-- What a delivered frame does at this node's consumers (R15, R324). -/
def consume (f : XFrame) (s : State) : State :=
  match f.cls with
  | 0x01 => valueRx f s
  | 0x02 => eventRx f s
  | 0x03 => ackRx f s
  | 0x04 => callRx f s
  | 0x05 => modeRx f s
  | 0x06 => parcelIn f.body s
  | 0x09 => if leAt f.body 0 1 = 2 then resultRx f s else configRx f s
  | _ => s

/-- The tally after a receipt (R352). -/
def receiptTally (l t : Nat) : Nat := if t = 0 then l else max l t + 1

/-- A frame is delivered: the receipt rule, then the consumers; it waits where the ceiling holds L back. -/
def deliverFrame (f : XFrame) (s : State) : State :=
  let l := receiptTally s.ord.tally f.tally
  if s.mayStamp l then callSettle (consume f (refreshCeil (s.withOrd { s.ord with tally := l })))
  else holdUntil (.rx f) l s

/-- What waited at the ordering unit goes on, in order (R355, R356). -/
def drainHeld (s : State) : State :=
  let q := s.ord.waitq
  let s := (s.withOrd { s.ord with waitq := [] }).put F.ordStatWaiting 0
  let s := q.foldl (fun s h => match h with
    | .evt e => emit e s
    | .rx f => deliverFrame f s
    | .gasp r => gaspEmit r s
    | .own cls dest bcast body => originateNew cls dest bcast body s) s
  xpump s.ord.xq.length s

/-- The level that what waits first needs. -/
def waitLevel (s : State) : Nat :=
  match s.ord.waitq with
  | .rx f :: _ => receiptTally s.ord.tally f.tally
  | _ => s.ord.tally + 1

/-- A ceiling write for what waits, once it may start (R356). -/
def ceilKick (s : State) : State :=
  if s.ord.waitq.isEmpty || s.ord.ceilWrite.isSome || !s.ceilWritable then s
  else s.withOrd { s.ord with ceilWrite := some (waitLevel s + 2 ^ 28) }

/-- The ORD block fault code (R377). -/
def ordFaultCode (s : State) : State :=
  s.setLasting 0x065 (if s.ord.ceilAOk && s.ord.ceilBOk then 0 else if s.ord.ceilAOk || s.ord.ceilBOk then 0x40 else 0x41)

/-- A lasting write fault of one copy: it moves to a spare row, or is faulty when none is left (R355, R366). Which of
the two is the row table's affair: a free value. -/
def ceilCopyLost (isA : Bool) (s : State) : State :=
  let s := lastingFault 0x065 s
  let (spare, s) := s.draw 1
  let s := if spare = 1 then s
    else if isA then s.withOrd { s.ord with ceilAOk := false } else s.withOrd { s.ord with ceilBOk := false }
  ordFaultCode s

/-- The ceiling `c` is written to the copies in use, or to the always-on domain where neither is; `okA` and `okB` tell how
each copy's write, its return trip included, ended, and `tripA` and `tripB` whether it took that trip. Answers which
copies were lost (R355, R365, R366). -/
def ceilWritten (c : Nat) (okA okB tripA tripB : Bool) (s : State) : Bool × Bool × State :=
  if s.ceilAon then (false, false, s.withOrd { s.ord with aonCeil := some c })
  else
    let badA := s.ord.ceilAOk && !okA
    let badB := s.ord.ceilBOk && !okB
    let trips := b2n (s.ord.ceilAOk && okA && tripA) + b2n (s.ord.ceilBOk && okB && tripB)
    let s := (s.withOrd { s.ord with ceil := c }).bumpSat (F.hdrRetryCntTransient.page 0x065) trips
    let s := if badA then ceilCopyLost true s else s
    let s := if badB then ceilCopyLost false s else s
    (badA, badB, if s.ceilAon then (s.withOrd { s.ord with aonCeil := some c }).put F.ordStatAonCeil 1 else s)

/-- A ceiling write ends: what waits goes on (R355). -/
def ceilDone (okA okB tripA tripB : Bool) (s : State) : State :=
  match s.ord.ceilWrite with
  | none => s
  | some c =>
    let (badA, badB, s) := ceilWritten c okA okB tripA tripB (s.withOrd { s.ord with ceilWrite := none })
    let s := drainHeld s
    let s := if badA then raise 0x065 6 3 [0] s else s
    if badB then raise 0x065 6 3 [1] s else s

def execCeilWriteDone (okA okB : Bool) (s : State) (tripA tripB : Bool := false) : Host.Outcome State Fault Refusal :=
  .next (ceilDone okA okB tripA tripB s)

/-! Origin streams (R330, R354, R369, R370). -/

def State.orig (s : State) (n : Nat) : Option Orig := s.xnet.origins.find? fun o => o.node == n

def setOrig (o : Orig) (s : State) : State :=
  s.withXnet { s.xnet with origins := (s.xnet.origins.filter fun x => x.node != o.node) ++ [o] }

def dropOrig (n : Nat) (s : State) : State := s.withXnet { s.xnet with origins := s.xnet.origins.filter fun x => x.node != n }

/-- A GAP of kind 0: `next` is the tally of the first frame delivered after it, where one is held (R369, R372). -/
def streamGap (o : Orig) (count : Nat) (next : Option Nat) (s : State) : State :=
  let lo := o.lastTally + 1
  let span := match next with
    | some t => t - 1 - lo
    | none => 2 ^ 32
  let payload := [0] ++ leBytes 1 (b2n (decide (0xFFFFFFFF < span))) ++ leBytes 2 o.node ++ leBytes 4 o.expect ++ leBytes 4 count
    ++ leBytes 8 lo ++ leBytes 4 (sat 0xFFFFFFFF span)
  let s := (s.bumpSat F.ordGapcntStream 1).setRaw 0x065 0
  emit (gapEvt payload) (noteGap 0 o.node 0 o.expect count s)

/-- The tally of the first held frame. -/
def firstTally (l : List (Nat × Nat × Option XFrame)) : Option Nat := l.findSome? fun x => x.2.2.map fun f => f.tally

/-- Deliver a frame of the stream, if it is for this node. -/
def streamDeliver (f : XFrame) (s : State) : State := if s.forMe f then deliverFrame f s else s

/-- Deliver the held frames that now follow in sequence (R369). -/
def releaseRun : List (Nat × Nat × Option XFrame) → Orig → State → Orig × State
  | [], o, s => ({ o with held := [] }, s)
  | x :: rest, o, s =>
    if x.1 = o.expect then
      let e := (o.expect + 1) % 2 ^ 32
      match x.2.2 with
      | some f => releaseRun rest { o with expect := e, lastTally := f.tally } (streamDeliver f s)
      | none => releaseRun rest { o with expect := e, gaps := (o.expect, 1) :: o.gaps } (streamGap o 1 (firstTally rest) s)
    else ({ o with held := x :: rest }, s)

/-- How far an OSEQ lies above the expected one. -/
def ahead (o : Orig) (q : Nat) : Nat := (q + 2 ^ 32 - o.expect) % 2 ^ 32

/-- Close the oldest missing range with a GAP and deliver what follows (R369). -/
def closeOldest (o : Orig) (s : State) : Orig × State :=
  match o.held with
  | [] => (o, s)
  | x :: _ =>
    let n := ahead o x.1
    let s := if n = 0 then s else streamGap o n (firstTally o.held) s
    let gaps := if n = 0 then o.gaps else (o.expect, n) :: o.gaps
    releaseRun o.held { o with expect := x.1, gaps := gaps } s

/-- The limit of a stream's hold in µs: that of the frame whose arrival began it (R368). -/
def Orig.limit (o : Orig) : Nat :=
  (o.came.findSome? fun q => (o.held.find? fun x => x.1 == q).map (·.2.1)).getD (((o.held.map (·.2.1)).head?).getD 0)

/-- A hold of an origin stream ends before its time: how long it was is a free value of at most its limit (R368, R377). -/
def noteHold (limit : Nat) (s : State) : State :=
  let (v, s) := s.draw 32
  s.put F.ordHoldStreamMax (max (s.get F.ordHoldStreamMax) (sat 0xFFFF (v % (limit + 1))))

/-- Close ranges until an OSEQ lies at most 64 above the expected one (R369). -/
def makeRoom (q : Nat) : Nat → Orig → State → Orig × State
  | 0, o, s => (o, s)
  | n + 1, o, s =>
    if 64 < ahead o q ∧ ahead o q < 2 ^ 31 then
      let (o, s) := closeOldest o (noteHold o.limit s)
      makeRoom q n o s
    else (o, s)

/-- Hold a frame at its place. -/
def holdAt (o : Orig) (x : Nat × Nat × Option XFrame) : List (Nat × Nat × Option XFrame) → List (Nat × Nat × Option XFrame)
  | [] => [x]
  | y :: ys => if ahead o x.1 < ahead o y.1 then x :: y :: ys else y :: holdAt o x ys

/-- A tally that R354 takes for corrupt. -/
def State.corrupt (s : State) (t : Nat) : Bool := decide (s.ord.tally + 2 ^ 48 < t)

/-- TALLY_REJECT (R354). -/
def tallyReject (f : XFrame) (s : State) : State :=
  raise 0x065 3 3 [f.origin, f.tally % 2 ^ 32, f.tally / 2 ^ 32] ((s.bumpSat F.ordRejectCount 1).put F.ordRejectNode f.origin)


/-- The hold limit of a frame in µs (R368). -/
def holdLimit (n hops : Nat) (s : State) : Nat := (if s.get (F.xpStatSpeed1g.page n) = 1 then 8 else 64) * (hops + 1)

/-- An OSEQ lies below the expected one (R330, R370). -/
def behind (o : Orig) (q : Nat) : Bool := decide (2 ^ 31 ≤ ahead o q)

/-- A frame with a corrupt tally: TALLY_REJECT, and a GAP for its OSEQ in its place (R354). -/
def rejectFrame (f : XFrame) (s : State) : State :=
  let o := (s.orig f.origin).getD ⟨f.origin, 0, s.ord.tally, [], [], []⟩
  streamGap { o with expect := f.oseq } 1 none (tallyReject f s)

/-- A frame that its stream hands down to this node's consumers: delivered under the receipt rule, or rejected (R352, R354). -/
def handDown (f : XFrame) (s : State) : State := if s.corrupt f.tally then rejectFrame f s else deliverFrame f s

/-- The first frame seen of an origin opens its stream (R330). -/
def streamOpen (bad : Bool) (f : XFrame) (s : State) : State :=
  let o : Orig := ⟨f.origin, (f.oseq + 1) % 2 ^ 32, if bad then s.ord.tally else f.tally, [], [], []⟩
  if bad then setOrig { o with gaps := [(f.oseq, 1)] } (streamGap { o with expect := f.oseq } 1 none (tallyReject f s))
  else streamDeliver f (setOrig o s)

/-- A copy behind the expected frame: late when a gap has covered it (R370). -/
def streamLate (o : Orig) (f : XFrame) (s : State) : State :=
  if o.gaps.any fun g => decide ((f.oseq + 2 ^ 32 - g.1) % 2 ^ 32 < g.2) then
    raise 0x065 4 3 [f.origin, f.oseq] (s.bumpSat F.ordOutcntLate 1)
  else s

/-- The run of frames in hand is delivered in order from the expected one (R369). -/
def streamRun (x : Nat × Nat × Option XFrame) (o : Orig) (s : State) : State :=
  let s := if o.held.isEmpty then s else noteHold o.limit s
  let (o, s) := releaseRun (x :: o.held) o s
  setOrig { o with came := o.came.filter fun q => o.held.any fun y => y.1 == q } s

/-- A frame ahead of the expected one is held (R368). -/
def streamHold (x : Nat × Nat × Option XFrame) (o : Orig) (s : State) : State :=
  let o := { o with held := holdAt o x o.held, came := (o.came.filter fun q => o.held.any fun y => y.1 == q) ++ [x.1] }
  let r := makeRoom x.1 66 o s
  setOrig r.1 r.2

/-- A stream frame arrives on port `n`: whether it is the first copy, and what is delivered (R330, R354, R369, R370). -/
def streamTake (n : Nat) (f : XFrame) (s : State) : Bool × State :=
  if f.origin = s.nodeId then (false, s)
  else
    let bad := s.corrupt f.tally
    match s.orig f.origin with
    | none => (true, streamOpen bad f s)
    | some o =>
      if behind o f.oseq then (false, streamLate o f s)
      else if o.held.any fun x => x.1 == f.oseq then (false, s)
      else
        let x := (f.oseq, holdLimit n f.hops s, if bad then none else some f)
        let s := if bad then tallyReject f s else s
        (true, if ahead o f.oseq = 0 then streamRun x o s else streamHold x o s)

/-- A hold limit expires (R368, R369). -/
def holdExpiry (n : Nat) (s : State) : State :=
  match s.orig n with
  | none => s
  | some o =>
    match o.held with
    | [] => s
    | _ :: _ =>
      let s := s.put F.ordHoldStreamMax (max (s.get F.ordHoldStreamMax) (sat 0xFFFF o.limit))
      let (o, s) := closeOldest o s
      setOrig o s

def execStreamHoldExpiry (origin : NodeIdx) (s : State) : Host.Outcome State Fault Refusal := .next (holdExpiry origin.toNat s)

/-! Forwarding (R329, R330). -/

def ringOf (n : Nat) : Ring := if n < 2 then .p else .s

/-- The ports the first copy of a stream frame is sent on to. -/
def forwardPorts (n : Nat) (s : State) : List Nat :=
  let across := [facing n].filter s.portUp
  let other := if n < 2 then [2, 3] else [0, 1]
  if s.ringClosed .p || s.ringClosed .s then across else across ++ other.filter s.portUp

def forward (n : Nat) (f : XFrame) (s : State) : State := portsSend (forwardPorts n s) { f with hops := f.hops + 1 } s

/-- A stream frame taken on a hop. -/
def streamRx (n : Nat) (f : XFrame) (s : State) : State :=
  let ports := forwardPorts n s
  let (first, t) := streamTake n f s
  if first then portsSend ports { f with hops := f.hops + 1 } t else t

/-- A parcel taken on a hop (R398, R352). -/
def parcelRx (n : Nat) (f : XFrame) (s : State) : State :=
  let ident := (f.origin, leAt f.body 0 4, leAt f.body 4 2)
  if f.origin = s.nodeId ∨ s.safe.seen.contains ident then s
  else
    let s := forward n f (s.withSafe { s.safe with seen := (ident :: s.safe.seen).take 256 })
    if f.dest ≠ s.nodeId ∨ !s.part.safety then s
    else handDown f s

/-! The census (R333 to R336). -/

def ringNo : Ring → Nat
  | .p => 0 | .s => 1

def State.ring (s : State) : Ring → RingState
  | .p => s.xnet.ringP | .s => s.xnet.ringS

def State.setRing (s : State) (r : Ring) (x : RingState) : State :=
  match r with
  | .p => s.withXnet { s.xnet with ringP := x }
  | .s => s.withXnet { s.xnet with ringS := x }

def masterFld : Ring → Fld
  | .p => F.xnetStatMasterP | .s => F.xnetStatMasterS

def closedFld : Ring → Fld
  | .p => F.xnetStatPClosed | .s => F.xnetStatSClosed

/-- The node takes part in the census: configured, in service, not passive (R336, R74). -/
def State.takesPart (s : State) : Bool := s.configured && !s.standby && !s.flag F.xnetStatPassive

/-- 32 bytes of a map of nodes. -/
def mapBytes (m : BitVec 1024) (sect : Nat) : List Byte := leBytes 32 (m.toNat / 2 ^ (256 * sect) % 2 ^ 256)

def mapOf (bs : List Byte) (sect : Nat) : BitVec 1024 := BitVec.ofNat 1024 (leNat bs * 2 ^ (256 * sect))

def nodeBit (n : Nat) : BitVec 1024 := BitVec.ofNat 1024 (2 ^ n)

/-- A census body (R334). -/
def censusBody (sub ring sect master round epoch : Nat) (turned closed : Bool) (seen cap : List Byte) : List Byte :=
  leBytes 1 sub ++ leBytes 1 (ring + 2 * b2n turned + 4 * sect) ++ leBytes 2 master ++ leBytes 2 round ++ leBytes 2 epoch
    ++ leBytes 8 (b2n closed) ++ seen ++ cap

/-- A census frame of this node: TALLY 0, OSEQ 0. -/
def State.censusFrame (s : State) (body : List Byte) : XFrame := s.newFrame 0x07 0 0 true false body

def ownMap (s : State) : BitVec 1024 := nodeBit s.nodeId
def ownCap (s : State) : BitVec 1024 := if s.callCapable then nodeBit s.nodeId else 0

/-- A master starts a round: four section frames out of the ring's ports (R334, R335). -/
def roundStart (r : Ring) (s : State) : State :=
  if !s.takesPart || !s.flag (masterFld r) then s
  else
    let x := s.ring r
    let ports := ownPorts r s
    let rd : Round := ⟨x.nextRound, if ports.isEmpty then [] else [0, 1, 2, 3].map fun k => (k, ports.length), ownMap s, ownCap s, ports.isEmpty⟩
    let s := s.setRing r { x with round := some rd, nextRound := (x.nextRound + 1) % 2 ^ 16 }
    [0, 1, 2, 3].foldl (fun s k =>
      portsSend ports (s.censusFrame (censusBody 0 (ringNo r) k s.nodeId rd.number s.epoch false false (mapBytes (ownMap s) k) (mapBytes (ownCap s) k))) s) s

def execCensusRoundStart (ring : Ring) (s : State) : Host.Outcome State Fault Refusal := .next (roundStart ring s)

/-- 30 ms without a census frame: the node becomes master (R333). -/
def masterTakeover (r : Ring) (s : State) : State :=
  if s.takesPart && !s.flag (masterFld r) && decide (3 ≤ (s.ring r).quiet) then roundStart r (s.put (masterFld r) 1) else s

def execCensusMasterTakeover (ring : Ring) (s : State) : Host.Outcome State Fault Refusal := .next (masterTakeover ring s)

/-- A copy of a section comes back to its master (R335). -/
def sectionBack (r : Ring) (f : XFrame) (s : State) : State :=
  let x := s.ring r
  match x.round with
  | none => s
  | some rd =>
    let b := f.body
    let k := leAt b 1 1 / 4 % 4
    if leAt b 4 2 ≠ rd.number then s
    else
      let pend := rd.pending.filterMap fun y => if y.1 ≠ k then some y else if y.2 ≤ 1 then none else some (k, y.2 - 1)
      s.setRing r { x with
        quiet := 0
        round := some { rd with
          pending := pend
          seen := rd.seen ||| mapOf (slice b 16 32) k
          cap := rd.cap ||| mapOf (slice b 48 32) k
          turned := rd.turned || (leAt b 1 1).testBit 1 } }

/-- A section frame on port `n` of ring `r` (R333, R335, R336). -/
def sectionRx (n : Nat) (r : Ring) (f : XFrame) (s : State) : State :=
  let b := f.body
  let m := leAt b 2 2 % 1024
  let k := leAt b 1 1 / 4 % 4
  let turned := (leAt b 1 1).testBit 1
  let x := s.ring r
  if m = s.nodeId ∧ s.flag (masterFld r) then sectionBack r f s
  else if x.master.any fun l => decide (l < m) then s
  else if s.flag (masterFld r) && decide (s.nodeId < m) then s
  else
    let s := s.setRing r { x with master := some m, quiet := 0, round := if m < s.nodeId then none else x.round }
    let s := if m < s.nodeId then s.put (masterFld r) 0 else s
    let f' := { f with hops := f.hops + 1 }
    if turned then (if s.portUp (facing n) then portSend (facing n) f' s else s)
    else
      let mine := s.nodeId / 256 == k && s.takesPart
      let clash := mine && (mapOf (slice b 16 32) k).toNat.testBit s.nodeId
      let s := if clash then nidClash s else s
      let seen := mapBytes (mapOf (slice b 16 32) k ||| (if mine then ownMap s else 0)) k
      let cap := mapBytes (mapOf (slice b 48 32) k ||| (if mine then ownCap s else 0)) k
      let body := b.take 16 ++ seen ++ cap
      if s.portUp (facing n) then portSend (facing n) { f' with body := body } s
      else portSend n { f' with body := body.take 1 ++ [BitVec.ofNat 8 (leAt b 1 1 ||| 2)] ++ body.drop 2 } s

/-- XNET.STAT.STATE (R340). -/
def crossingState (s : State) : Nat :=
  if s.xnet.lost ≠ 0 then 2
  else if s.ringClosed .p && s.ringClosed .s then 0
  else if s.xnet.present &&& ~~~(ownMap s) ≠ 0 then 1
  else 3

/-- The tally at the last entry to Split. -/
def State.splitTally (s : State) : Nat :=
  (s.reg F.xnetSplitTloTally.addr).toNat + 2 ^ 32 * Sparse.get (fun _ => 0) s.lastHi F.xnetSplitTloTally.addr

/-- At entry to Split the tally and the epoch are recorded (R342). -/
def enterSplit (s : State) : State :=
  let a := F.xnetSplitTloTally.addr
  let t := s.ord.tally
  let s := (s.setReg a (BitVec.ofNat 32 t)).withLastHi (Sparse.set (fun _ => 0) s.lastHi a (t / 2 ^ 32 % 2 ^ 32))
  (s.put F.xnetEpochSplitEpoch s.epoch).withLg { s.lg with goneFrom := t, gone := 0 }

/-- STATE takes the value its conditions give it (R340, R342). -/
def stateMove (s : State) : State :=
  let st := crossingState s
  if st = s.get F.xnetStatState then s else (if st = 2 then enterSplit s else s).put F.xnetStatState st

/-- The event of a change of STATE from what it was (R340). -/
def stateTold (was : Nat) (s : State) : State :=
  if s.get F.xnetStatState = was then s else raise 0x064 0 4 [s.get F.xnetStatState] s

/-- The state follows its conditions (R340, R342). -/
def stateFollow (s : State) : State := stateTold (s.get F.xnetStatState) (stateMove s)

/-- What a summary tells this node (R335, R337). -/
def summaryApply (r : Ring) (k : Nat) (closed : Bool) (present cap : BitVec 1024) (s : State) : State :=
  let s := s.withXnet { s.xnet with seenNow := s.xnet.seenNow ||| present, capNow := s.xnet.capNow ||| cap }
  if k = 0 then stateFollow (s.put (closedFld r) (b2n closed)) else s

/-- A summary frame: first copy only (R335). -/
def summaryRx (n : Nat) (r : Ring) (f : XFrame) (s : State) : State :=
  let b := f.body
  let m := leAt b 2 2 % 1024
  let k := leAt b 1 1 / 4 % 4
  let x := s.ring r
  let ident := (m, ringNo r, leAt b 4 2, k)
  if m = s.nodeId ∨ x.summaries.contains ident then s
  else
    let s := forward n f (s.setRing r { x with summaries := (ident :: x.summaries).take 64 })
    let s := heardEpoch m (leAt b 6 2) s
    summaryApply r k ((leAt b 8 1).testBit 0) (mapOf (slice b 16 32) k) (mapOf (slice b 48 32) k) s

/-- A leave frame: first copy only (R338). -/
def leaveRx (n : Nat) (f : XFrame) (s : State) : State :=
  let d := leAt f.body 2 2 % 1024
  if d = s.nodeId ∨ s.xnet.departed.toNat.testBit d then s
  else forward n f (s.withXnet { s.xnet with departed := s.xnet.departed ||| nodeBit d })

/-- A census frame arrives on a port. -/
def censusRx (n : Nat) (f : XFrame) (s : State) : State :=
  let r : Ring := if (leAt f.body 1 1).testBit 0 then .s else .p
  match leAt f.body 0 1 with
  | 0 => if r = ringOf n then sectionRx n r f (heardEpoch (leAt f.body 2 2 % 1024) (leAt f.body 6 2) s) else s
  | 1 => summaryRx n r f s
  | 2 => leaveRx n f (noteEpoch (leAt f.body 6 2) s)
  | _ => s

def execCensusFrameReceive (port : BitVec 2) (frame : List Byte) (s : State) : Host.Outcome State Fault Refusal :=
  .next (match parseFrame frame with
    | some r =>
      if r.frame.cls = 0x07 ∧ r.frame.lenOk ∧ r.frame.hops < 2048 ∧ s.portUp port.toNat then censusRx port.toNat r.frame (heardEpoch r.frame.origin r.frame.epoch s)
      else s
    | none => s)

/-- A round completes: the summaries go out on both rings; a passive node has no round (R335, R336). -/
def roundComplete (r : Ring) (s : State) : State :=
  let x := s.ring r
  match (if s.flag F.xnetStatPassive then none else x.round) with
  | none => s.setRing r { x with round := none }
  | some rd =>
    let closed := rd.pending.isEmpty && !rd.turned
    let s := s.setRing r { x with round := none }
    let s := (s.put (closedFld r) (b2n closed)).withXnet { (s.put (closedFld r) (b2n closed)).xnet with
      seenNow := s.xnet.seenNow ||| rd.seen, capNow := s.xnet.capNow ||| rd.cap }
    let s := stateFollow s
    [0, 1, 2, 3].foldl (fun s k =>
      portsSend s.streamPorts (s.censusFrame (censusBody 1 (ringNo r) k s.nodeId rd.number s.epoch false closed (mapBytes rd.seen k) (mapBytes rd.cap k))) s) s

def execCensusRoundComplete (ring : Ring) (s : State) : Host.Outcome State Fault Refusal := .next (roundComplete ring s)

/-- The leave frame sent before the ports are disabled (R338, R74). -/
def sendLeave (s : State) : State :=
  if s.flag F.xnetStatPassive then s
  else portsSend s.streamPorts (s.censusFrame (censusBody 2 0 0 s.nodeId 0 s.epoch false false (leBytes 32 0) (leBytes 32 0))) s

/-! Frames on a hop (R322, R324, R326). -/

/-- A taken data frame by its class (R324). -/
def classRx (n : Nat) (f : XFrame) (s : State) : State :=
  if !f.lenOk then badLength n s
  else if 2048 ≤ f.hops then s
  else
    let s := heardEpoch f.origin f.epoch s
    match f.cls with
    | 0x06 => parcelRx n f s
    | 0x07 => censusRx n f s
    | _ => streamRx n f s

/-- A data frame arrives (R326). -/
def dataRx (n : Nat) (r : RxFrame) (s : State) : State :=
  let next := s.get (F.xpHseqRxNext.page n)
  if r.hseq = next then
    let s := (s.put (F.xpHseqRxNext.page n) (next + 1)).bumpWrap (F.xpRxcntCount.page n) 1
    classRx n r.frame (hopAck n r.hseq false s)
  else if hseqLe r.hseq ((next + 0xFFFF) % 2 ^ 16) then hopAck n r.hseq false s
  else s.bumpSat (F.xpErrcntDiscard.page n) 1

/-- The copies of a census frame that cut-through forwards on ports of 1 Gbit/s: a section with this node's bits set, a
summary or a leave as it came (R331, R335). -/
def censusCopies (fast : Nat → Bool) (n : Nat) (f : XFrame) (s : State) : List Output :=
  ((censusRx n f s).out.drop s.out.length).filterMap fun o => match o with
    | .frame k bs => if fast k && leAt bs 15 1 == 0x07 then some (.cut k bs) else none
    | _ => none

/-- A data frame whose header is good and whose FCS is not: what was already being forwarded cut-through ends with an
inverted FCS, port by port, and takes no HSEQ there (R331, log entry 51). -/
def cutShort (n : Nat) (r : RxFrame) (s : State) : State :=
  let f := r.frame
  let fast := fun k => s.flag (F.xpStatSpeed1g.page k)
  let goes := s.portUp n && fast n && r.hseq == s.get (F.xpHseqRxNext.page n) && f.lenOk && decide (f.hops < 2048)
  let copies := ((forwardPorts n s).filter fast).map fun k =>
    Output.cut k (XFrame.bytes { f with hops := f.hops + 1 } k s.nodeId (s.get (F.xpHseqTxNext.page k)))
  let cut := match f.cls with
    | 0x06 => if f.origin != s.nodeId && !s.safe.seen.contains (f.origin, leAt f.body 0 4, leAt f.body 4 2) then copies else []
    | 0x07 => censusCopies fast n f s
    | 0x08 => []
    | _ => if (streamTake n f s).1 then copies else []
  if goes then s.withOut (s.out ++ cut) else s

/-- Any frame arrives on a port; `fcsOk` tells that its FCS is good. -/
def frameRx (n : Nat) (bs : List Byte) (fcsOk : Bool) (s : State) : State :=
  let s := match if fcsOk then none else parseFrame bs with
    | some r => cutShort n r s
    | none => s
  match if fcsOk then parseFrame bs else none with
  | none => if s.xpState n = 0 then s else badFrame n s
  | some r =>
    if r.frame.cls = 0x08 then (if r.frame.sync then syncRx n r s else hopAckRx n r s)
    else if s.portUp n then dataRx n r s else s

def execFrameReceive (port : BitVec 2) (frame : List Byte) (fcsOk : Bool) (s : State) (endRead : NorRead := .ok) :
    Host.Outcome State Fault Refusal :=
  .next (frameRx port.toNat frame fcsOk (noteEndRead endRead s))

/-! Membership (R337 to R344). -/

/-- LOST has outlived a reset of class S or K, and with it the Split it stands for: that is no new entry (R87, R340). -/
def splitKept (s : State) : State := if s.xnet.lost = 0 then s else s.put F.xnetStatState 2

/-- The lowest node of a map; the map is never empty where this is used. -/
def lowestNode (m : BitVec 1024) (d : Nat) : Nat := ((List.range 1024).find? m.toNat.testBit).getD d

/-- Held acknowledgements for present nodes go out (R343, R344 step 4). -/
def sendPending (s : State) : State :=
  let go := s.xnet.pendAcks.filter fun a => s.isPresent a.node
  let s := s.withXnet { s.xnet with pendAcks := s.xnet.pendAcks.filter fun a => !s.isPresent a.node }
  go.foldl (fun s a => originateNew 0x03 a.node false (leBytes 4 a.op ++ leBytes 4 a.target ++ leBytes 4 a.inst ++ leBytes 2 a.issuer) s) s

/-- The node's own records of a replay still to send (R345). -/
def State.replayLeft (s : State) : List Rec :=
  match s.xnet.replay with
  | none => []
  | some (lo, hi) =>
    (s.lg.main ++ s.lg.ring ++ s.lg.failover).filter fun r => r.flags % 2 == 0 && decide (lo ≤ r.tally) && decide (r.tally ≤ hi)

/-- Points with PUBLISH = 1. -/
def State.published (s : State) : List Nat := (s.eng.pts.filter fun x => (s.pcfg x.1).publish).map (·.1)

/-- A rejoin begins (R344). -/
def rejoinStart (s : State) : State :=
  let s := raise 0x064 8 4 [] (s.put F.xnetStatRejoining 1)
  let s := s.withXnet { s.xnet with replay := some (s.splitTally, s.ord.tally), rejoinPts := s.published, modeDue := 2 }
  let s := s.withCall { s.call with merged := [] }
  let s := (s.put F.xnetReplayLeft (sat 0xFFFF s.replayLeft.length)).put F.xnetReplayNotHeld (sat 0xFFFF s.lg.gone)
  sendPending (s.withLg { s.lg with replayLo := s.splitTally, replayHi := s.ord.tally, replayGone := 0 })

/-- A rejoin ends at a loss (R344). -/
def rejoinBreak (s : State) : State :=
  ((s.put F.xnetStatRejoining 0).put F.xnetReplayLeft 0).withXnet { (s.put F.xnetStatRejoining 0 |>.put F.xnetReplayLeft 0).xnet with
    replay := none, rejoinPts := [], modeDue := 0 }

/-- The second interval of a rejoin: the duty node of the merged part broadcasts its timetable (R281, R344). -/
def rejoinMode (s : State) : State :=
  let n := s.xnet.modeDue
  let s := s.withXnet { s.xnet with modeDue := n - 1 }
  if n = 1 then modeBroadcast s else s

/-- The duty node of the part (R339). -/
def dutyStep (s : State) : State :=
  let caps := s.xnet.cap &&& (s.xnet.present ||| ownMap s)
  let cand := if caps = 0 then none else some (lowestNode caps 0)
  let same := cand == s.xnet.dutyCand && s.xnet.dutyRun != 0
  let run := if same then s.xnet.dutyRun + 1 else 1
  let s := s.withXnet { s.xnet with dutyCand := cand, dutyRun := run }
  let s := if s.isDuty && (cand != some s.nodeId || s.flag F.xnetStatPassive) then ceaseDuty s else s
  match cand with
  | none =>
    let s := (s.put F.callStatDutyValid 0).put F.callStatDutyNode 0
    if same then s else raise 0x064 4 4 [] s
  | some n =>
    if run < 2 then
      (if s.get F.callStatDutyNode = n then s else (s.put F.callStatDutyValid 0).put F.callStatDutyNode 0)
    else
      let s := (s.put F.callStatDutyValid 1).put F.callStatDutyNode n
      if n = s.nodeId && !s.flag F.xnetStatPassive && !s.isDuty then modeBroadcast (becomeDuty s) else s

/-- A 10 ms interval ends (R337 to R341, R344). Its call events are stamped before those of XNET (R353). -/
def membership (s : State) : State :=
  if !s.configured || s.standby then s
  else
    let x := s.xnet
    let own := ownMap s
    let seen := x.seenNow ||| own
    let wasAlone := decide (x.present &&& ~~~own = 0)
    let joined := seen &&& ~~~x.present &&& ~~~own
    let unseen := bitsSet 1024 (x.present &&& ~~~seen).toNat
    let missed := unseen.map fun n => (n, Sparse.get (fun _ => 0) x.missed n + 1)
    let gone := (missed.filter fun y => decide (3 ≤ y.2)).map (·.1)
    let goneMap := gone.foldl (fun m n => m ||| nodeBit n) (0 : BitVec 1024)
    let left := goneMap &&& x.departed
    let newLost := goneMap &&& ~~~x.departed
    let again := (x.missed.foldl (fun m y => m ||| nodeBit y.1) (0 : BitVec 1024)) &&& seen
    let back := joined &&& x.lost
    let present := (x.present ||| joined ||| own) &&& ~~~goneMap
    let cap := (((x.cap &&& ~~~seen) ||| (x.capNow &&& seen)) &&& ~~~own &&& ~~~goneMap) ||| (x.cap &&& own)
    let s := s.withXnet { x with
      present := present, cap := cap, lost := (x.lost &&& ~~~joined) ||| newLost, seenNow := 0, capNow := 0
      missed := missed.filter fun y => decide (y.2 < 3)
      departed := x.departed &&& ~~~left &&& ~~~joined &&& ~~~again
      epochs := (x.epochs.map fun e => (e.1, e.2 + 1)).filter fun e => decide (e.2 < 3)
      ringP := { x.ringP with quiet := x.ringP.quiet + 1, master := if 3 ≤ x.ringP.quiet + 1 then none else x.ringP.master }
      ringS := { x.ringS with quiet := x.ringS.quiet + 1, master := if 3 ≤ x.ringS.quiet + 1 then none else x.ringS.master }
      changed := false }
    let s := gone.foldl (fun s n => dropOrig n s) s
    let head := lowestNode present s.nodeId
    let wasHead := s.get F.xnetStatHead
    let wasEpoch := s.epoch
    let wasState := s.get F.xnetStatState
    let s := s.put F.xnetStatHead head
    let changed := joined ≠ 0 ∨ gone ≠ [] ∨ x.changed
    let newHead := wasHead ≠ head ∨ back ≠ 0 ∨ (wasAlone ∧ joined ≠ 0)
    let s :=
      if head ≠ s.nodeId ∨ s.flag F.xnetStatPassive then s
      else if newHead then s.put F.xnetEpochEpoch ((latestEpoch s.epoch (x.epochs.map (·.1)) + 1) % 2 ^ 16)
      else if changed then s.put F.xnetEpochEpoch ((s.epoch + 1) % 2 ^ 16)
      else s
    let s := rejoinMode (dutyStep (stateMove s))
    let s := (bitsSet 1024 joined.toNat).foldl (fun s n => raise 0x064 1 4 [n] s) s
    let s := gone.foldl (fun s n => raise 0x064 2 4 [n] s) s
    let s := (bitsSet 1024 newLost.toNat).foldl (fun s n => raise 0x064 3 4 [n] s) s
    let s := epochTold wasEpoch (stateTold wasState s)
    let s := if newLost ≠ 0 ∧ s.flag F.xnetStatRejoining then rejoinBreak s else s
    let s := if joined = 0 then s else sendUnits s
    callSettle (if back ≠ 0 then rejoinStart s else s)

def execMembershipInterval (s : State) : Host.Outcome State Fault Refusal := .next (membership s)

end Sys2Proof.Machine
end

