-- ==== Sys2Proof/Machine/NetCmds.lean ====
section
/-!
DEFINITION. The owner's and the hosts' commands across the crossing: replay (R345), remote acknowledgements (R346),
LOST (R338), configuration transfers (R347, R348).
-/

namespace Sys2Proof.Machine

/-! Call and mode frames handed to this node's consumers (R253, R281, R352). -/

def execCallFrameReceive (frame : List Byte) (s : State) : Host.Outcome State Fault Refusal :=
  .next (match parseFrame frame with
    | some r => if r.frame.cls = 0x04 ∧ r.frame.lenOk ∧ s.configured then handDown r.frame s else s
    | none => s)

def execModeFrameReceive (frame : List Byte) (s : State) : Host.Outcome State Fault Refusal :=
  .next (match parseFrame frame with
    | some r => if r.frame.cls = 0x05 ∧ r.frame.lenOk ∧ s.configured then handDown r.frame s else s
    | none => s)

/-! Replay (R345). -/

/-- The record with the lowest tally. -/
def lowestRec (rs : List Rec) : Option Rec :=
  rs.foldl (fun a r => match a with
    | none => some r
    | some b => if r.tally < b.tally then some r else some b) none

/-- The replay ends: the closing node event, then REJOIN_DONE (R344, R345). -/
def replayEnd (s : State) : State :=
  let s := s.withXnet { s.xnet with replay := none, rejoinPts := [] }
  let s := emit ⟨.node, 0x064, 0x6420, 4, payloadWords [s.get F.xnetReplayNotHeld], true⟩ (s.put F.xnetReplayLeft 0)
  raise 0x064 9 4 [] (s.put F.xnetStatRejoining 0)

/-- The next value frame of a rejoin (R344 step 5). -/
def rejoinValue (s : State) : State :=
  match s.xnet.rejoinPts with
  | [] => s
  | i :: is =>
    let s := s.withXnet { s.xnet with rejoinPts := is }
    match s.pt i with
    | some p => if s.inEdit i then s else valueFrame i (s.pcfg i) p s
    | none => s

/-- Records that went since the last step of the replay count as no longer held (R345). -/
def replayGone (s : State) : State :=
  (s.bumpSat F.xnetReplayNotHeld s.lg.replayGone).withLg { s.lg with replayGone := 0 }

/-- One step of a replay: the next record, and the next value frame. -/
def replaySend (s : State) : State :=
  match s.xnet.replay with
  | none => s
  | some (_, hi) =>
    if !s.configured || s.standby then s
    else
      let s := replayGone s
      match lowestRec s.replayLeft with
      | some r =>
        let s := originate (s.newFrame 0x02 0 r.tally true true ([2, 0, 0, 0] ++ r.bytes)) s
        let s := (s.withXnet { s.xnet with replay := some (r.tally + 1, hi) }).withLg { s.lg with replayLo := r.tally + 1 }
        rejoinValue (s.put F.xnetReplayLeft (sat 0xFFFF s.replayLeft.length))
      | none => if s.xnet.rejoinPts.isEmpty then replayEnd s else rejoinValue s

def execReplaySend (s : State) : Host.Outcome State Fault Refusal := .next (replaySend s)

/-! Remote acknowledgements (R346, R343). -/

def ackBody (op target inst issuer : Nat) : List Byte := leBytes 4 op ++ leBytes 4 target ++ leBytes 4 inst ++ leBytes 2 issuer

/-- What a RACK_CMD does, and its result. -/
def rackRun (h : HostId) (op : Nat) (bcast : Bool) (node target inst : Nat) (s : State) : Nat × State :=
  let issuer := issuerWord h s
  let target := if op = 3 then target % 4096 else target
  if op = 0 ∨ 5 < op then (15, s)
  else if bcast then
    let s := originateNew 0x03 0 true (ackBody op target inst issuer) s
    let s := ackApply op target inst issuer s
    (0, if op = 3 then expandAcks h (some target) none s else if op = 5 then expandAcks h none none s else s)
  else if node = s.nodeId then (0, ackApply op target inst issuer s)
  else if s.isPresent node then (0, originateNew 0x03 node false (ackBody op target inst issuer) s)
  else if s.xnet.lost.toNat.testBit node && (op == 3 || op == 5) then
    (8, expandAcks h (if op = 3 then some target else none) (some node) s)
  else (8, holdAck ⟨node, op, target, inst, issuer⟩ s)

/-- A write of RACK_CMD. -/
def actRackCmd (h : HostId) (v m : Word) (s : State) : State :=
  if m = 0 then s
  else if s.getH h F.xnetRackResBusy = 1 then accessFault 0x064 0x30 s
  else
    let inst := (s.regH h F.xnetRackArgInstance.addr).toNat
    let (r, s) := rackRun h (getBits v 31 28) (getBit v 27) (getBits v 26 17) (getBits v 16 0) inst s
    raise 0x064 11 (doneSev r) [] (s.setRegH h F.xnetRackResDone.addr (resWord 1 0 r 0))

def execRemoteAckCommand (host : HostId) (value : Word) (s : State) : Host.Outcome State Fault Refusal :=
  .next (hostWord host 0x064080 value (actRackCmd host value) s)

/-! XNET.CMD (R338, R351). -/

/-- Nodes leave LOST by command; the epoch follows at the end of the interval (R341). -/
def forget (m : BitVec 1024) (s : State) : State :=
  stateFollow (s.withXnet { s.xnet with lost := s.xnet.lost &&& ~~~m, changed := true })

def actXnetCmd (v m : Word) (s : State) : State :=
  if m = 0 then s
  else match getBits v 31 28 with
    | 1 => if s.xnet.lost.toNat.testBit (getBits v 9 0) then forget (nodeBit (getBits v 9 0)) s else accessFault 0x064 0x30 s
    | 2 => if s.xnet.lost = 0 then s else forget s.xnet.lost s
    | _ => accessFault 0x064 0x30 s

def execForgetNode (host : HostId) (node : NodeIdx) (s : State) : Host.Outcome State Fault Refusal :=
  let v : Word := BitVec.ofNat 32 (2 ^ 28 + node.toNat)
  .next (hostWord host 0x06406C v (actXnetCmd v) s)

def execForgetAllLost (host : HostId) (s : State) : Host.Outcome State Fault Refusal :=
  let v : Word := BitVec.ofNat 32 (2 * 2 ^ 28)
  .next (hostWord host 0x06406C v (actXnetCmd v) s)

/-! Configuration transfers from this node (R347, R348). -/

/-- Send a control frame of the running transfer. -/
def rcfgControl (op len slot : Nat) (s : State) : State :=
  match s.xnet.xferOut with
  | none => s
  | some x =>
    let s := s.withXnet { s.xnet with xferOut := some { x with op := op, at_ := s.now } }
    originateNew 0x09 x.node false
      ([1] ++ leBytes 1 op ++ leBytes 2 s.xnet.xferNo ++ leBytes 4 len ++ leBytes 1 slot ++ leBytes 3 0) (s.put F.xnetRcfgResReady 0)

/-- A transfer begins: BEGIN, STAGE or INSTALL. -/
def rcfgStart (op node slot : Nat) (s : State) : State :=
  if s.xnet.xferOut.isSome then accessFault 0x064 0x30 s
  else
    let no := if op = 4 then s.xnet.xferNo else (s.xnet.xferNo + 1) % 2 ^ 16
    let len := if op = 4 then 0 else s.get F.xnetRcfgLenLen
    let s := s.withXnet { s.xnet with xferNo := no, xferOut := some ⟨node, op == 5, slot, len, 0, [], op, s.now⟩ }
    let s := ((s.put F.xnetRcfgResDone 0).put F.xnetRcfgResReady 0).put F.xnetRcfgResResult 0
    if s.isPresent node && node != s.nodeId then rcfgControl op len (if op = 1 then 0 else slot) s else xferDone 17 s

/-- Send what has been collected as a data frame. -/
def rcfgFlush (s : State) : State :=
  match s.xnet.xferOut with
  | none => s
  | some x =>
    if x.buf.isEmpty then s
    else
      let n := x.buf.length
      let s := s.withXnet { s.xnet with xferOut := some { x with off := x.off + n, buf := [], at_ := s.now } }
      originateNew 0x09 x.node false
        ([0, 0] ++ leBytes 2 s.xnet.xferNo ++ leBytes 4 x.off ++ leBytes 1 n ++ leBytes 3 0 ++ slice x.buf 0 64) (s.put F.xnetRcfgResReady 0)

/-- A write of RCFG_CTL. END and ABORT act on the running transfer alone. -/
def actRcfgCtl (v m : Word) (s : State) : State :=
  if m = 0 then s
  else
    let node := getBits v 25 16
    let slot := getBits v 3 0
    match getBits v 31 28 with
    | 1 => rcfgStart 1 node 0 s
    | 5 => rcfgStart 5 node slot s
    | 4 => rcfgStart 4 node slot s
    | 2 => rcfgControl 2 0 0 (rcfgFlush s)
    | 3 => rcfgControl 3 0 0 s
    | _ => accessFault 0x064 0x30 s

def rcfgWord (op node slot : Nat) : Word := BitVec.ofNat 32 (op * 2 ^ 28 + node * 2 ^ 16 + slot)

def hostRcfg (h : HostId) (w : Word) (s : State) : State := hostWord h 0x064090 w (actRcfgCtl w) s

def execRcfgBegin (host : HostId) (node : NodeIdx) (s : State) : Host.Outcome State Fault Refusal :=
  .next (hostRcfg host (rcfgWord 1 node.toNat 0) s)

def execRcfgStage (host : HostId) (node : NodeIdx) (slot : BitVec 4) (s : State) : Host.Outcome State Fault Refusal :=
  .next (hostRcfg host (rcfgWord 5 node.toNat slot.toNat) s)

def execRcfgEnd (host : HostId) (node : NodeIdx) (s : State) : Host.Outcome State Fault Refusal :=
  .next (hostRcfg host (rcfgWord 2 node.toNat 0) s)

def execRcfgAbort (host : HostId) (node : NodeIdx) (s : State) : Host.Outcome State Fault Refusal :=
  .next (hostRcfg host (rcfgWord 3 node.toNat 0) s)

def execRcfgInstall (host : HostId) (node : NodeIdx) (slot : BitVec 4) (s : State) : Host.Outcome State Fault Refusal :=
  .next (hostRcfg host (rcfgWord 4 node.toNat slot.toNat) s)

/-- A word of RCFG_DATA. -/
def actRcfgData (v m : Word) (s : State) : State :=
  if m = 0 then s
  else match s.xnet.xferOut with
    | some x =>
      if s.flag F.xnetRcfgResReady then
        let s := s.withXnet { s.xnet with xferOut := some { x with buf := x.buf ++ leBytes 4 v.toNat } }
        if 64 ≤ x.buf.length + 4 then rcfgFlush s else s
      else accessFault 0x064 0x30 s
    | none => accessFault 0x064 0x30 s

def execRcfgData (host : HostId) (value : Word) (s : State) : Host.Outcome State Fault Refusal :=
  .next (hostWord host 0x064098 value (actRcfgData value) s)

def execRcfgResultReceive (frame : List Byte) (s : State) : Host.Outcome State Fault Refusal :=
  .next (match parseFrame frame with
    | some r => if r.frame.cls = 0x09 ∧ r.frame.lenOk ∧ leAt r.frame.body 0 1 = 2 ∧ s.forMe r.frame then handDown r.frame s else s
    | none => s)

/-- No reply within 64 tide ticks (R347). -/
def rcfgTimeout (s : State) : State :=
  match s.xnet.xferOut with
  | some x => if !s.flag F.xnetRcfgResReady && decide (64 ≤ s.since x.at_) then xferDone 17 s else s
  | none => s

def execRcfgTimeout (s : State) : Host.Outcome State Fault Refusal := .next (rcfgTimeout s)

def execConfigFrameReceive (frame : List Byte) (s : State) (endRead : NorRead := .ok) : Host.Outcome State Fault Refusal :=
  .next (match parseFrame frame with
    | some r =>
      if r.frame.cls = 0x09 ∧ r.frame.lenOk ∧ leAt r.frame.body 0 1 ≠ 2 ∧ s.forMe r.frame ∧ s.configured then
        handDown r.frame (noteEndRead endRead s)
      else s
    | none => s)

/-! Ends of loads and installs that a sender waits for. -/

/-- The erase of copy 2 ends; the BEGIN of a remote load is answered (R270, R348). -/
def imgErased (ok : Bool) (s : State) : State :=
  let t := eraseDone ok s
  if !s.tt.erasing || t.tt.erasing then t
  else match t.xnet.xferIn with
    | some x =>
      if x.stage then t
      else if ok then xferReply x.node 1 x.xfer 0 0 1 t
      else xferReply x.node 1 x.xfer 0 11 0 (xferLog x.node 1 11 (setXferIn none t))
    | none => t

def execImgEraseDone (ok : Bool) (s : State) : Host.Outcome State Fault Refusal := .next (imgErased ok s)

/-- An install ends; the INSTALL of a remote sender is answered (R278, R347). -/
def ttInstalled (s : State) : State :=
  let t := installDone s
  if s.tt.install.isNone || t.tt.install.isSome then t
  else match t.xnet.xferIn with
    | some x => xferReply x.node 4 x.xfer 0 0 0 (xferLog x.node 4 0 (setXferIn none t))
    | none => t

def execTtInstallDone (s : State) : Host.Outcome State Fault Refusal := .next (ttInstalled s)

end Sys2Proof.Machine
end

