-- ==== Sys2Proof/Machine/Ownership.lean ====
section
/-!
DEFINITION. Two hosts, one owner (R109 to R114): offers, claims and the transfer of ownership.
-/

namespace Sys2Proof.Machine

/-- A field of a host's own page. -/
def hostFld (f : Fld) (h : HostId) : Fld := f.page (hostIdx h)

/-- An event on both host pages. -/
def bothHosts (bit : Nat) (s : State) : State := raise 0x006 bit 5 [] (raise 0x005 bit 5 [] s)

/-- CLAIM_RUN on both host pages, and SYS.OWN.CLAIM. -/
def putClaim (on : Bool) (s : State) : State :=
  (((s.putFlag (hostFld F.hostStatClaimRun .a) on).putFlag (hostFld F.hostStatClaimRun .b) on).putFlag F.sysOwnClaim on).withOwn
    { s.own with claim := if on then some s.now else none }

/-- A running claim ends with no change of owner: CLAIM_KEPT (R112, R417). -/
def claimKept (s : State) : State := if s.own.claim.isSome then record 0x000 0x0020 5 [] (putClaim false s) else s

/-- No offer is open: TOKEN, VALID and OFFER are clear (R111). -/
def clearOffer (s : State) : State :=
  let s := (s.put F.sysOwnOffer 0).withOwn { s.own with offer := none }
  [HostId.a, HostId.b].foldl (fun s h => (s.put (hostFld F.hostTokenToken h) 0).put (hostFld F.hostTokenValid h) 0) s

/-- The offer closes with no take: OFFER_CLOSED on both host pages (R110, R111). -/
def closeOffer (s : State) : State := bothHosts 11 (clearOffer s)

/-- A request is refused (R110): the code in SYS, and OWN_REFUSED. -/
def ownRefused (code : Nat) (s : State) : State := raise 0x000 7 2 [code] (accessFault 0x000 code s)

/-- Every uncommitted staged value of every page is discarded, and every pending commit abandoned (R97, R111). -/
def dropAllStaged (s : State) : State :=
  (mappedPages.foldl (fun s p => s.put (F.hdrPageCommitCommit.page p) 0) (s.withStaged [])).withOuts
    { s.outs with repTaken := 0 }

/-- An open range that was asked for and has not taken effect is refused (R199). -/
def openRefused (s : State) : State :=
  if s.eng.openReq.isSome then quietRefusal 0x044 0x30 ((s.put F.manCmdOpen 0).withEng { s.eng with openReq := none }) else s

/-- What follows a change of ownership (R97, R199, R202, R271, R410, and R317 for a SAIL commit in progress). -/
def ownerFollow (s : State) : State :=
  let s := dropAllStaged s
  let s := fbSegs.foldl (fun s n => s.setSeg n { s.seg n with taken := false }) s
  closeRange true (openRefused (cfgAbandon (loadAbandon s)))

/-- Ownership passes to the other host, in one step (R111 step 2, R112). -/
def ownerChange (s : State) : State :=
  let new := otherHost s.owner
  let s := putClaim false (clearOffer s)
  let s := s.put F.sysOwnOwner (hostIdx new)
  let s := (s.put (hostFld F.hostStatIsOwner new) 1).put (hostFld F.hostStatIsOwner (otherHost new)) 0
  ownerFollow (raise 0x000 6 5 [hostIdx new] (bothHosts 9 s))

/-- OFFER = 1, by the owner (R110, R111 step 1). -/
def ownOffer (h : HostId) (s : State) : State :=
  if s.own.offer.isSome then ownRefused 0x29 s
  else
    let s := claimKept s
    let (token, s) := s.drawKey
    let s := (s.put F.sysOwnOffer 1).withOwn { s.own with offer := some (token, s.now, 0) }
    let o := otherHost h
    let s := (s.put (hostFld F.hostTokenToken o) token).put (hostFld F.hostTokenValid o) 1
    raise 0x000 4 5 [hostIdx h] (raise (hostPage o) 8 5 [] s)

/-- CLAIM = 1 (R110, R112); a second claim while one runs has no effect, since CLAIM reads 1 (R10). -/
def ownClaim (h : HostId) (s : State) : State :=
  if s.isOwner h || s.own.offer.isSome then ownRefused 0x29 s
  else if s.own.claim.isSome then s
  else raise 0x000 5 5 [hostIdx h] (raise (hostPage s.owner) 10 5 [] (putClaim true s))

/-- SYS.OWN: OFFER, CLAIM, KEEP (R113). A CLAIM or OFFER of 1 that reads 1 already still meets the refusals of
R110; the masked word holds no such bit, so `v` is looked at for it. -/
def actOwn (h : HostId) (v m : Word) (s : State) : State :=
  let own := s.isOwner h
  let s := if own && getBit v 1 then ownOffer h s else s
  let s := if getBit v 2 then ownClaim h s else s
  if getBit (v &&& m) 3 then claimKept s else s

/-- The word that writes 1 to bit `k` of SYS.OWN and leaves OWNER, which is RO, as it reads (R10). -/
def ownWord (k : Nat) (s : State) : Word := bitWord k ||| (s.reg 0x00004C &&& 1)

def execOwnOffer (host : HostId) (s : State) : Host.Outcome State Fault Refusal :=
  .next (hostWord host 0x00004C (ownWord 1 s) (actOwn host (ownWord 1 s)) s)

def execOwnClaim (host : HostId) (s : State) : Host.Outcome State Fault Refusal :=
  .next (hostWord host 0x00004C (ownWord 2 s) (actOwn host (ownWord 2 s)) s)

def execOwnKeep (host : HostId) (s : State) : Host.Outcome State Fault Refusal :=
  .next (hostWord host 0x00004C (ownWord 3 s) (actOwn host (ownWord 3 s)) s)

/-- SYS.OWN_TAKE (R110, R111): the third wrong token closes the offer. -/
def actOwnTake (h : HostId) (v : Word) (s : State) : State :=
  match s.own.offer with
  | none => ownRefused 0x29 s
  | some (token, at_, wrong) =>
    if s.isOwner h then ownRefused 0x29 s
    else if getBits v 15 0 = token then ownerChange s
    else
      let s := ownRefused 0x2A s
      if 2 ≤ wrong then closeOffer s else s.withOwn { s.own with offer := some (token, at_, wrong + 1) }

def execOwnTake (host : HostId) (token : BitVec 16) (s : State) : Host.Outcome State Fault Refusal :=
  .next (hostWord host 0x000050 (token.setWidth 32) (fun _ => actOwnTake host (token.setWidth 32)) s)

/-- 64 tide ticks after the offer, with no valid take (R111 step 3). -/
def offerTimeout (s : State) : State :=
  match s.own.offer with
  | some (_, t, _) => if 64 ≤ s.since t then closeOffer s else s
  | none => s

def execOfferTimeout (s : State) : Host.Outcome State Fault Refusal := .next (offerTimeout s)

/-- 320 tide ticks after the claim, with neither KEEP nor an offer (R112). -/
def claimTransfer (s : State) : State :=
  match s.own.claim with
  | some t => if 320 ≤ s.since t then ownerChange s else s
  | none => s

def execClaimTransfer (s : State) : Host.Outcome State Fault Refusal := .next (claimTransfer s)

end Sys2Proof.Machine
end

