-- ==== Sys2Proof/Machine/Clocks.lean ====
section
/-!
DEFINITION. Clocks (R18 to R22, R65 to R69): tick source, HFXO, FRC, the phase-locked loops, DOZE and the wake from
it, burst starts.
-/

namespace Sys2Proof.Machine

/-! The tick source (R20, R441, R449). -/

/-- The ticks of the 4 ms that LFXO gave no edge: whole periods of 32.768 kHz. -/
def lostTicks : Nat := 131

/-- The RTC takes the ticks that the change of source adds. -/
def rtcAdvance (n : Nat) (s : State) : State :=
  if s.rtcHalted then
    let s := s.bumpSat F.rtcHaltTicksTicks n
    if s.get F.rtcHaltTicksTicks = 2 ^ 24 - 1 then s.put F.rtcStatHeldSat 1 else s
  else
    let (k, s) := addTicks n s
    if k = 0 then s else secondBoundary s

/-- LFXO has given no edge for 4 ms. -/
def toLfrc (s : State) : State :=
  if s.flag F.clkStatTickSrc then s
  else
    let s := ((s.put F.clkStatTickSrc 1).put F.clkStatLfxoRun 0).put F.rtcStatOnLfrc 1
    note 0x002 0 4 [1] (setOsf (rtcAdvance lostTicks s))

def execTickSourceToLfrc (s : State) : Host.Outcome State Fault Refusal := .next (toLfrc s)

/-- LFXO has run for 1,024 LFRC periods: the source returns to it at this tide-tick boundary. -/
def toLfxo (s : State) : State :=
  if s.flag F.clkStatTickSrc then
    note 0x002 0 4 [0] (((s.put F.clkStatTickSrc 0).put F.clkStatLfxoRun 1).put F.rtcStatOnLfrc 0)
  else s

def execTickSourceToLfxo (s : State) : Host.Outcome State Fault Refusal := .next (toLfxo s)

/-! DOZE and the wake (R22, R23, R72). -/

/-- The node leaves DOZE: FRC runs, and HFXO starts in parallel. -/
def wakeEngine (s : State) : State :=
  if s.answers && s.get F.pwrStatState = 1 then clockFollow ((s.put F.pwrStatState 0).put F.clkStatEngOnPll 0) else s

def execEngineWake (s : State) : Host.Outcome State Fault Refusal := .next (wakeEngine s)

/-- The engine changes over from FRC to a locked PLL_ENG. -/
def changeover (s : State) : State :=
  if s.answers && s.active && s.flag F.clkStatPllEngLock then s.put F.clkStatEngOnPll 1 else s

def execEnginePllChangeover (s : State) : Host.Outcome State Fault Refusal := .next (changeover s)

/-- The engine and the converters have no work (R72, R148, R152). -/
def State.idle (s : State) : Bool :=
  s.eng.trigs.isEmpty && (s.eng.pts.all fun x => dueCount s x.2 == 0) && !s.convRuns

/-- The node enters DOZE: PLL_ENG and FRC stop, and HFXO unless R66 requires it. -/
def dozeEntry (s : State) : State :=
  if s.answers && s.active && s.idle then
    clockFollow (((s.put F.pwrStatState 1).put F.clkStatPllEngLock 0).put F.clkStatEngOnPll 0)
  else s

def execDozeEntry (s : State) : Host.Outcome State Fault Refusal := .next (dozeEntry s)

/-! HFXO and the loops (R66 to R68). -/

/-- Segments go down with their bus-off events (R66). -/
def segsLost (s : State) : State :=
  let s := fbSegs.foldl (fun s n => if s.pageEn (fbPage n) then raise (fbPage n) 7 3 [n] s else s) s
  fbStopAll s

/-- HFXO is required and gives no valid clock (R66). It may be required at any time, for the retrim of R67 too; in STANDBY
ports, segments and scanning stand already. -/
def hfxoFail (s : State) : State :=
  if s.flag F.clkStatHfxoFail || !s.answers then s
  else
    let s := (hfxoStop s).put F.clkStatHfxoFail 1
    let s := record 0x002 0x0220 4 [] (mark 0x002 1 s)
    if s.standby then s else callSettle (scanLost (segsLost (portsDisable s)))

def execHfxoFail (s : State) : Host.Outcome State Fault Refusal := .next (hfxoFail s)

/-- A retry of HFXO: on success PLLs, segments, ports and scanning are restored in this order, and HFXO stops again where
nothing requires it (R66). In STANDBY there is none of them to restore. -/
def hfxoRetry (ok : Bool) (s : State) : State :=
  if !s.flag F.clkStatHfxoFail || !ok || !s.answers then s
  else
    let s := s.put F.clkStatHfxoFail 0
    let s := if s.standby then s else
      let s := (hfxoStart s).putFlag F.clkStatPllEngLock s.active
      let s := (s.putFlag F.clkStatPllLnkLock s.anyPortEn).putFlag F.clkStatPllBusLock s.anySegEn
      clockFollow (convWake (portsEnable (fbJoinAll s)))
    record 0x002 0x0221 4 [] (mark 0x002 1 s)

def execHfxoRetry (ok : Bool) (s : State) : Host.Outcome State Fault Refusal := .next (hfxoRetry ok s)

/-- FRC is retrimmed (R67); where HFXO stands still it is started for this and stopped again. -/
def frcRetrim (s : State) : State := if s.flag F.clkStatHfxoFail || !s.answers then s else s.put F.clkStatFrcTrimmed 1

def execFrcRetrim (s : State) : Host.Outcome State Fault Refusal := .next (frcRetrim s)

def pllFld : Pll → Fld
  | .eng => F.clkStatPllEngLock
  | .lnk => F.clkStatPllLnkLock
  | .bus => F.clkStatPllBusLock
  | .afe => F.clkStatPllAfeLock

/-- The number of a loop in PLL_UNLOCK (R417). -/
def pllNo : Pll → Nat
  | .eng => 0 | .lnk => 1 | .bus => 2 | .afe => 3

/-- The loop has been started (R68). -/
def State.pllWanted (s : State) : Pll → Bool
  | .eng => s.active
  | .lnk => s.anyPortEn
  | .bus => s.anySegEn
  | .afe => s.convRuns

/-- A loop locks: its ports or segments are no longer held disabled (R68). -/
def pllLock (p : Pll) (s : State) : State :=
  if !s.answers || s.standby || !s.flag F.clkStatHfxoRun || !s.pllWanted p || s.flag (pllFld p) then s
  else
    let s := s.put (pllFld p) 1
    match p with
    | .lnk => portsEnable s
    | .bus => fbJoinAll s
    | _ => s

def execPllLock (pll : Pll) (s : State) : Host.Outcome State Fault Refusal := .next (pllLock pll s)

/-- A loop in use loses lock: its own blocks go down as at an HFXO failure (R68). -/
def pllUnlock (p : Pll) (s : State) : State :=
  if !s.answers || !s.flag (pllFld p) then s
  else
    let s := record 0x002 0x0222 4 [pllNo p] (mark 0x002 2 (s.put (pllFld p) 0))
    match p with
    | .eng => s.put F.clkStatEngOnPll 0
    | .lnk => callSettle (portsDisable s)
    | .bus => callSettle (segsLost s)
    | .afe => callSettle (scanLost s)

def execPllUnlock (pll : Pll) (s : State) : Host.Outcome State Fault Refusal := .next (pllUnlock pll s)

/-! Bursts and their clock (R148, R150, R151). -/

/-- 66 LFXO periods before a boundary in burst mode. -/
def hfxoPrestart (s : State) : State :=
  if s.answers && s.canScan && s.afe.period != 0 then hfxoStart s else s

def execHfxoPrestart (s : State) : Host.Outcome State Fault Refusal := .next (hfxoPrestart s)

/-- A burst boundary; without HFXO the node acts as R66 gives. -/
def burstBoundary (s : State) : State :=
  if s.canScan && s.boundary && !s.flag F.clkStatHfxoRun then hfxoFail ((atBoundary s).put F.pwrStatState 0)
  else
    let s := burstStart s
    if s.afe.burst then s.put F.pwrStatState 0 else s

def execBurstStart (s : State) : Host.Outcome State Fault Refusal := .next (burstBoundary s)

/-! CLK.CTL (R71). -/

def actClkCtl (h : HostId) (v m : Word) (s : State) : State := clockFollow (storeFields h 0x002044 v m s)

end Sys2Proof.Machine
end

