-- ==== Sys2Proof/Machine/Power.lean ====
section
/-!
DEFINITION. Supplies and the VDD33 supervisor (R50 to R64, R76 to R79), the tide tick, and STANDBY (R72 to R75).
-/

namespace Sys2Proof.Machine

/-- Main power is present: VDD33 stands above the reset level. -/
def State.mainPower (s : State) : Bool := decide (s.phase ≠ .backup)

/-! The tide tick (R19, R57, R214). -/

/-- A tide tick passes; LFXO_RUN and RST.BTN.LEVEL show what the node sees at it (R70, R86). -/
def tideTick (lfxo resetN : Bool) (s : State) : State :=
  if !s.mainPower then s
  else
    let s := (s.putFlag F.clkStatLfxoRun lfxo).putFlag F.rstBtnLevel resetN
    let s := s.put F.tideNowNow (s.now + 1)
    let s := if s.now % 32 = 0 then s.withPwr { s.pwr with svc := (s.pwr.svc + 1) % 2 ^ 40 } else s
    if !s.answers then s
    else
      let s := bucketsTick (panelTick (callTick (dioTick (engineTick s))))
      callSettle (if s.engineRuns then safePointsTick s else s)

def execTideTick (s : State) (lfxo resetN : Bool := true) : Host.Outcome State Fault Refusal := .next (tideTick lfxo resetN s)

/-! Service seconds and counter slots in MRAM (R57, R194, R56). -/

/-- Mirror the service seconds; the gate holds the write. `o` tells how it ends (R366). -/
def mirrorSvc (o : MramWrite) (s : State) : State :=
  if s.gateClosed then s.withPwr { s.pwr with svcDue := true }
  else mramWritten o (s.withPwr { s.pwr with svcMirror := s.pwr.svc })

/-- MIRROR_NOW reads 1 while the gate holds its write (R10, R77). -/
def mirrorNow (o : MramWrite) (s : State) : State := (mirrorSvc o s).putFlag F.pwrCtlMirrorNow s.gateClosed

/-- Mirror the counter slots; the gate holds the writes. -/
def mirrorCounters (s : State) : State :=
  if s.gateClosed then s.withPwr { s.pwr with slotsDue := true } else mirrorSlots s

def execSvcMirror (s : State) (mram : MramWrite := .ok) : Host.Outcome State Fault Refusal :=
  .next (if s.mainPower then mirrorCounters (mirrorSvc mram s) else s)

/-! Monitors of the other supplies (R52). -/

def avdd5Fail (s : State) : State :=
  if s.flag F.pwrStatAvdd5Fail then s
  else
    let s := supplyRecord 0 true (s.put F.pwrStatAvdd5Fail 1)
    if s.configured then staleAll (abandonSlots s) else s

def execAvdd5Fail (s : State) : Host.Outcome State Fault Refusal := .next (avdd5Fail s)

def execAvdd5Recover (s : State) : Host.Outcome State Fault Refusal :=
  .next (if s.flag F.pwrStatAvdd5Fail then convWake (supplyRecord 0 false (s.put F.pwrStatAvdd5Fail 0)) else s)

def vfieldFail (s : State) : State :=
  if s.flag F.pwrStatVfieldFail then s
  else
    let s := s.put F.pwrStatVfieldFail 1
    supplyRecord 1 true (if s.configured then callSettle (refreshDo (diInvalid (safeVfield s))) else safeFaultCode s)

def execVfieldFail (s : State) : Host.Outcome State Fault Refusal := .next (vfieldFail s)

def vfieldRecover (s : State) : State :=
  if s.flag F.pwrStatVfieldFail then
    let s := supplyRecord 1 false (s.put F.pwrStatVfieldFail 0)
    if s.configured then callSettle (safeVfield (refreshDo (diResume s))) else safeFaultCode s
  else s

def execVfieldRecover (s : State) : Host.Outcome State Fault Refusal := .next (vfieldRecover s)

/-! VDD33 (R53 to R61). -/

/-- VDD33 falls below the warning level: the gate closes, the service seconds are mirrored all the same, the panel powers
off (R55, R465). -/
def vdd33Warn (o : MramWrite) (s : State) : State :=
  if !s.mainPower || s.flag F.pwrStatVdd33Warn then s
  else
    let s := mramWritten o ((s.put F.pwrStatNvmGated 1).withPwr { s.pwr with svcMirror := s.pwr.svc })
    note 0x001 0 4 [] (panelOffAsk (s.put F.pwrStatVdd33Warn 1))

def execVdd33Warn (s : State) (mram : MramWrite := .ok) : Host.Outcome State Fault Refusal := .next (vdd33Warn mram s)

/-- VDD33 rises above the warning release: the dip and its duration in µs (R55 step 4). -/
def dipEnd (us : Nat) (s : State) : State :=
  if s.flag F.pwrStatVdd33Warn then
    let s := ((s.put F.pwrStatVdd33Warn 0).bumpSat F.pwrDipCount 1).put F.pwrDipLastUs (sat 0xFFFFFF us)
    panelStart (note 0x001 1 4 [sat 0xFFFFFFFF us] s)
  else s

def execDipEnd (us : Nat) (s : State) : Host.Outcome State Fault Refusal := .next (dipEnd us s)

/-- A write of the MRAM bank waits for the gate (R55, R56, R58, R194). -/
def State.mramHeld (s : State) : Bool :=
  !s.pwr.heldSlots.isEmpty || s.pwr.slotsDue || s.pwr.svcDue || s.pwr.cyclesMram != s.pwr.cycles

/-- The gate opens: held writes go on in their order, the ceiling is written (R56, R356); what a start left to the gate is
merged now, or when a freeze ends (R427, R437). -/
def gateOpen (o : MramWrite) (worn : List (Nat × BitVec 17)) (s : State) : State :=
  if !s.gateClosed || s.flag F.pwrStatVdd33Warn || !s.mainPower then s
  else
    let s := (if s.mramHeld then mramWritten o s else s).put F.pwrStatNvmGated 0
    let s := s.pwr.heldSlots.foldl (fun s x => s.setSlot x.1 x.2) s
    let s := if s.pwr.slotsDue then mirrorSlots s else s
    let s := if s.pwr.svcDue then s.withPwr { s.pwr with svcMirror := s.pwr.svc } else s
    let s := s.withPwr { s.pwr with heldSlots := [], svcDue := false, slotsDue := false, cyclesMram := s.pwr.cycles }
    let s := if s.lg.mergeDue && s.lg.freezeAt.isNone then logRestart worn s else s
    refreshCeil (ceilKick (norFlush (s.put F.pwrCtlMirrorNow 0)))

def execNvmGateOpen (s : State) (mram : MramWrite := .ok) (worn : List (Nat × BitVec 17) := []) :
    Host.Outcome State Fault Refusal := .next (gateOpen mram worn s)

/-- VDD33 falls below the lockout level (R60). -/
def lockout (s : State) : State :=
  if s.flag F.pwrStatLockout || !s.mainPower then s else callSettle ((rtcLock s).put F.pwrStatLockout 1)

def execLockout (s : State) : Host.Outcome State Fault Refusal := .next (lockout s)

/-- 328 LFXO periods above the lockout release (R60). -/
def lockoutRelease (s : State) : State := if s.flag F.pwrStatLockout then rtcUnlock (s.put F.pwrStatLockout 0) else s

def execLockoutRelease (s : State) : Host.Outcome State Fault Refusal := .next (lockoutRelease s)

/-- The always-on domain moves to VBAT (R61). -/
def execBackupSwitch (s : State) : Host.Outcome State Fault Refusal :=
  .next (if s.mainPower then s
    else (s.withPwr { s.pwr with onVbat := true }).withRst { s.rst with fromBackup := true })

/-- It moves back to VDD33 (R61). -/
def execBackupReturn (s : State) : Host.Outcome State Fault Refusal :=
  .next (if s.mainPower then s else s.withPwr { s.pwr with onVbat := false })

/-- VAON falls below 1.40 V while main power is absent: the retention detector records it (R63). -/
def execAonRetentionLoss (s : State) : Host.Outcome State Fault Refusal :=
  .next (if s.mainPower then s else s.withPwr { s.pwr with vaonLost := true })

/-- VBAT is compared with 2.20 V and 2.30 V (R64). -/
def vbatCompare (mv : Nat) (s : State) : State :=
  if mv < 2200 then (if s.flag F.pwrStatVbatLow then s else note 0x001 3 4 [mv] (s.put F.pwrStatVbatLow 1))
  else if 2300 < mv then s.put F.pwrStatVbatLow 0
  else s

/-- The comparison of every 256 tide ticks, while main power is present. -/
def vbatCheck (mv : Nat) (s : State) : State := if s.mainPower then vbatCompare mv s else s

def execVbatCheck (mv : Nat) (s : State) : Host.Outcome State Fault Refusal := .next (vbatCheck mv s)

/-! STANDBY (R73 to R75). -/

/-- The words of a request source in a record of PWR bit 2 (R488). -/
def srcWord : StandbySrc → Nat
  | .host .a => 0
  | .host .b => 1
  | .timetable => 2

/-- A point of emergency-alarm priority is active-unacknowledged. -/
def State.emergency (s : State) : Bool := s.eng.pts.any fun x => x.2.astate == .activeUnack && (s.pcfg x.1).prio == 0

/-- The first condition of R73 that holds. -/
def State.standbyBar (s : State) : Option Nat :=
  if s.isDuty && !s.call.calls.isEmpty then some 0
  else if s.emergency then some 1
  else if s.tt.pending.isSome then some 2
  else if s.flag F.pwrStatVdd33Warn then some 3
  else none

/-- A request for STANDBY (R73). -/
def standbyRequest (src : StandbySrc) (s : State) : State :=
  if s.standby || s.pwr.standbyReq.isSome then s
  else match s.standbyBar with
    | some c => raise 0x001 2 2 [2, c, srcWord src] (accessFault 0x001 0x32 (s.put F.pwrCtlStandby 0))
    | none => (s.put F.pwrCtlStandby 1).withPwr { s.pwr with standbyReq := some src }

/-- PWR.CTL (R77): a 0 to STANDBY in STANDBY wakes the node, whoever writes it; that write is exempt from OWN, and
raises no ownership code. -/
def actPwrCtl (h : HostId) (v m : Word) (s : State) (o : MramWrite := .ok) : State :=
  let s := storeFields h 0x001040 v m s
  let s := if getBit (v &&& m) 2 then mirrorNow o s else s
  let s := if getBit v 0 then s else requestWake 0 (hostIdx h) s
  if getBit (v &&& m) 0 then standbyRequest (.host h) s else s

/-- The word of PWR.CTL with some bits changed and WAKE_RTC as it stands. -/
def pwrCtlWord (bits : Nat) (s : State) : Word := BitVec.ofNat 32 (2 * s.get F.pwrCtlWakeRtc + bits)

def execMirrorNow (host : HostId) (s : State) (mram : MramWrite := .ok) : Host.Outcome State Fault Refusal :=
  .next (let v := pwrCtlWord (4 + b2n s.standby) s; hostWord host 0x001040 v (fun m s => actPwrCtl host v m s mram) s)

def execStandbyRequest (src : StandbySrc) (s : State) : Host.Outcome State Fault Refusal :=
  .next (match src with
    | .host h => let v := pwrCtlWord 1 s; hostWord h 0x001040 v (fun m s => actPwrCtl h v m s) s
    | .timetable =>
      if s.tt.standbyAsk && s.answers then standbyRequest .timetable (s.withTt { s.tt with standbyAsk := false }) else s)

def execStandbyWakeHost (host : HostId) (s : State) : Host.Outcome State Fault Refusal :=
  .next (let v := pwrCtlWord 0 s; hostWord host 0x001040 v (fun m s => actPwrCtl host v m s) s)

/-- Write out the ingress queue, at a drain (R82, R87), in STANDBY too: a merge under way ends first. With the NVM gate
closed nothing is written (R55). -/
def logDrain (s : State) : State :=
  if s.gateClosed then s
  else
    let s := if s.flag F.logStatMerging then mergeRing [] s else s
    (List.range 300).foldl (fun s _ => if s.lg.ingress.isEmpty then s else logWriteHead .ok s) s

/-- What the node forgets of the crossing when its ports go down for STANDBY: the part is its own again; LOST, the
held acknowledgements and the epoch stay, and STATE follows (R87, R24, R338, R340). -/
def leaveCrossing (s : State) : State :=
  let x := s.xnet
  let ring (r : RingState) : RingState := { r with master := none, quiet := 0, round := none, summaries := [] }
  let s := s.withXnet { x with
    present := ownMap s, cap := x.cap &&& ownMap s, seenNow := 0, capNow := 0, missed := [], departed := 0, epochs := []
    ringP := ring x.ringP, ringS := ring x.ringS, origins := [], replay := none, rejoinPts := [], xferIn := none }
  stateFollow ([F.xnetStatMasterS, F.xnetStatMasterP, F.xnetStatSClosed, F.xnetStatPClosed, F.xnetStatRejoining, F.xnetReplayLeft].foldl
    (fun s f => s.put f 0) (s.put F.xnetStatHead s.nodeId))

/-- A segment still transmits the frame it completes before STANDBY (R74 step 2). -/
def State.sending (s : State) : Bool := s.segs.any fun x => x.2.tx.isSome

/-- The node enters an accepted STANDBY (R74). While the NVM gate is closed it enters all the same: the mirroring of the
counter slots and the queue wait for the gate and for the exit (DEDUCED, log entry 106). -/
def standbyEnter (o : MramWrite) (s : State) : State :=
  match s.pwr.standbyReq with
  | none => s
  | some src =>
    if !s.answers || s.sending then s
    else
      let s := if s.engineRuns then enginePass s else s
      let s := logDrain (mirrorCounters (mramWritten (if s.gateClosed then .ok else o) (abandonSlots s)))
      let s := fbStopAll s
      let s := leaveCrossing (portsDisable (sendLeave s))
      let s := holdWheel s
      let s := ((s.put F.pwrStatState 2).put F.pwrCtlStandby 0).withPwr { s.pwr with
        standbyReq := none, wake := none, phyReset := true }
      let s := panelBeacon (hfxoStop (s.put F.clkStatHfxoFail 0))
      let s := repOff (refreshDo (s.withOuts { s.outs with diPrev := none }))
      callSettle (raise 0x001 2 4 [0, srcWord src, if src = .timetable then s.activeTt else 0] s)

def execStandbyEnter (s : State) (mram : MramWrite := .ok) : Host.Outcome State Fault Refusal :=
  .next (standbyEnter mram s)

/-- A level of a DI enabled in WAKE_DI has changed and held for 1.0 ms (R75, R79). -/
def diWake (di : Nat) (s : State) : State :=
  let w := s.get F.pwrWakeDiLoWake + 2 ^ 32 * s.get F.pwrWakeDiHiWake
  if w.testBit di then requestWake 1 di s else s

def execDiWake (di : BitVec 6) (s : State) : Host.Outcome State Fault Refusal := .next (diWake di.toNat s)

/-- Channels at STANDBY exit and after a reset: STALE, RANGE_NOW at RANGE, no history (R75, R137, R158, R164). -/
def chansRestart (s : State) : State :=
  let s := staleAll s
  let s := (List.range 256).foldl (fun s c =>
    (s.put (F.afgStatRangeNow.ch c) (s.get (F.afgCfg0Range.ch c))).put (F.linBindBandValid.idx c) 0) s
  s.withAfe { s.afe with
    chans := (s.afe.chans.filter fun x => x.2.last.isSome).map fun x => (x.1, { Chan.init with last := x.2.last }) }

/-- Error counters and states of every segment at their reset values (R87): TEC, REC, RP and ESTATE; the counts of bus-offs
and of low-side errors go on (DEDUCED, log entry 106). -/
def fbCountersClear (s : State) : State :=
  fbSegs.foldl (fun s n =>
    (((s.put (F.fbErrTec.page n) 0).put (F.fbErrRec.page n) 0).put (F.fbErrRp.page n) 0).put (F.fbStatEstate.page n) 0) s

/-- The node leaves STANDBY, up to the release of XPHY_RST_N (R75 steps 1 to 4). -/
def standbyExit (s : State) : State :=
  match s.standby, s.pwr.wake with
  | true, some (src, word) =>
    let s := (s.put F.pwrStatState 0).withPwr { s.pwr with wake := none }
    let s := hfxoStart s
    let run := s.flag F.clkStatHfxoRun
    let s := (s.putFlag F.clkStatFrcTrimmed (run || s.flag F.clkStatFrcTrimmed)).putFlag F.clkStatPllEngLock run
    let s := (s.putFlag F.clkStatPllLnkLock (run && s.anyPortEn)).putFlag F.clkStatPllBusLock (run && s.anySegEn)
    let s := raise 0x001 2 4 [1, src, word] s
    let s := clearComplete s
    if s.configured then
      let s := fbJoinAll (fbCountersClear s)
      let s := mdioResume (diResume (resumeWheel (chansRestart s)))
      let s := refreshDo (panelReturn s)
      callSettle (switchNext (runWaiting s))
    else s
  | _, _ => s

def execStandbyExit (s : State) : Host.Outcome State Fault Refusal := .next (standbyExit s)

end Sys2Proof.Machine
end

