-- ==== Sys2Proof/Machine/Reset.lean ====
section
/-!
DEFINITION. Resets of the node and its start (R12, R25, R27, R36, R37, R41 to R45, R58, R63, R80 to R87, R267, R287,
R357, R436, R437): the causes, what each class clears, and the start sequence up to the release of ALERT_N.
-/

namespace Sys2Proof.Machine

/-! What a reset clears (R12, R87). -/

/-- The PWR.STAT bits that follow the supplies whatever the reset (R52, R55). -/
def supplyFlds : List Fld :=
  [F.pwrStatVledFail, F.pwrStatVfieldFail, F.pwrStatAvdd5Fail, F.pwrStatNvmGated, F.pwrStatVdd33Warn]

/-- The strapped ID stands in the always-on domain: a reset of class P keeps it until its start samples the straps, which a
wider class that merges into it does not do (R43, R82). -/
def strapFlds : List Fld := [F.sysNodeIdStrapId, F.sysNodeIdStrapUnstable]

/-- Every register field that a class clears takes its reset value (R12). -/
def clearRegs (cls : ResetClass) (s : State) : State :=
  let sel (f : FieldRow) : Bool := f.clr.testBit cls.bit
  let t := ((s.withRegs (resetRegs sel s.regs)).withRegsA (resetRegs sel s.regsA)).withRegsB (resetRegs sel s.regsB)
  (supplyFlds ++ if cls = .p then strapFlds else []).foldl (fun t f => t.put f (s.get f)) t

/-- The class is C, U, P or W. -/
def ResetClass.full : ResetClass → Bool
  | .c | .u | .p | .w => true
  | _ => false

/-- Lasting faults that outlive a reset: the MRAM's always; at class S also the logbook's and the safety functions'
(R87, R434, R355). -/
def keepsLasting (full : Bool) (page : Nat) : Bool :=
  page == 0x065 || (!full && (page == 0x078 || page == 0x070 || page == 0x071))

/-- A host port at a reset: its buffer empties where its mode returns to 1-1-1 SDR (R87, R102). -/
def HostPort.init : HostPort := ⟨[], [], none⟩

/-- The logbook: the ingress queue and the rate limits go; what is in MRAM stays (R82, R87). Losses not yet reported go with
the supply of the control die alone (R425; DEDUCED, log entry 107). -/
def resetLog (cls : ResetClass) (l : Log) : Log :=
  { l with ingress := [], loss := if cls = .c ∨ cls = .u then none else l.loss, buckets := [], faultRun := 0, clrKey := none, mergeDue := cls = .s && l.mergeDue
           freezeAt := if cls.full then none else l.freezeAt
           lastGasp := if cls = .c then { l.lastGasp with valid := false, slots := [] } else l.lastGasp }

/-- The ordering unit: what waited is lost; the ceilings stay, the always-on one except at class C (R355, R357). -/
def resetOrd (cls : ResetClass) (o : Ord) : Ord :=
  { o with waitq := [], ceilWrite := none, xq := [], outGap := none, aonCeil := if cls = .c then none else o.aonCeil }

/-- The engine: triggers, edit range and waiting commands go, and with a full reset the points (R87). -/
def resetEng (full : Bool) (e : Eng) : Eng :=
  { e with trigs := [], waiting := [], edit := none, openReq := none, restoring := [], restoringCfg := []
           restoringGrp := [], firsts := []
           pts := if full then [] else e.pts
           egress := if full then [] else e.egress
           deadPts := if full then [] else e.deadPts
           deadGrps := if full then [] else e.deadGrps }

/-- The crossing restarts; LOST and the held acknowledgements outlive class S (R87, R351). -/
def resetXnet (full : Bool) (x : Xnet) : Xnet :=
  let ring : RingState := ⟨none, 0, none, 0, []⟩
  { present := 0, lost := if full then 0 else x.lost, cap := 0, seenNow := 0, capNow := 0, missed := [], departed := 0
    dutyCand := none, dutyRun := 0, changed := false, epochs := [], ringP := ring, ringS := ring, origins := []
    pendAcks := if full then [] else x.pendAcks
    remotes := [], replay := none, rejoinPts := [], modeDue := 0, xferNo := 0, xferOut := none, xferIn := none }

/-- Timetables: a full reset forgets what engine SRAM held; a class S reset keeps it and drops what was under way
(R87, R271, R280). -/
def resetTt (full : Bool) (t : Tt) : Tt :=
  { t with image := if full then [] else t.image
           loaded := if full then [] else t.loaded
           always := if full then [] else t.always
           active := if full then [] else t.active
           repairs := if full then [] else t.repairs
           levels := [], install := none, erasing := false, page := [], copying := false, norHeld := []
           standbyAsk := false, keyCmd := none, plan := ([], []), endRead := .ok }

/-- The panel goes dark; at class S its contents stay, and the latched states and the band go (R87, R468). -/
def resetPanel (full : Bool) (p : Panel) : Panel :=
  if full then ⟨.dark, [], [], [], false, 0, [], [], none, none, false, [], 0, false, none, false⟩
  else { p with pwr := .dark, levels := [], hostTest := none, inputTest := none, latched := [], bandWant := 0, tempAt := none
                offDue := false }

/-- The clock: shadows go; a cold reset restarts its prescaler and trim (R87, R446). -/
def resetRtc (cold : Bool) (r : Rtc) : Rtc :=
  { r with shadowA := none, shadowB := none, haltPend := false, haltTime := none
           pre := if cold then 0 else r.pre
           trim := if cold then 0 else r.trim }

/-- The safety functions: everything off; a full reset also forgets the configuration (R37, R87, R405). -/
def resetSafe (full : Bool) (s : State) : State :=
  let s := safeRestart (!full) s
  let s := s.withSafe { s.safe with write := none, repair := none, seen := [], cfg := if full then [] else s.safe.cfg }
  if full then safeInstall [] s else s

/-- The node in a reset of a class: what R12 and R87 clear is cleared, outputs take their Reset state (R36). -/
def resetTo (cls : ResetClass) (uSrc wdog : Nat) (merged : Bool) (s : State) : State :=
  let full := cls.full
  let s := if cls = .s ∧ s.tt.copying then norFollow s else s
  let s := clearRegs cls s
  let s := if full then clearConfig s else s
  let s := if full ∧ cls ≠ .c then s.put F.sysNodeIdNodeId (s.get F.sysNodeIdStrapId) else s
  let s := if cls = .c ∨ cls = .u then rtcUnlock s else s
  let s := s.withStaged []
  let s := s.withLasting (s.lasting.filter fun x => keepsLasting full x.1)
  let s := s.withLastHi (s.lastHi.filter fun x => x.1 == F.xnetSplitTloTally.addr && !full)
  let s := s.withOwn ⟨none, none⟩
  let s := if full then (s.withPortA HostPort.init).withPortB HostPort.init else s
  let s := (s.withOrd (resetOrd cls s.ord)).withLg (resetLog cls s.lg)
  let s := (s.withEng (resetEng full s.eng)).withCallIn []
  let s := s.withCall ⟨[], [], [], [], 0, 0, []⟩
  let s := s.withAfe ⟨[], [], false, 0, 0, 0, false, [], [], s.afe.curves, none⟩
  let s := s.withOuts ⟨0, 0, 0, [], 0, [], 0, none⟩
  let s := (s.withSegs []).withXp (List.replicate 4 XPort.init)
  let s := s.withXnet (resetXnet full s.xnet)
  let s := (s.withPanel (resetPanel full s.panel)).withRtc (resetRtc (cls = .c) s.rtc)
  let s := resetSafe full (s.withTt (resetTt full s.tt))
  let s := refreshDo (repOff (panelOff (s.withPhase .starting)))
  let s := s.withPwr { s.pwr with standbyReq := none, wake := none, phyReset := true, heldSlots := [], svcDue := false, slotsDue := false }
  s.withRst { s.rst with cls := cls, uSrc := uSrc, wdogSrc := wdog, merged := merged }

/-! The causes (R81 to R84). -/

/-- The records that a reset loses from the ingress queue; one that widens a reset in progress carries on what the header
of that one counted (R82, R436). -/
def State.recordsLost (s : State) : Nat :=
  s.lg.ingress.length + (if s.phase = .starting ∧ s.lg.lastGasp.usable then s.lg.lastGasp.qlost else 0)

/-- The supervisor writes the last-gasp header at the start of every reset of class W, and of class U by VDD08 or VDD18,
whatever the node is doing (R436). -/
def gaspAtReset (cls : ResetClass) (coreLost : Bool) (s : State) : State :=
  match cls with
  | .w => gaspWrite (sat 0xFFFF s.recordsLost) false s
  | .u => if coreLost then gaspWrite 0xFFFF true s else s
  | _ => s

/-- What happens before a reset takes effect, while the node still runs: the RTC halt ends (R448), a class S closes
the edit range, classes P and S drain the logbook or count its loss (R82, R436). -/
def beforeReset (cls : ResetClass) (s : State) : State :=
  if !s.answers then s
  else
    let s := if cls = .c then s else haltForced s
    let s := if cls = .s then closeRange true s else s
    match cls with
    | .p | .s =>
      if s.gateClosed then gaspWrite s.lg.ingress.length false s else logDrain (mirrorCounters s)
    | _ => s

/-- A cause of a reset arrives. During a reset in progress the wider class wins (R82). -/
def beginReset (cls : ResetClass) (uSrc wdog : Nat) (s : State) : State :=
  let coreLost := uSrc == 2 || uSrc == 3
  match s.phase with
  | .backup => s
  | .starting =>
    if cls.width ≤ s.rst.cls.width then s.withRst { s.rst with merged := true }
    else resetTo cls uSrc wdog true (gaspAtReset cls coreLost s)
  | _ => resetTo cls uSrc wdog false (gaspAtReset cls coreLost (beforeReset cls s))

/-- VDD33 falls below the reset level (R53, R59, R62): the last-gasp record is written when the warning came in
time, a reset of class U begins, and with it BACKUP, at whose entry VBAT is compared (R64). -/
def vdd33Fall (vbat : Nat) (s : State) : State :=
  if s.phase = .backup then s
  else
    let cold := s.phase = .starting ∧ s.rst.cls = .c
    let merged : Bool := s.phase = .starting
    let s := beforeReset .u s
    let s := if s.flag F.pwrStatVdd33Warn then gaspWrite (sat 0xFFFF s.recordsLost) false s
      else s.withLg { s.lg with lastGasp := { s.lg.lastGasp with valid := false } }
    let s := resetTo (if cold then .c else .u) (if cold then 0 else 1) 0 merged s
    vbatCompare vbat (((s.put F.pwrStatNvmGated 0).put F.pwrStatVdd33Warn 0).withPhase .backup)

def execVdd33ResetFall (s : State) (vbat : Nat := 3000) : Host.Outcome State Fault Refusal := .next (vdd33Fall vbat s)

def execSupplyCoreFail (supply : CoreSupply) (s : State) : Host.Outcome State Fault Refusal :=
  .next (beginReset .u (match supply with
    | .vdd08 => 2
    | .vdd18 => 3) 0 s)

def watchedCode : WatchedBlock → Nat
  | .engine => 1 | .ordering => 2 | .logbook => 3 | .arbiter => 4

def execWatchdogReset (block : WatchedBlock) (s : State) : Host.Outcome State Fault Refusal :=
  .next (beginReset .w 0 (watchedCode block) s)

/-- RESET_N has read high for 32 tide ticks (R84). -/
def buttonArm (s : State) : State :=
  if s.mainPower then ((s.put F.rstBtnArmed 1).put F.rstBtnStuck 0).put F.rstBtnLevel 1 else s

def execResetButtonArm (s : State) : Host.Outcome State Fault Refusal := .next (buttonArm s)

/-- The release of a press; only an armed input causes the reset (R84). -/
def pinReset (s : State) : State :=
  if s.mainPower && s.flag F.rstBtnArmed then beginReset .p 0 0 (s.put F.rstBtnLevel 1) else s

def execPinReset (s : State) : Host.Outcome State Fault Refusal := .next (pinReset s)

/-- RESET_N has been held low for 256 tide ticks (R84). -/
def buttonStuck (s : State) : State :=
  if !s.mainPower then s
  else
    let s := ((s.put F.rstBtnLevel 0).put F.rstBtnStuck 1).put F.rstBtnArmed 0
    let s := (s.bumpSat F.rstBtnStuckCount 1).withRst { s.rst with stuckSeen := true }
    note 0x003 0 4 [s.get F.rstBtnStuckCount] s

def execButtonStuck (s : State) : Host.Outcome State Fault Refusal := .next (buttonStuck s)

/-- SYS.CTL (R113). -/
def actSoftReset (v m : Word) (s : State) : State := if getBit (v &&& m) 0 then beginReset .s 0 0 s else s

def execSoftReset (host : HostId) (s : State) : Host.Outcome State Fault Refusal :=
  .next (hostWord host 0x000048 (bitWord 0) (actSoftReset (bitWord 0)) s)

/-! The start: step 2 of R80. -/

/-- The class of the start: leaving BACKUP is class U, or C when the always-on domain was lost (R25, R63). -/
def State.startClass (s : State) : ResetClass := if s.phase = .backup ∧ s.pwr.vaonLost then .c else s.rst.cls

/-- The always-on domain after its contents were lost: everything R87 gives for class C. -/
def aonLost (s : State) : State :=
  if s.phase = .backup ∧ s.pwr.vaonLost then resetTo .c 0 0 s.rst.merged s else s

/-- RST.CAUSE describes the reset (R85). -/
def writeCause (osf lg : Bool) (s : State) : State :=
  let r := s.rst
  let s := ((s.put F.rstCauseClass r.cls.code).putFlag F.rstCauseMerged r.merged).put F.rstCauseUSrc r.uSrc
  let s := ((s.put F.rstCauseWdogSrc r.wdogSrc).putFlag F.rstCauseBtnStuckSeen r.stuckSeen).putFlag F.rstCauseFromBackup r.fromBackup
  let s := (s.putFlag F.rstCauseOsfAtStart osf).putFlag F.rstCauseLgValid lg
  (s.putFlag F.pwrStatLgValid lg).withRst { r with stuckSeen := false, fromBackup := false, merged := false }

/-- The straps: two samples, a third when they differ; the strapped ID is the node ID (R43, R44). -/
def straps (s1 s2 s3 : BitVec 10) (s : State) : State :=
  let id := if s1 = s2 then s1.toNat else s3.toNat
  ((s.put F.sysNodeIdStrapId id).put F.sysNodeIdNodeId id).putFlag F.sysNodeIdStrapUnstable (s1 != s2)

/-- The highest tally of any record found: one that stands in a slot that cannot be read is not (R357, R433). -/
def State.highestTally (s : State) (f : ArrayFind) : Nat :=
  let g := s.lg.lastGasp
  let rs := s.lg.main.filter (fun r => !recGone f r) ++ s.lg.ring ++ s.lg.failover ++ g.slots
  rs.foldl (fun m r => max m r.tally) (if g.valid && !g.coreLost then g.tLg else 0)

/-- L and START_SRC at a start (R357). -/
def tallyStart (f : ArrayFind) (s : State) : Nat × Nat :=
  let g := s.lg.lastGasp
  if s.ord.ceilAOk || s.ord.ceilBOk then
    if g.usable && !g.coreLost then (max s.ord.ceil g.tLg + 1, 1) else (s.ord.ceil + 2 ^ 27 + 1, 0)
  else match s.ord.aonCeil with
    | some c => (c + 1, 2)
    | none => (s.highestTally f + 2 ^ 48, 3)

/-- The ceiling copies that the start cannot use are marked faulty (R357; DEDUCED, log entry 107). -/
def ceilFound (f : MramFind) (s : State) : State :=
  s.withOrd { s.ord with
    ceilAOk := s.ord.ceilAOk && f.ceilA != .unusable
    ceilBOk := s.ord.ceilBOk && f.ceilB != .unusable }

/-- L is set, then the ceiling, whose write may fail as any other; a closed gate leaves the ceiling to its opening (R355,
R356, R357). TALLY_HI and CEIL_HI show the high halves (R377). -/
def setTally (array : ArrayFind) (mram : MramFind) (s : State) : State :=
  let s := ceilFound mram s
  let (l, src) := tallyStart array s
  let l := l % 2 ^ 64
  let s := ((s.withOrd { s.ord with tally := l }).put F.ordStatStartSrc src).put F.ordStatWaiting 0
  let c := l + 2 ^ 28
  let s :=
    if s.ceilAon then s.withOrd { s.ord with aonCeil := some c }
    else if s.gateClosed then s
    else
      let (badA, badB, s) :=
        ceilWritten c (mram.ceilA != .lasting) (mram.ceilB != .lasting) (mram.ceilA == .retryOk) (mram.ceilB == .retryOk) s
      let s := if badA then noteLater 0x065 (evtCode 0x065 6) 3 [0] (mark 0x065 6 s) else s
      if badB then noteLater 0x065 (evtCode 0x065 6) 3 [1] (mark 0x065 6 s) else s
  let s := ordFaultCode (s.putFlag F.ordStatAonCeil s.ceilAon)
  (s.setReg 0x065044 (BitVec.ofNat 32 (l / 2 ^ 32))).setReg 0x06504C (BitVec.ofNat 32 (s.ceilNow / 2 ^ 32))

/-- What the loss of the always-on domain leaves: the service seconds of the mirror, OSF set (R57, R63, R449). -/
def coldDomain (s : State) : State :=
  ((s.withPwr { s.pwr with svc := s.pwr.svcMirror }).put F.rtcStatOsf 1).put F.rtcStatTimeSet 0

/-- Step 2 of R80 for a class: the power-cycle count (R58); a closed gate holds its write (R55). -/
def countCycle (cls : ResetClass) (o : MramWrite) (s : State) : State :=
  if cls = .c ∨ cls = .u then
    let n := (s.pwr.cyclesMram + 1) % 2 ^ 32
    let s := if s.gateClosed then s else mramWritten o s
    s.withPwr { s.pwr with cycles := n, cyclesMram := if s.gateClosed then s.pwr.cyclesMram else n }
  else s

/-- HFXO runs, FRC is trimmed, PLL_ENG locks (step 4). -/
def clocksStart (s : State) : State :=
  (((s.put F.clkStatHfxoRun 1).put F.clkStatFrcTrimmed 1).put F.clkStatPllEngLock 1).put F.clkStatEngOnPll 1

/-! Steps 5 to 9. -/

/-- The eight words of the running image's BUILD_ID, carried into the logbook (R263); none while unconfigured. -/
def buildWords (s : State) : List Nat :=
  if s.tt.image.isEmpty then [] else (List.range 8).map fun k => leAt s.tt.image (0x20 + 4 * k) 4

/-- The START record (R417), with the first words of BUILD_ID (R263; DESIGN CHOICE of the place, log entry 104). -/
def startRecord (s : State) : State :=
  record 0x003 0x0320 5
    ([(s.reg F.rstCauseClass.addr).toNat, s.get F.ordStatStartSrc, s.get F.ttbImgStatBootCopy] ++ (buildWords s).take 3) s

/-- The start is complete (first word 0), or the node is rebuilt after a class S (first word 1: R417); the record carries
the rest of BUILD_ID (DESIGN CHOICE of the place, log entry 104). -/
def startedRecord (s : State) : State := raise 0x000 0 5 (b2n (s.rst.cls = .s) :: (buildWords s).drop 3) s

/-- Points are rebuilt and evaluated (step 7). -/
def pointsStart (s : State) : State := callSettle (forcePass (rebuildAll s))

/-- Outputs, panel, ports, segments, scanning and the crossing (steps 8 and 9). -/
def blocksStart (s : State) : State :=
  let s := (List.range 32).foldl (fun s g => fastTaken g s) s
  let s := scanWritten true false (chansRestart s)
  let s := refreshUnits (updateDo (repDriveAll s))
  let s := panelStart (updatePanel s)
  let s := (s.put F.xnetStatHead s.nodeId).withXnet { s.xnet with present := ownMap s, cap := ownCap s }
  callSettle (clockFollow (fbJoinAll (portsEnable (splitKept s))))

/-- Each region of the panel starts at the level and fade of its register (R462). -/
def regionsStart (s : State) : State :=
  (List.range 16).foldl (fun s r => regionRequest r (s.get (F.lanRegionLevel.idx r)) (s.get (F.lanRegionFade.idx r)) s) s

/-- A clear that was cut short completes, and the logbook is in use again where its array allows (R432, R434). -/
def logTest (s : State) : State := logArray (clearRestart s)

/-- The index is rebuilt, which tests the array, and the last-gasp and holding-ring records join the logbook (R434,
R437). -/
def logStart (f : ArrayFind) (s : State) : State := (logRestart f.worn (arrayFound f (logTest s))).put F.logStatIndexing 0

/-- The copies differ or one failed: BOOT_FALLBACK, and the other copy is rewritten in the background (R267). -/
def bootFallback (copy r1 r2 : Nat) (s : State) : State :=
  let other := 1 - copy
  if s.norImage copy = s.norImage other && !s.norFails (copyBase other) then s
  else
    let s := s.withTt { s.tt with repairs := s.tt.repairs ++ [(copyBase copy, copyBase other, imgMax)] }
    raise 0x048 6 5 [copy, r1, r2, imgSerial (s.norImage 0), imgSerial (s.norImage 1)] s

/-- Steps 5 to 9 with an image: configuration, timetables, the logbook's index and what is merged into it, safety, points,
outputs. -/
def startImage (copy r1 r2 : Nat) (first : Bool) (array : ArrayFind) (s : State) : State :=
  let s := takeImage copy s
  let s := if first then startRecord s else s
  let s := bootFallback copy r1 r2 s
  let s := (List.range 16).foldl loadSlot s
  let s := logRestart array.worn (arrayFound array (powerupSwitch (s.withPhase .running)))
  let s := regionsStart (configSelection .ok (acceptSeal s))
  let s := pointsStart s
  let s := startedRecord s
  let s := if s.flag F.sysNodeIdOverride then raise 0x000 3 5 [s.nodeId] s else s
  blocksStart s

/-- Step 5 with the copy chosen and both results, or the node runs unconfigured (R27, R267). -/
def startWith (c : Option Nat) (r1 r2 : Nat) (first : Bool) (array : ArrayFind) (s : State) : State :=
  match c with
  | some copy => startImage copy r1 r2 first array s
  | none =>
    let s := if first then startRecord s else s
    let s := (sealFaultCode (safeFaultCode (s.withPhase .unconfigured))).put F.ttbImgStatResult r2
    if first then raise 0x000 1 5 [r1, r2] (startedRecord s) else s

/-- Step 5: a copy is chosen. -/
def startStep5 (first : Bool) (array : ArrayFind) (s : State) : State :=
  startWith (chooseCopy s).1 (chooseCopy s).2.1 (chooseCopy s).2.2.1 first array (chooseCopy s).2.2.2

/-- A start after class S: configuration and timetable stand, points are rebuilt (R37, R87). -/
def startSoft (s : State) : State :=
  let s := sealFaultCode (safeFaultCode (startRecord s))
  if s.tt.image.isEmpty then startedRecord (discardSwitches (s.withPhase .unconfigured))
  else
    let s := discardSwitches (s.withPhase .running)
    let s := pointsStart s
    blocksStart (startedRecord s)

/-- What the steps before the first stamped event found, logged once L is set (R43, R58, R63, R357). -/
def startFindings (cls : ResetClass) (s1 s2 s3 : BitVec 10) (s : State) : State :=
  let s := notesLogged s
  let s := if (cls = .c ∨ cls = .u) ∧ s.pwr.cycles = 0 then record 0x001 0x0122 3 [] s else s
  let s := if (cls = .c ∨ cls = .p) ∧ s1 ≠ s2 then raise 0x000 2 5 [s1.toNat, s2.toNat, s3.toNat] s else s
  if s.get F.ordStatStartSrc = 3 then raise 0x065 7 5 [] s else s

/-- The start sequence (R80); `norBad` names the copies and slots of NOR whose reads it finds to fail for good, `norTrip`
those read at the return trip (R262), `array` what the index rebuild of step 6 finds (R437), `mram` what the MRAM bank does (R355, R357, R366). During the test-mode hold the node does not start (R41). -/
def startUp (s1 s2 s3 : BitVec 10) (tmode : BitVec 2) (norBad : List NorRegion) (array : ArrayFind)
    (mram : MramFind) (norTrip : List NorRegion) (s : State) : State :=
  if s.phase ≠ .starting ∧ s.phase ≠ .backup then s
  else
    let s := noteNorBad (norBad.map regionBase) ((aonLost s).withPhase .starting)
    let s := norTrip.foldl (fun s r => norRead (regionBase r) .retryOk s) s
    let cls := s.rst.cls
    let hold := if cls = .c ∨ cls = .p then decide (tmode ≠ 0) else s.rst.hold
    let s := s.withRst { s.rst with hold := hold }
    let s := if cls = .c ∨ cls = .p then straps s1 s2 s3 s else s
    let s := s.withPwr { s.pwr with vaonLost := false, onVbat := false }
    let s := if cls = .c then coldDomain s else s
    if hold then (s.withRtc { s.rtc with osfDue := s.rtc.osfDue || cls == .c }).withPhase .testHold
    else
      let s := countCycle cls mram.cycles s
      let s := writeCause (s.flag F.rtcStatOsf) s.lg.lastGasp.usable s
      let s := setTally array mram (clocksStart s)
      let s := if cls = .s then mergeResume (clearRestart s) else logTest s
      let s := if cls = .c ∨ s.rtc.osfDue then raise 0x080 4 4 [] (s.withRtc { s.rtc with osfDue := false }) else s
      let s := startFindings cls s1 s2 s3 s
      if cls = .s then startSoft s else startStep5 true array (discardSwitches s)

def execStartUp (s1 : BitVec 10) (s2 : BitVec 10) (s3 : BitVec 10) (tmode : BitVec 2) (s : State)
    (norBad : List NorRegion := []) (array : ArrayFind := .whole) (mram : MramFind := .sound)
    (norTrip : List NorRegion := []) : Host.Outcome State Fault Refusal :=
  .next (startUp s1 s2 s3 tmode norBad array mram norTrip s)

/-- Copy 1 has been rewritten: the load ends; an unconfigured node goes on with its start from step 5 (R270, R272). -/
def copy1Written (array : ArrayFind) (s : State) : State :=
  if !s.tt.copying || s.gateClosed then s
  else
    let s := copyWritten s
    if s.phase = .unconfigured then startStep5 false array s else s

def execImgCopy1Written (s : State) (array : ArrayFind := .whole) : Host.Outcome State Fault Refusal :=
  .next (copy1Written array s)

end Sys2Proof.Machine
end

