-- ==== Sys2Proof/Machine/BlockReset.lean ====
section
/-!
DEFINITION. The reset of class K (R12, R37, R87, R99, R216, R235, R283, R351, R413, R437): one page's block returns to
the active configuration.
-/

namespace Sys2Proof.Machine

/-- The register addresses of a page that hold anything, or that the active configuration gives a value. -/
def pageAddrs (page : Nat) (base s : State) : List Nat :=
  let targets := s.oldLayers.flatten.map Patch.target
  dedupe (((s.regs.map (·.1)) ++ (base.regs.map (·.1)) ++ targets).filter fun a => a / 0x1000 == page)

/-- The bits of a register that class K clears: to the active configuration, and to the table's value. -/
def kMasks (a : Nat) : Word × Word :=
  (regFields a).foldl (fun m f =>
    if !f.clr.testBit ResetClass.k.bit then m
    else if f.config then (m.1 ||| fieldMask f, m.2) else (m.1, m.2 ||| fieldMask f)) (0, 0)

/-- The fields of a page that class K clears (R12): configuration fields take the active configuration (R99). -/
def clearPage (page : Nat) (s : State) : State :=
  let base := s.baseState
  let t := (pageAddrs page base s).foldl (fun t a =>
    let (c, k) := kMasks a
    let conf := layered s.oldLayers a (base.reg a)
    t.setReg a ((t.reg a &&& ~~~(c ||| k)) ||| (conf &&& c) ||| (regDefault a &&& k))) s
  let sel (f : FieldRow) : Bool := f.clr.testBit ResetClass.k.bit
  let only (m : List (Nat × Word)) : List (Nat × Word) :=
    let r := resetRegs sel m
    m.foldl (fun l x => if x.1 / 0x1000 = page then Sparse.set regDefault l x.1 (Sparse.get regDefault r x.1) else l) m
  (t.withRegsA (only t.regsA)).withRegsB (only t.regsB)

/-- The page's header beside its registers: staged values, LAST_TALLY's high half, the block's lasting fault. -/
def clearHeader (page : Nat) (s : State) : State :=
  let s := (s.dropStaged page).withLastHi (s.lastHi.filter fun x => x.1 != page * 0x1000 + 0x028)
  if page = 0x078 ∨ page = 0x071 then s else s.setLasting page 0

/-- The pages on which BLK_RST is refused (R99). -/
def blkRefused (page : Nat) : Bool := page ≤ 0x004 || page == 0x007 || page == 0x065

/-! The blocks. -/

/-- What the block still does before its registers clear: the RTC halt ends, the logbook drains, the edit range
closes, switches are discarded, outputs and connections are given up. -/
def blockBefore (page : Nat) (s : State) : State :=
  if 0x010 ≤ page ∧ page < 0x030 then staleChans (groupChans (page - 0x010)) s
  else if 0x050 ≤ page ∧ page < 0x058 then fbStop (page - 0x050) s
  else if 0x060 ≤ page ∧ page < 0x064 then portDisable (page - 0x060) s
  else match page with
    | 0x030 => scanLost s
    | 0x044 => closeRange true s
    | 0x048 => discardSwitches s
    | 0x078 => logDrain s
    | 0x080 => haltForced s
    | _ => s

/-- Census participation restarts; EPOCH, LOST and the held acknowledgements stay (R351). -/
def xnetRestart (s : State) : State :=
  let x := s.xnet
  let ring (r : RingState) : RingState := { r with master := none, quiet := 0, round := none, summaries := [] }
  let s := s.withXnet { x with
    present := ownMap s, cap := ownCap s, seenNow := 0, capNow := 0, missed := [], departed := 0, epochs := []
    dutyCand := none, dutyRun := 0, ringP := ring x.ringP, ringS := ring x.ringS, replay := none, rejoinPts := []
    modeDue := 0, xferOut := none, xferIn := none }
  splitKept (s.put F.xnetStatHead s.nodeId)

/-- The panel's window records at the active configuration (R456). -/
def windowRecords (s : State) : State :=
  let base := s.baseState
  (List.range 1024).foldl (fun t i =>
    let a := winRec 0 0 + 4 * i
    t.setWinWord a (layered s.oldLayers a (base.winWord a))) s

/-- What the block holds beside its registers, at class K. -/
def blockClear (page : Nat) (s : State) : State :=
  if 0x010 ≤ page ∧ page < 0x030 then
    let g := page - 0x010
    let s := (setExc g false s).setGrp g Grp.init
    (groupChans g).foldl (fun s c =>
      (s.setChan c Chan.init).put (F.afgStatRangeNow.ch c) (s.get (F.afgCfg0Range.ch c))) s
  else if 0x050 ≤ page ∧ page < 0x058 then s.setSeg (page - 0x050) Seg.init
  else if 0x060 ≤ page ∧ page < 0x064 then s.setXport (page - 0x060) XPort.init
  else match page with
    | 0x005 => s.setPort .a HostPort.init
    | 0x006 => s.setPort .b HostPort.init
    | 0x030 =>
      let s := periodTaken (abandonSlots s)
      s.withAfe { s.afe with tsRead := [], tsBad := [] }
    | 0x031 =>
      let due := (s.afe.chans.filter fun x => x.2.staleDue).map (·.1)
      let s := s.withAfe { s.afe with
        load := none
        grps := s.afe.grps.map fun x => (x.1, { x.2 with results := [] })
        chans := s.afe.chans.map fun x => (x.1, { x.2 with prev := none }) }
      due.foldl (fun s c => staleSend c s) s
    | 0x032 => repOff (s.withOuts { s.outs with repTaken := 0, repValued := 0 })
    | 0x033 => refreshDo (s.withOuts { s.outs with doCmd := 0, ovlAt := [], retry := 0, dirty := [], diPrev := none })
    | 0x040 => (rebuildReset s).withTt { s.tt with levels := [] }
    | 0x041 => resetWheel s
    | 0x042 => resetGroups s
    | 0x043 => refreshUnits (s.withCall ⟨[], [], [], [], 0, 0, []⟩)
    | 0x044 => s.withEng { s.eng with openReq := none }
    | 0x048 =>
      s.withTt { s.tt with levels := [], install := none, erasing := false, page := [], copying := false, standbyAsk := false }
    | 0x058 => fbSegs.foldl (fun s n => s.setSeg n { s.seg n with taken := false }) s
    | 0x064 => xnetRestart s
    | 0x070 => safeDone s (safeFaultCode (safeRestart false s))
    | 0x071 => safeDone s (safeAllOff (s.withSafe { s.safe with write := none, repair := none }))
    | 0x078 =>
      let s := s.withLg { s.lg with buckets := [], clrKey := none, freezeAt := none }
      gwyReset .b (gwyReset .a (s.put F.logStatIndexing 1))
    | 0x079 => gwyReset .b (gwyReset .a s)
    | 0x080 => (s.setShadow .a none).setShadow .b none
    | 0x088 => windowRecords (panelOff (s.withPanel ⟨.dark, [], [], [], false, 0, [], [], none, none, false, [], 0, false, none, false⟩))
    | _ => s

/-- BLK_RST of a page (R99). For MAN the range closes first and its STAT and BAD are cleared after, so that AUTO_CLOSED,
BAD_CNT and BAD read 0 (DESIGN CHOICE: R202 and R203 give no order, log entry 100). Unit enables that CALL's reset changes are
announced (R248). -/
def blockReset (page : Nat) (s : State) : State :=
  if blkRefused page then accessFault page 0x27 s
  else
    let units := s.unitsEnabled
    let s := clearHeader page (clearPage page (blockBefore page s))
    let s := s.put (F.hdrPageCtlBlkRst.page page) 1
    let s := callSettle (blockClear page s)
    if units = s.unitsEnabled then s else sendUnits s

/-! The restart with the active configuration (R99), at most 20 µs later. -/

/-- The node tracks the occurrences that its own points still hold, as the duty call does after a reset (R87). -/
def reRaise (s : State) : State :=
  s.eng.pts.foldl (fun s x =>
    if x.2.astate = .activeUnack then trackPoint s.nodeId (pointPayload (s.pcfg x.1) x.1 0 0 x.2) s else s) s

def blockRestart (page : Nat) (array : ArrayFind) (s : State) : State :=
  if 0x010 ≤ page ∧ page < 0x030 then scanWritten false false (fastTaken (page - 0x010) s)
  else if 0x050 ≤ page ∧ page < 0x058 then
    (if s.fbLive (page - 0x050) then fbJoin (page - 0x050) s else s)
  else if 0x060 ≤ page ∧ page < 0x064 then portEnable (page - 0x060) s
  else match page with
    | 0x030 => scanWritten true false s
    | 0x032 => repDriveAll s
    | 0x033 => updateDo s
    | 0x040 => forcePass s
    | 0x043 => reRaise s
    | 0x071 => configSelection .ok s
    | 0x078 => logStart array s
    | 0x088 => panelStart (regionsStart (updatePanel s))
    | _ => s

/-- The block leaves its reset; LOG rebuilds its index before (R437). -/
def blockResetEnd (page : Nat) (array : ArrayFind) (s : State) : State :=
  if s.flag (F.hdrPageCtlBlkRst.page page) then
    callSettle (clockFollow (blockRestart page array (s.put (F.hdrPageCtlBlkRst.page page) 0)))
  else s

def execBlockResetEnd (page : BitVec 10) (s : State) (array : ArrayFind := .whole) : Host.Outcome State Fault Refusal :=
  .next (if (pageBlock page.toNat).isSome && s.answers then blockResetEnd page.toNat array s else s)

end Sys2Proof.Machine
end

