-- ==== Sys2Proof/Machine/Pages.lean ====
section
/-!
DEFINITION. The page header (R93 to R99) and the effect of a write on every register that has one: enables, staging,
commits, locks, event clearing and forcing, block resets.
-/

namespace Sys2Proof.Machine

/-! Block registers. -/

/-- HOSTx.MODE (R108). -/
def actMode (h : HostId) (a : Nat) (v m : Word) (s : State) : State :=
  let lanes := getBits v 1 0
  if m = 0 then s
  else if lanes = 3 ∨ (getBit v 2 ∧ lanes ≠ 2) then accessFault (a / 0x1000) 0x2B s
  else storeFields h a v m s

/-- ORD.CTL.CNT_CLR (R377). -/
def actOrdCtl (v m : Word) (s : State) : State :=
  if getBit (v &&& m) 0 then
    [F.ordGapcntStream, F.ordGapcntPoint, F.ordOutcntOut, F.ordOutcntLate, F.ordRejectCount, F.ordHoldEgressMax,
      F.ordHoldStreamMax].foldl (fun s f => s.put f 0) s
  else s

/-- AFC.CTL, GRP_EN and BURST (R148, R150). -/
def actScan (h : HostId) (a : Nat) (v m : Word) (s : State) : State :=
  callSettle (scanWritten (decide (a = 0x030040) && getBit (v &&& m) 0) (decide (a = 0x030048) && getBits m 15 0 != 0)
    (storeFields h a v m s))

/-- The registers of one segment's page. -/
def fbAction (h : HostId) (n a : Nat) (v m : Word) (s : State) : State :=
  match a % 0x1000 with
  | 0x040 => actFbCtl h n v m s
  | 0x060 => actTxReq n 0 none v m s
  | 0x064 => actTxReq n 32 none v m s
  | 0x068 => actTxCan n 0 none v m s
  | 0x06C => actTxCan n 32 none v m s
  | 0x080 => actRxRel n v m s
  | 0x08C => actFbCmd n v m s
  | _ => storeFields h a v m s

/-- LOG registers (R438): the rate limits refuse what R438 names. -/
def logAction (h : HostId) (a : Nat) (v m : Word) (s : State) : State :=
  let off := a % 0x1000
  if 0x060 ≤ off ∧ off < 0x078 then actRate h a true v m s
  else if 0x080 ≤ off ∧ off < 0x0C0 ∧ off % 8 = 4 then actRate h a (!s.flag (F.logRateOvrEn.idx ((off - 0x080) / 8))) v m s
  else match off with
    | 0x040 => actLogCtl h v m s
    | 0x0D0 => actClrReq h m s
    | 0x0D8 => actClrCmd h v m s
    | _ => storeFields h a v m s

/-- LAN registers (R468). -/
def lanAction (h : HostId) (a : Nat) (v m : Word) (s : State) : State :=
  let off := a % 0x1000
  if 0x100 ≤ off ∧ off < 0x180 ∧ off % 8 = 0 then actRegion h ((off - 0x100) / 8) v m s
  else match off with
    | 0x040 => actLanCtl h v m s
    | 0x048 => actLanCmd v m s
    | 0x058 => actHostwin v m s
    | 0x060 => actWincfg h 0 v m s
    | 0x064 => actWincfg h 1 v m s
    | _ => storeFields h a v m s

/-- What the bits that pass do in a block register. -/
def blockAction (h : HostId) (a : Nat) (v m : Word) (s : State) : State :=
  let page := a / 0x1000
  if 0x050 ≤ page ∧ page < 0x058 then fbAction h (page - 0x050) a v m s
  else if page = 0x078 then logAction h a v m s
  else if page = 0x088 then lanAction h a v m s
  else if 0x007060 ≤ a ∧ a < 0x007080 then actKeyData a v m s
  else match a with
    | 0x000048 => actSoftReset v m s
    | 0x00004C => actOwn h v m s
    | 0x000050 => actOwnTake h v s
    | 0x001040 => actPwrCtl h v m s
    | 0x002044 => actClkCtl h v m s
    | 0x005040 | 0x006040 => actMode h a v m s
    | 0x007040 => actKeyCmd v m s
    | 0x030040 | 0x030044 | 0x030048 => actScan h a v m s
    | 0x031040 => curveLoad h v m s
    | 0x03304C => actDoSet h v m s
    | 0x04004C => actPteCtl m s
    | 0x040050 => actOpcmd h v m s
    | 0x040060 => actAdmcmd v m s
    | 0x041050 => actTideCtl m s
    | 0x04205C => actGrpCmd h m s
    | 0x043058 => actCallCmd h v m s
    | 0x044044 => actManCmd h m s
    | 0x048048 => actTtReq h v m s
    | 0x048054 => actInstCmd h v m s
    | 0x048060 => actImgCtl v m s
    | 0x048068 => actImgData v m s
    | 0x064068 => actXnetCtl h v m s
    | 0x06406C => actXnetCmd v m s
    | 0x064070 => actMdio h v m s
    | 0x064080 => actRackCmd h v m s
    | 0x064090 => actRcfgCtl v m s
    | 0x064098 => actRcfgData v m s
    | 0x065070 => actOrdCtl v m s
    | 0x071048 => actCfgCtl h .ok v m s
    | 0x07104C => actCfgData v m s
    | 0x079050 => actGwyCmd h v m s
    | 0x080040 => actRtcCtl h v m s
    | 0x080044 | 0x080048 => actRtcTime h a v m s
    | 0x08004C => actRtcStat v m s
    | 0x080054 => actRtcTrim h v m s
    | _ => storeFields h a v m s

/-! Commits (R97). -/

/-- The page names no quiet point of its own: a commit takes effect at once, as the writes would. -/
def plainPage (page : Nat) : Bool :=
  page ≤ 0x007 || [0x030, 0x064, 0x065, 0x070, 0x071, 0x078, 0x079, 0x080].contains page

/-- The staged words of such a page take effect in one step, each as its register takes a write. -/
def commitPlain (page : Nat) (s : State) : State :=
  let ws := s.staged.filter fun w => stagedPage w.addr == page
  let stage := s.flag (F.hdrPageCtlStage.page page)
  let s := ((s.dropStaged page).put (F.hdrPageCommitCommit.page page) 0).put (F.hdrPageCtlStage.page page) 0
  let s := ws.foldl (fun s w =>
    let m := w.stgMask ||| w.stageMask
    blockAction s.owner w.addr ((s.reg w.addr &&& ~~~m) ||| (w.value &&& m)) m s) s
  if stage && s.answers then s.put (F.hdrPageCtlStage.page page) 1 else s

/-- A write of 1 to PAGE_COMMIT. -/
def pageCommit (page : Nat) (s : State) : State :=
  if plainPage page then commitPlain page s else callSettle (startCommit page s)

def actCommit (page : Nat) (v m : Word) (s : State) : State := if getBit (v &&& m) 0 then pageCommit page s else s

/-- The block reaches its quiet point with a commit pending. -/
def commitApply (page : Nat) (s : State) : State :=
  if !s.flag (F.hdrPageCommitCommit.page page) then s
  else if 0x010 ≤ page ∧ page < 0x030 then (if (s.grp (page - 0x010)).slot.isNone then afgCommit (page - 0x010) s else s)
  else if 0x050 ≤ page ∧ page < 0x058 then
    (if s.fbQuiet (page - 0x050) then fbCommit (page - 0x050) s else fbForce (page - 0x050) s)
  else if 0x060 ≤ page ∧ page < 0x064 then xpCommit (page - 0x060) s
  else match page with
    | 0x031 => linCommit s
    | 0x032 => repCommitAt (List.range 16) s
    | 0x033 => dioCommit s
    | 0x043 => callCommit s
    | 0x048 => commitsAndRequest s
    | 0x058 => sailCommitAt s.sailQuiet s
    | 0x088 => lanCommit s
    | _ => if plainPage page then commitPlain page s else commitTaken page s

def execCommitApply (page : BitVec 10) (s : State) : Host.Outcome State Fault Refusal :=
  .next (if (pageBlock page.toNat).isSome && s.answers then callSettle (commitApply page.toNat s) else s)

/-! The header registers. -/

/-- PAGE_CTL: EN, BLK_RST, STAGE (R93, R96, R99). -/
def actPageCtl (h : HostId) (page : Nat) (v m : Word) (s : State) : State :=
  let was := s.pageEn page
  let staging := s.flag (F.hdrPageCtlStage.page page)
  let s := storeFields h (page * 0x1000 + 0x004) v m s
  let s := if staging && !s.flag (F.hdrPageCtlStage.page page) then s.dropStageMode page else s
  let s := if s.pageEn page = was then s else callSettle (clockFollow (enableFollow page s))
  if getBit (v &&& m) 1 then blockReset page s else s

/-- EVT_PEND: the written RAW bits clear, and with bit 31 the access fault (R94, R95). -/
def actEvtPend (page : Nat) (v m : Word) (s : State) : State :=
  let a := page * 0x1000 + 0x00C
  let s := s.setReg a (s.reg a &&& ~~~(v &&& m))
  if getBit (v &&& m) 31 then s.put (F.hdrPageStatFaultCode.page page) 0 else s

/-- The event bits a page defines (R94, the event tables of the block chapters). -/
def evtDefined (page : Nat) : Nat :=
  match pageBlock page with
  | none => 0
  | some (b, _) => match b with
    | .sys => 0x800000FF
    | .clk => 0x80000007
    | .pwr => 0x8000007F
    | .rst => 0x80000001
    | .host => 0x80000F1F
    | .irq => 0x80000000
    | .afg => 0x8001FFFF
    | .afc => 0x80000003
    | .lin => 0x8000003F
    | .rep => 0x8001FFFF
    | .dio => 0x8001FFFF
    | .man => 0x8000001F
    | .pte => 0x801F070F
    | .tide => 0x80000001
    | .grp => 0x8000000F
    | .call => 0x800F003F
    | .ttb => 0x800300FF
    | .sec => 0x8000000F
    | .fb => 0x80003FFF
    | .sail => 0x800001FF
    | .xp => 0x8000007F
    | .xnet => 0x80070F3F
    | .ord => 0x800000FF
    | .safe => 0x8FFFFFFF
    | .seal => 0x8000003F
    | .log => 0x8001F7FF
    | .gwy => 0x8000000F
    | .rtc => 0x8000017F
    | .lan => 0x8000003F

/-- EVT_FORCE (R94). -/
def actEvtForce (page : Nat) (v m : Word) (s : State) : State :=
  let a := page * 0x1000 + 0x00C
  s.setReg a (s.reg a ||| (v &&& m &&& BitVec.ofNat 32 (evtDefined page)))

/-- PAGE_LOCK (R98). -/
def actPageLock (page : Nat) (v m : Word) (s : State) : State :=
  if m = 0 then s
  else s.putFlag (F.hdrPageStatLocked.page page) (!(getBits v 15 8 == 0xA5 && getBits v 7 0 == page % 256))

/-- What the bits that pass do in any register of the register region. -/
def regAction (h : HostId) (a : Nat) (v m : Word) (s : State) : State :=
  let page := a / 0x1000
  match a % 0x1000 with
  | 0x004 => actPageCtl h page v m s
  | 0x014 => actEvtPend page v m s
  | 0x018 => actEvtForce page v m s
  | 0x01C => actPageLock page v m s
  | 0x020 => actCommit page v m s
  | _ => blockAction h a v m s

/-! Commands on the header. -/

/-- A write to a header register of a mapped page. -/
def headerWord (h : HostId) (page off : Nat) (v : Word) (s : State) : State :=
  if (pageBlock page).isSome then hostWord h (page * 0x1000 + off) v (regAction h (page * 0x1000 + off) v) s else s

/-- PAGE_CTL with one bit changed and the others as they read. -/
def pageCtlWord (page bit : Nat) (on : Bool) (s : State) : Word := setBits (s.reg (page * 0x1000 + 0x004)) bit bit (b2n on)

def execBlockReset (host : HostId) (page : BitVec 10) (s : State) : Host.Outcome State Fault Refusal :=
  .next (headerWord host page.toNat 0x004 (pageCtlWord page.toNat 1 true s) s)

def execStageWrite (host : HostId) (page : BitVec 10) (stage : Bool) (s : State) : Host.Outcome State Fault Refusal :=
  .next (headerWord host page.toNat 0x004 (setBits (pageCtlWord page.toNat 2 stage s) 1 1 0) s)

def execPageCommit (host : HostId) (page : BitVec 10) (s : State) : Host.Outcome State Fault Refusal :=
  .next (headerWord host page.toNat 0x020 (bitWord 0) s)

def execPageLock (host : HostId) (page : BitVec 10) (value : Word) (s : State) : Host.Outcome State Fault Refusal :=
  .next (headerWord host page.toNat 0x01C value s)

def execEvtClear (host : HostId) (page : BitVec 10) (mask : Word) (s : State) : Host.Outcome State Fault Refusal :=
  .next (headerWord host page.toNat 0x014 mask s)

def execEvtForce (host : HostId) (page : BitVec 10) (mask : Word) (s : State) : Host.Outcome State Fault Refusal :=
  .next (headerWord host page.toNat 0x018 mask s)

end Sys2Proof.Machine
end

