-- ==== Sys2Proof/Machine/Windows.lean ====
section
/-!
DEFINITION. The windows of R90: what a host reads and writes in the manifest, the runtime aperture, the curve
aperture, timetable staging, the sailing matrix and the uniformity map (R100, R167, R168, R196, R200, R213, R278, R294,
R460).
-/

namespace Sys2Proof.Machine

/-- The windows of R90. -/
inductive Window where
  | manifest | runtime | curves | staging | sailing | map
deriving DecidableEq, Repr

/-- The window an address lies in; none between and after them. -/
def windowOf (a : Nat) : Option Window :=
  if 0x400000 ≤ a ∧ a < 0xC00000 then some .manifest
  else if 0xC00000 ≤ a ∧ a < 0xC40000 then some .runtime
  else if 0xD00000 ≤ a ∧ a < 0xD40000 then some .curves
  else if 0xE00000 ≤ a ∧ a < 0xF00000 then some .staging
  else if 0xF00000 ≤ a ∧ a < 0xF10000 then some .sailing
  else if 0xF10000 ≤ a ∧ a < 0xF11000 then some .map
  else none

/-- The page whose PAGE_STAT records a window's access faults (R90). -/
def Window.page : Window → Nat
  | .manifest => 0x044
  | .runtime => 0x040
  | .curves => 0x031
  | .staging => 0x048
  | .sailing => 0x058
  | .map => 0x088

/-- A tide-wheel handle (R213). -/
def wheelHandle (t : Nat) : Nat := 2 ^ 31 + t % 2 ^ 31

/-- The earliest of a point's timer entries. -/
def Point.timer (p : Point) (now : Nat) : Option Nat :=
  (p.staleAt.toList ++ p.shelveAt.toList ++ p.escAt.toList).foldl (fun m t =>
    match m with
    | none => some t
    | some x => if (t + 2 ^ 32 - now) % 2 ^ 32 < (x + 2 ^ 32 - now) % 2 ^ 32 then some t else some x) none

/-- AUX0 and AUX1 of a runtime record (R196). -/
def pointAux (p : Point) : Nat × Nat :=
  if p.auxKind = 1 then
    match p.anchor with
    | some (v, t) => (v.toNat, 2 ^ 31 + t % 2 ^ 24)
    | none => (0, 0)
  else if p.auxKind = 2 then (p.acc % 2 ^ 32, p.accTick % 2 ^ 24 * 2 ^ 8 + p.acc / 2 ^ 32 % 2 ^ 8)
  else (0, 0)

/-- Word 0x04 of a runtime record (R196). -/
def pointStateWord (i : Nat) (p : Point) (s : State) : Nat :=
  (match p.dly with
    | some (k, _) => k.code
    | none => 0) * 2 ^ 24
    + p.srcFault % 16 * 2 ^ 20 + p.reason % 16 * 2 ^ 16 + b2n (s.inEdit i) * 2 ^ 15 + b2n p.escalated * 2 ^ 14
    + b2n p.resync * 2 ^ 13 + p.status.code * 2 ^ 10 + b2n p.oos * 2 ^ 9 + b2n p.shelved * 2 ^ 8 + b2n p.inhibited * 2 ^ 7
    + b2n p.silenced * 2 ^ 6 + p.astate.code * 2 ^ 4 + p.vstate.code

/-- Word `k` of the runtime record of point `i`; a point that is not used has none and reads 0 (R196). -/
def runtimeWord (i k : Nat) (s : State) : Nat :=
  match s.pt i with
  | none => 0
  | some p =>
    match k with
    | 0 => p.value.toNat
    | 1 => pointStateWord i p s
    | 2 => p.inst
    | 3 => p.pseq
    | 4 => (p.dly.map fun d => wheelHandle d.2).getD 0
    | 5 => ((p.timer s.now).map wheelHandle).getD 0
    | 6 => (pointAux p).1
    | _ => (pointAux p).2

/-- The curve a host sees at a window address (R167). -/
def curveIdAt (h : HostId) (a : Nat) (s : State) : Nat := s.getH h F.linCwinBank * 256 + (a - 0xD00000) / 0x400

/-- The word a host reads in the sailing window: reserved ranges read zero, and word 3 of a descriptor holds what the
node counts, with WC_US of a transmit mailbox as it stands now (R294, R295, R304). -/
def sailingWord (a : Nat) (s : State) : Word :=
  let off := a % 0x2000
  let n := (a - 0xF00000) / 0x2000
  let m := (off - 0x900) / 0x58
  let w := s.winWord a
  if (4 ≤ off ∧ off < 0x080) ∨ 0x1F00 ≤ off then 0
  else if 0x900 ≤ off ∧ (off - 0x900) % 0x58 = 0x0C then
    (if s.mbxTx n m then setBits (w &&& 0x03000000) 15 0 (sat 0xFFFF (s.mbxWc n m)) else w &&& 0x00FFFFFF)
  else w

/-- The word a host reads at a window address, outside STANDBY. -/
def readWindow (h : HostId) (a : Nat) (w : Window) (s : State) : Word :=
  match w with
  | .manifest | .staging | .map => s.winWord a
  | .sailing => sailingWord a s
  | .runtime =>
    BitVec.ofNat 32 (runtimeWord (s.getH h F.pteRtBaseBlock * 8192 + (a - 0xC00000) / 32) (a % 32 / 4) s)
  | .curves =>
    let k := curveIdAt h a s
    if k ≤ 0x3FF then s.winWord (curveAddr k + a % 0x400)
    else if 0xF00 ≤ k ∧ k ≤ 0xF3F then Curve.word (builtinCurve k) (a % 0x400)
    else 0

/-- A write to the curve window by the owner (R167, R168). -/
def writeCurve (h : HostId) (a : Nat) (v : Word) (s : State) : State :=
  let k := curveIdAt h a s
  if 0xF00 ≤ k ∧ k ≤ 0xF3F then accessFault 0x031 0x21 s
  else if 0x3FF < k then accessFault 0x031 0x25 s
  else if s.afe.load = some k then accessFault 0x031 0x32 s
  else s.setWinWord (curveAddr k + a % 0x400) v

/-- A write to the sailing window by the owner (R294). -/
def writeSailing (a : Nat) (v : Word) (s : State) : State :=
  let off := a % 0x2000
  let n := (a - 0xF00000) / 0x2000
  let m := (off - 0x900) / 0x58
  let k := (off - 0x900) % 0x58
  let staged : Bool := off == 0 || (decide (0x080 ≤ off) && decide (off < 0x900))
    || (decide (0x900 ≤ off) && decide (off < 0x1F00) && decide (k < 0x0C))
  if staged then
    (if s.flag (F.hdrPageCommitCommit.page 0x058) then accessFault 0x058 0x26 s else s.stage a 0xFFFFFFFF 0 v)
  else if off < 0x080 ∨ 0x1F00 ≤ off then (if v = 0 then s else accessFault 0x058 0x21 s)
  else if k < 0x10 ∨ !s.mbxTx n m then accessFault 0x058 0x21 s
  else s.setWinWord a v

/-- A window write by the owner, outside STANDBY. -/
def writeWindow (h : HostId) (a : Nat) (w : Window) (v : Word) (s : State) : State :=
  match w with
  | .manifest => if s.inEdit ((a - 0x400000) / 64) then s.setWinWord a v else accessFault 0x044 0x33 s
  | .runtime => s
  | .curves => writeCurve h a v s
  | .staging =>
    if s.tt.install.any fun x => x.1 == (a - 0xE00000) / 0x10000 then accessFault 0x048 0x30 s
    else s.setWinWord a v
  | .sailing => writeSailing a v s
  | .map =>
    if s.flag (F.hdrPageCommitCommit.page 0x088) then accessFault 0x088 0x26 s else s.stage a 0xFFFFFFFF 0 v

/-- A host's write of one window word (R90, R100): STANDBY, then the RO window, then ownership. -/
def windowStore (h : HostId) (a : Nat) (w : Window) (v : Word) (s : State) : State :=
  if s.standby then accessFault w.page 0x2C s
  else if w = .runtime then (if v = readWindow h a w s then s else accessFault w.page 0x21 s)
  else if !s.isOwner h then accessFault w.page 0x22 s
  else writeWindow h a w v s

end Sys2Proof.Machine
end

