-- ==== Sys2Proof/Machine/HostPort.lean ====
section
/-!
DEFINITION. The host ports (R41, R92, R100 to R109): transactions, their timing and CRC, and the read and write of one
word at any host address.
-/

namespace Sys2Proof.Machine

/-! One word at an address. -/

/-- An occurrence in a port's own page that ERRCNT.OTHER counts (R108). -/
def portError (h : HostId) (bit : Nat) (words : List Nat) (s : State) : State :=
  raise (hostPage h) bit 3 words (s.bumpSat (hostFld F.hostErrcntOther h) 1)

/-- An unmapped or misaligned address (R92, R105). -/
def badAddress (h : HostId) (a : Nat) (s : State) : State :=
  portError h 4 [a, 0x25] ((s.put (hostFld F.hostBadaddrCode h) 0x25).put (hostFld F.hostBadaddrAddr h) a)

/-- The address is that of a mapped page or of a window. -/
def mappedAddr (a : Nat) : Bool := if a < 0x400000 then (pageBlock (a / 0x1000)).isSome else (windowOf a).isSome

/-- The register beside a LO register takes the high half of its value. -/
def storeHigh (a v : Nat) (s : State) : State := s.setReg (a + 4) (BitVec.ofNat 32 (v / 2 ^ 32))

/-- A read captures the high half of a 64-bit register beside it (R79, R93, R203, R351, R377). -/
def captureHigh (a : Nat) (s : State) : State :=
  if a % 0x1000 = 0x028 then s.setReg (a + 4) (BitVec.ofNat 32 (Sparse.get (fun _ => 0) s.lastHi a))
  else match a with
    | 0x00104C => storeHigh a s.pwr.svc s
    | 0x044058 => storeHigh a (s.liveAcc (s.get F.manCntSlotSlot)) s
    | 0x06405C => s.setReg (a + 4) (BitVec.ofNat 32 (Sparse.get (fun _ => 0) s.lastHi a))
    | 0x065040 => storeHigh a s.ord.tally s
    | 0x065048 => storeHigh a s.ceilNow s
    | _ => s

/-- One word read by a host, with the side effects of the read. -/
def readWord (h : HostId) (a : Nat) (s : State) : Word × State :=
  if !mappedAddr a then (0, badAddress h a s)
  else match (if a < 0x400000 then none else windowOf a) with
    | some w => if s.standby then (0, accessFault w.page 0x2C s) else (readWindow h a w s, s)
    | none =>
      if s.notFitted (a / 0x1000) then (readReg h a s, s)
      else if a = 0x080044 then (readReg h a (timeLoEffect h s), timeLoEffect h s)
      else if a = 0x080048 then (readReg h a s, timeHiEffect h s)
      else if a = 0x0790BC then (readReg h a s, gwyAdvance h s)
      else (readReg h a s, captureHigh a s)

/-- One word written by a host. -/
def writeWord (h : HostId) (a : Nat) (v : Word) (s : State) : State :=
  if !s.answers then s
  else if !mappedAddr a then badAddress h a s
  else match (if a < 0x400000 then none else windowOf a) with
    | some w => windowStore h a w v s
    | none => hostWord h a v (regAction h a v) s

/-- The commands on one word: a misaligned address is no access (R105). -/
def storeWord (h : HostId) (a : Nat) (v : Word) (s : State) : State :=
  if !s.answers then s else if a % 4 ≠ 0 then badAddress h a s else writeWord h a v s

def execRegisterWrite (host : HostId) (addr : BitVec 24) (value : Word) (s : State) : Host.Outcome State Fault Refusal :=
  .next (storeWord host addr.toNat value s)

def execWindowWrite (host : HostId) (addr : BitVec 24) (value : Word) (s : State) : Host.Outcome State Fault Refusal :=
  .next (storeWord host addr.toNat value s)

def execUnmappedAccess (host : HostId) (addr : BitVec 24) (s : State) : Host.Outcome State Fault Refusal :=
  if mappedAddr addr.toNat && addr.toNat % 4 == 0 then .fault (.illFormed "UNMAPPED_ACCESS")
  else .next (if s.answers then badAddress host addr.toNat s else s)

def execTimeLoRead (host : HostId) (s : State) : Host.Outcome State Fault Refusal :=
  .next (if s.answers then (readWord host 0x080044 s).2 else s)

def execTimeHiRead (host : HostId) (s : State) : Host.Outcome State Fault Refusal :=
  .next (if s.answers then (readWord host 0x080048 s).2 else s)

/-! Transactions. -/

/-- What SCK allows in the port's mode, SCK measured in units of 100 kHz: none when the transaction is ignored, else
whether DUMMY reaches the minimum (R104). -/
def sckCheck (h : HostId) (sck : Nat) (s : State) : Option Bool :=
  let ddr := s.flag (hostFld F.hostModeDdr h)
  let d := s.get (hostFld F.hostModeDummy h)
  if (if ddr then 404 else 808) < sck then none
  else
    let least := if ddr then (if sck ≤ 200 then 2 else 4) else if sck ≤ 250 then 0 else if sck ≤ 500 then 2 else 6
    some (decide (least ≤ d))

/-- The CRC of a transaction: command, address, LEN and data in wire order (R107). -/
def wireCrc (cmd : Nat) (addr len : Option Nat) (ws : List Word) : Nat :=
  crc16 (beBytes 1 cmd ++ (addr.map (beBytes 3)).getD [] ++ (len.map (beBytes 1)).getD [] ++ ws.flatMap fun w => beBytes 4 w.toNat)

/-- The port answers: the words, and the CRC where the mode has one. -/
def answer (h : HostId) (cmd : Nat) (addr len : Option Nat) (ws : List Word) (s : State) : State :=
  let crc := s.flag (hostFld F.hostModeCrc h)
  let s := if crc then s.put (hostFld F.hostStatLastCrcBad h) 0 else s
  s.setPort h { s.port h with answer := ws, answerCrc := if crc then some (BitVec.ofNat 16 (wireCrc cmd addr len ws)) else none }

/-- The port leaves its lines alone. -/
def silent (h : HostId) (s : State) : State := s.setPort h { s.port h with answer := [], answerCrc := none }

/-- The answer in the test-mode hold: no CRC, whatever MODE held (R41). -/
def holdAnswer (h : HostId) (ws : List Word) (s : State) : State :=
  s.setPort h { s.port h with answer := ws, answerCrc := none }

/-- SYS.DEV_ID (R5). -/
def State.devId (s : State) : Word := readReg .a 0x000040 s

/-- A transaction that the port answers with `n` words: `run` gives them when SCK and DUMMY allow (R102, R104). -/
def transact (h : HostId) (cmd sck n : Nat) (addr len : Option Nat) (run : State → List Word × State) (s : State) : State :=
  let s := s.put (hostFld F.hostStatSckMeas h) (sat 0xFFF sck)
  match sckCheck h sck s with
  | none => silent h (portError h 2 [sck] s)
  | some false => answer h cmd addr len (List.replicate n 0) (portError h 2 [sck] s)
  | some true =>
    let (ws, s) := run s
    answer h cmd addr len ws s

/-- `n` words read upwards from an address that wraps at the end of the space (R105). -/
def readBurst (h : HostId) : Nat → Nat → State → List Word × State
  | _, 0, s => ([], s)
  | a, n + 1, s =>
    let (w, s) := readWord h a s
    let (ws, s) := readBurst h ((a + 4) % 2 ^ 24) n s
    (w :: ws, s)

/-- Words written upwards from an address. -/
def writeBurst (h : HostId) : Nat → List Word → State → State
  | _, [], s => s
  | a, w :: ws, s => writeBurst h ((a + 4) % 2 ^ 24) ws (writeWord h a w s)

/-- How many words a transaction carries: with CRC, LEN + 1, 1 to 64 (R105). A READ asked for more is clamped to 64, and a
REREAD, whose phases have no LEN, takes the count the host clocks: DESIGN CHOICES of the model (log entry 88). -/
def burstLen (h : HostId) (n : Nat) (s : State) : Nat := if s.flag (hostFld F.hostModeCrc h) then max 1 (min 64 n) else n

/-- READ (R102). One that is both misaligned and has too small a DUMMY is ignored as misaligned, with UNMAPPED and no
TIMING (DESIGN CHOICE, log entry 108: R104 and R105 both apply). -/
def hostRead (h : HostId) (a words sck : Nat) (s : State) : State :=
  let n := burstLen h words s
  let len := if s.flag (hostFld F.hostModeCrc h) then some (n - 1) else none
  if a % 4 ≠ 0 ∧ sckCheck h sck s ≠ none then
    silent h (badAddress h a (s.put (hostFld F.hostStatSckMeas h) (sat 0xFFF sck)))
  else
    transact h 0x03 sck n (some a) len (fun s =>
      let (ws, s) := readBurst h a n s
      (ws, s.setPort h { s.port h with buffer := ws.take 64 })) s

def execHostRead (host : HostId) (addr : BitVec 24) (words : Nat) (sck : Nat) (s : State) : Host.Outcome State Fault Refusal :=
  .next (
    if s.answers then hostRead host addr.toNat words sck s
    else if s.phase = .testHold then
      holdAnswer host ((List.range words).map fun k =>
        if (addr.toNat + 4 * k) % 2 ^ 24 = 0x000040 then s.devId else 0) s
    else s)

/-- REREAD repeats the port's buffer; past its words the port returns zeros (R102). With CRC, how many words come before
the CRC is not stated: the model takes the host's count (DESIGN CHOICE, log entry 88). -/
def hostReread (h : HostId) (words sck : Nat) (s : State) : State :=
  let n := burstLen h words s
  let b := (s.port h).buffer
  transact h 0x0E sck n none none (fun s => ((List.range n).map fun k => nth b k 0, s)) s

def execHostReread (host : HostId) (words : Nat) (sck : Nat) (s : State) : Host.Outcome State Fault Refusal :=
  .next (
    if s.answers then hostReread host words sck s
    else if s.phase = .testHold then holdAnswer host (List.replicate words 0) s
    else s)

/-- STATUS returns HOSTx.STAT. -/
def hostStatus (h : HostId) (sck : Nat) (s : State) : State :=
  transact h 0x05 sck 1 none none (fun s => ([readReg h (hostPage h * 0x1000 + 0x044) s], s)) s

def execHostStatus (host : HostId) (sck : Nat) (s : State) : Host.Outcome State Fault Refusal :=
  .next (
    if s.answers then hostStatus host sck s
    else if s.phase = .testHold then holdAnswer host [0] s
    else s)

/-- IDENT returns SYS.DEV_ID. -/
def hostIdent (h : HostId) (sck : Nat) (s : State) : State :=
  transact h 0x9F sck 1 none none (fun s => ([s.devId], s)) s

def execHostIdent (host : HostId) (sck : Nat) (s : State) : Host.Outcome State Fault Refusal :=
  .next (
    if s.answers then hostIdent host sck s
    else if s.phase = .testHold then holdAnswer host [s.devId] s
    else s)

/-- The CRC of a write failed, or its bit count (R107). -/
def crcError (h : HostId) (s : State) : State :=
  raise (hostPage h) 0 3 [] ((s.put (hostFld F.hostStatLastCrcBad h) 1).bumpSat (hostFld F.hostErrcntCrc h) 1)

/-- WRITE (R102, R105, R107). -/
def hostWrite (h : HostId) (a len : Nat) (data : List Word) (partialBits : Nat) (crc : Nat) (sck : Nat) (s : State) : State :=
  let s := silent h (s.put (hostFld F.hostStatSckMeas h) (sat 0xFFF sck))
  match sckCheck h sck s with
  | none => portError h 2 [sck] s
  | some _ =>
    if a % 4 ≠ 0 then badAddress h a s
    else if s.flag (hostFld F.hostModeCrc h) then
      (if data.length = len + 1 ∧ len < 64 ∧ partialBits = 0 ∧ crc = wireCrc 0x02 (some a) (some len) data then
        writeBurst h a data (s.put (hostFld F.hostStatLastCrcBad h) 0)
      else crcError h s)
    else
      let s := writeBurst h a data s
      if partialBits = 0 ∨ !s.answers then s else portError h 3 [] s

def execHostWrite (host : HostId) (addr : BitVec 24) (len : BitVec 8) (data : List Word) (partialBits : Nat) (crc : BitVec 16)
    (sck : Nat) (s : State) : Host.Outcome State Fault Refusal :=
  .next (if s.answers then hostWrite host addr.toNat len.toNat data partialBits crc.toNat sck s else s)

/-- The commands of R102. -/
def hostCommands : List Byte := [0x03, 0x02, 0x0E, 0x05, 0x9F]

/-- An undefined command byte (R102); SCK is measured in the command phase, and a rate too high makes the port ignore
the transaction (R104). -/
def hostBadCmd (h : HostId) (cmd sck : Nat) (s : State) : State :=
  let s := silent h (s.put (hostFld F.hostStatSckMeas h) (sat 0xFFF sck))
  if sckCheck h sck s = none then portError h 2 [sck] s else portError h 1 [cmd] s

def execHostBadCmd (host : HostId) (cmd : Byte) (s : State) (sck : Nat := 0) : Host.Outcome State Fault Refusal :=
  if hostCommands.contains cmd then .fault (.illFormed "HOST_BAD_CMD")
  else .next (if s.answers then hostBadCmd host cmd.toNat sck s else s)

/-- The mode-reset pattern: 1-1-1 SDR, DUMMY and CRC as they are (R106). Its SCK is not measured: SCK_MEAS stays and no
TIMING is raised (DESIGN CHOICE, log entry 108). -/
def execHostModeReset (host : HostId) (s : State) : Host.Outcome State Fault Refusal :=
  .next (
    if s.answers then silent host ((s.put (hostFld F.hostModeDdr host) 0).put (hostFld F.hostModeLanes host) 0) else s)

def execHostModeWrite (host : HostId) (port : HostId) (value : Word) (s : State) : Host.Outcome State Fault Refusal :=
  .next (hostWord host (hostPage port * 0x1000 + 0x040) value (actMode host (hostPage port * 0x1000 + 0x040) value) s)

end Sys2Proof.Machine
end

