-- ==== Sys2Proof/Machine/Dispatch.lean ====
section
/-!
DEFINITION. The meaning of each command: one arm for each row of spec/opcode_table.json, in the table's order.
-/

namespace Sys2Proof.Machine

/-- The effect of one command on everything but the queue. -/
def exec (i : Instr) (s : State) : Host.Outcome State Fault Refusal :=
  match i with
  | .tideTick lfxo resetN => Sys2Proof.Machine.execTideTick s lfxo resetN
  | .tickSourceToLfrc => Sys2Proof.Machine.execTickSourceToLfrc s
  | .tickSourceToLfxo => Sys2Proof.Machine.execTickSourceToLfxo s
  | .engineWake => Sys2Proof.Machine.execEngineWake s
  | .enginePllChangeover => Sys2Proof.Machine.execEnginePllChangeover s
  | .enginePass => Sys2Proof.Machine.execEnginePass s
  | .supplyCoreFail supply => Sys2Proof.Machine.execSupplyCoreFail supply s
  | .avdd5Fail => Sys2Proof.Machine.execAvdd5Fail s
  | .avdd5Recover => Sys2Proof.Machine.execAvdd5Recover s
  | .vfieldFail => Sys2Proof.Machine.execVfieldFail s
  | .vfieldRecover => Sys2Proof.Machine.execVfieldRecover s
  | .vledFail => Sys2Proof.Machine.execVledFail s
  | .vledRecover => Sys2Proof.Machine.execVledRecover s
  | .vdd33Warn mram => Sys2Proof.Machine.execVdd33Warn s mram
  | .dipEnd us => Sys2Proof.Machine.execDipEnd us s
  | .nvmGateOpen mram worn => Sys2Proof.Machine.execNvmGateOpen s mram worn
  | .lockout => Sys2Proof.Machine.execLockout s
  | .lockoutRelease => Sys2Proof.Machine.execLockoutRelease s
  | .vdd33ResetFall vbat => Sys2Proof.Machine.execVdd33ResetFall s vbat
  | .backupSwitch => Sys2Proof.Machine.execBackupSwitch s
  | .backupReturn => Sys2Proof.Machine.execBackupReturn s
  | .startUp s1 s2 s3 tmode norBad array mram norTrip => Sys2Proof.Machine.execStartUp s1 s2 s3 tmode s norBad array mram norTrip
  | .bootRepair => Sys2Proof.Machine.execBootRepair s
  | .svcMirror mram => Sys2Proof.Machine.execSvcMirror s mram
  | .mirrorNow host mram => Sys2Proof.Machine.execMirrorNow host s mram
  | .vbatCheck mv => Sys2Proof.Machine.execVbatCheck mv s
  | .hfxoFail => Sys2Proof.Machine.execHfxoFail s
  | .hfxoRetry ok => Sys2Proof.Machine.execHfxoRetry ok s
  | .frcRetrim => Sys2Proof.Machine.execFrcRetrim s
  | .pllLock pll => Sys2Proof.Machine.execPllLock pll s
  | .pllUnlock pll => Sys2Proof.Machine.execPllUnlock pll s
  | .dozeEntry => Sys2Proof.Machine.execDozeEntry s
  | .standbyRequest src => Sys2Proof.Machine.execStandbyRequest src s
  | .standbyEnter mram => Sys2Proof.Machine.execStandbyEnter s mram
  | .standbyWakeHost host => Sys2Proof.Machine.execStandbyWakeHost host s
  | .diWake di => Sys2Proof.Machine.execDiWake di s
  | .standbyExit => Sys2Proof.Machine.execStandbyExit s
  | .phyResetRelease => Sys2Proof.Machine.execPhyResetRelease s
  | .resetButtonArm => Sys2Proof.Machine.execResetButtonArm s
  | .pinReset => Sys2Proof.Machine.execPinReset s
  | .buttonStuck => Sys2Proof.Machine.execButtonStuck s
  | .watchdogReset block => Sys2Proof.Machine.execWatchdogReset block s
  | .softReset host => Sys2Proof.Machine.execSoftReset host s
  | .blockReset host page => Sys2Proof.Machine.execBlockReset host page s
  | .registerWrite host addr value => Sys2Proof.Machine.execRegisterWrite host addr value s
  | .unmappedAccess host addr => Sys2Proof.Machine.execUnmappedAccess host addr s
  | .windowWrite host addr value => Sys2Proof.Machine.execWindowWrite host addr value s
  | .stageWrite host page stage => Sys2Proof.Machine.execStageWrite host page stage s
  | .pageCommit host page => Sys2Proof.Machine.execPageCommit host page s
  | .commitApply page => Sys2Proof.Machine.execCommitApply page s
  | .pageLock host page value => Sys2Proof.Machine.execPageLock host page value s
  | .evtClear host page mask => Sys2Proof.Machine.execEvtClear host page mask s
  | .evtForce host page mask => Sys2Proof.Machine.execEvtForce host page mask s
  | .hostRead host addr words sck => Sys2Proof.Machine.execHostRead host addr words sck s
  | .hostWrite host addr len data partialBits crc sck => Sys2Proof.Machine.execHostWrite host addr len data partialBits crc sck s
  | .hostReread host words sck => Sys2Proof.Machine.execHostReread host words sck s
  | .hostStatus host sck => Sys2Proof.Machine.execHostStatus host sck s
  | .hostIdent host sck => Sys2Proof.Machine.execHostIdent host sck s
  | .hostBadCmd host cmd sck => Sys2Proof.Machine.execHostBadCmd host cmd s sck
  | .hostModeReset host => Sys2Proof.Machine.execHostModeReset host s
  | .hostModeWrite host port value => Sys2Proof.Machine.execHostModeWrite host port value s
  | .ownOffer host => Sys2Proof.Machine.execOwnOffer host s
  | .ownTake host token => Sys2Proof.Machine.execOwnTake host token s
  | .offerTimeout => Sys2Proof.Machine.execOfferTimeout s
  | .ownClaim host => Sys2Proof.Machine.execOwnClaim host s
  | .ownKeep host => Sys2Proof.Machine.execOwnKeep host s
  | .claimTransfer => Sys2Proof.Machine.execClaimTransfer s
  | .burstStart => Sys2Proof.Machine.execBurstStart s
  | .hfxoPrestart => Sys2Proof.Machine.execHfxoPrestart s
  | .tsRead sensor ok temp => Sys2Proof.Machine.execTsRead sensor ok temp s
  | .slotStart g => Sys2Proof.Machine.execSlotStart g s
  | .excitationOn g => Sys2Proof.Machine.execExcitationOn g s
  | .checkCurrentEnd g mv => Sys2Proof.Machine.execCheckCurrentEnd g mv s
  | .conversionStart g => Sys2Proof.Machine.execConversionStart g s
  | .monitorMeasure g mon => Sys2Proof.Machine.execMonitorMeasure g mon s
  | .phaseComplete g conv => Sys2Proof.Machine.execPhaseComplete g conv s
  | .slotEnd g => Sys2Proof.Machine.execSlotEnd g s
  | .resultLinearise g => Sys2Proof.Machine.execResultLinearise g s
  | .rangeOverload g positive => Sys2Proof.Machine.execRangeOverload g positive s
  | .fastOutput g conv => Sys2Proof.Machine.execFastOutput g conv s
  | .fastMonitor g mon => Sys2Proof.Machine.execFastMonitor g mon s
  | .curveLoad host id => Sys2Proof.Machine.execCurveLoad host id s
  | .repPeriodBoundary out => Sys2Proof.Machine.execRepPeriodBoundary out s
  | .diSample levels => Sys2Proof.Machine.execDiSample levels s
  | .diChangeAccept di filt level => Sys2Proof.Machine.execDiChangeAccept di filt level s
  | .diFreqSample point => Sys2Proof.Machine.execDiFreqSample point s
  | .doSet host value => Sys2Proof.Machine.execDoSet host value s
  | .doOverload out => Sys2Proof.Machine.execDoOverload out s
  | .doOverloadRetry out => Sys2Proof.Machine.execDoOverloadRetry out s
  | .runhrsTimer point => Sys2Proof.Machine.execRunhrsTimer point s
  | .cntLoad host => Sys2Proof.Machine.execCntLoad host s
  | .manOpen host => Sys2Proof.Machine.execManOpen host s
  | .manOpenApply => Sys2Proof.Machine.execManOpenApply s
  | .manClose host => Sys2Proof.Machine.execManClose host s
  | .editCloseApply => Sys2Proof.Machine.execEditCloseApply s
  | .editAutoClose => Sys2Proof.Machine.execEditAutoClose s
  | .stalenessExpiry point => Sys2Proof.Machine.execStalenessExpiry point s
  | .delayExpiry point => Sys2Proof.Machine.execDelayExpiry point s
  | .runupExpiry point => Sys2Proof.Machine.execRunupExpiry point s
  | .shelveExpiry point => Sys2Proof.Machine.execShelveExpiry point s
  | .escalationExpiry point => Sys2Proof.Machine.execEscalationExpiry point s
  | .forceAll host => Sys2Proof.Machine.execForceAll host s
  | .peakClr host => Sys2Proof.Machine.execPeakClr host s
  | .ackPoint host point => Sys2Proof.Machine.execAckPoint host point s
  | .silencePoint host point => Sys2Proof.Machine.execSilencePoint host point s
  | .ackGroup host group => Sys2Proof.Machine.execAckGroup host group s
  | .silenceAll host => Sys2Proof.Machine.execSilenceAll host s
  | .ackAll host => Sys2Proof.Machine.execAckAll host s
  | .opcmdUndefined host adm value => Sys2Proof.Machine.execOpcmdUndefined host adm value s
  | .shelve host point => Sys2Proof.Machine.execShelve host point s
  | .unshelve host point => Sys2Proof.Machine.execUnshelve host point s
  | .oosOn host point => Sys2Proof.Machine.execOosOn host point s
  | .oosOff host point => Sys2Proof.Machine.execOosOff host point s
  | .ackInput => Sys2Proof.Machine.execAckInput s
  | .silenceInput => Sys2Proof.Machine.execSilenceInput s
  | .groupRearm host => Sys2Proof.Machine.execGroupRearm host s
  | .maxexpClr host => Sys2Proof.Machine.execMaxexpClr host s
  | .eccScrub corrected => Sys2Proof.Machine.execEccScrub corrected s
  | .eccUncorrectable secondOk points records groups index => Sys2Proof.Machine.execEccUncorrectable secondOk points s records groups index
  | .rowRestored array => Sys2Proof.Machine.execRowRestored s array
  | .egressHoldExpiry => Sys2Proof.Machine.execEgressHoldExpiry s
  | .stageTimerExpiry cls => Sys2Proof.Machine.execStageTimerExpiry cls s
  | .attendExpiry cls => Sys2Proof.Machine.execAttendExpiry cls s
  | .callRefresh => Sys2Proof.Machine.execCallRefresh s
  | .unitFrameTimer => Sys2Proof.Machine.execUnitFrameTimer s
  | .unitTimeout unit => Sys2Proof.Machine.execUnitTimeout unit s
  | .unitAcceptInput unit => Sys2Proof.Machine.execUnitAcceptInput unit s
  | .callFrameReceive frame => Sys2Proof.Machine.execCallFrameReceive frame s
  | .callCancel host cls => Sys2Proof.Machine.execCallCancel host cls s
  | .dmDisarm host => Sys2Proof.Machine.execDmDisarm host s
  | .dmOnInput => Sys2Proof.Machine.execDmOnInput s
  | .dmResetInput => Sys2Proof.Machine.execDmResetInput s
  | .dmOffInput => Sys2Proof.Machine.execDmOffInput s
  | .dmPrewarn => Sys2Proof.Machine.execDmPrewarn s
  | .dmExpired => Sys2Proof.Machine.execDmExpired s
  | .imgBegin host => Sys2Proof.Machine.execImgBegin host s
  | .imgEraseDone ok => Sys2Proof.Machine.execImgEraseDone ok s
  | .imgData host value => Sys2Proof.Machine.execImgData host value s
  | .imgEnd host readOk trip => Sys2Proof.Machine.execImgEnd host s readOk trip
  | .imgCopy1Written array => Sys2Proof.Machine.execImgCopy1Written s array
  | .imgAbort host => Sys2Proof.Machine.execImgAbort host s
  | .keyProgram host value => Sys2Proof.Machine.execKeyProgram host value s
  | .keyRevoke host value => Sys2Proof.Machine.execKeyRevoke host value s
  | .authReqSet host value => Sys2Proof.Machine.execAuthReqSet host value s
  | .ttInstall host slot => Sys2Proof.Machine.execTtInstall host slot s
  | .ttInstallDone => Sys2Proof.Machine.execTtInstallDone s
  | .ttRequest host tt => Sys2Proof.Machine.execTtRequest host tt s
  | .modeFrameReceive frame => Sys2Proof.Machine.execModeFrameReceive frame s
  | .ttSwitchApply => Sys2Proof.Machine.execTtSwitchApply s
  | .canFrameReceived seg frame ran => Sys2Proof.Machine.execCanFrameReceived seg frame s ran
  | .rxRelease host seg mbx => Sys2Proof.Machine.execRxRelease host seg mbx s
  | .txRequest host seg mask ran => Sys2Proof.Machine.execTxRequest host seg mask s ran
  | .txCancel host seg mask ran => Sys2Proof.Machine.execTxCancel host seg mask s ran
  | .txAttemptEnd seg mbx outcome overload ran => Sys2Proof.Machine.execTxAttemptEnd seg mbx outcome s overload ran
  | .boffHoldExpiry seg => Sys2Proof.Machine.execBoffHoldExpiry seg s
  | .busOffRecovered seg => Sys2Proof.Machine.execBusOffRecovered seg s
  | .recStart host seg => Sys2Proof.Machine.execRecStart host seg s
  | .matrixSlotStart seg => Sys2Proof.Machine.execMatrixSlotStart seg s
  | .rxExpectationCheck seg => Sys2Proof.Machine.execRxExpectationCheck seg s
  | .fbCommitForce seg => Sys2Proof.Machine.execFbCommitForce seg s
  | .integrationComplete seg ran => Sys2Proof.Machine.execIntegrationComplete seg s ran
  | .detect host seg => Sys2Proof.Machine.execDetect host seg s
  | .detectCandidateTimeout seg error => Sys2Proof.Machine.execDetectCandidateTimeout seg error s
  | .fbSleep host seg => Sys2Proof.Machine.execFbSleep host seg s
  | .fbWake host seg => Sys2Proof.Machine.execFbWake host seg s
  | .wakePattern seg => Sys2Proof.Machine.execWakePattern seg s
  | .phyPoll port phy => Sys2Proof.Machine.execPhyPoll port phy s
  | .mdioAccess host value => Sys2Proof.Machine.execMdioAccess host value s
  | .mdioComplete data => Sys2Proof.Machine.execMdioComplete data s
  | .syncSend port => Sys2Proof.Machine.execSyncSend port s
  | .syncReceive port frame => Sys2Proof.Machine.execSyncReceive port frame s
  | .faultyRecovery port => Sys2Proof.Machine.execFaultyRecovery port s
  | .frameReceive port frame fcsOk endRead => Sys2Proof.Machine.execFrameReceive port frame fcsOk s endRead
  | .hopAckReceive port frame => Sys2Proof.Machine.execHopAckReceive port frame s
  | .hopRetransmit port => Sys2Proof.Machine.execHopRetransmit port s
  | .hopLastingFault port => Sys2Proof.Machine.execHopLastingFault port s
  | .streamHoldExpiry origin => Sys2Proof.Machine.execStreamHoldExpiry origin s
  | .ceilWriteDone okA okB tripA tripB => Sys2Proof.Machine.execCeilWriteDone okA okB s tripA tripB
  | .censusRoundStart ring => Sys2Proof.Machine.execCensusRoundStart ring s
  | .censusMasterTakeover ring => Sys2Proof.Machine.execCensusMasterTakeover ring s
  | .censusFrameReceive port frame => Sys2Proof.Machine.execCensusFrameReceive port frame s
  | .censusRoundComplete ring => Sys2Proof.Machine.execCensusRoundComplete ring s
  | .membershipInterval => Sys2Proof.Machine.execMembershipInterval s
  | .replaySend => Sys2Proof.Machine.execReplaySend s
  | .remoteAckCommand host value => Sys2Proof.Machine.execRemoteAckCommand host value s
  | .forgetNode host node => Sys2Proof.Machine.execForgetNode host node s
  | .forgetAllLost host => Sys2Proof.Machine.execForgetAllLost host s
  | .rcfgBegin host node => Sys2Proof.Machine.execRcfgBegin host node s
  | .rcfgStage host node slot => Sys2Proof.Machine.execRcfgStage host node slot s
  | .rcfgEnd host node => Sys2Proof.Machine.execRcfgEnd host node s
  | .rcfgAbort host node => Sys2Proof.Machine.execRcfgAbort host node s
  | .rcfgInstall host node slot => Sys2Proof.Machine.execRcfgInstall host node slot s
  | .rcfgData host value => Sys2Proof.Machine.execRcfgData host value s
  | .rcfgResultReceive frame => Sys2Proof.Machine.execRcfgResultReceive frame s
  | .rcfgTimeout => Sys2Proof.Machine.execRcfgTimeout s
  | .configFrameReceive frame endRead => Sys2Proof.Machine.execConfigFrameReceive frame s endRead
  | .safetyCycle ch => Sys2Proof.Machine.execSafetyCycle ch s
  | .safetyInputSample ch levels => Sys2Proof.Machine.execSafetyInputSample ch levels s
  | .testPulseCheck ch tp levels => Sys2Proof.Machine.execTestPulseCheck ch tp levels s
  | .outputDarkTest ch out fed => Sys2Proof.Machine.execOutputDarkTest ch out fed s
  | .sackStuck sack => Sys2Proof.Machine.execSackStuck sack s
  | .parcelReceive parcel => Sys2Proof.Machine.execParcelReceive parcel s
  | .chainInputChange a b => Sys2Proof.Machine.execChainInputChange a b s
  | .chainDarkPulse ch ok => Sys2Proof.Machine.execChainDarkPulse ch ok s
  | .chainEstablishTimeout => Sys2Proof.Machine.execChainEstablishTimeout s
  | .sealChange code we seenB => Sys2Proof.Machine.execSealChange code we s seenB
  | .configSelection readB => Sys2Proof.Machine.execConfigSelection s readB
  | .safetyCfgBegin host slot => Sys2Proof.Machine.execSafetyCfgBegin host slot s
  | .safetyCfgEraseDone ok => Sys2Proof.Machine.execSafetyCfgEraseDone ok s
  | .safetyCfgData host value => Sys2Proof.Machine.execSafetyCfgData host value s
  | .safetyCfgEnd host readB => Sys2Proof.Machine.execSafetyCfgEnd host s readB
  | .safetyCfgAbort host => Sys2Proof.Machine.execSafetyCfgAbort host s
  | .logRecordWrite outcome => Sys2Proof.Machine.execLogRecordWrite outcome s
  | .summaryEmit code => Sys2Proof.Machine.execSummaryEmit code s
  | .logFreeze host => Sys2Proof.Machine.execLogFreeze host s
  | .logUnfreeze host => Sys2Proof.Machine.execLogUnfreeze host s
  | .freezeExpiry => Sys2Proof.Machine.execFreezeExpiry s
  | .clrReq host => Sys2Proof.Machine.execClrReq host s
  | .clrCmd host value => Sys2Proof.Machine.execClrCmd host value s
  | .clrKeyExpiry => Sys2Proof.Machine.execClrKeyExpiry s
  | .clearComplete => Sys2Proof.Machine.execClearComplete s
  | .seekKey host => Sys2Proof.Machine.execSeekKey host s
  | .seekFirst host => Sys2Proof.Machine.execSeekFirst host s
  | .seekLast host => Sys2Proof.Machine.execSeekLast host s
  | .gwyAdvance host => Sys2Proof.Machine.execGwyAdvance host s
  | .rtcTick => Sys2Proof.Machine.execRtcTick s
  | .timeLoRead host => Sys2Proof.Machine.execTimeLoRead host s
  | .timeHiRead host => Sys2Proof.Machine.execTimeHiRead host s
  | .shadowReleaseTimeout host => Sys2Proof.Machine.execShadowReleaseTimeout host s
  | .rtcHalt host => Sys2Proof.Machine.execRtcHalt host s
  | .rtcRelease host => Sys2Proof.Machine.execRtcRelease host s
  | .osfClear host => Sys2Proof.Machine.execOsfClear host s
  | .frameBoundary => Sys2Proof.Machine.execFrameBoundary s
  | .rowSlot row => Sys2Proof.Machine.execRowSlot row s
  | .panelTempRead temp => Sys2Proof.Machine.execPanelTempRead temp s
  | .regionRequest host region value => Sys2Proof.Machine.execRegionRequest host region value s
  | .hostwinWrite host value => Sys2Proof.Machine.execHostwinWrite host value s
  | .lamptest host => Sys2Proof.Machine.execLamptest host s
  | .ltStop host => Sys2Proof.Machine.execLtStop host s
  | .lamptestExpiry => Sys2Proof.Machine.execLamptestExpiry s
  | .lamptestInput level => Sys2Proof.Machine.execLamptestInput level s
  | .panelPowerOnDone => Sys2Proof.Machine.execPanelPowerOnDone s
  | .panelPowerOff => Sys2Proof.Machine.execPanelPowerOff s
  | .panelPowerOffDone => Sys2Proof.Machine.execPanelPowerOffDone s
  | .beaconPulse => Sys2Proof.Machine.execBeaconPulse s
  | .aonRetentionLoss => Sys2Proof.Machine.execAonRetentionLoss s
  | .canRxError seg kind eights ran => Sys2Proof.Machine.execCanRxError seg kind s eights ran
  | .blockResetEnd page array => Sys2Proof.Machine.execBlockResetEnd page s array
  | .curveLoadDone => Sys2Proof.Machine.execCurveLoadDone s
  | .keyProgramDone => Sys2Proof.Machine.execKeyProgramDone s
  | .safetyCfgCopyAWritten => Sys2Proof.Machine.execSafetyCfgCopyAWritten s
  | .logMergeDone worn => Sys2Proof.Machine.execLogMergeDone s worn
  | .gwySeekDone host => Sys2Proof.Machine.execGwySeekDone host s

end Sys2Proof.Machine
end

