-- ==== Sys2Proof/Machine/Pins.lean ====
section
/-!
DEFINITION. What the state puts on the node's pins, by the signal groups of R36: channel terminals with their keepers
and bias resistors, field and safety outputs, repeater outputs, panel lines, crossing, field-bus and host signals.
HOSTx_IRQ_N and ALERT_N are `State.irqLow` and `State.alertLow`.
-/

namespace Sys2Proof.Machine

/-- The level of a logic output. `running` is a line that carries a clock or traffic. -/
inductive Level where
  | low | high | highZ | running
deriving DecidableEq, Repr

/-- The "VDD33 absent" column of R36. -/
def State.pinsAbsent (s : State) : Bool := decide (s.phase = .backup)

/-- A block's pins are held as in reset by its class K (R37, R99). -/
def State.pinsHeld (s : State) (page : Nat) : Bool := s.flag (F.hdrPageCtlBlkRst.page page)

/-! Channel terminals (R119, R120, R124, R126 to R131, R136). -/

/-- The four terminals of a channel. -/
inductive Terminal where
  | fp | sp | sn | fn
deriving DecidableEq, Repr

/-- What the node does at a terminal. -/
inductive TermDrive where
  | highZ
  /-- Source X, or Y, drives it: the microamperes set (R126, R132). -/
  | source (y : Bool) (microamp : Nat)
  /-- Source current returns here through R_REF. -/
  | return
  /-- The bridge supply drives it: 2.5 V regulated, or AVDD5 switched (R128). -/
  | supply (avdd5 : Bool)
  /-- It returns to AGND (R128). -/
  | agnd
  /-- The converter measures it, or the potentiostat senses it. -/
  | sense
  /-- The measured terminal is biased through 1 MΩ to 1.25 V (R127). -/
  | senseBiased
  /-- Tied inside to another terminal, with the 1 MΩ bias resistor on it or not (R124, R127). -/
  | tied (other : Terminal) (biased : Bool)
  /-- The converter measures it, and a test current of so many picoamperes pulls it up towards AVDD5 or down towards
  AGND; the 1 MΩ bias resistor is on it or not (R127, R135). -/
  | pulled (up : Bool) (picoamp : Nat) (biased : Bool)
  /-- The check current returns here; the 1 MΩ bias resistor is on it or not (R127, R136). -/
  | checkReturn (biased : Bool)
  /-- The 1 MΩ bias resistor alone (R120). -/
  | bias
  /-- The virtual earth of the group's transimpedance stage, at 1.25 V (R130). -/
  | stage
  /-- The channel's keeper holds it at 1.25 V (R120, R131). -/
  | keeper
  /-- A control amplifier drives it so that SN sits at 1.25 V less this bias in mV (R131). -/
  | counter (millivolt : Int)
  /-- Driven to 1.25 V as a guard (R131). -/
  | guard
deriving DecidableEq, Repr

/-- The terminals may be driven at all: main power present, the node configured and out of STANDBY, the group's block
out of its reset (R36, R37, R120). -/
def State.termsLive (s : State) (c : Nat) : Bool :=
  s.configured && !s.standby && !s.pinsHeld (afgPage (c / 8))

/-- The channel's bias resistor is connected (R119, R120, R127). -/
def State.biasOn (s : State) (c : Nat) : Bool := s.termsLive c && s.flag (F.afgCfg2BiasEn.ch c)

/-- The slot that has a channel selected: from the end of t_mux, and for a loop or cell from the hand-over inside it,
to the slot's end (R121, R122). -/
def State.selectedBy (s : State) (c : Nat) : Option Slot :=
  (s.grp (c / 8)).slot.filter fun sl => sl.ch == c && (sl.stage != .mux || currentMode (s.wiring c))

/-- The channel's keeper holds it: a loop or cell that is not selected (R119, R131). -/
def State.keeperOn (s : State) (c : Nat) : Bool :=
  s.termsLive c && currentMode (s.wiring c) && (s.selectedBy c).isNone

def State.cellBias (s : State) (c : Nat) : Int := signedOf 16 (s.get (F.afgCfg2CellBias.ch c))

/-- A terminal of a channel that is not selected (R120). For a loop with BIAS_EN = 1 the keeper holds SP and the bias
resistor is at SN, and a cell's SN is sensed (DESIGN CHOICE, log entry 105: the table's rows overlap there). -/
def State.idleTerm (s : State) (c : Nat) (t : Terminal) : TermDrive :=
  match s.wiring c, t with
  | 8, .sp => .keeper
  | 9, .fp => .counter (s.cellBias c)
  | 9, .sp => .keeper
  | 9, .sn => .sense
  | 9, .fn => .guard
  | _, .sn => if s.flag (F.afgCfg2BiasEn.ch c) then .bias else .highZ
  | _, _ => .highZ

/-- A terminal of the selected channel, in the phase its slot is in (R124 to R136). DESIGN CHOICE (log entry 109): SN of a
selected 3-wire channel with BIAS_EN = 1 keeps the bias resistor (R126 calls it high-impedance, R142 biased), the check
current is shown as source X's, and the pull at a cell's SN is on while the cell is selected. -/
def State.liveTerm (s : State) (c : Nat) (sl : Slot) (t : Terminal) : TermDrive :=
  let i := 10 * s.get (F.afgCfg0Exc.ch c)
  let biased := s.flag (F.afgCfg2BiasEn.ch c)
  let sn : TermDrive := if biased then .senseBiased else .sense
  let checking := s.checks c && sl.stage == .settle && !sl.checkDone
  match s.wiring c, t with
  | 1, .fp => .source false i
  | 1, .fn => .return
  | 1, .sp => .tied .fp false
  | 1, .sn => .tied .fn biased
  | 2, .fp => .source (sl.phase != 1) i
  | 2, .sp => .source (sl.phase == 1) i
  | 2, .fn => .return
  | 3, .fp => .source false i
  | 3, .fn => .return
  | 4, .fp => if sl.phase = 1 then .source false i else .return
  | 4, .fn => if sl.phase = 1 then .return else .source false i
  | 3, .sp | 4, .sp | 6, .sp => .pulled true 10000 false
  | 3, .sn | 4, .sn | 6, .sn => .pulled false 10000 biased
  | 5, .sp => if checking then .source false 10 else .sense
  | 5, .sn => if checking then .checkReturn biased else sn
  | 6, .fp => .supply (s.get (F.afgCfg0Range.ch c) == 1)
  | 6, .fn => .agnd
  | 7, .sp => if checking then .source false 10 else .sense
  | 7, .sn => if checking then .checkReturn biased else sn
  | 8, .sp => .stage
  | 9, .fp => .counter (s.cellBias c)
  | 9, .sp => .stage
  | 9, .sn => .pulled false 100 false
  | 9, .fn => .guard
  | 0, .sn => s.idleTerm c .sn
  | 2, .sn => s.idleTerm c .sn
  | 8, .sn => s.idleTerm c .sn
  | _, .sp => .sense
  | _, .sn => sn
  | _, _ => .highZ

/-- What the node does at a terminal of channel `c`. -/
def State.terminal (s : State) (c : Nat) (t : Terminal) : TermDrive :=
  if !s.termsLive c then .highZ
  else match s.selectedBy c with
    | some sl => s.liveTerm c sl t
    | none => s.idleTerm c t

/-! Field outputs (R177 to R180) and repeater outputs (R171 to R173). -/

/-- DO*k* conducts: DO_NOW, with VFIELD and VDD33 present (R36, R38). -/
def State.doPin (s : State) (k : Nat) : Bool := !s.pinsAbsent && !s.doDead && (s.get F.dioDoNowOn).testBit k

/-- The form of a repeater output. -/
inductive RepPin where
  | off
  /-- PWM: timed by LFXO or HFXO, clocks per period, clocks of them conducting. -/
  | pwm (lfxo : Bool) (period on : Nat)
  /-- A square wave of 50 % duty: timed by LFXO or HFXO, clocks per period. -/
  | square (lfxo : Bool) (period : Nat)
deriving DecidableEq, Repr

/-- To the nearest whole number, halves up: the spec states no direction (DESIGN CHOICE, log entry 102). -/
def nearest (n d : Nat) : Nat := (2 * n + d) / (2 * d)

/-- RP*n* (R171, R173): without HFXO, PWM runs at 128 Hz in steps of 1/256 and a square wave has its period in whole
LFXO periods. -/
def State.repPin (s : State) (n : Nat) : RepPin :=
  let v := s.get (F.repStatNow.idx n)
  let lf := s.flag (F.repStatLf.idx n)
  if s.repDead || s.pinsAbsent || v == 0 then .off
  else match s.get (F.repCfgMode.idx n) with
    | 1 =>
      if lf then .pwm true 256 (nearest (v * 256) 10000)
      else
        let p := nearest 25000000 (s.get (F.repCarrierCarrier.idx n))
        .pwm false p (nearest (v * p) 10000)
    | 2 => if lf then .square true (nearest 3276800 v) else .square false (nearest 2500000000 v)
    | _ => .off

/-! Safety outputs (R2, R36, R37, R383, R391, R401). -/

/-- The safety outputs may be driven: a part with the safety functions, VFIELD present, out of the "Reset" column but
in a reset of class S, and SAFE and SEAL out of their block resets. -/
def State.safePinsLive (s : State) : Bool :=
  s.part.safety && (s.configured || (s.phase == .starting && s.rst.cls == .s)) && !s.flag F.pwrStatVfieldFail
    && !s.pinsHeld 0x070 && !s.pinsHeld 0x071

/-- Wire A or B of safe output pair `m` is on; it is off for the 0.4 ms of its dark test (R393). -/
def State.soPin (s : State) (ch : SafetyCh) (m : Nat) : Bool :=
  s.safePinsLive && match ch with
    | .a => s.safe.chA.wireOn m && !s.safe.chA.isDark m
    | .b => s.safe.chB.wireOn m && !s.safe.chB.isDark m

/-- CHN_OA and CHN_OB. -/
def State.chnPin (s : State) (ch : SafetyCh) : Bool :=
  s.safePinsLive && match ch with
    | .a => s.chainOut s.safe.chA s.safe.chnA
    | .b => s.chainOut s.safe.chB s.safe.chnB

/-- TP*k* is on but for its dark pulse of 0.3 ms, which starts 10·k ms into each 40 ms of channel B's time, counted in
samples of 0.1 ms (R383). -/
def State.tpPin (s : State) (k : Nat) : Bool :=
  let t := s.safe.chB.t % 400
  s.safePinsLive && !(decide (100 * k ≤ t) && decide (t < 100 * k + 3))

/-! Panel lines (R36, R465, R467). -/

/-- What the row and column lines do as a whole; a lit panel's slots are its `Output.row`s. -/
inductive PanelLines where
  /-- Rows off and columns high-impedance. -/
  | off
  /-- Rows off, columns at precharge. -/
  | discharge
  | frames
  /-- Off but for the beacon's row and columns in its pulses. -/
  | beacon
deriving DecidableEq, Repr

def State.panelLines (s : State) : PanelLines :=
  if s.pinsAbsent || s.flag F.pwrStatVledFail then .off
  else if s.standby then (if s.flag F.lanStatBeacon then .beacon else .off)
  else match s.panel.pwr with
    | .dark => .off
    | .rising => .discharge
    | .falling => .discharge
    | .lit => .frames

/-! Crossing and field-bus signals (R36, R71, R74, R75, R313, R319, R320). -/

/-- XP*n*_TXD, TX_CTL and TXC. -/
def State.xpTxPin (s : State) (n : Nat) : Level :=
  if s.pinsAbsent then .highZ else if s.xpMay n then .running else .low

/-- PHY management is in use: an enabled port is polled, or the host's access runs (R319). A reset of class K of XNET leaves
XMDC, XMDIO and XPHY_RST_N running, as R37's table names no block for them (DESIGN CHOICE, log entry 106). -/
def State.mdioBusy (s : State) : Bool :=
  s.configured && !s.standby && (s.flag F.xnetMdioGo || allPorts.any fun n => s.xpMay n)

def State.xmdcPin (s : State) : Level := if s.pinsAbsent then .highZ else if s.mdioBusy then .running else .low

/-- XMDIO is open-drain: released between accesses. -/
def State.xmdioPin (s : State) : Level := if !s.pinsAbsent && s.mdioBusy then .running else .highZ

def State.xphyRstPin (s : State) : Level :=
  if s.pinsAbsent then .highZ else if s.pwr.phyReset || s.standby || !s.configured then .low else .high

def State.clko25Pin (s : State) : Level :=
  if s.pinsAbsent then .highZ else if s.clko25Runs then .running else .low

/-- FB*n*_STB: low while the segment is enabled and awake, outside STANDBY (R313). -/
def State.stbPin (s : State) (n : Nat) : Level :=
  if s.pinsAbsent then .highZ else if s.fbLive n && !s.asleep n then .low else .high

/-- FB*n*_TXD: recessive but while a frame is sent on the bus; in loop-back none is (R311, R313). -/
def State.txdPin (s : State) (n : Nat) : Level :=
  if s.pinsAbsent then .highZ else if s.fbOn n && (s.seg n).tx.isSome && s.opmode n != 2 then .running else .high

end Sys2Proof.Machine
end

