-- ==== Sys2Proof/WellFormed.lean ====
section
/-!
DEFINITION. Which commands are well formed: the operands name objects of the block. Four rows carry an operand
that can name none (log entry 7); every other operand is of a type whose values all name one.
-/

namespace Sys2Proof

/-- A call unit's number: 0 to 62 (R247). -/
def unitOk (u : BitVec 6) : Bool := u != 63

/-- An UNMAPPED_ACCESS is at an address that is unmapped or misaligned (R92). -/
def unmappedOk (a : BitVec 24) : Bool := !(Machine.mappedAddr a.toNat && a.toNat % 4 == 0)

/-- A HOST_BAD_CMD carries a byte that R102 does not define. -/
def badCmdOk (c : Byte) : Bool := !Machine.hostCommands.contains c

/-- The command's operands name objects of the block. -/
def Instr.wf (i : Instr) : Bool :=
  match i with
  | .unitTimeout u => unitOk u
  | .unitAcceptInput u => unitOk u
  | .unmappedAccess _ a => unmappedOk a
  | .hostBadCmd _ c _ => badCmdOk c
  | .tideTick .. => true
  | .tickSourceToLfrc => true
  | .tickSourceToLfxo => true
  | .engineWake => true
  | .enginePllChangeover => true
  | .enginePass => true
  | .supplyCoreFail .. => true
  | .avdd5Fail => true
  | .avdd5Recover => true
  | .vfieldFail => true
  | .vfieldRecover => true
  | .vledFail => true
  | .vledRecover => true
  | .vdd33Warn .. => true
  | .dipEnd .. => true
  | .nvmGateOpen .. => true
  | .lockout => true
  | .lockoutRelease => true
  | .vdd33ResetFall .. => true
  | .backupSwitch => true
  | .backupReturn => true
  | .startUp .. => true
  | .bootRepair => true
  | .svcMirror .. => true
  | .mirrorNow .. => true
  | .vbatCheck .. => true
  | .hfxoFail => true
  | .hfxoRetry .. => true
  | .frcRetrim => true
  | .pllLock .. => true
  | .pllUnlock .. => true
  | .dozeEntry => true
  | .standbyRequest .. => true
  | .standbyEnter .. => true
  | .standbyWakeHost .. => true
  | .diWake .. => true
  | .standbyExit => true
  | .phyResetRelease => true
  | .resetButtonArm => true
  | .pinReset => true
  | .buttonStuck => true
  | .watchdogReset .. => true
  | .softReset .. => true
  | .blockReset .. => true
  | .registerWrite .. => true
  | .windowWrite .. => true
  | .stageWrite .. => true
  | .pageCommit .. => true
  | .commitApply .. => true
  | .pageLock .. => true
  | .evtClear .. => true
  | .evtForce .. => true
  | .hostRead .. => true
  | .hostWrite .. => true
  | .hostReread .. => true
  | .hostStatus .. => true
  | .hostIdent .. => true
  | .hostModeReset .. => true
  | .hostModeWrite .. => true
  | .ownOffer .. => true
  | .ownTake .. => true
  | .offerTimeout => true
  | .ownClaim .. => true
  | .ownKeep .. => true
  | .claimTransfer => true
  | .burstStart => true
  | .hfxoPrestart => true
  | .tsRead .. => true
  | .slotStart .. => true
  | .excitationOn .. => true
  | .checkCurrentEnd .. => true
  | .conversionStart .. => true
  | .monitorMeasure .. => true
  | .phaseComplete .. => true
  | .slotEnd .. => true
  | .resultLinearise .. => true
  | .rangeOverload .. => true
  | .fastOutput .. => true
  | .fastMonitor .. => true
  | .curveLoad .. => true
  | .repPeriodBoundary .. => true
  | .diSample .. => true
  | .diChangeAccept .. => true
  | .diFreqSample .. => true
  | .doSet .. => true
  | .doOverload .. => true
  | .doOverloadRetry .. => true
  | .runhrsTimer .. => true
  | .cntLoad .. => true
  | .manOpen .. => true
  | .manOpenApply => true
  | .manClose .. => true
  | .editCloseApply => true
  | .editAutoClose => true
  | .stalenessExpiry .. => true
  | .delayExpiry .. => true
  | .runupExpiry .. => true
  | .shelveExpiry .. => true
  | .escalationExpiry .. => true
  | .forceAll .. => true
  | .peakClr .. => true
  | .ackPoint .. => true
  | .silencePoint .. => true
  | .ackGroup .. => true
  | .silenceAll .. => true
  | .ackAll .. => true
  | .opcmdUndefined .. => true
  | .shelve .. => true
  | .unshelve .. => true
  | .oosOn .. => true
  | .oosOff .. => true
  | .ackInput => true
  | .silenceInput => true
  | .groupRearm .. => true
  | .maxexpClr .. => true
  | .eccScrub .. => true
  | .eccUncorrectable .. => true
  | .rowRestored .. => true
  | .egressHoldExpiry => true
  | .stageTimerExpiry .. => true
  | .attendExpiry .. => true
  | .callRefresh => true
  | .unitFrameTimer => true
  | .callFrameReceive .. => true
  | .callCancel .. => true
  | .dmDisarm .. => true
  | .dmOnInput => true
  | .dmResetInput => true
  | .dmOffInput => true
  | .dmPrewarn => true
  | .dmExpired => true
  | .imgBegin .. => true
  | .imgEraseDone .. => true
  | .imgData .. => true
  | .imgEnd .. => true
  | .imgCopy1Written .. => true
  | .imgAbort .. => true
  | .keyProgram .. => true
  | .keyRevoke .. => true
  | .authReqSet .. => true
  | .ttInstall .. => true
  | .ttInstallDone => true
  | .ttRequest .. => true
  | .modeFrameReceive .. => true
  | .ttSwitchApply => true
  | .canFrameReceived .. => true
  | .rxRelease .. => true
  | .txRequest .. => true
  | .txCancel .. => true
  | .txAttemptEnd .. => true
  | .boffHoldExpiry .. => true
  | .busOffRecovered .. => true
  | .recStart .. => true
  | .matrixSlotStart .. => true
  | .rxExpectationCheck .. => true
  | .fbCommitForce .. => true
  | .integrationComplete .. => true
  | .detect .. => true
  | .detectCandidateTimeout .. => true
  | .fbSleep .. => true
  | .fbWake .. => true
  | .wakePattern .. => true
  | .phyPoll .. => true
  | .mdioAccess .. => true
  | .mdioComplete .. => true
  | .syncSend .. => true
  | .syncReceive .. => true
  | .faultyRecovery .. => true
  | .frameReceive .. => true
  | .hopAckReceive .. => true
  | .hopRetransmit .. => true
  | .hopLastingFault .. => true
  | .streamHoldExpiry .. => true
  | .ceilWriteDone .. => true
  | .censusRoundStart .. => true
  | .censusMasterTakeover .. => true
  | .censusFrameReceive .. => true
  | .censusRoundComplete .. => true
  | .membershipInterval => true
  | .replaySend => true
  | .remoteAckCommand .. => true
  | .forgetNode .. => true
  | .forgetAllLost .. => true
  | .rcfgBegin .. => true
  | .rcfgStage .. => true
  | .rcfgEnd .. => true
  | .rcfgAbort .. => true
  | .rcfgInstall .. => true
  | .rcfgData .. => true
  | .rcfgResultReceive .. => true
  | .rcfgTimeout => true
  | .configFrameReceive .. => true
  | .safetyCycle .. => true
  | .safetyInputSample .. => true
  | .testPulseCheck .. => true
  | .outputDarkTest .. => true
  | .sackStuck .. => true
  | .parcelReceive .. => true
  | .chainInputChange .. => true
  | .chainDarkPulse .. => true
  | .chainEstablishTimeout => true
  | .sealChange .. => true
  | .configSelection .. => true
  | .safetyCfgBegin .. => true
  | .safetyCfgEraseDone .. => true
  | .safetyCfgData .. => true
  | .safetyCfgEnd .. => true
  | .safetyCfgAbort .. => true
  | .logRecordWrite .. => true
  | .summaryEmit .. => true
  | .logFreeze .. => true
  | .logUnfreeze .. => true
  | .freezeExpiry => true
  | .clrReq .. => true
  | .clrCmd .. => true
  | .clrKeyExpiry => true
  | .clearComplete => true
  | .seekKey .. => true
  | .seekFirst .. => true
  | .seekLast .. => true
  | .gwyAdvance .. => true
  | .rtcTick => true
  | .timeLoRead .. => true
  | .timeHiRead .. => true
  | .shadowReleaseTimeout .. => true
  | .rtcHalt .. => true
  | .rtcRelease .. => true
  | .osfClear .. => true
  | .frameBoundary => true
  | .rowSlot .. => true
  | .panelTempRead .. => true
  | .regionRequest .. => true
  | .hostwinWrite .. => true
  | .lamptest .. => true
  | .ltStop .. => true
  | .lamptestExpiry => true
  | .lamptestInput .. => true
  | .panelPowerOnDone => true
  | .panelPowerOff => true
  | .panelPowerOffDone => true
  | .beaconPulse => true
  | .aonRetentionLoss => true
  | .canRxError .. => true
  | .blockResetEnd .. => true
  | .curveLoadDone => true
  | .keyProgramDone => true
  | .safetyCfgCopyAWritten => true
  | .logMergeDone .. => true
  | .gwySeekDone .. => true

end Sys2Proof
end

