-- ==== Sys2Proof/Safety.lean ====
section
/-!
DEFINITION. What a safe run is: every step answers a next state, and the block's memories keep their canonical
form.
-/

namespace Sys2Proof.Machine

/-- The block's memories are in canonical form: keys strictly rising, nothing listed that an unlisted key reads as.
Registers (R93, R10), the copies kept per host (R116), the windows of R90, the NOR flash (R262). -/
structure State.Canonical (s : State) : Prop where
  regs : Sparse.wf regDefault s.regs = true
  regsA : Sparse.wf regDefault s.regsA = true
  regsB : Sparse.wf regDefault s.regsB = true
  win : Sparse.wf winDefault s.win = true
  nor : Sparse.wf norDefault s.nor = true

/-- Bit `bit` of EVT_RAW of a page is set (R94). -/
def State.raised (s : State) (page bit : Nat) : Bool := getBit (s.reg (page * 0x1000 + 0x00C)) bit

/-- A host's write of the word `v` to the register at `a` meets none of the checks of R11, R96 and R98, and acts at
once with the fields `m` (R10: the others of its fields are left alone without a fault). -/
structure Passes (h : HostId) (a : Nat) (v m : Word) (s : State) : Prop where
  answers : s.answers = true
  fitted : s.notFitted (a / 0x1000) = false
  page : pageCheck h a s = none
  known : (regRow a).isSome = true
  fields : judgeWord h a v s = (m, 0)
  direct : stageModeBits a s = 0

/-- What no command touches: the queue of waiting commands and the part fitted (R1, R5). -/
structure Untouched (s t : State) : Prop where
  pending : t.pending = s.pending
  part : t.part = s.part

/-- A run of `k` steps from a state neither faults nor refuses. -/
def safeRun : Nat → State → Prop
  | 0, _ => True
  | k + 1, s => ∃ t, step s = .next t ∧ safeRun k t

end Sys2Proof.Machine
end

