-- ==== Sys2Proof/Certificates/Slice0/Obligations.lean ====
section
/-!
DEFINITION. The statements for the provers. `Passes h a v m s` of Sys2Proof/Safety.lean: a host's write meets no check.
-/

open Sys2Proof Sys2Proof.Machine

namespace Sys2Proof.Machine

/-- A write that can reach any register, the commands of every page header, and a commit. -/
def generalWrite (c : Instr) : Bool :=
  match c with
  | .commitApply .. | .blockReset .. | .stageWrite .. | .pageCommit .. | .pageLock .. | .evtClear ..
  | .evtForce .. | .registerWrite .. | .windowWrite .. | .hostWrite .. => true
  | _ => false

/-- A reset of the node or of a block, and a start. -/
def restarts (c : Instr) : Bool :=
  match c with
  | .vdd33ResetFall .. | .supplyCoreFail .. | .watchdogReset .. | .pinReset | .softReset .. | .startUp ..
  | .imgCopy1Written .. | .blockResetEnd .. => true
  | _ => false

/-- The commands that may change a byte of the NOR flash. -/
def writesNor (c : Instr) : Bool :=
  match c with
  | .imgData .. | .imgBegin .. | .imgEnd .. | .imgAbort .. | .bootRepair | .safetyCfgBegin .. | .safetyCfgEnd ..
  | .safetyCfgAbort .. | .safetyCfgEraseDone .. | .safetyCfgData .. | .safetyCfgCopyAWritten
  | .configSelection .. | .ceilWriteDone .. | .streamHoldExpiry .. | .frameReceive .. | .configFrameReceive ..
  | .imgEraseDone .. | .ttInstallDone | .nvmGateOpen .. | .startUp .. | .imgCopy1Written .. | .blockResetEnd ..
  | .commitApply .. | .blockReset .. | .stageWrite .. | .pageCommit .. | .pageLock .. | .evtClear ..
  | .evtForce .. | .registerWrite .. | .windowWrite .. | .hostWrite .. => true
  | _ => false

/-- The commands that may change a byte of a window. -/
def writesWindows (c : Instr) : Bool :=
  match c with
  | .slotEnd .. | .fastOutput .. | .repPeriodBoundary .. | .rxRelease .. | .txAttemptEnd ..
  | .canFrameReceived .. | .canRxError .. | .matrixSlotStart .. | .rxExpectationCheck ..
  | .integrationComplete .. | .fbCommitForce .. | .frameBoundary | .panelPowerOnDone | .panelPowerOffDone
  | .ttSwitchApply | .enginePass | .stalenessExpiry .. | .delayExpiry .. | .runupExpiry .. | .shelveExpiry ..
  | .escalationExpiry .. | .runhrsTimer .. | .forceAll .. | .peakClr .. | .editCloseApply | .editAutoClose
  | .ackPoint .. | .silencePoint .. | .ackGroup .. | .silenceAll .. | .ackAll .. | .shelve .. | .unshelve ..
  | .oosOn .. | .oosOff .. | .opcmdUndefined .. | .ackInput | .silenceInput | .eccUncorrectable ..
  | .egressHoldExpiry | .rowRestored .. | .ceilWriteDone .. | .streamHoldExpiry .. | .frameReceive ..
  | .remoteAckCommand .. | .configFrameReceive .. | .ownTake .. | .claimTransfer | .standbyEnter ..
  | .standbyExit | .vdd33ResetFall .. | .supplyCoreFail .. | .watchdogReset .. | .pinReset | .softReset ..
  | .startUp .. | .imgCopy1Written .. | .blockResetEnd .. | .commitApply .. | .blockReset .. | .stageWrite ..
  | .pageCommit .. | .pageLock .. | .evtClear .. | .evtForce .. | .registerWrite .. | .windowWrite ..
  | .hostWrite .. => true
  | _ => false

/-- The commands that act on the ownership, beside general writes and restarts. -/
def forOwnership (c : Instr) : Bool :=
  match c with
  | .ownOffer .. | .ownClaim .. | .ownKeep .. | .ownTake .. | .offerTimeout | .claimTransfer => true
  | _ => false

/-- The commands that act on a host port's buffer and answer, beside general writes and restarts. -/
def forPorts (c : Instr) : Bool :=
  match c with
  | .hostRead .. | .hostReread .. | .hostStatus .. | .hostIdent .. | .hostBadCmd .. | .hostModeReset .. => true
  | _ => false

/-- The commands that act on the RTC's hidden state and shadows, beside general writes and restarts. -/
def forRtc (c : Instr) : Bool :=
  match c with
  | .rtcTick | .shadowReleaseTimeout .. | .rtcHalt .. | .rtcRelease .. | .tickSourceToLfrc | .lockout
  | .timeLoRead .. | .timeHiRead .. | .hostRead .. => true
  | _ => false

/-- The commands that act on the safety channels, beside general writes and restarts. -/
def forSafety (c : Instr) : Bool :=
  match c with
  | .sealChange .. | .safetyInputSample .. | .safetyCycle .. | .testPulseCheck .. | .outputDarkTest ..
  | .sackStuck .. | .parcelReceive .. | .chainInputChange .. | .chainDarkPulse .. | .chainEstablishTimeout
  | .safetyCfgBegin .. | .safetyCfgEnd .. | .safetyCfgAbort .. | .safetyCfgEraseDone .. | .safetyCfgData ..
  | .safetyCfgCopyAWritten | .configSelection .. | .ceilWriteDone .. | .streamHoldExpiry .. | .frameReceive ..
  | .ownTake .. | .claimTransfer | .vfieldFail | .vfieldRecover => true
  | _ => false

/-- The commands that act on the field-bus segments, beside general writes and restarts. -/
def forSegments (c : Instr) : Bool :=
  match c with
  | .rxRelease .. | .txRequest .. | .txCancel .. | .txAttemptEnd .. | .canFrameReceived .. | .canRxError ..
  | .matrixSlotStart .. | .rxExpectationCheck .. | .integrationComplete .. | .busOffRecovered .. | .fbSleep ..
  | .recStart .. | .detect .. | .fbWake .. | .detectCandidateTimeout .. | .wakePattern .. | .fbCommitForce ..
  | .ttSwitchApply | .ownTake .. | .claimTransfer | .hfxoFail | .hfxoRetry .. | .pllLock .. | .pllUnlock ..
  | .burstStart | .standbyEnter .. | .standbyExit => true
  | _ => false

/-- The commands that act on the sensor front end, beside general writes and restarts. -/
def forChannels (c : Instr) : Bool :=
  match c with
  | .slotStart .. | .excitationOn .. | .checkCurrentEnd .. | .conversionStart .. | .monitorMeasure ..
  | .phaseComplete .. | .slotEnd .. | .resultLinearise .. | .rangeOverload .. | .fastOutput .. | .fastMonitor ..
  | .tsRead .. | .curveLoad .. | .curveLoadDone | .ttSwitchApply | .rowRestored .. | .hfxoFail | .pllUnlock ..
  | .burstStart | .avdd5Fail | .standbyEnter .. | .standbyExit => true
  | _ => false

/-- The commands that act on the supplies and the always-on domain, beside general writes and restarts. -/
def forSupplies (c : Instr) : Bool :=
  match c with
  | .rtcTick | .rtcHalt .. | .rtcRelease .. | .phyResetRelease | .manOpen .. | .manClose .. | .cntLoad ..
  | .shelve .. | .unshelve .. | .oosOn .. | .oosOff .. | .opcmdUndefined .. | .rowRestored ..
  | .tickSourceToLfrc | .tideTick .. | .svcMirror .. | .vdd33Warn .. | .nvmGateOpen .. | .lockout
  | .lockoutRelease | .backupSwitch | .backupReturn | .aonRetentionLoss | .mirrorNow .. | .standbyRequest ..
  | .standbyWakeHost .. | .standbyEnter .. | .diWake .. | .standbyExit => true
  | _ => false

/-- The commands that act on census, membership and configuration transfers, beside general writes and restarts. -/
def forCrossing (c : Instr) : Bool :=
  match c with
  | .syncReceive .. | .hopAckReceive .. | .ackPoint .. | .silencePoint .. | .ackGroup .. | .silenceAll ..
  | .ackAll .. | .opcmdUndefined .. | .rowRestored .. | .ceilWriteDone .. | .streamHoldExpiry ..
  | .censusRoundStart .. | .censusMasterTakeover .. | .censusFrameReceive .. | .censusRoundComplete ..
  | .frameReceive .. | .membershipInterval | .replaySend | .remoteAckCommand .. | .forgetNode ..
  | .forgetAllLost .. | .rcfgBegin .. | .rcfgStage .. | .rcfgEnd .. | .rcfgAbort .. | .rcfgInstall ..
  | .rcfgData .. | .rcfgResultReceive .. | .rcfgTimeout | .configFrameReceive .. | .imgEraseDone ..
  | .ttInstallDone | .standbyEnter .. | .standbyExit => true
  | _ => false

/-- The commands that act on the panel, beside general writes and restarts. -/
def forPanel (c : Instr) : Bool :=
  match c with
  | .frameBoundary | .rowSlot .. | .panelTempRead .. | .regionRequest .. | .hostwinWrite .. | .lamptest ..
  | .ltStop .. | .lamptestExpiry | .lamptestInput .. | .panelPowerOnDone | .panelPowerOff | .panelPowerOffDone
  | .vledFail | .vledRecover | .ttSwitchApply | .enginePass | .stalenessExpiry .. | .delayExpiry ..
  | .runupExpiry .. | .shelveExpiry .. | .escalationExpiry .. | .runhrsTimer .. | .forceAll .. | .peakClr ..
  | .editCloseApply | .editAutoClose | .ackPoint .. | .silencePoint .. | .ackGroup .. | .silenceAll ..
  | .ackAll .. | .shelve .. | .unshelve .. | .oosOn .. | .oosOff .. | .opcmdUndefined .. | .ackInput
  | .silenceInput | .eccUncorrectable .. | .egressHoldExpiry | .rowRestored .. | .ceilWriteDone ..
  | .streamHoldExpiry .. | .frameReceive .. | .remoteAckCommand .. | .ownTake .. | .claimTransfer | .tideTick ..
  | .vdd33Warn .. | .dipEnd .. | .standbyEnter .. | .standbyExit => true
  | _ => false

/-- The commands that act on images, keys and timetables, beside general writes and restarts. -/
def forTimetables (c : Instr) : Bool :=
  match c with
  | .ttSwitchApply | .ttRequest .. | .ttInstall .. | .imgData .. | .imgBegin .. | .imgEnd .. | .imgAbort ..
  | .bootRepair | .keyProgram .. | .keyRevoke .. | .authReqSet .. | .keyProgramDone | .enginePass
  | .stalenessExpiry .. | .delayExpiry .. | .runupExpiry .. | .shelveExpiry .. | .escalationExpiry ..
  | .runhrsTimer .. | .forceAll .. | .peakClr .. | .editCloseApply | .editAutoClose | .ackPoint ..
  | .silencePoint .. | .ackGroup .. | .silenceAll .. | .ackAll .. | .shelve .. | .unshelve .. | .oosOn ..
  | .oosOff .. | .opcmdUndefined .. | .ackInput | .silenceInput | .eccUncorrectable .. | .egressHoldExpiry
  | .rowRestored .. | .safetyCfgBegin .. | .safetyCfgEnd .. | .safetyCfgAbort .. | .safetyCfgEraseDone ..
  | .safetyCfgData .. | .safetyCfgCopyAWritten | .configSelection .. | .ceilWriteDone .. | .streamHoldExpiry ..
  | .frameReceive .. | .modeFrameReceive .. | .remoteAckCommand .. | .configFrameReceive .. | .imgEraseDone ..
  | .ttInstallDone | .ownTake .. | .claimTransfer | .nvmGateOpen .. | .standbyRequest .. | .standbyEnter ..
  | .standbyExit => true
  | _ => false

/-- The commands that act on the calls, beside general writes and restarts. -/
def forCalls (c : Instr) : Bool :=
  match c with
  | .dmOnInput | .dmResetInput | .dmOffInput | .dmPrewarn | .dmExpired | .callCancel .. | .dmDisarm ..
  | .stageTimerExpiry .. | .attendExpiry .. | .callRefresh | .unitTimeout .. | .unitAcceptInput ..
  | .ttSwitchApply | .enginePass | .stalenessExpiry .. | .delayExpiry .. | .runupExpiry .. | .shelveExpiry ..
  | .escalationExpiry .. | .runhrsTimer .. | .forceAll .. | .peakClr .. | .editCloseApply | .editAutoClose
  | .ackPoint .. | .silencePoint .. | .ackGroup .. | .silenceAll .. | .ackAll .. | .shelve .. | .unshelve ..
  | .oosOn .. | .oosOff .. | .opcmdUndefined .. | .ackInput | .silenceInput | .eccUncorrectable ..
  | .egressHoldExpiry | .rowRestored .. | .ceilWriteDone .. | .streamHoldExpiry .. | .frameReceive ..
  | .membershipInterval | .callFrameReceive .. | .modeFrameReceive .. | .remoteAckCommand ..
  | .rcfgResultReceive .. | .configFrameReceive .. | .ownTake .. | .claimTransfer | .hfxoFail | .pllUnlock ..
  | .burstStart | .tideTick .. | .vfieldFail | .vfieldRecover | .lockout | .standbyEnter .. | .standbyExit => true
  | _ => false

/-- The commands that act on the outputs and discrete inputs, beside general writes and restarts. -/
def forOutputs (c : Instr) : Bool :=
  match c with
  | .repPeriodBoundary .. | .doSet .. | .doOverload .. | .doOverloadRetry .. | .diSample .. | .dmOnInput
  | .dmResetInput | .dmOffInput | .dmPrewarn | .dmExpired | .callCancel .. | .dmDisarm .. | .stageTimerExpiry ..
  | .attendExpiry .. | .callRefresh | .unitTimeout .. | .unitAcceptInput .. | .ttSwitchApply | .enginePass
  | .stalenessExpiry .. | .delayExpiry .. | .runupExpiry .. | .shelveExpiry .. | .escalationExpiry ..
  | .runhrsTimer .. | .forceAll .. | .peakClr .. | .editCloseApply | .editAutoClose | .ackPoint ..
  | .silencePoint .. | .ackGroup .. | .silenceAll .. | .ackAll .. | .shelve .. | .unshelve .. | .oosOn ..
  | .oosOff .. | .opcmdUndefined .. | .ackInput | .silenceInput | .eccUncorrectable .. | .egressHoldExpiry
  | .rowRestored .. | .ceilWriteDone .. | .streamHoldExpiry .. | .frameReceive .. | .membershipInterval
  | .callFrameReceive .. | .modeFrameReceive .. | .remoteAckCommand .. | .rcfgResultReceive ..
  | .configFrameReceive .. | .ownTake .. | .claimTransfer | .hfxoFail | .pllUnlock .. | .burstStart
  | .tideTick .. | .vfieldFail | .vfieldRecover | .lockout | .standbyEnter .. | .standbyExit => true
  | _ => false

/-- The commands that act on the point engine, beside general writes and restarts. -/
def forEngine (c : Instr) : Bool :=
  match c with
  | .phaseComplete .. | .slotEnd .. | .resultLinearise .. | .fastOutput .. | .diSample .. | .diChangeAccept ..
  | .diFreqSample .. | .txAttemptEnd .. | .canFrameReceived .. | .canRxError .. | .rxExpectationCheck ..
  | .integrationComplete .. | .fbSleep .. | .recStart .. | .detect .. | .fbWake .. | .wakePattern ..
  | .fbCommitForce .. | .ttSwitchApply | .enginePass | .stalenessExpiry .. | .delayExpiry .. | .runupExpiry ..
  | .shelveExpiry .. | .escalationExpiry .. | .runhrsTimer .. | .forceAll .. | .peakClr .. | .groupRearm ..
  | .manOpen .. | .manClose .. | .cntLoad .. | .manOpenApply | .editCloseApply | .editAutoClose | .ackPoint ..
  | .silencePoint .. | .ackGroup .. | .silenceAll .. | .ackAll .. | .shelve .. | .unshelve .. | .oosOn ..
  | .oosOff .. | .opcmdUndefined .. | .ackInput | .silenceInput | .eccUncorrectable .. | .egressHoldExpiry
  | .rowRestored .. | .sealChange .. | .safetyInputSample .. | .safetyCycle .. | .chainInputChange ..
  | .chainDarkPulse .. | .chainEstablishTimeout | .configSelection .. | .ceilWriteDone .. | .streamHoldExpiry ..
  | .frameReceive .. | .replaySend | .remoteAckCommand .. | .ownTake .. | .claimTransfer | .hfxoFail
  | .hfxoRetry .. | .pllLock .. | .pllUnlock .. | .burstStart | .tideTick .. | .svcMirror .. | .avdd5Fail
  | .vfieldFail | .vfieldRecover | .nvmGateOpen .. | .standbyEnter .. | .standbyExit => true
  | _ => false

/-- The commands that act on the registers kept per host, beside general writes and restarts. -/
def forHostCopies (c : Instr) : Bool :=
  match c with
  | .curveLoad .. | .doSet .. | .callCancel .. | .dmDisarm .. | .rxRelease .. | .txRequest .. | .txCancel ..
  | .fbSleep .. | .recStart .. | .detect .. | .fbWake .. | .regionRequest .. | .hostwinWrite .. | .lamptest ..
  | .ltStop .. | .rtcHalt .. | .rtcRelease .. | .osfClear .. | .mdioAccess .. | .ttRequest .. | .ttInstall ..
  | .imgData .. | .imgBegin .. | .imgEnd .. | .imgAbort .. | .keyProgram .. | .keyRevoke .. | .authReqSet ..
  | .forceAll .. | .peakClr .. | .maxexpClr .. | .groupRearm .. | .manOpen .. | .manClose .. | .cntLoad ..
  | .ackPoint .. | .silencePoint .. | .ackGroup .. | .silenceAll .. | .ackAll .. | .shelve .. | .unshelve ..
  | .oosOn .. | .oosOff .. | .opcmdUndefined .. | .gwyAdvance .. | .seekKey .. | .seekFirst .. | .seekLast ..
  | .gwySeekDone .. | .logRecordWrite .. | .logFreeze .. | .logUnfreeze .. | .clrReq .. | .clrCmd ..
  | .clearComplete | .rowRestored .. | .logMergeDone .. | .safetyCfgBegin .. | .safetyCfgEnd ..
  | .safetyCfgAbort .. | .safetyCfgData .. | .remoteAckCommand .. | .forgetNode .. | .forgetAllLost ..
  | .rcfgBegin .. | .rcfgStage .. | .rcfgEnd .. | .rcfgAbort .. | .rcfgInstall .. | .rcfgData .. | .ownOffer ..
  | .ownClaim .. | .ownKeep .. | .ownTake .. | .nvmGateOpen .. | .mirrorNow .. | .standbyRequest ..
  | .standbyWakeHost .. | .standbyEnter .. | .standbyExit | .timeLoRead .. | .timeHiRead .. | .hostRead ..
  | .hostModeWrite .. => true
  | _ => false

/-- The commands that act on the reset state and on the records a starting node holds, beside general writes and restarts. -/
def forReset (c : Instr) : Bool :=
  match c with
  | .vledFail | .vledRecover | .rtcTick | .rtcHalt .. | .rtcRelease .. | .tickSourceToLfrc | .tickSourceToLfxo
  | .avdd5Fail | .avdd5Recover | .vfieldFail | .vfieldRecover | .vdd33Warn .. | .dipEnd .. | .lockout
  | .backupSwitch | .vbatCheck .. | .buttonStuck => true
  | _ => false

/-- The pages whose own registers a command may change, and the first page from which on it may change any; none for
a command without such a bound. -/
def regPages (c : Instr) : Option (List Nat × Nat) :=
  match c with
  | .slotStart .. | .monitorMeasure .. | .resultLinearise .. | .fastMonitor .. | .tsRead .. | .diSample .. => some ([], 0x010)
  | .boffHoldExpiry .. | .busOffRecovered .. | .detectCandidateTimeout .. | .wakePattern .. => some ([], 0x050)
  | .unitFrameTimer | .phyPoll .. | .phyResetRelease | .faultyRecovery .. | .syncReceive .. | .hopAckReceive ..
  | .hopRetransmit .. | .hopLastingFault .. | .logRecordWrite .. | .logMergeDone .. | .safetyCycle ..
  | .censusRoundStart .. | .censusMasterTakeover .. | .replaySend | .rcfgBegin .. | .rcfgStage .. | .rcfgEnd ..
  | .rcfgAbort .. | .rcfgInstall .. | .rcfgData .. => some ([], 0x060)
  | .checkCurrentEnd .. | .conversionStart .. | .diChangeAccept .. | .diFreqSample .. | .rowSlot ..
  | .lamptestExpiry | .panelPowerOff | .beaconPulse | .shadowReleaseTimeout .. | .syncSend .. | .bootRepair
  | .gwyAdvance .. | .gwySeekDone .. | .outputDarkTest .. | .svcMirror .. | .backupSwitch | .backupReturn
  | .aonRetentionLoss | .diWake .. => some ([], 0x1000)
  | .ownOffer .. | .ownClaim .. | .ownKeep .. | .offerTimeout => some ([0x000, 0x005, 0x006, 0x065, 0x078], 0x1000)
  | .nvmGateOpen .. => some ([0x001], 0x060)
  | .lockoutRelease => some ([0x001], 0x1000)
  | .avdd5Recover => some ([0x001, 0x002, 0x065, 0x078], 0x1000)
  | .engineWake | .dozeEntry => some ([0x001, 0x002, 0x065, 0x078, 0x088], 0x1000)
  | .vfieldFail | .vfieldRecover | .lockout => some ([0x001, 0x033], 0x060)
  | .vledRecover | .vdd33Warn .. | .dipEnd .. | .vbatCheck .. | .mirrorNow .. | .standbyRequest ..
  | .standbyWakeHost .. => some ([0x001, 0x065, 0x078], 0x1000)
  | .vledFail => some ([0x001, 0x065, 0x078, 0x088], 0x1000)
  | .pllLock .. => some ([0x002], 0x050)
  | .enginePllChangeover | .frcRetrim | .hfxoPrestart => some ([0x002], 0x1000)
  | .tideTick .. => some ([0x002, 0x003, 0x033, 0x041], 0x060)
  | .tickSourceToLfrc | .tickSourceToLfxo => some ([0x002, 0x065, 0x078, 0x080], 0x1000)
  | .resetButtonArm => some ([0x003], 0x1000)
  | .buttonStuck => some ([0x003, 0x065, 0x078], 0x1000)
  | .hostModeReset .. => some ([0x005, 0x006], 0x1000)
  | .unmappedAccess .. | .hostReread .. | .hostStatus .. | .hostIdent .. | .hostBadCmd .. => some ([0x005, 0x006, 0x065, 0x078], 0x1000)
  | .configFrameReceive .. => some ([0x007, 0x033, 0x048], 0x060)
  | .ttInstall .. | .imgBegin .. | .imgEnd .. | .imgAbort .. => some ([0x007, 0x048, 0x065, 0x078], 0x1000)
  | .keyProgram .. | .keyRevoke .. | .authReqSet .. | .keyProgramDone => some ([0x007, 0x065, 0x078], 0x1000)
  | .excitationOn .. => some ([0x030], 0x1000)
  | .curveLoad .. | .curveLoadDone => some ([0x031, 0x065, 0x078], 0x1000)
  | .stageTimerExpiry .. | .attendExpiry .. | .callRefresh | .callFrameReceive .. | .rcfgResultReceive .. => some ([0x033], 0x060)
  | .doOverloadRetry .. | .unitTimeout .. => some ([0x033], 0x1000)
  | .dmOnInput | .dmResetInput | .dmOffInput | .dmPrewarn | .dmExpired | .callCancel .. | .dmDisarm ..
  | .unitAcceptInput .. => some ([0x033, 0x043], 0x060)
  | .modeFrameReceive .. => some ([0x033, 0x048], 0x060)
  | .doSet .. | .doOverload .. => some ([0x033, 0x065, 0x078], 0x1000)
  | .eccScrub .. => some ([0x040, 0x065, 0x078], 0x1000)
  | .maxexpClr .. => some ([0x041, 0x065, 0x078], 0x1000)
  | .groupRearm .. => some ([0x042, 0x065, 0x078], 0x1000)
  | .manOpen .. | .manClose .. | .cntLoad .. | .manOpenApply => some ([0x044, 0x065, 0x078], 0x1000)
  | .imgEraseDone .. | .ttInstallDone => some ([0x048], 0x060)
  | .ttRequest .. | .imgData .. => some ([0x048, 0x065, 0x078], 0x1000)
  | .mdioAccess .. | .mdioComplete .. | .forgetNode .. | .forgetAllLost .. | .rcfgTimeout => some ([0x064, 0x065, 0x078], 0x1000)
  | .sealChange .. | .safetyInputSample .. | .configSelection .. => some ([0x065, 0x070, 0x071, 0x078], 0x1000)
  | .chainDarkPulse .. => some ([0x065, 0x070, 0x078], 0x1000)
  | .safetyCfgBegin .. | .safetyCfgEnd .. | .safetyCfgAbort .. | .safetyCfgData .. | .safetyCfgCopyAWritten => some ([0x065, 0x071, 0x078], 0x1000)
  | .rxExpectationCheck .. | .lamptestInput .. | .logFreeze .. | .logUnfreeze .. | .freezeExpiry | .clrReq ..
  | .clrCmd .. | .clearComplete | .summaryEmit .. | .testPulseCheck .. | .sackStuck .. | .parcelReceive ..
  | .chainEstablishTimeout => some ([0x065, 0x078], 0x1000)
  | .seekKey .. | .seekFirst .. | .seekLast .. => some ([0x065, 0x078, 0x079], 0x1000)
  | .rtcTick | .rtcHalt .. | .rtcRelease .. | .osfClear .. => some ([0x065, 0x078, 0x080], 0x1000)
  | .hostwinWrite .. | .lamptest .. | .ltStop .. => some ([0x065, 0x078, 0x088], 0x1000)
  | .chainInputChange .. => some ([0x070], 0x1000)
  | .safetyCfgEraseDone .. => some ([0x071], 0x1000)
  | .clrKeyExpiry => some ([0x078], 0x1000)
  | .panelTempRead .. => some ([0x088], 0x1000)
  | .regionRequest .. => some ([0x088, 0x065, 0x078], 0x1000)
  | _ => none

/-- Among those, the commands that may change the control words of a page header. -/
def writesHeaders (c : Instr) : Bool :=
  match c with
  | .slotStart .. | .monitorMeasure .. | .resultLinearise .. | .fastMonitor .. | .tsRead .. | .diSample ..
  | .busOffRecovered .. | .wakePattern .. | .hopAckReceive .. | .hopLastingFault .. | .logRecordWrite ..
  | .logMergeDone .. | .svcMirror .. | .nvmGateOpen .. | .vdd33Warn .. | .mirrorNow .. | .standbyRequest ..
  | .standbyWakeHost .. | .pllLock .. | .configFrameReceive .. | .imgBegin .. | .imgEnd .. | .imgAbort ..
  | .imgEraseDone .. | .configSelection .. | .safetyCfgBegin .. | .safetyCfgEnd .. | .safetyCfgAbort ..
  | .safetyCfgEraseDone .. => true
  | _ => false

/-- A write had no effect: nothing stored to a window or to the NOR flash, and no register changed but in the pages
that log and number events and in the two host pages. -/
def ignoresWrite (s t : State) : Prop :=
  t.win = s.win ∧ t.nor = s.nor ∧ t.staged = s.staged ∧
    ∀ a, 0x40 ≤ a % 0x1000 → a / 0x1000 ∉ [0x005, 0x006, 0x065, 0x078] → t.reg a = s.reg a

/-- The access is recorded in the port's page alone (R92). -/
def recordsBadAddress (h : HostId) (a : Nat) (s t : State) : Prop :=
  t.get (hostFld F.hostBadaddrAddr h) = a ∧ t.get (hostFld F.hostBadaddrCode h) = 0x25 ∧ t.raised (hostPage h) 4 = true ∧
    ∀ p, t.reg (p * 0x1000 + 0x008) = s.reg (p * 0x1000 + 0x008)

end Sys2Proof.Machine

/-! The machine as a whole. -/

/-- A step takes the command at the front of the queue and runs it on the state with the queue's rest; on an empty
queue the block idles (the model's choice, log entry 1). -/
def Obligations.StepRunsTheFrontCommand : Prop :=
  (∀ (c : Instr) (rest : List Instr) (s : State), step (s.withPending (c :: rest)) = exec c (s.withPending rest)) ∧
    ∀ s : State, s.pending = [] → step s = .next s

/-- Right after a reset of class C (R36, R81, R118): the node is starting and answers no host, ALERT_N is low, both
interrupt pins are released, nothing is staged or waiting, no output of the panel or of a safety channel is lit or ON,
every pin has the level of R36's Reset column, and the memories are canonical. Which part it is, what a new part holds and its straps are the model's choices (log
entries 2, 3 and 5). -/
def Obligations.ResetState : Prop :=
  State.reset.Canonical ∧ State.reset.phase = .starting ∧ State.reset.rst.cls = .c ∧ State.reset.answers = false
    ∧ State.reset.alertLow = true ∧ State.reset.pending = [] ∧ State.reset.staged = [] ∧ State.reset.own.offer = none
    ∧ State.reset.own.claim = none ∧ State.reset.panel.pwr = .dark ∧ State.reset.out = []
    ∧ (∀ c m, ((State.reset.ch c).out m).st ≠ .on) ∧ (∀ k, State.reset.pt k = none)
    ∧ (∀ c t, State.reset.terminal c t = .highZ) ∧ (∀ k, State.reset.doPin k = false) ∧ (∀ n, State.reset.repPin n = .off)
    ∧ (∀ c k, State.reset.soPin c k = false ∧ State.reset.chnPin c = false ∧ State.reset.tpPin k = false)
    ∧ State.reset.panelLines = .off ∧ (∀ n, State.reset.stbPin n = .high ∧ State.reset.txdPin n = .high)
    ∧ (∀ n, n < 4 → State.reset.xpTxPin n = .low) ∧ State.reset.xphyRstPin = .low ∧ State.reset.clko25Pin = .low
    ∧ State.reset.xmdcPin = .low ∧ State.reset.xmdioPin = .highZ

/-- Every step keeps the canonical form of the memories, the part fitted (R1, R5) and the order of the waiting
commands, of which it takes at most the first. -/
def Obligations.StepsKeepTheInvariant : Prop :=
  ∀ s t : State, s.Canonical → step s = .next t → t.Canonical ∧ t.part = s.part ∧ t.pending = s.pending.tail

/-- A command completes exactly when its operands name objects of the block, and then touches neither the queue nor
the part; any other stops under the name illFormed (the model's choice, log entry 7). -/
def Obligations.WellFormedCommandsComplete : Prop :=
  ∀ (c : Instr) (s : State),
    (c.wf = true → ∃ t, exec c s = .next t ∧ Untouched s t ∧ (s.Canonical → t.Canonical)) ∧
    (c.wf = false → ∃ m, exec c s = .fault (.illFormed m))

/-- Every byte of memory stays but where a command stores: the NOR flash and the windows change only by the commands
listed. -/
def Obligations.MemoryFrames : Prop :=
  ∀ (c : Instr) (s t : State), s.Canonical → exec c s = .next t →
    (writesNor c = false → ∀ a n, t.norBytes a n = s.norBytes a n) ∧
    (writesWindows c = false → ∀ a, t.winByte a = s.winByte a)

/-- Each unit's state stays under every command that is no general write, no restart and none of the unit's own; a
node's phase changes only by general writes and restarts. -/
def Obligations.UnitFrames : Prop :=
  ∀ (c : Instr) (s t : State), exec c s = .next t → generalWrite c = false → restarts c = false →
    t.phase = s.phase ∧ (forReset c = false → t.rst = s.rst) ∧ (forOwnership c = false → t.own = s.own) ∧
    (forPorts c = false → t.portA = s.portA ∧ t.portB = s.portB) ∧ (forRtc c = false → t.rtc = s.rtc) ∧
    (forSafety c = false → t.safe = s.safe) ∧ (forSegments c = false → t.segs = s.segs) ∧
    (forChannels c = false → t.afe = s.afe) ∧ (forSupplies c = false → t.pwr = s.pwr) ∧
    (forCrossing c = false → t.xnet = s.xnet) ∧ (forPanel c = false → t.panel = s.panel) ∧
    (forTimetables c = false → t.tt = s.tt) ∧ (forCalls c = false → t.call = s.call) ∧
    (forOutputs c = false → t.outs = s.outs) ∧ (forEngine c = false → t.eng = s.eng) ∧
    (forHostCopies c = false → t.regsA = s.regsA ∧ t.regsB = s.regsB)

/-- Every register outside the pages of `regPages` stays; so do the control words of every page header, PAGE_STAT,
EVT_RAW and LAST_TALLY apart. -/
def Obligations.RegisterFrames : Prop :=
  ∀ (c : Instr) (s t : State) ps lo, exec c s = .next t → regPages c = some (ps, lo) →
    (∀ a, 0x40 ≤ a % 0x1000 → a / 0x1000 < lo → a / 0x1000 ∉ ps → t.reg a = s.reg a) ∧
    (writesHeaders c = false → ∀ a, a % 0x1000 < 0x40 → a % 0x1000 ∉ [0x008, 0x00C, 0x028, 0x02C] → t.reg a = s.reg a)

/-! Clocks and scanning. -/

/-- Clock commands with the effect the rules give them: the tick source moves to LFRC and back (R20, R441), with OSF set
and TIME_SET cleared on LFRC (R449) and LFXO_RUN following it (log entry 75), the
engine wakes, changes over to PLL_ENG and enters DOZE (R22, R72), FRC is retrimmed (R67), HFXO starts before a burst
(R151).
A failure of HFXO takes every loop, disables every port, stops every enabled segment and raises its bus-off event; a
retry that succeeds restores the loops that are needed, or leaves HFXO off where nothing needs it, and each loop locks and
unlocks on its own (R66, R68). -/
def Obligations.ClocksTakeEffect : Prop :=
  (∀ s : State, s.Canonical →
      (s.flag F.clkStatTickSrc = false → ∃ t, exec .tickSourceToLfrc s = .next t ∧ t.flag F.clkStatTickSrc = true
        ∧ t.flag F.clkStatLfxoRun = false ∧ t.flag F.rtcStatOsf = true ∧ t.flag F.rtcStatTimeSet = false
        ∧ t.raised 0x002 0 = true) ∧
      (s.flag F.clkStatTickSrc = true → ∃ t, exec .tickSourceToLfxo s = .next t ∧ t.flag F.clkStatTickSrc = false
        ∧ t.flag F.clkStatLfxoRun = true ∧ t.flag F.rtcStatOnLfrc = false ∧ t.raised 0x002 0 = true) ∧
      (s.answers = true → s.get F.pwrStatState = 1 → ∃ t, exec .engineWake s = .next t ∧ t.get F.pwrStatState = 0
        ∧ t.flag F.clkStatEngOnPll = false ∧ (s.flag F.clkStatHfxoFail = false → t.flag F.clkStatHfxoRun = true)) ∧
      (s.answers = true → s.get F.pwrStatState = 0 → s.flag F.clkStatPllEngLock = true →
        exec .enginePllChangeover s = .next (s.put F.clkStatEngOnPll 1)) ∧
      (s.answers = true → s.get F.pwrStatState = 0 → s.idle = true → ∃ t, exec .dozeEntry s = .next t
        ∧ t.get F.pwrStatState = 1 ∧ t.flag F.clkStatPllEngLock = false ∧ t.flag F.clkStatEngOnPll = false) ∧
      (s.answers = true → s.flag F.clkStatHfxoFail = false → exec .frcRetrim s = .next (s.put F.clkStatFrcTrimmed 1)) ∧
      (s.answers = true → s.canScan = true → s.afe.period ≠ 0 → ∃ t, exec .hfxoPrestart s = .next t
        ∧ t.flag F.clkStatHfxoRun = true ∧ (s.flag F.clkStatHfxoRun = true → t = s))) ∧
  (∀ s : State, s.Canonical →
      (s.answers = true → s.flag F.clkStatHfxoFail = false → s.standby = false → ∃ t, exec .hfxoFail s = .next t
        ∧ t.flag F.clkStatHfxoFail = true ∧ t.flag F.clkStatHfxoRun = false ∧ t.flag F.clkStatPllEngLock = false
        ∧ t.flag F.clkStatPllLnkLock = false ∧ t.flag F.clkStatPllBusLock = false ∧ t.flag F.clkStatPllAfeLock = false
        ∧ t.flag F.clkStatEngOnPll = false ∧ (∀ n, n < 4 → t.xpState n = 0)
        ∧ ∀ n, n < 8 → s.pageEn (fbPage n) = true → t.raised (fbPage n) 7 = true
          ∧ (Sparse.rising 0 s.segs = true → (t.seg n).tx = none)) ∧
      (s.answers = true → s.flag F.clkStatHfxoFail = true → s.standby = false →
        (s.hfxoNeeded = true → ∃ t, exec (.hfxoRetry true) s = .next t
          ∧ t.flag F.clkStatHfxoFail = false ∧ t.flag F.clkStatHfxoRun = true ∧ t.flag F.clkStatPllEngLock = s.active
          ∧ t.flag F.clkStatPllLnkLock = s.anyPortEn ∧ t.flag F.clkStatPllBusLock = s.anySegEn) ∧
        (s.hfxoNeeded = false → (s.put F.clkStatHfxoFail 0).convRuns = false → ∃ t, exec (.hfxoRetry true) s = .next t
          ∧ t.flag F.clkStatHfxoFail = false ∧ t.flag F.clkStatHfxoRun = false)) ∧
      (s.answers = true → s.flag F.clkStatHfxoFail = true → s.standby = true → ∃ t, exec (.hfxoRetry true) s = .next t
        ∧ t.flag F.clkStatHfxoFail = false ∧ t.flag F.clkStatHfxoRun = s.flag F.clkStatHfxoRun) ∧
      exec (.hfxoRetry false) s = .next s ∧
      (∀ p, s.answers = true → s.standby = false → s.flag F.clkStatHfxoRun = true → s.pllWanted p = true →
        s.flag (pllFld p) = false → ∃ t, exec (.pllLock p) s = .next t ∧ t.flag (pllFld p) = true) ∧
      (∀ p, s.answers = true → s.flag (pllFld p) = true → ∃ t, exec (.pllUnlock p) s = .next t
        ∧ t.flag (pllFld p) = false ∧ (p = .eng → t.flag F.clkStatEngOnPll = false)))

/-- The supplies (R52, R64): each failure and each recovery shows in PWR.STAT, with its event.
The VDD33 supervisor (R55 to R61, R63): the warning closes the NVM gate and mirrors the service seconds, a dip is
counted with its length, the gate opens and the held power-cycle count reaches MRAM (log entry 82), the lockout holds the
RTC page at the values it then reads, and the always-on domain moves to VBAT and back. -/
def Obligations.SuppliesTakeEffect : Prop :=
  (∀ s : State, s.Canonical →
      (s.flag F.pwrStatAvdd5Fail = false → ∃ t, exec .avdd5Fail s = .next t ∧ t.flag F.pwrStatAvdd5Fail = true
        ∧ t.raised 0x001 4 = true) ∧
      (s.flag F.pwrStatAvdd5Fail = true → ∃ t, exec .avdd5Recover s = .next t ∧ t.flag F.pwrStatAvdd5Fail = false
        ∧ t.raised 0x001 4 = true) ∧
      (s.flag F.pwrStatVfieldFail = false → ∃ t, exec .vfieldFail s = .next t ∧ t.flag F.pwrStatVfieldFail = true
        ∧ t.raised 0x001 5 = true) ∧
      (s.flag F.pwrStatVfieldFail = true → ∃ t, exec .vfieldRecover s = .next t ∧ t.flag F.pwrStatVfieldFail = false
        ∧ t.raised 0x001 5 = true) ∧
      (s.flag F.pwrStatVledFail = false → ∃ t, exec .vledFail s = .next t ∧ t.flag F.pwrStatVledFail = true
        ∧ t.panel.pwr = .dark ∧ t.raised 0x001 6 = true) ∧
      (s.flag F.pwrStatVledFail = true → ∃ t, exec .vledRecover s = .next t ∧ t.flag F.pwrStatVledFail = false
        ∧ t.raised 0x001 6 = true) ∧
      (∀ mv, s.phase ≠ .backup → mv < 2200 → s.flag F.pwrStatVbatLow = false → ∃ t, exec (.vbatCheck mv) s = .next t
        ∧ t.flag F.pwrStatVbatLow = true ∧ t.raised 0x001 3 = true) ∧
      (∀ mv, s.phase ≠ .backup → 2300 < mv → exec (.vbatCheck mv) s = .next (s.put F.pwrStatVbatLow 0)) ∧
      (∀ mv, 2200 ≤ mv → mv ≤ 2300 → exec (.vbatCheck mv) s = .next s) ∧
      (∀ mv, s.phase = .backup → exec (.vbatCheck mv) s = .next s)) ∧
  (∀ s : State, s.Canonical →
      (∀ mram, s.phase ≠ .backup → s.flag F.pwrStatVdd33Warn = false → ∃ t, exec (.vdd33Warn mram) s = .next t
        ∧ t.flag F.pwrStatVdd33Warn = true ∧ t.flag F.pwrStatNvmGated = true ∧ t.pwr.svcMirror = s.pwr.svc
        ∧ t.raised 0x001 0 = true) ∧
      (∀ us, s.flag F.pwrStatVdd33Warn = true → ∃ t, exec (.dipEnd us) s = .next t ∧ t.flag F.pwrStatVdd33Warn = false
        ∧ t.get F.pwrDipCount = min 255 (s.get F.pwrDipCount + 1) ∧ t.get F.pwrDipLastUs = min 0xFFFFFF us
        ∧ t.raised 0x001 1 = true) ∧
      (∀ mram worn, s.phase ≠ .backup → s.gateClosed = true → s.flag F.pwrStatVdd33Warn = false →
        ∃ t, exec (.nvmGateOpen mram worn) s = .next t
        ∧ t.gateClosed = false ∧ t.pwr.heldSlots = [] ∧ t.pwr.slotsDue = false ∧ t.pwr.svcDue = false
        ∧ t.pwr.cyclesMram = s.pwr.cycles ∧ t.flag F.pwrCtlMirrorNow = false
        ∧ (s.pwr.svcDue = true → t.pwr.svcMirror = s.pwr.svc)) ∧
      (s.phase ≠ .backup → s.flag F.pwrStatLockout = false → ∃ t, exec .lockout s = .next t
        ∧ t.flag F.pwrStatLockout = true
        ∧ (s.flag F.rtcCtlHalt = false → t.pwr.rtcFrozen = rtcAddrs.filterMap fun a =>
          if (regRow a).isSome then some (a, if a = 0x080044 ∨ a = 0x080048 then s.reg a else readReg .a a s) else none)) ∧
      (s.flag F.pwrStatLockout = true → ∃ t, exec .lockoutRelease s = .next t ∧ t.flag F.pwrStatLockout = false
        ∧ t.pwr.rtcFrozen = []) ∧
      (s.phase = .backup → (∃ t, exec .backupSwitch s = .next t ∧ t.pwr.onVbat = true ∧ t.rst.fromBackup = true)
        ∧ (∃ t, exec .backupReturn s = .next t ∧ t.pwr.onVbat = false)
        ∧ (∃ t, exec .aonRetentionLoss s = .next t ∧ t.pwr.vaonLost = true)))

/-- Time that passes (R19, R57, R214): a tide tick advances TIDE.NOW by one modulo 2^32 and, at every multiple of 32,
the service seconds (log entry 76), and shows what the node sees of LFXO and RESET_N; the mirroring takes them into
MRAM, or waits for the NVM gate. -/
def Obligations.TimeAdvances : Prop :=
  ∀ s : State, s.Canonical →
    (∀ lfxo resetN, s.phase ≠ .backup → ∃ t, exec (.tideTick lfxo resetN) s = .next t ∧ t.now = (s.now + 1) % 2 ^ 32
      ∧ t.flag F.clkStatLfxoRun = lfxo ∧ t.flag F.rstBtnLevel = resetN
      ∧ t.pwr.svc = if (s.now + 1) % 32 = 0 then (s.pwr.svc + 1) % 2 ^ 40 else s.pwr.svc) ∧
    (∀ mram, s.phase ≠ .backup → s.gateClosed = false → ∃ t, exec (.svcMirror mram) s = .next t
      ∧ t.pwr.svcMirror = s.pwr.svc) ∧
    (∀ mram, s.phase ≠ .backup → s.gateClosed = true → ∃ t, exec (.svcMirror mram) s = .next t
      ∧ t.pwr.svcMirror = s.pwr.svcMirror
      ∧ t.pwr.svcDue = true ∧ t.pwr.slotsDue = true) ∧
    (∀ h m mram, Passes h 0x001040 (pwrCtlWord (4 + b2n s.standby) s) m s → getBit m 2 = true → s.gateClosed = false →
      ∃ t, exec (.mirrorNow h mram) s = .next t ∧ t.pwr.svcMirror = s.pwr.svc ∧ t.flag F.pwrCtlMirrorNow = false) ∧
    (∀ h m mram, Passes h 0x001040 (pwrCtlWord (4 + b2n s.standby) s) m s → getBit m 2 = true → s.gateClosed = true →
      ∃ t, exec (.mirrorNow h mram) s = .next t ∧ t.pwr.svcMirror = s.pwr.svcMirror ∧ t.pwr.svcDue = true
        ∧ t.flag F.pwrCtlMirrorNow = true)

/-- STANDBY (R73 to R77, R120, R320): a request that no condition of R73 bars is accepted; the node enters, and its
pins take the states of R36's STANDBY column; a wake source acts and the node leaves it. -/
def Obligations.StandbyTakesEffect : Prop :=
  ∀ s : State, s.Canonical →
    (∀ h m, Passes h 0x001040 (pwrCtlWord 1 s) m s → getBit m 0 = true → s.standby = false → s.pwr.standbyReq = none →
      s.standbyBar = none → ∃ t, exec (.standbyRequest (.host h)) s = .next t ∧ t.pwr.standbyReq = some (.host h)
        ∧ t.flag F.pwrCtlStandby = true) ∧
    (s.tt.standbyAsk = true → s.answers = true → s.standby = false → s.pwr.standbyReq = none → s.standbyBar = none →
      ∃ t, exec (.standbyRequest .timetable) s = .next t ∧ t.pwr.standbyReq = some .timetable
        ∧ t.flag F.pwrCtlStandby = true) ∧
    (∀ mram, s.answers = true → s.pwr.standbyReq ≠ none → s.sending = false → ∃ t, exec (.standbyEnter mram) s = .next t
      ∧ t.standby = true ∧ t.pwr.standbyReq = none ∧ t.pwr.wake = none ∧ t.pwr.phyReset = true
      ∧ t.flag F.clkStatHfxoRun = false ∧ t.flag F.clkStatPllEngLock = false
      ∧ t.xphyRstPin = .low ∧ t.clko25Pin = .low ∧ (∀ n, n < 4 → t.xpTxPin n = .low)
      ∧ (∀ n, n < 8 → t.stbPin n = .high ∧ t.txdPin n = .high) ∧ (∀ n, t.repPin n = .off) ∧ (∀ k, t.doPin k = false)
      ∧ ∀ c k, t.terminal c k = .highZ) ∧
    (∀ h m, Passes h 0x001040 (pwrCtlWord 0 s) m s → s.standby = true → s.pwr.wake = none →
      ∃ t, exec (.standbyWakeHost h) s = .next t ∧ t.pwr.wake = some (0, hostIdx h)) ∧
    (∀ di : BitVec 6, (s.get F.pwrWakeDiLoWake + 2 ^ 32 * s.get F.pwrWakeDiHiWake).testBit di.toNat = true → s.standby = true →
      s.pwr.wake = none → exec (.diWake di) s = .next (s.withPwr { s.pwr with wake := some (1, di.toNat) })) ∧
    (∀ w, s.standby = true → s.pwr.wake = some w → s.eng.waiting = [] → ∃ t, exec .standbyExit s = .next t
      ∧ t.get F.pwrStatState = 0 ∧ t.pwr.wake = none) ∧
    (s.configured = true → s.clko25Runs = true → s.flag F.xnetCtlPhyHold = false →
      ∃ t, exec .phyResetRelease s = .next t ∧ t.pwr.phyReset = false ∧ t.xphyRstPin = .high)

/-! Resets. -/

/-- Each cause of a reset starts the reset of its class (R81 to R84): a core supply U, the watchdog W, the button P, a
host S; VDD33 below the reset level is U and BACKUP (R53, R62). The node stops answering and drives ALERT_N low (R36,
R118); the NOR flash keeps every byte. That the fall of VDD33 ends the warning and opens the gate is read from R53 and
R59 (log entry 82). -/
def Obligations.ResetCausesTakeEffect : Prop :=
  ∀ s : State, s.Canonical → s.answers = true →
    (∀ sup, ∃ t, exec (.supplyCoreFail sup) s = .next t ∧ t.phase = .starting ∧ t.rst.cls = .u
      ∧ t.rst.uSrc = (match sup with | .vdd08 => 2 | .vdd18 => 3) ∧ t.alertLow = true ∧ t.staged = []
      ∧ t.pwr.cycles = s.pwr.cycles ∧ ∀ a n, t.norBytes a n = s.norBytes a n) ∧
    (∀ b, ∃ t, exec (.watchdogReset b) s = .next t ∧ t.phase = .starting ∧ t.rst.cls = .w
      ∧ t.rst.wdogSrc = (match b with | .engine => 1 | .ordering => 2 | .logbook => 3 | .arbiter => 4)
      ∧ t.alertLow = true ∧ t.staged = [] ∧ ∀ a n, t.norBytes a n = s.norBytes a n) ∧
    (s.flag F.rstBtnArmed = true → ∃ t, exec .pinReset s = .next t ∧ t.phase = .starting ∧ t.rst.cls = .p
      ∧ t.alertLow = true ∧ t.staged = [] ∧ ∀ a n, t.norBytes a n = s.norBytes a n) ∧
    (s.flag F.rstBtnArmed = false → exec .pinReset s = .next s) ∧
    (∀ h m, Passes h 0x000048 (bitWord 0) m s → getBit m 0 = true → ∃ t, exec (.softReset h) s = .next t
      ∧ t.phase = .starting ∧ t.rst.cls = .s ∧ t.alertLow = true ∧ t.staged = []
      ∧ ∀ a n, t.norBytes a n = s.norBytes a n) ∧
    (∀ vbat, ∃ t, exec (.vdd33ResetFall vbat) s = .next t ∧ t.phase = .backup ∧ t.rst.cls = .u ∧ t.rst.uSrc = 1 ∧ t.answers = false
      ∧ t.gateClosed = false ∧ t.staged = [] ∧ (vbat < 2200 → t.flag F.pwrStatVbatLow = true)
      ∧ (2300 < vbat → t.flag F.pwrStatVbatLow = false) ∧ ∀ a n, t.norBytes a n = s.norBytes a n)

/-- A second cause during a reset in progress: the wider class wins, an equal or narrower one is absorbed, and both set
MERGED (R82). -/
def Obligations.WiderResetWins : Prop :=
  ∀ s : State, s.phase = .starting →
    (∀ sup, (s.rst.cls = .c ∨ s.rst.cls = .u) →
      exec (.supplyCoreFail sup) s = .next (s.withRst { s.rst with merged := true })) ∧
    (∀ sup, (s.rst.cls = .w ∨ s.rst.cls = .p ∨ s.rst.cls = .s) → ∃ t, exec (.supplyCoreFail sup) s = .next t
      ∧ t.phase = .starting ∧ t.rst.cls = .u ∧ t.rst.merged = true) ∧
    (∀ b, (s.rst.cls = .c ∨ s.rst.cls = .u ∨ s.rst.cls = .w) →
      exec (.watchdogReset b) s = .next (s.withRst { s.rst with merged := true })) ∧
    (∀ b, (s.rst.cls = .p ∨ s.rst.cls = .s) → ∃ t, exec (.watchdogReset b) s = .next t
      ∧ t.phase = .starting ∧ t.rst.cls = .w ∧ t.rst.merged = true)

/-- The start (R80, R41, R57, R58): a start that is no test-mode hold ends in service or unconfigured, counts a power cycle
for classes C and U alone (with the gate closed in the always-on domain alone, log entry 82), and keeps the service
seconds, at class C those of the mirror; TMODE high at a start of class C or P
holds the node instead. The button arms, and a stuck one is declared (R84). -/
def Obligations.StartAndButtonTakeEffect : Prop :=
  ∀ s : State, s.Canonical →
    (∀ s1 s2 s3 nor arr mram trip, s.phase = .starting → (s.rst.cls = .c ∨ s.rst.cls = .u) → s.rst.hold = false →
      ∃ t, exec (.startUp s1 s2 s3 0 nor arr mram trip) s = .next t ∧ (t.phase = .running ∨ t.phase = .unconfigured)
        ∧ t.pwr.cycles = (s.pwr.cyclesMram + 1) % 2 ^ 32
        ∧ t.pwr.cyclesMram = (if s.gateClosed then s.pwr.cyclesMram else (s.pwr.cyclesMram + 1) % 2 ^ 32)
        ∧ t.pwr.svc = (if s.rst.cls = .c then s.pwr.svcMirror else s.pwr.svc) ∧ t.pwr.svcMirror = s.pwr.svcMirror
        ∧ t.rst.merged = false) ∧
    (∀ s1 s2 s3 nor arr mram trip, s.phase = .starting → (s.rst.cls = .p ∨ s.rst.cls = .w ∨ s.rst.cls = .s) → s.rst.hold = false →
      ∃ t, exec (.startUp s1 s2 s3 0 nor arr mram trip) s = .next t ∧ (t.phase = .running ∨ t.phase = .unconfigured)
        ∧ t.pwr.cycles = s.pwr.cycles ∧ t.pwr.svc = s.pwr.svc ∧ t.pwr.svcMirror = s.pwr.svcMirror ∧ t.rst.merged = false) ∧
    (∀ s1 s2 s3 tm nor arr mram trip, s.phase = .starting → (s.rst.cls = .c ∨ s.rst.cls = .p) → tm ≠ 0 →
      ∃ t, exec (.startUp s1 s2 s3 tm nor arr mram trip) s = .next t ∧ t.phase = .testHold ∧ t.answers = false ∧ t.alertLow = true) ∧
    (s.phase ≠ .backup → ∃ t, exec .resetButtonArm s = .next t ∧ t.flag F.rstBtnArmed = true
      ∧ t.flag F.rstBtnStuck = false ∧ t.flag F.rstBtnLevel = true) ∧
    (s.phase ≠ .backup → ∃ t, exec .buttonStuck s = .next t ∧ t.flag F.rstBtnArmed = false
      ∧ t.flag F.rstBtnStuck = true ∧ t.flag F.rstBtnLevel = false ∧ t.rst.stuckSeen = true
      ∧ t.get F.rstBtnStuckCount = min 255 (s.get F.rstBtnStuckCount + 1) ∧ t.raised 0x003 0 = true)

/-! Page headers. -/

/-- Events (R94): EVT_PEND clears exactly the written RAW bits, EVT_FORCE sets exactly the written bits that the page
defines, with no tally and no record; PAGE_LOCK locks but for the key (R98). -/
def Obligations.EventAndLockWritesTakeEffect : Prop :=
  ∀ (s : State) (h : HostId) (page : BitVec 10) (w m : Word), s.Canonical → (pageBlock page.toNat).isSome = true →
    (Passes h (page.toNat * 0x1000 + 0x014) w m s → ∃ t, exec (.evtClear h page w) s = .next t
      ∧ t.reg (page.toNat * 0x1000 + 0x00C) = s.reg (page.toNat * 0x1000 + 0x00C) &&& ~~~(w &&& m)
      ∧ t.lg = s.lg ∧ t.ord = s.ord ∧ (∀ a, a % 0x1000 ≠ 0x00C → a % 0x1000 ≠ 0x008 → t.reg a = s.reg a)) ∧
    (Passes h (page.toNat * 0x1000 + 0x018) w m s → ∃ t, exec (.evtForce h page w) s = .next t
      ∧ t.reg (page.toNat * 0x1000 + 0x00C) =
        s.reg (page.toNat * 0x1000 + 0x00C) ||| (w &&& m &&& BitVec.ofNat 32 (evtDefined page.toNat))
      ∧ t.lg = s.lg ∧ t.ord = s.ord ∧ (∀ a, a ≠ page.toNat * 0x1000 + 0x00C → t.reg a = s.reg a)) ∧
    (Passes h (page.toNat * 0x1000 + 0x01C) w m s → m ≠ 0 → ∃ t, exec (.pageLock h page w) s = .next t
      ∧ t.flag (F.hdrPageStatLocked.page page.toNat) =
        !(getBits w 15 8 == 0xA5 && getBits w 7 0 == page.toNat % 256)
      ∧ t.lg = s.lg ∧ t.ord = s.ord ∧ (∀ a, a ≠ page.toNat * 0x1000 + 0x008 → t.reg a = s.reg a))

/-- Staging and commits (R96, R97): STAGE is set and cleared; a commit of an engine page waits for its quiet point, and
there every staged word of the page takes effect in one step. -/
def Obligations.StagingAndCommitsTakeEffect : Prop :=
  ∀ (s : State) (h : HostId) (page : BitVec 10) (m : Word), s.Canonical →
    (∀ on, (pageBlock page.toNat).isSome = true →
      Passes h (page.toNat * 0x1000 + 0x004) (setBits (pageCtlWord page.toNat 2 on s) 1 1 0) m s → getBit m 2 = true →
      ∃ t, exec (.stageWrite h page on) s = .next t ∧ t.flag (F.hdrPageCtlStage.page page.toNat) = on
        ∧ t.pageEn page.toNat = s.pageEn page.toNat) ∧
    (page ∈ [0x040, 0x041, 0x042, 0x044] → Passes h (page.toNat * 0x1000 + 0x020) (bitWord 0) m s → getBit m 0 = true →
      ∃ t, exec (.pageCommit h page) s = .next t ∧ t.flag (F.hdrPageCommitCommit.page page.toNat) = true
        ∧ t.staged = s.staged) ∧
    (page ∈ [0x040, 0x041, 0x042, 0x044] → s.answers = true → s.flag (F.hdrPageCommitCommit.page page.toNat) = true →
      ∃ t, exec (.commitApply page) s = .next t ∧ t.flag (F.hdrPageCommitCommit.page page.toNat) = false
        ∧ t.hasStaged page.toNat = false
        ∧ ∀ a, a / 0x1000 = page.toNat → 0x040 ≤ a % 0x1000 → t.reg a = s.afterCommit a)

/-- A block reset (R99): BLK_RST reads 1 from its write to the end of the reset and the page's staged values are
discarded; the pages that R99 names refuse it with code 0x27. -/
def Obligations.BlockResetTakesEffect : Prop :=
  ∀ (s : State) (h : HostId) (page : BitVec 10) (m : Word), s.Canonical → (pageBlock page.toNat).isSome = true →
    (Passes h (page.toNat * 0x1000 + 0x004) (pageCtlWord page.toNat 1 true s) m s → getBit m 1 = true →
      blkRefused page.toNat = false → ∃ t, exec (.blockReset h page) s = .next t
        ∧ t.flag (F.hdrPageCtlBlkRst.page page.toNat) = true ∧ t.hasStaged page.toNat = false) ∧
    (Passes h (page.toNat * 0x1000 + 0x004) (pageCtlWord page.toNat 1 true s) m s → getBit m 1 = true →
      page ∈ [0x000, 0x001, 0x002, 0x003, 0x004, 0x007, 0x065] → ∃ t, exec (.blockReset h page) s = .next t
        ∧ t.raised page.toNat 31 = true
        ∧ (s.lastingCode page.toNat = 0 → t.get (F.hdrPageStatFaultCode.page page.toNat) = 0x27)) ∧
    (∀ arr, s.answers = true → s.flag (F.hdrPageCtlBlkRst.page page.toNat) = true → ∃ t, exec (.blockResetEnd page arr) s = .next t
      ∧ t.flag (F.hdrPageCtlBlkRst.page page.toNat) = false)

/-! Host ports. -/

/-- Words written to plain registers and to the manifest window (R10, R200): the register takes the word and nothing
else changes; the window takes the word inside an open edit range, and every other byte stays. -/
def Obligations.PlainWritesTakeEffect : Prop :=
  ∀ (s : State) (h : HostId) (a : BitVec 24) (v : Word), s.Canonical → s.answers = true → s.isOwner h = true →
    (a ∈ [0x001058, 0x00105C, 0x004070, 0x004074, 0x004078, 0x00407C] → s.flag (F.hdrPageStatLocked.page (a.toNat / 0x1000)) = false →
      s.flag (F.hdrPageCtlStage.page (a.toNat / 0x1000)) = false →
      exec (.registerWrite h a v) s = .next (s.setReg a.toNat v)) ∧
    (0x400000 ≤ a.toNat → a.toNat < 0xC00000 → a.toNat % 4 = 0 → s.standby = false →
      s.inEdit ((a.toNat - 0x400000) / 64) = true →
      ∃ t, exec (.windowWrite h a v) s = .next t ∧ t.winWord a.toNat = v ∧ t.regs = s.regs ∧ t.nor = s.nor
        ∧ ∀ b, b < a.toNat ∨ a.toNat + 4 ≤ b → t.winByte b = s.winByte b)

/-- A host that does not own the node cannot write an OWN register or a window: the write is ignored with code 0x22 in
the page (R10, R11, R100). -/
def Obligations.NonOwnerWritesAreRefused : Prop :=
  ∀ (s : State) (h : HostId) (a : BitVec 24) (v : Word), s.Canonical → s.answers = true → s.isOwner h = false →
    (a ∈ [0x001058, 0x00105C, 0x004070, 0x004074, 0x004078, 0x00407C] → s.flag (F.hdrPageStatLocked.page (a.toNat / 0x1000)) = false →
      s.lastingCode (a.toNat / 0x1000) = 0 → s.flag (F.hdrPageCtlStage.page (a.toNat / 0x1000)) = false →
      ∃ t, exec (.registerWrite h a v) s = .next t ∧ t.reg a.toNat = s.reg a.toNat
        ∧ t.get (F.hdrPageStatFaultCode.page (a.toNat / 0x1000)) = 0x22 ∧ t.raised (a.toNat / 0x1000) 31 = true) ∧
    (0x400000 ≤ a.toNat → a.toNat < 0xC00000 → a.toNat % 4 = 0 → s.standby = false → s.lastingCode 0x044 = 0 →
      ∃ t, exec (.windowWrite h a v) s = .next t ∧ (∀ b, t.winByte b = s.winByte b)
        ∧ t.get (F.hdrPageStatFaultCode.page 0x044) = 0x22 ∧ t.raised 0x044 31 = true)

/-- The port answered with these words, with the CRC of the transaction in CRC mode (R107), and no window changed. -/
abbrev answersWith (h : HostId) (cmd : Nat) (addr len : Option Nat) (ws : List Word) (s t : State) : Prop :=
  (t.port h).answer = ws ∧ t.win = s.win ∧
    (t.port h).answerCrc = if s.flag (hostFld F.hostModeCrc h) then some (BitVec.ofNat 16 (wireCrc cmd addr len ws)) else none

/-- The port left its lines alone, or answered with zeros, and recorded the TIMING event (R104). -/
abbrev timingEvent (h : HostId) (ws : List Word) (s t : State) : Prop :=
  (t.port h).answer = ws ∧ t.raised (hostPage h) 2 = true ∧ t.win = s.win

/-- What the host ports answer (R102, R104, R105, R107), in the mode with CRC and without: READ of the manifest window
returns its words and keeps them for REREAD, REREAD pads them with zeros, STATUS returns STAT, IDENT returns DEV_ID;
none of them stores to a window. With SCK above the limit each is ignored, with DUMMY too small it returns zeros, and
both raise TIMING. During the test-mode hold every answer is zero but DEV_ID (R41). SCK is an operand (log entry 6);
how many words a REREAD with CRC carries, and a LEN above 63, are the model's choice (log entry 88). -/
def Obligations.HostReadsTakeEffect : Prop :=
  (∀ (s : State) (h : HostId), s.Canonical → s.answers = true →
    (∀ sck, sckCheck h sck s = some true →
      (∀ (a : BitVec 24) n k, k = burstLen h n s → a.toNat % 4 = 0 → 0x400000 ≤ a.toNat → a.toNat + 4 * k ≤ 0xC00000 →
        s.standby = false → ∃ t, exec (.hostRead h a n sck) s = .next t
          ∧ answersWith h 0x03 (some a.toNat) (if s.flag (hostFld F.hostModeCrc h) then some (k - 1) else none)
            ((List.range k).map fun j => s.winWord (a.toNat + 4 * j)) s t
          ∧ (t.port h).buffer = (t.port h).answer.take 64) ∧
      (∀ n k, k = burstLen h n s → ∃ t, exec (.hostReread h n sck) s = .next t
        ∧ answersWith h 0x0E none none (((s.port h).buffer ++ List.replicate k 0).take k) s t
        ∧ (t.port h).buffer = (s.port h).buffer) ∧
      (∃ t w, exec (.hostStatus h sck) s = .next t ∧ answersWith h 0x05 none none [w] s t ∧ getBits w 19 8 = min 0xFFF sck
        ∧ (t.port h).buffer = (s.port h).buffer) ∧
      (∃ t, exec (.hostIdent h sck) s = .next t ∧ answersWith h 0x9F none none [s.devId] s t
        ∧ (t.port h).buffer = (s.port h).buffer)) ∧
    (∀ sck, sckCheck h sck s = some false →
      (∀ (a : BitVec 24) n, a.toNat % 4 = 0 → ∃ t, exec (.hostRead h a n sck) s = .next t
        ∧ timingEvent h (List.replicate (burstLen h n s) 0) s t) ∧
      (∀ n, ∃ t, exec (.hostReread h n sck) s = .next t ∧ timingEvent h (List.replicate (burstLen h n s) 0) s t) ∧
      (∃ t, exec (.hostStatus h sck) s = .next t ∧ timingEvent h [0] s t) ∧
      (∃ t, exec (.hostIdent h sck) s = .next t ∧ timingEvent h [0] s t)) ∧
    (∀ sck, sckCheck h sck s = none →
      (∀ a n, ∃ t, exec (.hostRead h a n sck) s = .next t ∧ timingEvent h [] s t) ∧
      (∀ n, ∃ t, exec (.hostReread h n sck) s = .next t ∧ timingEvent h [] s t) ∧
      (∃ t, exec (.hostStatus h sck) s = .next t ∧ timingEvent h [] s t) ∧
      (∃ t, exec (.hostIdent h sck) s = .next t ∧ timingEvent h [] s t))) ∧
  (∀ (s : State) (h : HostId), s.phase = .testHold → ∀ sck,
    (∀ n, ∃ t, exec (.hostRead h 0x000040 n sck) s = .next t
      ∧ (t.port h).answer = (List.range n).map fun k => if k % 2 ^ 22 = 0 then s.devId else 0) ∧
    (∀ n, ∃ t, exec (.hostReread h n sck) s = .next t ∧ (t.port h).answer = List.replicate n 0) ∧
    (∃ t, exec (.hostStatus h sck) s = .next t ∧ (t.port h).answer = [0]) ∧
    (∃ t, exec (.hostIdent h sck) s = .next t ∧ (t.port h).answer = [s.devId]))

/-- The bit count of a WRITE in CRC mode is that of its LEN, and its CRC matches (R107). A LEN above 63 counts as a wrong count
(the model's choice, log entry 88). -/
abbrev writeChecks (a : BitVec 24) (len : BitVec 8) (data : List Word) (part : Nat) (crc : BitVec 16) : Prop :=
  data.length = len.toNat + 1 ∧ len.toNat < 64 ∧ part = 0 ∧ crc.toNat = wireCrc 0x02 (some a.toNat) (some len.toNat) data

/-- A WRITE transaction (R102, R105, R107) stores its words upwards, in CRC mode only when the CRC and the count agree; here into
records of an open edit range. Every byte outside the stored words stays. Bits of a partial word that follow them without
CRC are discarded and raise PARTIAL. In CRC mode a wrong CRC or count stores nothing at all, sets LAST_CRC_BAD, raises CRC_ERR
and counts in ERRCNT.CRC. -/
def Obligations.HostWriteStoresItsWords : Prop :=
  ∀ (s : State) (h : HostId) (a : BitVec 24) (len : BitVec 8) (data : List Word) (part : Nat) (crc : BitVec 16) (sck : Nat),
    s.Canonical → s.answers = true → sckCheck h sck s ≠ none → a.toNat % 4 = 0 →
    (s.isOwner h = true → s.standby = false → 0x400000 ≤ a.toNat → a.toNat + 4 * data.length ≤ 0xC00000 →
      (∀ k, k < data.length → s.inEdit ((a.toNat + 4 * k - 0x400000) / 64) = true) →
      (s.flag (hostFld F.hostModeCrc h) = true → writeChecks a len data part crc) →
      ∃ t, exec (.hostWrite h a len data part crc sck) s = .next t
        ∧ (∀ k, k < data.length → t.winWord (a.toNat + 4 * k) = data.getD k 0)
        ∧ (∀ b, b < a.toNat ∨ a.toNat + 4 * data.length ≤ b → t.winByte b = s.winByte b)
        ∧ (part ≠ 0 → t.raised (hostPage h) 3 = true)) ∧
    (s.flag (hostFld F.hostModeCrc h) = true → ¬ writeChecks a len data part crc →
      ∃ t, exec (.hostWrite h a len data part crc sck) s = .next t ∧ t.win = s.win ∧ t.nor = s.nor
        ∧ t.flag (hostFld F.hostStatLastCrcBad h) = true ∧ t.raised (hostPage h) 0 = true
        ∧ t.get (hostFld F.hostErrcntCrc h) = min 0xFFFF (s.get (hostFld F.hostErrcntCrc h) + 1)
        ∧ ∀ x, 0x40 ≤ x % 0x1000 → x / 0x1000 ∉ [hostPage h, 0x065, 0x078] → t.reg x = s.reg x)

/-- The host ports' own commands (R92, R102, R105, R106, R108): an unmapped or misaligned address and an undefined
command byte are recorded in the port's page, the mode-reset pattern returns to 1-1-1 SDR, MODE takes a legal value. -/
def Obligations.HostPortCommandsTakeEffect : Prop :=
  ∀ (s : State) (h : HostId), s.Canonical → s.answers = true →
    (∀ a : BitVec 24, unmappedOk a = true → ∃ t, exec (.unmappedAccess h a) s = .next t
      ∧ t.get (hostFld F.hostBadaddrAddr h) = a.toNat ∧ t.get (hostFld F.hostBadaddrCode h) = 0x25
      ∧ t.raised (hostPage h) 4 = true) ∧
    (∀ c sck, badCmdOk c = true → sckCheck h sck s ≠ none → ∃ t, exec (.hostBadCmd h c sck) s = .next t
      ∧ (t.port h).answer = [] ∧ t.get (hostFld F.hostStatSckMeas h) = min 0xFFF sck
      ∧ t.get (hostFld F.hostErrcntOther h) = min 0xFFFF (s.get (hostFld F.hostErrcntOther h) + 1)
      ∧ t.raised (hostPage h) 1 = true) ∧
    (∀ c sck, badCmdOk c = true → sckCheck h sck s = none → ∃ t, exec (.hostBadCmd h c sck) s = .next t
      ∧ (t.port h).answer = [] ∧ t.raised (hostPage h) 2 = true) ∧
    (∃ t, exec (.hostModeReset h) s = .next t ∧ t.get (hostFld F.hostModeLanes h) = 0
      ∧ t.flag (hostFld F.hostModeDdr h) = false ∧ t.get (hostFld F.hostModeDummy h) = s.get (hostFld F.hostModeDummy h)
      ∧ t.flag (hostFld F.hostModeCrc h) = s.flag (hostFld F.hostModeCrc h)
      ∧ ∀ a, a ≠ hostPage h * 0x1000 + 0x040 → t.reg a = s.reg a) ∧
    (∀ p (v m : Word), Passes h (hostPage p * 0x1000 + 0x040) v m s → m &&& 0xFF = 0xFF → getBits v 1 0 ≠ 3 →
      (getBit v 2 = true → getBits v 1 0 = 2) → ∃ t, exec (.hostModeWrite h p v) s = .next t
        ∧ t.get (hostFld F.hostModeLanes p) = getBits v 1 0 ∧ t.flag (hostFld F.hostModeDdr p) = getBit v 2
        ∧ t.flag (hostFld F.hostModeCrc p) = getBit v 3 ∧ t.get (hostFld F.hostModeDummy p) = getBits v 7 4
        ∧ ∀ a, a ≠ hostPage p * 0x1000 + 0x040 → t.reg a = s.reg a)

/-! Ownership. -/

/-- Offer and take (R110, R111): the owner's offer draws a token that is never 0 into the other host's TOKEN; the other
host's write of it passes the ownership and discards every staged value; 64 tide ticks without it close the
offer.
Claim, keep and transfer (R112). -/
def Obligations.OwnershipCommandsTakeEffect : Prop :=
  (∀ (s : State) (h : HostId) (m : Word), s.Canonical →
      (Passes h 0x00004C (ownWord 1 s) m s → s.isOwner h = true → s.own.offer = none →
        ∃ t tok, exec (.ownOffer h) s = .next t ∧ t.own.offer = some (tok, s.now, 0) ∧ 0 < tok ∧ tok < 2 ^ 16
          ∧ t.own.claim = none ∧ t.flag F.sysOwnOffer = true ∧ t.get (hostFld F.hostTokenToken (otherHost h)) = tok
          ∧ t.flag (hostFld F.hostTokenValid (otherHost h)) = true ∧ t.isOwner h = true) ∧
      (∀ (w : BitVec 16) at_ n, Passes h 0x000050 (w.setWidth 32) m s → s.isOwner h = false →
        s.own.offer = some (w.toNat, at_, n) → ∃ t, exec (.ownTake h w) s = .next t ∧ t.own.offer = none
          ∧ t.own.claim = none ∧ (s.eng.edit = none → t.isOwner h = true ∧ t.staged = [])) ∧
      (∀ (w : BitVec 16) tok at_ n, Passes h 0x000050 (w.setWidth 32) m s → s.isOwner h = false → w.toNat ≠ tok → n < 2 →
        s.own.offer = some (tok, at_, n) → s.lastingCode 0x000 = 0 → ∃ t, exec (.ownTake h w) s = .next t
          ∧ t.own.offer = some (tok, at_, n + 1) ∧ t.isOwner h = false ∧ t.get (F.hdrPageStatFaultCode.page 0x000) = 0x2A) ∧
      (∀ tok t0 n, s.own.offer = some (tok, t0, n) → 64 ≤ s.since t0 → ∃ t, exec .offerTimeout s = .next t
        ∧ t.own.offer = none ∧ t.flag F.sysOwnOffer = false ∧ t.owner = s.owner
        ∧ t.raised 0x005 11 = true ∧ t.raised 0x006 11 = true)) ∧
  (∀ (s : State) (h : HostId) (m : Word), s.Canonical →
      (Passes h 0x00004C (ownWord 2 s) m s → s.isOwner h = false → s.own.offer = none → s.own.claim = none →
        ∃ t, exec (.ownClaim h) s = .next t ∧ t.own.claim = some s.now ∧ t.flag (hostFld F.hostStatClaimRun .a) = true
          ∧ t.flag (hostFld F.hostStatClaimRun .b) = true ∧ t.owner = s.owner) ∧
      (∀ t0, Passes h 0x00004C (ownWord 3 s) m s → getBit m 3 = true → s.own.claim = some t0 →
        ∃ t, exec (.ownKeep h) s = .next t ∧ t.own.claim = none ∧ t.owner = s.owner
          ∧ t.flag (hostFld F.hostStatClaimRun .a) = false ∧ t.flag (hostFld F.hostStatClaimRun .b) = false) ∧
      (∀ t0, s.own.claim = some t0 → 320 ≤ s.since t0 → ∃ t, exec .claimTransfer s = .next t ∧ t.own.claim = none
        ∧ t.own.offer = none ∧ (s.eng.edit = none → t.owner = otherHost s.owner ∧ t.staged = [])) ∧
      (∀ t0, s.own.claim = some t0 → s.since t0 < 320 → exec .claimTransfer s = .next s))

/-! Sensor channels, linearisation and outputs. -/

/-- The phases of a conversion slot in their order (R121, R133 to R136): the group takes its next channel, the sources
turn on, the check current is judged against 0.5 V, the conversion starts once PLL_AFE is locked (R68) and the monitor's
reading is kept.
Results of a slot (R125, R137, R138, R145, R158, R163): a fault-free single phase completes with its clamped code, one with a
frame that fails at both reads gives no result and a lasting fault of its group, the slot ends, a stage overload moves one range wider with an extra result of the full scale left behind, and the oldest result is
delivered: as the signal value where the binding passes it through (R162), else as the curve gives it (R163), for a result
that is fault-free, in range and not ranging. That the extra result carries the signed full scale is the model's reading
(log entry 38). -/
def Obligations.ConversionSlotsTakeEffect : Prop :=
  (∀ (s : State) (g : BitVec 5), s.Canonical →
      (∀ j, s.nextChan g.toNat = some j → j < 8 → ∃ t sl, exec (.slotStart g) s = .next t
        ∧ (t.grp g.toNat).slot = some sl ∧ sl.ch = 8 * g.toNat + j ∧ sl.stage = .mux ∧ sl.phase = 1
        ∧ t.flag (F.afgGstatSlotBusy.page g.toNat) = true ∧ t.get (F.afgGstatSlotCh.page g.toNat) = j) ∧
      (∀ sl, (s.grp g.toNat).slot = some sl → sl.stage = .mux → ∃ t, exec (.excitationOn g) s = .next t
        ∧ (t.grp g.toNat).slot = some { sl with stage := .settle }
        ∧ (resistance (s.wiring sl.ch) = true → (t.get F.afcExcLiveLive).testBit g.toNat = true)) ∧
      (∀ sl mv, (s.grp g.toNat).slot = some sl → sl.stage = .settle → s.checks sl.ch = true → sl.checkDone = false →
        ∃ t, exec (.checkCurrentEnd g mv) s = .next t
          ∧ (t.grp g.toNat).slot = some { sl with checkDone := true, checkOpen := decide (500 < signedOf 16 mv.toNat) }) ∧
      (∀ sl, (s.grp g.toNat).slot = some sl → sl.stage = .settle → (sl.checkDone = true ∨ s.checks sl.ch = false) →
        (s.flag F.clkStatPllAfeLock = true → ∃ t, exec (.conversionStart g) s = .next t
          ∧ (t.grp g.toNat).slot = some { sl with stage := .conv, mon := none, moved := false, overTop := false }) ∧
        (s.flag F.clkStatPllAfeLock = false → exec (.conversionStart g) s = .next s)) ∧
      (∀ sl mon, (s.grp g.toNat).slot = some sl → sl.stage = .conv → ∃ t, exec (.monitorMeasure g mon) s = .next t
        ∧ (t.grp g.toNat).slot = some { sl with mon := some mon }
        ∧ t.get (F.afgMonXVout.ch sl.ch) = mon.xVout.toNat ∧ t.get (F.afgMonYIdel.ch sl.ch) = mon.yIdel.toNat)) ∧
  (∀ (s : State) (g : BitVec 5), s.Canonical → Sparse.rising 0 s.afe.grps = true →
      (∀ sl conv, (s.grp g.toNat).slot = some sl → sl.stage = .conv → (s.grp g.toNat).fast = none →
        convLost conv = false → twoPhase (s.wiring sl.ch) = false →
        faultsOf sl.ch sl.mon sl.phase sl.checkOpen s = 0 →
        ∃ t r, exec (.phaseComplete g conv) s = .next t ∧ (t.grp g.toNat).slot = some { sl with stage := .ended }
          ∧ (t.grp g.toNat).results = (s.grp g.toNat).results ++ [r] ∧ r.ch = sl.ch ∧ r.faults = 0
          ∧ r.code = (clampCode conv.code.toNat).1
          ∧ t.get (F.hdrRetryCntTransient.page (afgPage g.toNat)) =
            min 0xFFFF (s.get (F.hdrRetryCntTransient.page (afgPage g.toNat)) + convTrips conv)) ∧
      (∀ sl conv, (s.grp g.toNat).slot = some sl → sl.stage = .conv → (s.grp g.toNat).fast = none → convLost conv = true →
        ∃ t, exec (.phaseComplete g conv) s = .next t ∧ (t.grp g.toNat).slot = some { sl with stage := .ended, lost := true }
          ∧ (t.grp g.toNat).results = (s.grp g.toNat).results ∧ t.flag (F.afgGstatReadbackFault.page g.toNat) = true
          ∧ t.lastingCode (afgPage g.toNat) = 0x40 ∧ t.raised (afgPage g.toNat) 16 = true) ∧
      (∀ sl, (s.grp g.toNat).slot = some sl → sl.stage = .ended → (s.grp g.toNat).fast = none →
        s.flag (F.hdrPageCommitCommit.page (afgPage g.toNat)) = false → ∃ t, exec (.slotEnd g) s = .next t
          ∧ (t.grp g.toNat).slot = none ∧ (t.grp g.toNat).results = (s.grp g.toNat).results
          ∧ (t.grp g.toNat).reinit = false) ∧
      (∀ sl pos, (s.grp g.toNat).slot = some sl → sl.stage = .conv → currentMode (s.wiring sl.ch) = true →
        s.flag (F.afgCfg0ArEn.ch sl.ch) = true → s.get (F.afgCfg0ArTop.ch sl.ch) < s.get (F.afgStatRangeNow.ch sl.ch) →
        sl.ch < 256 → ∃ t r, exec (.rangeOverload g pos) s = .next t
          ∧ t.get (F.afgStatRangeNow.ch sl.ch) = s.get (F.afgStatRangeNow.ch sl.ch) - 1
          ∧ (t.grp g.toNat).results = (s.grp g.toNat).results ++ [r]
          ∧ r.fscale = s.fscale sl.ch (s.get (F.afgStatRangeNow.ch sl.ch)) ∧ signedOf 24 r.code = (if pos then 2 ^ 23 - 1 else -(2 ^ 23 - 1))) ∧
      (∀ r rs, (s.grp g.toNat).results = r :: rs → ∃ t, exec (.resultLinearise g) s = .next t
        ∧ (t.grp g.toNat).results = rs ∧ (t.chan r.ch).last ≠ none
        ∧ ∀ u, u = F32.mul (F32.ofInt (signedOf 24 r.code)) r.fscale → r.ch < 256 → (s.chan r.ch).staleDue = false →
          r.faults = 0 → r.ranging = false → r.beyond = false →
          (r.latch.pass = true → (t.chan r.ch).last = some (u, .valid, s.now)) ∧
          (∀ cv b, r.latch.pass = false → r.latch.curve = some cv → cv.usesT = false → r.latch.band = some b →
            F32.lt u cv.uMin = false → F32.lt cv.uMax u = false → F32.isFinite (curveOf cv b u 0) = true →
            builtinLimit r.latch.curveId (curveOf cv b u 0) = none →
            (t.chan r.ch).last = some (curveOf cv b u 0, .valid, s.now))))

/-- Bursts and curve loads (R148, R150, R168): a boundary starts a burst, a boundary during a burst is skipped and
counted; a load names its curve and ends with its result, with CURVE_LOADED or CURVE_FAILED.
Fast mode and the on-package sensors (R144, R152, R154): every output of a group in fast mode gives one result, its
monitor's faults are kept, and a sensor's reading shows with its validity. -/
def Obligations.BurstsAndFastModeTakeEffect : Prop :=
  (∀ s : State, s.Canonical →
      (∀ g, s.canScan = true → s.boundary = true → s.flag F.clkStatHfxoRun = true → s.afe.burst = false → g < 32 →
        s.scanned g = true → s.enabledChans g ≠ [] → ∃ t, exec .burstStart s = .next t ∧ t.afe.burst = true
          ∧ t.afe.skipped = 0 ∧ (t.grp g).inPass = true ∧ (t.grp g).next = 0 ∧ t.get F.pwrStatState = 0) ∧
      (s.canScan = true → s.boundary = true → s.flag F.clkStatHfxoRun = true → s.afe.burst = true →
        ∃ t, exec .burstStart s = .next t ∧ t.afe.skipped = s.afe.skipped + 1 ∧ t.raised 0x030 0 = true) ∧
      (∀ h (id : BitVec 12) m, Passes h 0x031040 (BitVec.ofNat 32 (2 ^ 31 + id.toNat)) m s → getBit m 31 = true →
        m &&& 0xFFF = 0xFFF → ∃ t, exec (.curveLoad h id) s = .next t ∧ t.afe.load = some id.toNat
          ∧ t.flag F.linCurveCmdLoad = true ∧ t.get F.linCurveCmdId = id.toNat) ∧
      (∀ id, s.afe.load = some id → id < 4096 → ∃ t, exec .curveLoadDone s = .next t ∧ t.afe.load = none
        ∧ t.flag F.linCurveCmdLoad = false ∧ t.get F.linCurveResId = id
        ∧ t.get F.linCurveResResult = curveResult id (s.winBytes (curveAddr id) 0x400) % 256
        ∧ (if curveResult id (s.winBytes (curveAddr id) 0x400) = 0 then t.raised 0x031 0 = true
            else t.raised 0x031 1 = true ∧ t.raised 0x031 31 = true ∧ t.afe.curves = s.afe.curves))) ∧
  (∀ s : State, s.Canonical →
      (∀ (g : BitVec 5) j sl conv, (s.grp g.toNat).fast = some j → (s.grp g.toNat).slot = some sl → sl.stage = .conv →
        convLost conv = false → ∃ t r, exec (.fastOutput g conv) s = .next t
          ∧ (t.grp g.toNat).results = (s.grp g.toNat).results ++ [r] ∧ r.ch = 8 * g.toNat + j
          ∧ r.code = (clampCode conv.code.toNat).1 ∧ r.faults = s.fastFault g.toNat (8 * g.toNat + j) sl) ∧
      (∀ (g : BitVec 5) j sl mon, (s.grp g.toNat).fast = some j → (s.grp g.toNat).slot = some sl → sl.stage = .conv →
        ∃ t, exec (.fastMonitor g mon) s = .next t ∧ (t.grp g.toNat).fastFaults =
          phaseFaults (8 * g.toNat + j) mon 1 (sl.checkOpen && s.checks (8 * g.toNat + j)) s) ∧
      (∀ (k : BitVec 2) ok temp, s.configured = true → s.flag F.afcCtlScanEn = true → ∃ t, exec (.tsRead k ok temp) s = .next t
        ∧ t.get (F.afcTsTemp.idx k.toNat) = temp.toNat
        ∧ t.flag (F.afcTsValid.idx k.toNat) =
          (ok && decide (-45 * 64 ≤ signedOf 16 temp.toNat) && decide (signedOf 16 temp.toNat ≤ 130 * 64))))

/-- Repeater outputs (R171 to R173): at a period boundary an enabled output takes its latest value or its fault output, or
holds while its channel is ranging; without HFXO it runs on LFXO. -/
def Obligations.RepeaterBoundaryTakesEffect : Prop :=
  ∀ (s : State) (n : BitVec 4), s.Canonical → s.repDead = false → s.flag (F.hdrPageCommitCommit.page 0x032) = false →
    s.get (F.repCfgMode.idx n.toNat) ≠ 0 → ∃ t, exec (.repPeriodBoundary n) s = .next t
      ∧ t.flag (F.repStatLf.idx n.toNat) = !s.flag F.clkStatHfxoRun
      ∧ (∀ fault v, repWanted n.toNat s = some (fault, v) → t.get (F.repStatNow.idx n.toNat) = v % 2 ^ 20
        ∧ t.flag (F.repStatFaultOut.idx n.toNat) = fault)
      ∧ (repWanted n.toNat s = none → t.get (F.repStatNow.idx n.toNat) = s.get (F.repStatNow.idx n.toNat))
      ∧ (∀ a, a / 0x1000 ∈ [0x033, 0x040, 0x050, 0x060, 0x070, 0x080, 0x088] → 0x040 ≤ a % 0x1000 → t.reg a = s.reg a)
      ∧ (∀ a, t.winByte a = s.winByte a)

/-- Discrete outputs (R177, R178): DO_SET takes the written states, an overloaded output is switched off with its
event, and 32 tide ticks later it tries again while commanded on. Discrete inputs (R176, R184): a sample shows in
DI_LO and DI_HI and counts the rising edges of inputs 56 to 63; a level that has held reaches its LEVEL points, and a
frequency its point. None of these stores to memory. How the retry ends, and a first sample, are read by inference
(log entry 42). -/
def Obligations.DiscreteIoTakesEffect : Prop :=
  (∀ s : State, s.Canonical →
      (∀ h (v : BitVec 16) m, Passes h 0x03304C (v.setWidth 32) m s → m &&& 0xFFFF = 0xFFFF →
        ∃ t, exec (.doSet h v) s = .next t ∧ t.get F.dioDoSetSet = v.toNat
          ∧ ∀ k, k < 16 → t.doDead = false → s.get F.dioDoNowOvl = 0 →
            (t.get F.dioDoNowOn).testBit k = t.doCommanded k) ∧
      (∀ k : BitVec 4, (s.get F.dioDoNowOn).testBit k.toNat = true → s.doCommanded k.toNat = true →
        ∃ t, exec (.doOverload k) s = .next t ∧ (t.get F.dioDoNowOn).testBit k.toNat = false
          ∧ (t.get F.dioDoNowOvl).testBit k.toNat = true ∧ (k.toNat, s.now) ∈ t.outs.ovlAt
          ∧ ((s.get F.dioDoNowOvl).testBit k.toNat = false → t.raised 0x033 k.toNat = true)) ∧
      (∀ (k : BitVec 4) t0, s.outs.ovlAt.find? (fun x => x.1 == k.toNat) = some (k.toNat, t0) → 32 ≤ s.since t0 →
        s.doCommanded k.toNat = true → (s.get F.dioDoNowOvl).testBit k.toNat = true → s.doDead = false →
        ∃ t, exec (.doOverloadRetry k) s = .next t ∧ (t.get F.dioDoNowOn).testBit k.toNat = true
          ∧ (∀ x ∈ t.outs.ovlAt, x.1 ≠ k.toNat))) ∧
  (∀ s : State, s.Canonical → s.diGood = true →
      (∀ (v : BitVec 64) p, s.outs.diPrev = some p → p < 2 ^ 64 → ∃ t, exec (.diSample v) s = .next t
        ∧ t.get F.dioDiLoLevel = v.toNat % 2 ^ 32 ∧ t.get F.dioDiHiLevel = v.toNat / 2 ^ 32
        ∧ t.outs.diPrev = some v.toNat
        ∧ (∀ n, n < 8 → t.get (F.dioCntCount.idx n) =
            (s.get (F.dioCntCount.idx n) + b2n (v.toNat.testBit (56 + n) && !p.testBit (56 + n))) % 2 ^ 32)
        ∧ ∀ a, t.winByte a = s.winByte a) ∧
      (∀ di filt level i, i ∈ s.diPoints 0 (· == di.toNat) → (s.pcfg i).diFilt = filt.toNat → s.inEdit i = false →
        ∃ t, exec (.diChangeAccept di filt level) s = .next t
          ∧ Trig.deliver i (F32.ofInt (b2n level)) .valid 0 0 ∈ t.eng.trigs ∧ t.win = s.win ∧ t.regs = s.regs) ∧
      (∀ (i : PointIdx) p, i.toNat ∈ s.diPoints 2 (fun _ => true) → s.pt i.toNat = some p → s.inEdit i.toNat = false →
        32 ≤ s.since p.accTick → ∃ t, exec (.diFreqSample i) s = .next t
          ∧ Trig.deliver i.toNat (F32.ofInt p.acc) .valid 0 0 ∈ t.eng.trigs ∧ t.win = s.win ∧ t.regs = s.regs))

/-! The point engine. -/

/-- Expiries of one point (R210, R212, R222, R228, R229), each at or after its tick: staleness puts the point in FAULT
with reason 2 unless it is a KIND 5 point of a part without the safety functions, whose status stands at all times (R188),
a delay lets the raw state through, a run-up ends INHIBITED, shelving ends, a warning escalates and sounds again. -/
def Obligations.ExpiriesTakeEffect : Prop :=
  ∀ (s : State) (i : PointIdx) (p : Point), s.Canonical → s.engineRuns = true → s.pt i.toNat = some p →
    s.inEdit i.toNat = false → s.heldPt i.toNat p = false → s.eng.trigs = [] →
    (∀ tk, p.staleAt = some tk → s.reached tk = true → p.oos = false → s.unfittedPt (s.pcfg i.toNat) = false → ∃ t q, exec (.stalenessExpiry i) s = .next t
      ∧ t.pt i.toNat = some q ∧ q.vstate = .fault ∧ q.reason = 2 ∧ q.staleAt = none) ∧
    (∀ tk v st, p.dly = some (.on, tk) → s.reached tk = true → p.usable = some (v, st) →
      ∃ t q, exec (.delayExpiry i) s = .next t ∧ t.pt i.toNat = some q ∧ q.dly = none
        ∧ q.vstate = (if onward p.vstate (rawState (s.pcfg i.toNat) v st p.vstate) then
            rawState (s.pcfg i.toNat) v st p.vstate else p.vstate)) ∧
    (∀ tk v st, p.dly = some (.off, tk) → s.reached tk = true → p.usable = some (v, st) →
      ∃ t q, exec (.delayExpiry i) s = .next t ∧ t.pt i.toNat = some q ∧ q.dly = none
        ∧ q.vstate = (if onward p.vstate (rawState (s.pcfg i.toNat) v st p.vstate) then p.vstate
            else rawState (s.pcfg i.toNat) v st p.vstate)) ∧
    (∀ tk, p.dly = some (.runup, tk) → s.reached tk = true → ∃ t q, exec (.runupExpiry i) s = .next t
      ∧ t.pt i.toNat = some q ∧ q.inhibited = false ∧ q.dly = none) ∧
    (∀ tk, p.shelveAt = some tk → s.reached tk = true → ∃ t q, exec (.shelveExpiry i) s = .next t
      ∧ t.pt i.toNat = some q ∧ q.shelved = false ∧ q.shelveAt = none) ∧
    (∀ tk, p.escAt = some tk → s.reached tk = true → ∃ t q, exec (.escalationExpiry i) s = .next t
      ∧ t.pt i.toNat = some q ∧ q.escalated = true ∧ q.silenced = false ∧ q.escAt = none ∧ q.astate = p.astate)

/-- Engine passes (R189, R194, R204, R236, R241): a delivery is scaled and taken, a running-hours point accumulates
the ticks its subject was ON, a forced pass evaluates a point again, and the peak figure clears. Commands of the
engine act at once (log entry 13). -/
def Obligations.EnginePassesTakeEffect : Prop :=
  ∀ s : State, s.Canonical →
    (∀ i u p, s.engineRuns = true → s.eng.trigs = [.deliver i u .valid 0 0] → s.pt i = some p → s.heldPt i p = false →
      p.oos = false → (∀ x ∈ s.eng.pts, dueCount s x.2 = 0) →
      F32.isFinite (F32.fma (s.pcfg i).gain u (s.pcfg i).offset) = true → ∃ t q, exec .enginePass s = .next t
        ∧ t.pt i = some q ∧ q.value = F32.fma (s.pcfg i).gain u (s.pcfg i).offset ∧ q.status = .valid) ∧
    (∀ (i : PointIdx) p, s.engineRuns = true → s.pt i.toNat = some p → s.heldPt i.toNat p = false → p.oos = false →
      s.inEdit i.toNat = false → s.eng.trigs = [] → (s.pcfg i.toNat).kind = 6 → (s.pcfg i.toNat).func = 8 →
      1152 ≤ s.since p.accTick → s.ptOn (s.pcfg i.toNat).subject = true → p.subjOn = some true → ∃ t q, exec (.runhrsTimer i) s = .next t
        ∧ t.pt i.toNat = some q
        ∧ q.acc = (p.acc + (s.now + 2 ^ 32 - p.accTick % 2 ^ 32) % 2 ^ 24) % 2 ^ 40 ∧ q.accTick = s.now) ∧
    (∀ h m i p v st, Passes h 0x04004C (bitWord 0) m s → getBit m 0 = true → getBit m 1 = false → s.engineRuns = true →
      s.quiet = true → s.eng.pts = [(i, p)] → s.inEdit i = false → p.oos = false → p.dead = false → p.reason ≠ 3 →
      s.eng.restoring = [] → (s.pcfg i).gateEn = false → p.gate = none → p.inhibited = false → p.dly = none →
      p.vstate ≠ .fault → p.vstate ≠ .unknown → p.usable = some (v, st) → ∃ t q, exec (.forceAll h) s = .next t
        ∧ t.pt i = some q ∧ q.vstate = (evalValue (s.pcfg i) s.now v st p).vstate) ∧
    (∀ h m, Passes h 0x04004C (bitWord 1) m s → getBit m 1 = true → getBit m 0 = false →
      exec (.peakClr h) s = .next (s.put F.pteLoadPeak 0)) ∧
    (∀ h m, Passes h 0x041050 (bitWord 0) m s → getBit m 0 = true →
      exec (.maxexpClr h) s = .next (s.put F.tideMaxexpCount 0)) ∧
    (∀ h m, Passes h 0x04205C (bitWord 0) m s → getBit m 0 = true → ∃ t, exec (.groupRearm h) s = .next t
      ∧ t.firstOut (s.getH h F.grpSelGroup) = none ∧ (∀ g, g ≠ s.getH h F.grpSelGroup → t.firstOut g = s.firstOut g)
      ∧ t.eng.pts = s.eng.pts ∧ t.regs = s.regs)

/-- Manifest edits (R199 to R202): a range is requested and opens at the end of a pass for its owner, and closes on
request or after 320 tide ticks; a record that is no longer used leaves no point behind. -/
def Obligations.ManifestEditsTakeEffect : Prop :=
  ∀ s : State, s.Canonical →
    (∀ h m, Passes h 0x044044 (bitWord 0) m s → getBit m 0 = true → getBit m 1 = false → getBit m 2 = false →
      s.eng.edit = none → (s.editRange).2 ≤ 131071 → ∃ t, exec (.manOpen h) s = .next t
        ∧ t.eng.openReq = some ((s.editRange).1, (s.editRange).2, h) ∧ t.flag F.manCmdOpen = true) ∧
    (∀ f l h, s.eng.openReq = some (f, l, h) → s.engineRuns = true → s.tt.pending = none → s.isOwner h = true →
      ∃ t, exec .manOpenApply s = .next t ∧ t.eng.edit = some (f, l, s.now) ∧ t.eng.openReq = none
        ∧ t.flag F.manStatIsOpen = true ∧ t.flag F.manCmdOpen = false ∧ t.raised 0x044 0 = true
        ∧ (∀ x ∈ t.eng.trigs, x.point < f ∨ l < x.point)) ∧
    (∀ h m r, Passes h 0x044044 (bitWord 1) m s → getBit m 1 = true → getBit m 0 = false → getBit m 2 = false →
      s.eng.edit = some r → exec (.manClose h) s = .next (s.put F.manCmdClose 1)) ∧
    (∀ f l t0, s.eng.edit = some (f, l, t0) → s.engineRuns = true → s.flag F.manCmdClose = true →
      ∃ t, exec .editCloseApply s = .next t ∧ t.eng.edit = none
        ∧ ∀ i, f ≤ i → i ≤ l → Sparse.rising 0 s.eng.pts = true → (s.pcfg i).used = false → t.pt i = none) ∧
    (∀ f l t0, s.eng.edit = some (f, l, t0) → s.engineRuns = true → 320 ≤ s.since t0 →
      ∃ t, exec .editAutoClose s = .next t ∧ t.eng.edit = none
        ∧ ∀ i, f ≤ i → i ≤ l → Sparse.rising 0 s.eng.pts = true → (s.pcfg i).used = false → t.pt i = none) ∧
    (∀ h m x, Passes h 0x044044 (bitWord 2) m s → getBit m 2 = true → getBit m 0 = false → getBit m 1 = false →
      s.eng.edit = none → s.eng.pts.find? (fun x => x.2.slot == some (s.get F.manCntSlotSlot)) = some x →
      ∃ t q, exec (.cntLoad h) s = .next t ∧ t.pt x.1 = some q
        ∧ q.acc = s.get F.manCntHiAcc * 2 ^ 32 + s.get F.manCntLoAcc ∧ t.raised 0x044 4 = true)

/-- Operator commands on one point (R219 to R221, R242): an acknowledgement that names the current instance takes an
unacknowledged point to ACTIVE_ACK or NORMAL, a silence silences it, and the host reads RESULT 0 with COUNT 1. -/
def Obligations.PointCommandsTakeEffect : Prop :=
  ∀ (s : State) (h : HostId) (i : PointIdx) (m : Word) (p : Point), s.Canonical → s.standby = false → m ≠ 0 →
    s.getH h F.pteOpresBusy = 0 → s.quiet = true → i.toNat ∉ s.eng.restoring → s.pt i.toNat = some p → p.oos = false →
    s.inEdit i.toNat = false → p.unacked = true →
    (Passes h 0x040050 (opWord 1 i.toNat) m s → (s.regH h 0x040054).toNat = p.inst →
      ∃ t q, exec (.ackPoint h i) s = .next t ∧ t.pt i.toNat = some q
        ∧ q.astate = (if p.astate = .activeUnack then .activeAck else .normal) ∧ q.silenced = false
        ∧ t.regH h 0x040058 = resWord 1 0 0 1) ∧
    (Passes h 0x040050 (opWord 2 i.toNat) m s → ∃ t q, exec (.silencePoint h i) s = .next t ∧ t.pt i.toNat = some q
      ∧ q.silenced = true ∧ q.astate = p.astate ∧ t.regH h 0x040058 = resWord 1 0 0 1)

/-- Operator commands on a group and on all points (R221, R223, R242): every point of the scope that is in service, outside an
open range and unacknowledged is acknowledged or silenced; an OP that R242 does not define answers 15 and changes no
point. -/
def Obligations.ScopeCommandsTakeEffect : Prop :=
  ∀ (s : State) (h : HostId) (m : Word), s.Canonical → s.standby = false → m ≠ 0 → s.getH h F.pteOpresBusy = 0 →
    s.quiet = true →
    (∀ g : GroupIdx, Passes h 0x040050 (opWord 3 g.toNat) m s → ∃ t, exec (.ackGroup h g) s = .next t
      ∧ ∀ i ∈ s.scopePts (some g.toNat) false, ∃ q, t.pt i = some q ∧ q.unacked = false) ∧
    (Passes h 0x040050 (opWord 5 0) m s → ∃ t, exec (.ackAll h) s = .next t
      ∧ ∀ i ∈ s.scopePts none false, ∃ q, t.pt i = some q ∧ q.unacked = false) ∧
    (Passes h 0x040050 (opWord 4 0) m s → ∃ t, exec (.silenceAll h) s = .next t
      ∧ ∀ i ∈ s.scopePts none false, ∃ q, t.pt i = some q ∧ q.silenced = true) ∧
    (∀ v : Word, Passes h 0x040050 v m s → (getBits v 31 28 = 0 ∨ 5 < getBits v 31 28) →
      ∃ t, exec (.opcmdUndefined h false v) s = .next t ∧ t.regH h 0x040058 = resWord 1 0 15 0 ∧ t.eng = s.eng
        ∧ t.raised 0x040 (8 + hostIdx h) = true) ∧
    (∀ v : Word, Passes h 0x040060 v m s → s.get F.pteAdmresBusy = 0 → (getBits v 31 28 = 0 ∨ 4 < getBits v 31 28) →
      ∃ t, exec (.opcmdUndefined h true v) s = .next t ∧ t.reg 0x040068 = resWord 1 0 15 0 ∧ t.eng = s.eng
        ∧ t.raised 0x040 10 = true)

/-- Administrative commands (R225, R229, R230, R242): shelving for the written duration, its end by command, out of service and
back; each answers RESULT 0. -/
def Obligations.AdministrativeCommandsTakeEffect : Prop :=
  ∀ (s : State) (h : HostId) (i : PointIdx) (m : Word) (p : Point), s.Canonical → s.standby = false → m ≠ 0 →
    s.get F.pteAdmresBusy = 0 → s.quiet = true → i.toNat ∉ s.eng.restoring → s.pt i.toNat = some p →
    s.inEdit i.toNat = false →
    (Passes h 0x040060 (opWord 1 i.toNat) m s → p.oos = false → (s.pcfg i.toNat).prio ≠ 0 → (s.pcfg i.toNat).cat ≠ 0 →
      s.get F.pteAdmargDuration ≠ 0 → ∃ t q, exec (.shelve h i) s = .next t ∧ t.pt i.toNat = some q ∧ q.shelved = true
        ∧ q.shelveAt = some (s.inTicks (32 * s.get F.pteAdmargDuration)) ∧ t.reg 0x040068 = resWord 1 0 0 1) ∧
    (Passes h 0x040060 (opWord 2 i.toNat) m s → p.oos = false → p.shelved = true →
      ∃ t q, exec (.unshelve h i) s = .next t ∧ t.pt i.toNat = some q ∧ q.shelved = false ∧ q.shelveAt = none
        ∧ t.reg 0x040068 = resWord 1 0 0 1) ∧
    (Passes h 0x040060 (opWord 3 i.toNat) m s → p.oos = false → p.dead = false → ∃ t q, exec (.oosOn h i) s = .next t
      ∧ t.pt i.toNat = some q ∧ q.oos = true ∧ q.vstate = .unknown ∧ q.astate = .normal ∧ q.shelved = false
      ∧ q.inhibited = false ∧ t.reg 0x040068 = resWord 1 0 0 1) ∧
    (Passes h 0x040060 (opWord 4 i.toNat) m s → p.oos = true → (s.pcfg i.toNat).used = true →
      ∃ t q, exec (.oosOff h i) s = .next t ∧ t.pt i.toNat = some q ∧ q.oos = false ∧ q.astate = .normal
        ∧ q.resync = true ∧ t.reg 0x040068 = resWord 1 0 0 1)

/-- The acknowledge and silence inputs (R223, R224): they act on every point of their scope, the acknowledge input on no point of
category A.
Engine memory faults (R238 to R240, R371): corrected words are counted, an uncorrectable error that its return trip
cures is transient and the next event of its points carries RESYNC, a lasting one takes a spare row and holds its points
or, with no spare left, leaves them in FAULT and its groups out of use (log entry 100), the end of the restoration
rebuilds them, and an expired hold makes their events a GAP of kind 1 and rebuilds them; a point of an open edit range is
rebuilt at its close (R200). -/
def Obligations.OperatorInputsAndMemoryFaultsTakeEffect : Prop :=
  (∀ s : State, s.Canonical → s.diGood = true → s.quiet = true →
      (s.flag F.pteAckdiAckEn = true → ∃ t, exec .ackInput s = .next t
        ∧ (∀ i ∈ s.scopePts (if s.flag F.pteAckdiAckScope then some (s.get F.pteAckdiAckGrp) else none) true,
            ∃ q, t.pt i = some q ∧ q.unacked = false)
        ∧ (∀ i p, s.pt i = some p → (s.pcfg i).cat = 0 → ∃ q, t.pt i = some q ∧ q.astate = p.astate)) ∧
      (s.flag F.pteAckdiSilEn = true → ∃ t, exec .silenceInput s = .next t
        ∧ ∀ i ∈ s.scopePts none false, ∃ q, t.pt i = some q ∧ q.silenced = true)) ∧
  (∀ s : State, s.Canonical →
      (∀ n, 0 < n → ∃ t, exec (.eccScrub n) s = .next t ∧ t.get F.pteEccCorr = min 0xFFFF (s.get F.pteEccCorr + n)
        ∧ t.raised 0x040 16 = true) ∧
      (∀ ps rs gs index, ∃ t, exec (.eccUncorrectable true ps rs gs index) s = .next t ∧ t.raised 0x040 17 = true
        ∧ t.get (F.hdrRetryCntTransient.page 0x040) = min 0xFFFF (s.get (F.hdrRetryCntTransient.page 0x040) + 1)
        ∧ ∀ i ∈ ps, (s.pt i.toNat).isSome = true → ∃ q, t.pt i.toNat = some q ∧ q.resync = true) ∧
      (∀ ps rs gs index, 0 < s.get F.pteSpareLeft → ∃ t, exec (.eccUncorrectable false ps rs gs index) s = .next t
        ∧ t.get F.pteSpareLeft = s.get F.pteSpareLeft - 1
        ∧ t.get F.pteEccUncorr = min 0xFFFF (s.get F.pteEccUncorr + 1)
        ∧ (index = true → t.flag F.logStatIndexing = true)
        ∧ ∀ i : PointIdx, (i ∈ ps ∨ i ∈ rs) → (s.pt i.toNat).isSome = true → i.toNat ∈ t.eng.restoring) ∧
      (∀ ps rs gs index, s.get F.pteSpareLeft = 0 → ∃ t, exec (.eccUncorrectable false ps rs gs index) s = .next t
        ∧ t.lastingCode 0x040 = 0x41
        ∧ (∀ i p, (i ∈ ps ∨ i ∈ rs) → s.pt i.toNat = some p → ∃ q, t.pt i.toNat = some q ∧ q.dead = true
          ∧ (s.inEdit i.toNat = false → q.vstate = .fault ∧ q.reason = 3))
        ∧ ∀ g ∈ gs, t.groupEn g.toNat = false) ∧
      (∀ array, s.eng.restoring ≠ [] → s.eng.restoringCfg = [] → s.eng.waiting = [] →
        ∃ t, exec (.rowRestored array) s = .next t ∧ t.eng.restoring = []
        ∧ (s.flag (F.hdrPageCtlBlkRst.page 0x078) = false → t.flag F.logStatIndexing = false)
        ∧ ∀ i ∈ s.eng.restoring, (s.pcfg i).used = true → s.inEdit i = false → ∃ q, t.pt i = some q ∧ q.oos = false
          ∧ (s.eng.trigs = [] → (s.pcfg i).kind ≠ 6 → s.unfittedPt (s.pcfg i) = false → (s.pcfg i).gateEn = false →
            i ∉ s.eng.deadPts → s.recReason i = 0 → q.resync = true ∧ q.usable = none ∧ q.astate = .normal)) ∧
      (s.eng.egress ≠ [] → ∃ t, exec .egressHoldExpiry s = .next t
        ∧ (∀ x ∈ s.eng.egress, (s.pt x.1).isSome = true → (∀ y ∈ t.eng.egress, y.1 ≠ x.1) ∧ t.raised 0x065 1 = true
          ∧ (x.1 ∈ s.eng.restoring → s.inEdit x.1 = false → (s.pcfg x.1).used = true →
            ∃ q, t.pt x.1 = some q ∧ q.resync = true ∧ q.usable = none))
        ∧ ∀ i, (∀ x ∈ s.eng.egress, x.1 = i) → (s.pt i).isSome = true →
          t.get F.ordGapcntPoint = min 0xFFFF (s.get F.ordGapcntPoint + 1)))

/-! The duty-engineer call. -/

/-- Nothing holds back a stream frame of this node: in service, not passive, nothing waiting in the crossing queue, no GAP due
ahead, the ceiling above, room at every port (R332, R336, R355, R375). -/
abbrev freeToSend (s : State) : Prop :=
  s.configured = true ∧ s.flag F.xnetStatPassive = false ∧ s.ord.xq = [] ∧ s.ord.outGap = none
    ∧ s.mayStamp (s.ord.tally + 1) = true ∧ s.streamPorts.find? s.portFull = none

/-- The frame has left by every stream port with the next OSEQ (R322, R330). -/
abbrev sends (f : XFrame) (s t : State) : Prop :=
  t.ord.oseq = (s.ord.oseq + 1) % 2 ^ 32 ∧ ∀ n ∈ s.streamPorts,
    Output.frame n (({ f with oseq := s.ord.oseq } : XFrame).bytes n s.nodeId (s.get (F.xpHseqTxNext.page n))) ∈ t.out

/-- A call's stages on the duty node (R246, R252, R254): an expired stage gives way to a later one up to STAGE3, an
expired attendance to the first, a refresh of a stage that stays sends the reachable units in a call frame, CANCEL closes the
call and its occurrences hold it no more.
The dead-man watch (R256, R257): ON_DI and RST_DI arm or restart it, OFF_DI and DISARM disarm it, PREWARN and
EXPIRED follow when the timer reaches LIMIT − PREWARN and LIMIT. -/
def Obligations.CallsAndDeadManWatchTakeEffect : Prop :=
  (∀ (s : State) (k : BitVec 4) (c : Call), s.Canonical → s.isDuty = true → s.callOf k.toNat = some c →
      (c.stage ≤ 2 → c.deadline.any s.reached = true → ∃ t c', exec (.stageTimerExpiry k) s = .next t
        ∧ t.callOf k.toNat = some c' ∧ c.stage < c'.stage ∧ c'.stage ≤ 3 ∧ c'.acceptBy = c.acceptBy) ∧
      (c.stage = 4 → c.deadline.any s.reached = true → ∃ t c', exec (.attendExpiry k) s = .next t
        ∧ t.callOf k.toNat = some c' ∧ 1 ≤ c'.stage ∧ c'.stage ≤ 3 ∧ c'.acceptBy = 0) ∧
      (c.stage ≤ 3 → (c.stage = 3 ∨ (s.stageUnits c.stage).any s.unitReachable = true) → s.call.calls = [c] →
        ∃ t c', exec .callRefresh s = .next t ∧ t.callOf k.toNat = some c'
        ∧ c'.stage = c.stage ∧ c'.units = (s.stageUnits c.stage).filter s.unitReachable ∧ c'.part = s.isSplit
        ∧ (freeToSend s → s.stageUnits c.stage ≠ [] → (s.stageUnits c.stage).all s.unitReachable = true →
          sends (s.newFrame 0x04 0 (s.ord.tally + 1) true false ((driveCall k.toNat s).callFrame k.toNat)) s t)) ∧
      (∀ h m, Passes h 0x043058 (callCmdWord 1 k.toNat) m s → getBits m 31 28 ≠ 0 → ∃ t, exec (.callCancel h k) s = .next t
        ∧ t.callOf k.toNat = none ∧ ∀ o ∈ t.call.occs, o.cls = k.toNat → o.held = false)) ∧
  (∀ s : State, s.Canonical → s.dmEn = true → s.diGood = true →
      (s.get F.callDmStatState ≠ 3 → ∃ t, exec .dmOnInput s = .next t ∧ t.get F.callDmStatState = 1
        ∧ t.call.dmAt = s.now) ∧
      (s.get F.callDmStatState ≠ 0 → ∃ t, exec .dmResetInput s = .next t ∧ t.get F.callDmStatState = 1
        ∧ t.call.dmAt = s.now) ∧
      (s.get F.callDmStatState ≠ 3 → ∃ t, exec .dmOffInput s = .next t ∧ t.get F.callDmStatState = 0) ∧
      (s.get F.callDmStatState = 1 → s.dmDue (s.get F.callDmTimeLimit - s.get F.callDmTimePrewarn) = true →
        ∃ t, exec .dmPrewarn s = .next t ∧ t.get F.callDmStatState = 2 ∧ t.call.flashAt = s.now) ∧
      (s.get F.callDmStatState = 2 → s.dmDue (s.get F.callDmTimeLimit) = true →
        ∃ t, exec .dmExpired s = .next t ∧ t.get F.callDmStatState = 3) ∧
      (∀ h m, Passes h 0x043058 (callCmdWord 2 0) m s → getBits m 31 28 ≠ 0 →
        ∃ t, exec (.dmDisarm h) s = .next t ∧ t.get F.callDmStatState = 0))

/-- Call units (R247, R248, R253): a unit frame leaves by every stream port at once (log entry 23), a unit not named
for 96 tide ticks is released, an accept input accepts the call that drives the unit, and a received unit frame is
kept with its time once the receipt rule has taken it (R352); one whose tally is corrupt is rejected (R354). -/
def Obligations.CallUnitsTakeEffect : Prop :=
  ∀ s : State, s.Canonical →
    (freeToSend s → ∃ t, exec .unitFrameTimer s = .next t
        ∧ t.ord.tally = s.ord.tally + 1 ∧ t.out.length = s.out.length + s.streamPorts.length
        ∧ sends (s.newFrame 0x04 0 (s.ord.tally + 1) true false ([3, 0, 0, 0, 0, 0, 0, 0] ++ leBytes 8 s.unitsEnabled)) s t) ∧
    (∀ u, unitOk u = true → ∃ t, exec (.unitTimeout u) s = .next t
      ∧ t.call.named = s.call.named.filter fun n => !(n.unit == u.toNat && decide (96 ≤ s.since n.at_))) ∧
    (∀ u c, unitOk u = true → s.diGood = true → s.flag (F.callUnitEn.idx u.toNat) = true → s.isDuty = true →
      s.call.calls = [c] → c.stage ≤ 3 → (s.nodeId * 64 + u.toNat) ∈ c.units → s.get F.callDmCfgDmUnit ≠ u.toNat →
      ∃ t c', exec (.unitAcceptInput u) s = .next t ∧ t.callOf c.cls = some c' ∧ c'.stage = 4
        ∧ c'.acceptBy = s.engineerOf (s.nodeId * 64 + u.toNat)) ∧
    (∀ frame r, parseFrame frame = some r → r.frame.cls = 0x04 → r.frame.lenOk = true → s.configured = true →
      leAt r.frame.body 0 1 = 3 → s.callIn = [] →
      (s.corrupt r.frame.tally = false → s.mayStamp (receiptTally s.ord.tally r.frame.tally) = true →
        ∃ t, exec (.callFrameReceive frame) s = .next t
          ∧ (r.frame.origin, leAt r.frame.body 8 8, s.now) ∈ t.call.frames
          ∧ t.call.calls = s.call.calls ∧ t.ord.tally = receiptTally s.ord.tally r.frame.tally
          ∧ ∀ a, a / 0x1000 ≠ 0x065 → t.reg a = s.reg a) ∧
      (s.corrupt r.frame.tally = true → ∃ t, exec (.callFrameReceive frame) s = .next t ∧ t.call = s.call
          ∧ t.get F.ordRejectCount = min 0xFFFF (s.get F.ordRejectCount + 1)))

/-! Field buses and the sailing matrix. -/

/-- No commit of the segment's page or of SAIL waits for the bus to be idle. -/
abbrev noCommit (n : Nat) (s : State) : Prop :=
  s.flag (F.hdrPageCommitCommit.page (fbPage n)) = false ∧ s.flag (F.hdrPageCommitCommit.page 0x058) = false

/-- A received frame (R185, R296, R297): without a matching mailbox it is counted; a mailbox whose buffer is empty, or
that overwrites, takes its 18 words and keeps every byte of the windows outside itself, and its points get their
signals. The µs that the slot has run are an operand (log entry 46). RX_REL frees the front buffer, or moves the shadow into it. -/
def Obligations.FieldBusReceptionTakesEffect : Prop :=
  ∀ (s : State) (seg : BitVec 3), s.Canonical →
    (∀ f ran, s.fbOn seg.toNat = true → s.opmode seg.toNat ≠ 2 → noCommit seg.toNat s → (f.fdf = true → s.flag (F.fbDbtFdEn.page seg.toNat) = true) →
      s.matchMbx seg.toNat f = none → ∃ t, exec (.canFrameReceived seg f ran) s = .next t
        ∧ t.get (F.fbCnt2Unmatched.page seg.toNat) = min 0xFFFF (s.get (F.fbCnt2Unmatched.page seg.toNat) + 1)
        ∧ t.win = s.win ∧ (s.flag (F.fbCtlSleep.page seg.toNat) = false → t.eng = s.eng)) ∧
    (∀ f m ran, s.fbOn seg.toNat = true → s.opmode seg.toNat ≠ 2 → noCommit seg.toNat s →
      (f.fdf = true → s.flag (F.fbDbtFdEn.page seg.toNat) = true) →
      s.matchMbx seg.toNat f = some m → (s.seg seg.toNat).shadows = [] →
      (getBit (s.desc seg.toNat m 2) 0 = false ∨ getBit (s.winWord (bufAddr seg.toNat m)) 31 = false) →
      ∃ t, exec (.canFrameReceived seg f ran) s = .next t
        ∧ (∀ k w, (frameWords f (getBits (s.winWord (bufAddr seg.toNat m + 4)) 31 16 + 1))[k]? = some w →
          t.winWord (bufAddr seg.toNat m + 4 * k) = w)
        ∧ (∀ a, a < mbxAddr seg.toNat m ∨ mbxAddr seg.toNat m + 0x58 ≤ a → t.winByte a = s.winByte a)
        ∧ (∀ i u st r, i ∈ s.fbPoints seg.toNat (fun c => c.fbMbx == m) → (s.pt i).isSome = true → s.inEdit i = false →
          extractSignal (s.pcfg i) f.data = some (u, st, r) → Trig.deliver i u st 0 r ∈ t.eng.trigs)) ∧
    (∀ h (mbx : BitVec 6) m, Passes h (0x050080 + 0x1000 * seg.toNat) (mbx.setWidth 32) m s → m ≠ 0 →
      s.mbxTx seg.toNat mbx.toNat = false → getBit (s.winWord (bufAddr seg.toNat mbx.toNat)) 31 = true →
      (s.seg seg.toNat).shadows.find? (fun y => y.1 == mbx.toNat) = none →
      ∃ t, exec (.rxRelease h seg mbx) s = .next t ∧ getBit (t.winWord (bufAddr seg.toNat mbx.toNat)) 31 = false
        ∧ (∀ a, a < bufAddr seg.toNat mbx.toNat ∨ bufAddr seg.toNat mbx.toNat + 4 ≤ a → t.winByte a = s.winByte a)) ∧
    (∀ h (mbx : BitVec 6) m y, Passes h (0x050080 + 0x1000 * seg.toNat) (mbx.setWidth 32) m s → m ≠ 0 →
      s.mbxTx seg.toNat mbx.toNat = false → getBit (s.winWord (bufAddr seg.toNat mbx.toNat)) 31 = true →
      (s.seg seg.toNat).shadows.find? (fun y => y.1 == mbx.toNat) = some y →
      ∃ t, exec (.rxRelease h seg mbx) s = .next t
        ∧ ∀ k w, y.2[k]? = some w → t.winWord (bufAddr seg.toNat mbx.toNat + 4 * k) = w)

/-- Transmission (R299 to R301, R308): TXREQ sets the requests it names and TXCAN clears those not in transmission; a
frame in transmission is cancelled at its end. A completed attempt lowers TEC, raises it by 8 for each case of ISO 11898-1
over an overload flag that follows (R8, R307), and clears its request; a lost
arbitration keeps it until RETRY allows no more. -/
def Obligations.FieldBusTransmissionTakesEffect : Prop :=
  ∀ (s : State) (seg : BitVec 3), s.Canonical →
    (∀ h (lo : BitVec 32) m ran, Passes h (0x050060 + 0x1000 * seg.toNat) lo m s → ∃ t,
      exec (.txRequest h seg (lo.setWidth 64) ran) s = .next t ∧ t.requests seg.toNat = s.requests seg.toNat ||| (lo &&& m).toNat) ∧
    (∀ h (hi : BitVec 32) m ran, hi ≠ 0 → Passes h (0x050064 + 0x1000 * seg.toNat) hi m s → ∃ t,
      exec (.txRequest h seg (hi ++ (0 : BitVec 32)) ran) s = .next t
        ∧ t.requests seg.toNat = s.requests seg.toNat ||| ((hi &&& m).toNat * 2 ^ 32)) ∧
    (∀ h (lo : BitVec 32) m ran, (s.seg seg.toNat).tx = none → s.flag (F.fbKeptValid.page seg.toNat) = false →
      Passes h (0x050068 + 0x1000 * seg.toNat) lo m s → ∃ t, exec (.txCancel h seg (lo.setWidth 64) ran) s = .next t
        ∧ ∀ k < 64, (t.requests seg.toNat).testBit k = ((s.requests seg.toNat).testBit k && !(lo &&& m).toNat.testBit k)) ∧
    (∀ h (k : Nat) m x ran, k < 32 → (s.seg seg.toNat).tx = some x → x.mbx = k → x.kept = false → s.flag (F.fbKeptValid.page seg.toNat) = false →
      Passes h (0x050068 + 0x1000 * seg.toNat) (bitWord k) m s → getBit m k = true →
      ∃ t, exec (.txCancel h seg ((bitWord k).setWidth 64) ran) s = .next t
        ∧ (t.seg seg.toNat).tx = some { x with cancel := true } ∧ t.requests seg.toNat = s.requests seg.toNat) ∧
    (∀ (mbx : BitVec 6) x (overload : BitVec 4) ran, (s.seg seg.toNat).tx = some x → x.mbx = mbx.toNat → x.fromSeg = none →
      s.opmode seg.toNat ≠ 2 → s.displaced seg.toNat mbx.toNat = false → noCommit seg.toNat s →
      s.get (F.fbErrTec.page seg.toNat) - 1 + 8 * overload.toNat < 256 →
      ∃ t, exec (.txAttemptEnd seg mbx .completed overload ran) s = .next t
        ∧ t.get (F.fbErrTec.page seg.toNat) = s.get (F.fbErrTec.page seg.toNat) - 1 + 8 * overload.toNat
        ∧ (t.requests seg.toNat).testBit mbx.toNat = false) ∧
    (∀ (mbx : BitVec 6) x overload ran, (s.seg seg.toNat).tx = some x → x.mbx = mbx.toNat → x.fromSeg = none → x.cancel = false →
      s.displaced seg.toNat mbx.toNat = false →
      (s.retryOver seg.toNat x = false → ∃ t, exec (.txAttemptEnd seg mbx .arbLost overload ran) s = .next t
        ∧ t.requests seg.toNat = s.requests seg.toNat
        ∧ t.get (F.fbErrTec.page seg.toNat) = s.get (F.fbErrTec.page seg.toNat)) ∧
      (s.retryOver seg.toNat x = true → ∃ t, exec (.txAttemptEnd seg mbx .arbLost overload ran) s = .next t
        ∧ (t.requests seg.toNat).testBit mbx.toNat = false ∧ t.raised (fbPage seg.toNat) 3 = true))

/-- The sailing matrix (R302, R303, R306): slot follows slot and cycle follows cycle; an expectation slot clears or
raises MISS_RUN, and at EXP_LIMIT reports a missing mailbox. -/
def Obligations.SailingMatrixTakesEffect : Prop :=
  ∀ (s : State) (seg : BitVec 3), s.Canonical → s.mxRun seg.toNat = true → s.fbOn seg.toNat = true →
    (s.get (F.sailNowSlot.idx seg.toNat) < getBits (s.mxCfg seg.toNat) 4 0 → ∃ t, exec (.matrixSlotStart seg) s = .next t
      ∧ t.get (F.sailNowSlot.idx seg.toNat) = s.get (F.sailNowSlot.idx seg.toNat) + 1
      ∧ t.get (F.sailNowCycle.idx seg.toNat) = s.get (F.sailNowCycle.idx seg.toNat)) ∧
    (getBits (s.mxCfg seg.toNat) 4 0 ≤ s.get (F.sailNowSlot.idx seg.toNat) →
      s.flag (F.hdrPageCommitCommit.page 0x058) = false → ∃ t, exec (.matrixSlotStart seg) s = .next t
        ∧ t.get (F.sailNowSlot.idx seg.toNat) = 0
        ∧ t.get (F.sailNowCycle.idx seg.toNat) =
          (if s.get (F.sailNowCycle.idx seg.toNat) < getBits (s.mxCfg seg.toNat) 21 16
            then s.get (F.sailNowCycle.idx seg.toNat) + 1 else 0)) ∧
    (∀ m, s.mxEntry seg.toNat = (3, m) → m ∈ (s.seg seg.toNat).seen → ∃ t, exec (.rxExpectationCheck seg) s = .next t
      ∧ getBits (t.desc seg.toNat m 3) 23 16 = 0) ∧
    (∀ m, s.mxEntry seg.toNat = (3, m) → m ∉ (s.seg seg.toNat).seen → ∃ t, exec (.rxExpectationCheck seg) s = .next t
      ∧ getBits (t.desc seg.toNat m 3) 23 16 = min 255 (getBits (s.desc seg.toNat m 3) 23 16 + 1)
      ∧ (getBits (s.desc seg.toNat m 3) 23 16 + 1 = getBits (s.desc seg.toNat m 2) 19 16 →
        t.raised (fbPage seg.toNat) 1 = true))

/-- Integration, detection and sleep (R293, R312 to R315): after 11 recessive bits the segment takes part and starts the
frame that waits, an FD frame with ESI while the segment is error-passive (R290); DETECT reads 1 until it ends (R10) and tries the enabled candidates one after the other; SLEEP, WAKE and the wake pattern move the
segment out of and back to integration; a forced commit of an FB page ends without counting an error.
Error confinement (R307, R308): a receive error adds 1 to REC, 8 for each further case of ISO 11898-1, and ESTATE follows
the counters; a transmit error adds 8 to TEC for itself and for each further case, and a TEC above 255 ends in bus-off with
no request left but the kept frame's; the recovery waits for BOFF_HOLD or REC_START and
ends with both counters at 0. -/
def Obligations.SegmentStatesTakeEffect : Prop :=
  (∀ (s : State) (seg : BitVec 3), s.Canonical →
      (s.fbLive seg.toNat = true → s.asleep seg.toNat = false → s.flag (F.fbStatIntegrating.page seg.toNat) = true →
        noCommit seg.toNat s → ∀ ran, ∃ t, exec (.integrationComplete seg ran) s = .next t ∧ t.flag (F.fbStatIntegrating.page seg.toNat) = false
          ∧ (∀ x, (s.seg seg.toNat).det = none → s.estate seg.toNat < 2 → (s.seg seg.toNat).restart = false →
            (s.seg seg.toNat).tx = none → s.mxRun seg.toNat = false → s.opmode seg.toNat = 0 → s.flag (F.fbCtlSleep.page seg.toNat) = false →
            s.flag (F.fbStatDetecting.page seg.toNat) = false → s.pickTry seg.toNat = some x →
            ∀ f, f = { x.snap with esi := x.snap.fdf && decide (s.estate seg.toNat = 1) } →
              (t.seg seg.toNat).tx = some { x with snap := f } ∧ t.out = s.out ++ [.can seg.toNat f])) ∧
      (s.flag (F.hdrPageCommitCommit.page (fbPage seg.toNat)) = true →
        32 ≤ s.since (s.seg seg.toNat).commitAt → ∃ t, exec (.fbCommitForce seg) s = .next t
          ∧ t.flag (F.hdrPageCommitCommit.page (fbPage seg.toNat)) = false
          ∧ (fbRefused seg.toNat s = true → t.staged = s.staged ∧ t.raised (fbPage seg.toNat) 31 = true
            ∧ t.get (F.fbErrTec.page seg.toNat) = s.get (F.fbErrTec.page seg.toNat))
          ∧ (fbRefused seg.toNat s = false → t.hasStaged (fbPage seg.toNat) = false)) ∧
      (∀ h m, Passes h (0x05008C + 0x1000 * seg.toNat) 2 m s → getBit m 1 = true → s.opmode seg.toNat = 1 →
        (∃ k ∈ bitsSet 8 (s.get (F.fbDetcfgEn.page seg.toNat)), s.goodCand seg.toNat k = true) →
        ∃ t d, exec (.detect h seg) s = .next t ∧ t.flag (F.fbStatDetecting.page seg.toNat) = true
          ∧ t.flag (F.fbCmdDetect.page seg.toNat) = true
          ∧ t.flag (F.fbStatIntegrating.page seg.toNat) = true ∧ t.flag (F.fbStatDetOk.page seg.toNat) = false
          ∧ (t.seg seg.toNat).det = some d ∧ d.round = 1 ∧ d.at_ = s.now
          ∧ d.left = (bitsSet 8 (s.get (F.fbDetcfgEn.page seg.toNat))).filter (s.goodCand seg.toNat)) ∧
      (∀ d c c' rest err, (s.seg seg.toNat).det = some d → d.left = c :: c' :: rest →
        (err = true ∨ s.get (F.fbDetcfgTmo.page seg.toNat) ≤ s.since d.at_) →
        ∃ t, exec (.detectCandidateTimeout seg err) s = .next t
          ∧ (t.seg seg.toNat).det = some { d with left := c' :: rest, streak := 0, brs := false, at_ := s.now }
          ∧ t.flag (F.fbStatIntegrating.page seg.toNat) = true) ∧
      (∀ d c err, (s.seg seg.toNat).det = some d → d.left = [c] → 3 ≤ d.round →
        (err = true ∨ s.get (F.fbDetcfgTmo.page seg.toNat) ≤ s.since d.at_) →
        ∃ t, exec (.detectCandidateTimeout seg err) s = .next t ∧ t.flag (F.fbStatDetecting.page seg.toNat) = false
          ∧ t.flag (F.fbCmdDetect.page seg.toNat) = false
          ∧ t.raised (fbPage seg.toNat) 13 = true) ∧
      (∀ h m, Passes h (0x050040 + 0x1000 * seg.toNat) (setBits (readReg h (0x050040 + 0x1000 * seg.toNat) s) 15 15 1) m s →
        getBit m 15 = true → s.flag (F.fbCtlSleep.page seg.toNat) = false → (s.seg seg.toNat).tx = none →
        s.fbLive seg.toNat = true → ∃ t, exec (.fbSleep h seg) s = .next t ∧ t.asleep seg.toNat = true
          ∧ t.flag (F.fbCtlSleep.page seg.toNat) = true ∧ t.mxRun seg.toNat = false) ∧
      (∀ h m, Passes h (0x05008C + 0x1000 * seg.toNat) 4 m s → getBit m 2 = true → s.asleep seg.toNat = true →
        ∃ t, exec (.fbWake h seg) s = .next t ∧ t.asleep seg.toNat = false ∧ t.flag (F.fbCtlSleep.page seg.toNat) = false
          ∧ t.flag (F.fbStatIntegrating.page seg.toNat) = true) ∧
      (s.configured = true → s.pageEn (fbPage seg.toNat) = true → s.flag (F.fbCtlWakeEn.page seg.toNat) = true →
        s.asleep seg.toNat = true → ∃ t, exec (.wakePattern seg) s = .next t ∧ t.raised (fbPage seg.toNat) 11 = true
          ∧ t.asleep seg.toNat = s.standby)) ∧
  (∀ (s : State) (seg : BitVec 3), s.Canonical →
      (∀ (kind : BitVec 3) (eights : BitVec 4) ran rec', s.fbOn seg.toNat = true → s.opmode seg.toNat = 0 →
        rec' = s.get (F.fbErrRec.page seg.toNat) + b2n (kind != 0) + 8 * eights.toNat → noCommit seg.toNat s →
        ∃ t, exec (.canRxError seg kind eights ran) s = .next t ∧ t.get (F.fbErrRec.page seg.toNat) = min 255 rec'
        ∧ t.get (F.fbErrTec.page seg.toNat) = s.get (F.fbErrTec.page seg.toNat)
        ∧ t.get (F.fbStatLec.page seg.toNat) = (if kind = 0 then s.get (F.fbStatLec.page seg.toNat) else kind.toNat)
        ∧ t.estate seg.toNat = (if 128 ≤ s.get (F.fbErrTec.page seg.toNat) ∨ 128 ≤ rec' then 1 else 0)) ∧
      (∀ (mbx : BitVec 6) x (lec : BitVec 3) bit (eights : BitVec 4) overload ran, (s.seg seg.toNat).tx = some x →
        x.mbx = mbx.toNat → noCommit seg.toNat s →
        x.trip = false → x.lasting = false → x.cancel = false → s.displaced seg.toNat mbx.toNat = false →
        (bit = true → mbx.toNat ∉ (s.seg seg.toNat).bitErrs) → s.estate seg.toNat = 0 → lec ≠ 1 →
        s.get (F.fbErrTec.page seg.toNat) + 8 * eights.toNat < 248 →
        ∃ t, exec (.txAttemptEnd seg mbx (.error lec bit eights) overload ran) s = .next t
          ∧ t.get (F.fbErrTec.page seg.toNat) = s.get (F.fbErrTec.page seg.toNat) + 8 * eights.toNat + 8
          ∧ t.get (F.fbStatLec.page seg.toNat) = lec.toNat ∧ t.requests seg.toNat = s.requests seg.toNat) ∧
      (∀ (mbx : BitVec 6) x (lec : BitVec 3) (eights : BitVec 4) overload ran, (s.seg seg.toNat).tx = some x →
        x.mbx = mbx.toNat → noCommit seg.toNat s → (∀ y ∈ x :: (s.seg seg.toNat).tries, y.fromSeg = none) → s.estate seg.toNat = 1 → lec ≠ 1 → lec ≠ 3 →
        248 ≤ s.get (F.fbErrTec.page seg.toNat) + 8 * eights.toNat →
        ∃ t, exec (.txAttemptEnd seg mbx (.error lec false eights) overload ran) s = .next t
          ∧ t.estate seg.toNat = 2 ∧ (∀ k < 64, (t.requests seg.toNat).testBit k = true → t.keptOf seg.toNat k = true)
          ∧ t.raised (fbPage seg.toNat) 7 = true
          ∧ t.mxRun seg.toNat = false) ∧
      (s.fbLive seg.toNat = true → s.estate seg.toNat = 2 → s.flag (F.fbCtlAutoRec.page seg.toNat) = true →
        s.reached (((s.seg seg.toNat).boffAt + s.get (F.fbCtlBoffHold.page seg.toNat)) % 2 ^ 32) = true →
        ∃ t, exec (.boffHoldExpiry seg) s = .next t ∧ t.estate seg.toNat = 3) ∧
      (∀ h m, Passes h (0x05008C + 0x1000 * seg.toNat) 1 m s → getBit m 0 = true → s.estate seg.toNat = 2 →
        ∃ t, exec (.recStart h seg) s = .next t ∧ t.estate seg.toNat = 3) ∧
      (s.fbLive seg.toNat = true → s.estate seg.toNat = 3 → ∃ t, exec (.busOffRecovered seg) s = .next t
        ∧ t.estate seg.toNat = 0 ∧ t.get (F.fbErrTec.page seg.toNat) = 0 ∧ t.get (F.fbErrRec.page seg.toNat) = 0
        ∧ t.raised (fbPage seg.toNat) 8 = true))

/-! The lantern panel. -/

/-- Frames (R454, R463, R464, R461, R462, R466): at a boundary the display states, the band, the lamp test and every
region's fade take effect in one step, and a row slot drives the row's columns at the latched levels, the sixteen rows
in their order (R455). The driver temperature is read every 32 tide ticks while the panel is not dark. In STANDBY a beacon
pulse comes at a multiple of 32 ticks between its power sequences (R467; that they drive the pins alone is the model's
choice, log entry 49). -/
def Obligations.PanelFramesTakeEffect : Prop :=
  ∀ s : State, s.Canonical →
    (s.panel.pwr = .lit → 16 ≤ s.panel.row → s.flag (F.hdrPageCommitCommit.page 0x088) = false →
      Sparse.rising 0 s.panel.latched = true →
      ∃ t, exec .frameBoundary s = .next t
        ∧ t.flag F.lanStatLamptest = s.testWanted ∧ (s.panel.bandWant < 4 → t.get F.lanStatBand = s.panel.bandWant)
        ∧ t.flag F.lanStatLf = (!s.flag F.clkStatHfxoRun)
        ∧ (∀ r < 16, ∀ level fade, s.panel.requests.find? (fun x => x.1 == r) = some (r, level, fade) →
          t.get (F.lanRegionHiNow.idx r) = (fadeAt (s.get (F.lanRegionHiNow.idx r)) level fade 1).toNat % 2 ^ 12
            ∧ t.get (F.lanRegionHiLeft.idx r) = (fade - 1) % 2 ^ 16)
        ∧ (s.flag F.lanCtlSlowLatch = false → ∀ w < 512, Sparse.get (fun _ => 0) t.panel.latched w = s.displayNow w)
        ∧ t.panel.levels = t.frameLevels ∧ t.panel.slowDue = false ∧ t.panel.row = 0) ∧
    (s.panel.row < 16 → exec .frameBoundary s = .next s) ∧
    (∀ r : BitVec 4, r.toNat ≠ s.panel.row → exec (.rowSlot r) s = .next s) ∧
    (∀ r : BitVec 4, s.panel.pwr = .lit → r.toNat = s.panel.row → ∃ t, exec (.rowSlot r) s = .next t
      ∧ t.panel.row = s.panel.row + 1 ∧ t.out = s.out ++ [.row r.toNat (s.flag F.lanStatLf) (s.get F.lanCtlIset) (s.get F.lanCtlPrech) (s.rowCols r.toNat)]) ∧
    (∀ temp : BitVec 16, (s.flag F.lanStatDark = true ∨ ∃ at_, s.panel.tempAt = some at_ ∧ s.since at_ < 32) →
      exec (.panelTempRead temp) s = .next s) ∧
    (∀ temp : BitVec 16, s.flag F.lanStatDark = false → (∀ at_, s.panel.tempAt = some at_ → 32 ≤ s.since at_) →
      ∃ t, exec (.panelTempRead temp) s = .next t ∧ t.get F.lanStatTemp = temp.toNat ∧ t.panel.tempAt = some s.now
      ∧ t.panel.bandWant = bandAfter (signedOf 8 (s.get F.lanDerateT1)) (signedOf 8 (s.get F.lanDerateT2))
        (signedOf 8 (s.get F.lanDerateT3)) (signedOf 16 temp.toNat) s.panel.bandWant) ∧
    (s.standby = true → s.now % 32 = 0 → s.flag F.lanBeaconEn = true → s.pageEn 0x088 = true →
      s.flag F.pwrStatVledFail = false → s.flag F.pwrStatVdd33Warn = false → ∃ t cols, exec .beaconPulse s = .next t
        ∧ t.out = s.out ++ [.panelSeq true 66,
          .beacon (s.get F.lanBeaconWindow / 32) (s.get F.lanCtlIset) (s.get F.lanCtlPrech) cols 1638, .panelSeq false 66]
        ∧ cols.length = 64
        ∧ ∀ i < 64, cols[i]? = some (if i / 2 = s.get F.lanBeaconWindow % 32 ∧ (s.get F.lanBeaconElem).testBit (i % 2)
          then s.get F.lanBeaconDuty else 0))

/-- Panel commands and power (R457, R462, R465, R466): a region request waits for its frame; HOSTWIN sets a host
window and is refused on another; the lamp test starts, ends and expires, and its input is taken only where the samples of
LT_DI bear it out and VFIELD is good (R224); the panel lights after its discharge and falls dark when VDD33 is low or EN is
0, also when that has passed by the end of the row slot. -/
def Obligations.PanelCommandsTakeEffect : Prop :=
  ∀ s : State, s.Canonical →
    (∀ h (r : BitVec 4) v, Passes h (0x088100 + 8 * r.toNat) v 0xFFF0FFFF s → ∃ t, exec (.regionRequest h r v) s = .next t
      ∧ t.get (F.lanRegionLevel.idx r.toNat) = getBits v 31 20 ∧ t.get (F.lanRegionFade.idx r.toNat) = getBits v 15 0
      ∧ t.panel.requests.find? (fun x => x.1 == r.toNat) = some (r.toNat, getBits v 31 20, getBits v 15 0)) ∧
    (∀ h v m, Passes h 0x088058 v m s → m ≠ 0 → Sparse.rising 0 s.panel.hostWin = true →
      (getBits (s.winRec0 (getBits v 24 16)) 30 29 = 0 → ∃ t, exec (.hostwinWrite h v) s = .next t
        ∧ Sparse.get (fun _ => 0) t.panel.hostWin (getBits v 24 16) = getBits v 2 0) ∧
      (getBits (s.winRec0 (getBits v 24 16)) 30 29 ≠ 0 → ∃ t, exec (.hostwinWrite h v) s = .next t
        ∧ t.panel = s.panel ∧ t.raised 0x088 5 = true ∧ t.raised 0x088 31 = true)) ∧
    (∀ h m, Passes h 0x088048 (bitWord 0) m s → getBit m 0 = true →
      (s.panelDark = false → ∃ t, exec (.lamptest h) s = .next t ∧ t.panel.hostTest = some s.now) ∧
      (s.panelDark = true → ∃ t, exec (.lamptest h) s = .next t ∧ t.panel = s.panel ∧ t.raised 0x088 5 = true)) ∧
    (∀ h m, Passes h 0x088048 (bitWord 1) m s → getBit m 1 = true → ∃ t, exec (.ltStop h) s = .next t
      ∧ t.panel = { s.panel with hostTest := none }) ∧
    (∀ a b, s.panel.hostTest = some a → s.panel.inputTest = some b → ∃ t, exec .lamptestExpiry s = .next t
      ∧ (t.panel.hostTest = none ↔ 320 ≤ s.since a) ∧ (t.panel.inputTest = none ↔ 1920 ≤ s.since b)) ∧
    (∀ level, (s.flag F.pwrStatVfieldFail = true ∨ s.diLevel (s.get F.lanCtlLtDi) ≠ level) →
      exec (.lamptestInput level) s = .next s) ∧
    (s.configured = true → s.flag F.pwrStatVfieldFail = false →
      (s.diLevel (s.get F.lanCtlLtDi) = false → ∃ t, exec (.lamptestInput false) s = .next t
        ∧ t.panel.inputTest = none ∧ t.panel.inputSpent = false ∧ t.panel.inputHigh = false) ∧
      (s.diLevel (s.get F.lanCtlLtDi) = true → s.flag F.lanCtlLtEn = true → s.panel.inputSpent = false →
        s.panel.inputTest = none → s.panelDark = false →
        ∃ t, exec (.lamptestInput true) s = .next t ∧ t.panel.inputTest = some s.now ∧ t.panel.inputHigh = true)) ∧
    (s.panel.pwr = .rising → s.panelMay = true → s.panel.offDue = false → s.flag (F.hdrPageCommitCommit.page 0x088) = false →
      ∃ t, exec .panelPowerOnDone s = .next t ∧ t.panel.pwr = .lit ∧ t.flag F.lanStatDark = false) ∧
    ((s.panel.pwr = .lit ∨ s.panel.pwr = .rising) →
      (s.panel.offDue = true ∨ s.flag F.pwrStatVdd33Warn = true ∨ s.pageEn 0x088 = false) →
      ∃ t, exec .panelPowerOff s = .next t ∧ t.panel.pwr = .falling ∧ t.panel.levels = [] ∧ t.panel.offDue = false) ∧
    (s.panel.pwr = .falling → s.flag (F.hdrPageCommitCommit.page 0x088) = false → ∃ t, exec .panelPowerOffDone s = .next t
      ∧ t.flag F.lanStatDark = true ∧ t.raised 0x088 4 = true ∧ t.panel.levels = []
      ∧ t.panel.pwr = (if s.panelMay then .rising else .dark))

/-! The real-time clock. -/

/-- RTC ticks (R440, R443, R444, R447): the prescaler advances by the tick's step, a second boundary carries the
calendar, TRIM_POS advances always; while halted the held ticks count instead.
RTC commands (R446, R447, R449): a read of TIME_LO captures both words unless the host's shadow is held, a read of
TIME_HI or the timeout releases it; HALT and its release; OSF clears only while TIME_SET is 1. -/
def Obligations.RealTimeClockTakesEffect : Prop :=
  (∀ s : State, s.Canonical → s.rtc.pre < 128 →
      (s.rtcHalted = false → s.rtc.haltPend = false → s.get F.rtcTimeLoSubsec * 128 + s.rtc.pre + s.tickStep < 2 ^ 15 →
        ∃ t, exec .rtcTick s = .next t ∧ t.cal = s.cal
          ∧ t.get F.rtcTimeLoSubsec * 128 + t.rtc.pre = s.get F.rtcTimeLoSubsec * 128 + s.rtc.pre + s.tickStep) ∧
      (s.rtcHalted = false → s.rtc.haltPend = false → 2 ^ 15 ≤ s.get F.rtcTimeLoSubsec * 128 + s.rtc.pre + s.tickStep →
        ∃ t, exec .rtcTick s = .next t ∧ t.cal = (carrySec s.gregorian s.cal).1
          ∧ t.get F.rtcTimeLoSubsec * 128 + t.rtc.pre + 2 ^ 15 = s.get F.rtcTimeLoSubsec * 128 + s.rtc.pre + s.tickStep) ∧
      (s.rtcHalted = true → ∃ t, exec .rtcTick s = .next t ∧ t.cal = s.cal
        ∧ t.get F.rtcTimeLoSubsec = s.get F.rtcTimeLoSubsec ∧ t.rtc.pre = s.rtc.pre
        ∧ t.get F.rtcHaltTicksTicks = min (2 ^ 24 - 1) (s.get F.rtcHaltTicksTicks + 1)) ∧
      (∃ t, exec .rtcTick s = .next t ∧ t.get F.rtcTrimPosPos = (s.get F.rtcTrimPosPos + 1) % 2 ^ 22
        ∧ t.rtc.haltPend = false)) ∧
  (∀ (s : State) (h : HostId), s.Canonical →
      (s.answers = true → s.flag F.pwrStatLockout = false → s.shadow h = none → ∃ t, exec (.timeLoRead h) s = .next t
        ∧ t.shadow h = some (s.reg 0x080044, s.reg 0x080048) ∧ t.shadow (otherHost h) = s.shadow (otherHost h)) ∧
      (∀ x, s.answers = true → s.shadow h = some x → ∃ t, exec (.timeLoRead h) s = .next t ∧ t.shadow h = some x) ∧
      (s.answers = true → s.flag F.pwrStatLockout = false → ∃ t, exec (.timeHiRead h) s = .next t ∧ t.shadow h = none
        ∧ t.shadow (otherHost h) = s.shadow (otherHost h)) ∧
      (∃ t, exec (.shadowReleaseTimeout h) s = .next t ∧ t.shadow h = none ∧ t.regs = s.regs) ∧
      (∀ m, Passes h 0x080040 (s.reg 0x080040 ||| bitWord 0) m s → getBit m 0 = true → s.flag F.rtcCtlHalt = false →
        ∃ t, exec (.rtcHalt h) s = .next t ∧ t.flag F.rtcCtlHalt = true ∧ t.get F.rtcHaltTicksTicks = 0
          ∧ t.rtc.haltPend = true ∧ t.cal = s.cal) ∧
      (∀ m, Passes h 0x080040 (s.reg 0x080040 &&& ~~~(bitWord 0)) m s → getBit m 0 = true → s.flag F.rtcCtlHalt = true →
        ∃ t, exec (.rtcRelease h) s = .next t ∧ t.flag F.rtcCtlHalt = false ∧ t.flag F.rtcStatTimeSet = true
          ∧ t.rtc.haltPend = false ∧ t.raised 0x080 5 = true ∧ (s.flag F.rtcCtlApplyHeld = false → t.cal = s.cal)
          ∧ (s.flag F.rtcCtlApplyHeld = true → s.rtc.pre < 128 → t.get F.rtcTimeLoSubsec * 128 + t.rtc.pre =
            (s.get F.rtcTimeLoSubsec * 128 + s.rtc.pre + s.get F.rtcHaltTicksTicks) % 2 ^ 15)) ∧
      (∀ m, Passes h 0x08004C (osfWord h s) m s → getBit m 31 = true →
        (s.flag F.rtcStatTimeSet = true → ∃ t, exec (.osfClear h) s = .next t ∧ t.flag F.rtcStatOsf = false) ∧
        (s.flag F.rtcStatTimeSet = false → s.lastingCode 0x080 = 0 → ∃ t, exec (.osfClear h) s = .next t
          ∧ t.flag F.rtcStatOsf = s.flag F.rtcStatOsf ∧ t.get (F.hdrPageStatFaultCode.page 0x080) = 0x32)))

/-! The crossing. -/

/-- The epoch that a header carries does not wrap this node's, which follows the head's (R341). -/
abbrev noEpochWrap (f : XFrame) (s : State) : Prop :=
  f.origin = s.get F.xnetStatHead → f.origin ≠ s.nodeId → s.epoch ≤ f.epoch

/-- Ports (R319, R321): the poll reads the PHY and follows the link, a link resolved to half duplex or 10 Mbit/s is refused, the SYNC exchange brings a port that faces its neighbour up and puts
one that does not into WRONG, and a faulty port returns to SYNCING after 32 ticks.
Hops and PHY management (R326 to R328, R351): a hop-ack frees the frames it covers; the oldest frame that has not been sent
again is, once in its life (R365), with every later one, and a second silence is a lasting fault; an MDIO access runs from GO
to its completion, and waits while its pins are held (the model's choice, log entry 31). -/
def Obligations.PortsAndHopsTakeEffect : Prop :=
  (∀ (s : State) (port : BitVec 2), s.Canonical → s.xp.length = 4 →
      (∀ phy, s.xpState port.toNat ≠ 0 → phy.r1.getLsbD 2 = false → ∃ t, exec (.phyPoll port phy) s = .next t
        ∧ t.xpState port.toNat = 1 ∧ t.flag (F.xpStatPhyLink.page port.toNat) = false) ∧
      (∀ phy k, s.xpState port.toNat = 1 → phy.r1.getLsbD 2 = true → s.phySpeed port.toNat phy = some k → k = 1 ∨ k = 2 →
        ∃ t, exec (.phyPoll port phy) s = .next t ∧ t.xpState port.toNat = 2
          ∧ t.flag (F.xpStatPhyLink.page port.toNat) = true ∧ t.get (F.xpStatSpeed1g.page port.toNat) = k - 1
          ∧ t.out = s.out ++ [1, 4, 5, 9, 10].map fun r => .mdio false (s.get (F.xpCtlPhyad.page port.toNat)) r 0) ∧
      (∀ phy, s.xpState port.toNat ≠ 0 → phy.r1.getLsbD 2 = true → s.phySpeed port.toNat phy = some 0 →
        ∃ t, exec (.phyPoll port phy) s = .next t ∧ t.xpState port.toNat = 1
          ∧ ((s.xport port.toNat).refused = false → t.raised (xpPage port.toNat) 5 = true)) ∧
      (s.xpState port.toNat = 2 → ∃ t bytes, exec (.syncSend port) s = .next t ∧ t.out = s.out ++ [.frame port.toNat bytes]
        ∧ leAt bytes 15 1 = 0x08 ∧ leAt bytes 16 2 = 8) ∧
      (∀ frame r, parseFrame frame = some r → r.frame.cls = 0x08 → r.frame.lenOk = true → r.frame.sync = true →
        r.frame.origin ≠ s.nodeId → s.xpState port.toNat = 2 →
        (leAt r.frame.body 2 1 = facing port.toNat → (s.xport port.toNat).syncAck = false →
          ∃ t bytes, exec (.syncReceive port frame) s = .next t ∧ t.xpState port.toNat = 2
            ∧ (t.xport port.toNat).syncRx = true
            ∧ (noEpochWrap r.frame s → t.out = s.out ++ [.frame port.toNat bytes])) ∧
        (leAt r.frame.body 2 1 = facing port.toNat → (s.xport port.toNat).syncAck = true →
          ∃ t, exec (.syncReceive port frame) s = .next t ∧ t.xpState port.toNat = 3
            ∧ t.get (F.xpStatNeighNode.page port.toNat) = r.frame.origin
            ∧ t.get (F.xpStatNeighPort.page port.toNat) = facing port.toNat) ∧
        (leAt r.frame.body 2 1 ≠ facing port.toNat → ∃ t, exec (.syncReceive port frame) s = .next t
          ∧ t.xpState port.toNat = 5 ∧ t.raised (xpPage port.toNat) 3 = true ∧ t.lastingCode (xpPage port.toNat) = 0x41)) ∧
      (s.xpState port.toNat = 4 → 32 ≤ s.since (s.xport port.toNat).faultAt →
        ∃ t, exec (.faultyRecovery port) s = .next t ∧ t.xpState port.toNat = 2)) ∧
  (∀ (s : State) (port : BitVec 2), s.Canonical → s.xp.length = 4 →
      (∀ frame r, parseFrame frame = some r → r.frame.cls = 0x08 → r.frame.lenOk = true → r.frame.sync = false → s.xpState port.toNat = 3 →
        s.ord.xq = [] → noEpochWrap r.frame s → ∃ t, exec (.hopAckReceive port frame) s = .next t
          ∧ (t.xport port.toNat).unacked = (s.xport port.toNat).unacked.filter (fun x => !hseqLe x.1 (leAt r.frame.body 0 2))
          ∧ (t.xport port.toNat).resent =
            (s.xport port.toNat).resent - ((s.xport port.toNat).unacked.length - (t.xport port.toNat).unacked.length)
          ∧ t.out = s.out) ∧
      (s.xpState port.toNat = 3 → (s.xport port.toNat).unacked.drop (s.xport port.toNat).resent ≠ [] →
        ∃ t, exec (.hopRetransmit port) s = .next t ∧ (t.xport port.toNat).resent = (s.xport port.toNat).unacked.length
          ∧ (t.xport port.toNat).unacked = (s.xport port.toNat).unacked
          ∧ t.out = s.out ++ ((s.xport port.toNat).unacked.drop (s.xport port.toNat).resent).map
            fun x => .frame port.toNat (x.2.bytes port.toNat s.nodeId x.1)) ∧
      ((s.xport port.toNat).unacked.length ≤ (s.xport port.toNat).resent → exec (.hopRetransmit port) s = .next s) ∧
      (s.xpState port.toNat = 3 → (s.xport port.toNat).unacked ≠ [] → 0 < (s.xport port.toNat).resent → s.ord.xq = [] →
        ∃ t, exec (.hopLastingFault port) s = .next t ∧ t.xpState port.toNat = 4 ∧ (t.xport port.toNat).unacked = []
          ∧ (t.xport port.toNat).faultAt = s.now ∧ t.raised (xpPage port.toNat) 2 = true
          ∧ t.lastingCode (xpPage port.toNat) = 0x40) ∧
      (∀ h v m, Passes h 0x064070 v m s → s.flag F.xnetMdioGo = false → getBit (v &&& m) 31 = true →
        ∃ t, exec (.mdioAccess h v) s = .next t ∧ t.flag F.xnetMdioGo = true
          ∧ ((s.configured = false ∨ s.standby = true) → t.out = s.out)
          ∧ (s.configured = true → s.standby = false → t.out = s.out ++ [.mdio (t.flag F.xnetMdioWrite) (t.get F.xnetMdioPhyad) (t.get F.xnetMdioRegad) (t.get F.xnetMdioData)])) ∧
      (∀ data : BitVec 16, s.configured = true → s.standby = false → s.flag F.xnetMdioGo = true → ∃ t, exec (.mdioComplete data) s = .next t
        ∧ t.flag F.xnetMdioGo = false ∧ t.raised 0x064 17 = true
        ∧ t.get F.xnetMdioData = (if s.flag F.xnetMdioWrite then s.get F.xnetMdioData else data.toNat)))

/-- Frames on a hop and the ordering unit (R322, R326, R330, R331, R352, R355, R366, R369): a bad frame is counted, and
leaves nothing but, on ports of 1 Gbit/s, the copies of a first stream frame that cut-through had begun and ends with an inverted
FCS; the next value frame of a known stream is acknowledged, delivered with the receipt tally max(L, T) + 1 and passed on; a
hold that expires closes the missing range with a GAP; a ceiling write moves the ceiling, counts the return trips of its copies, and
reports a copy that it has lost. -/
def Obligations.StreamsAndCeilingTakeEffect : Prop :=
  ∀ s : State, s.Canonical →
    (∀ (port : BitVec 2) frame endRead, (s.xpState port.toNat = 2 ∨ s.xpState port.toNat = 3) →
      ∃ t, exec (.frameReceive port frame false endRead) s = .next t
        ∧ t.get (F.xpErrcntFcs.page port.toNat) = min 0xFFFF (s.get (F.xpErrcntFcs.page port.toNat) + 1)
        ∧ t.ord = s.ord ∧ t.xnet = s.xnet ∧ t.win = s.win
        ∧ ((s.xpState port.toNat = 2 ∨ s.flag (F.xpStatSpeed1g.page port.toNat) = false ∨ parseFrame frame = none) →
          t.out = s.out)
        ∧ ∀ r, parseFrame frame = some r → s.portUp port.toNat = true → s.flag (F.xpStatSpeed1g.page port.toNat) = true →
          r.frame.cls ∈ [0x01, 0x02, 0x03, 0x04, 0x05, 0x09] → r.frame.lenOk = true → r.frame.hops < 2048 →
          r.hseq = s.get (F.xpHseqRxNext.page port.toNat) →
          t.out = s.out ++ (if (streamTake port.toNat r.frame s).1 = true then
            ((forwardPorts port.toNat s).filter fun k => s.flag (F.xpStatSpeed1g.page k)).map fun k =>
              .cut k (({ r.frame with hops := r.frame.hops + 1 } : XFrame).bytes k s.nodeId (s.get (F.xpHseqTxNext.page k)))
            else [])) ∧
    (∀ (port : BitVec 2) frame r o endRead, s.portUp port.toNat = true → parseFrame frame = some r →
      r.hseq = s.get (F.xpHseqRxNext.page port.toNat) → r.frame.cls = 0x01 → r.frame.lenOk = true → r.frame.hops < 2048 →
      r.frame.origin ≠ s.nodeId → s.get F.xnetStatHead ≠ r.frame.origin → s.orig r.frame.origin = some o →
      o.expect = r.frame.oseq → o.held = [] → s.corrupt r.frame.tally = false → s.forMe r.frame = true → s.callIn = [] →
      s.mayStamp (receiptTally s.ord.tally r.frame.tally) = true →
      ∃ t, exec (.frameReceive port frame true endRead) s = .next t
        ∧ t.ord.tally = receiptTally s.ord.tally r.frame.tally
        ∧ t.orig r.frame.origin = some { o with expect := (o.expect + 1) % 2 ^ 32, lastTally := r.frame.tally, came := [] }
        ∧ t.get (F.xpHseqRxNext.page port.toNat) = (s.get (F.xpHseqRxNext.page port.toNat) + 1) % 2 ^ 16
        ∧ t.out.length = s.out.length + 1 + (forwardPorts port.toNat s).length) ∧
    (∀ (origin : NodeIdx) o q lim f, s.orig origin.toNat = some o → o.held = [(q, lim, some f)] → ahead o q ≠ 0 →
      s.forMe f = false → ∃ t, exec (.streamHoldExpiry origin) s = .next t ∧ t.raised 0x065 0 = true
        ∧ t.get F.ordGapcntStream = min 0xFFFF (s.get F.ordGapcntStream + 1)
        ∧ t.get F.ordHoldStreamMax = max (s.get F.ordHoldStreamMax) (min 0xFFFF o.limit)
        ∧ t.orig origin.toNat = some { o with
          expect := (q + 1) % 2 ^ 32, lastTally := f.tally, held := [], gaps := (o.expect, ahead o q) :: o.gaps }) ∧
    (∀ c tripA tripB, s.ord.ceilWrite = some c → s.ord.waitq = [] → s.ord.xq = [] →
      (s.ceilAon = false → ∃ t, exec (.ceilWriteDone true true tripA tripB) s = .next t ∧ t.ord.ceil = c
        ∧ t.ord.ceilWrite = none ∧ t.ord.tally = s.ord.tally ∧ t.out = s.out
        ∧ t.get (F.hdrRetryCntTransient.page 0x065) = min 0xFFFF (s.get (F.hdrRetryCntTransient.page 0x065)
          + b2n (s.ord.ceilAOk && tripA) + b2n (s.ord.ceilBOk && tripB))) ∧
      (s.ceilAon = true → ∀ okA okB, ∃ t, exec (.ceilWriteDone okA okB tripA tripB) s = .next t ∧ t.ord.aonCeil = some c
        ∧ t.ord.ceilWrite = none ∧ t.ord.tally = s.ord.tally ∧ t.out = s.out) ∧
      (s.ord.ceilAOk = true → ∀ okB, ∃ t, exec (.ceilWriteDone false okB tripA tripB) s = .next t ∧ t.ord.ceil = c
        ∧ t.raised 0x065 6 = true))

/-- The census and membership (R333 to R338): a master starts and completes its rounds, a passive node none, a quiet ring gets a new master,
a summary adds the nodes it names; at the end of an interval a node seen is present, one missed three times running is
not, and is lost unless it had left. -/
def Obligations.CensusAndMembershipTakeEffect : Prop :=
  ∀ s : State, s.Canonical →
    (∀ r, s.takesPart = true → s.flag (masterFld r) = true → ∃ t rd, exec (.censusRoundStart r) s = .next t
      ∧ (t.ring r).round = some rd ∧ rd.number = (s.ring r).nextRound ∧ rd.seen = ownMap s
      ∧ (t.ring r).nextRound = ((s.ring r).nextRound + 1) % 2 ^ 16
      ∧ t.out.length = s.out.length + 4 * (ownPorts r s).length) ∧
    (∀ r, s.takesPart = true → s.flag (masterFld r) = false → 3 ≤ (s.ring r).quiet →
      ∃ t rd, exec (.censusMasterTakeover r) s = .next t ∧ t.flag (masterFld r) = true ∧ (t.ring r).round = some rd) ∧
    (∀ (port : BitVec 2) frame f r, parseFrame frame = some f → f.frame.cls = 0x07 → f.frame.lenOk = true →
      f.frame.hops < 2048 → s.portUp port.toNat = true → leAt f.frame.body 0 1 = 1 → r = (if (leAt f.frame.body 1 1).testBit 0 then Ring.s else .p) →
      leAt f.frame.body 2 2 % 1024 ≠ s.nodeId →
      (leAt f.frame.body 2 2 % 1024, ringNo r, leAt f.frame.body 4 2, leAt f.frame.body 1 1 / 4 % 4) ∉ (s.ring r).summaries →
      ∃ t, exec (.censusFrameReceive port frame) s = .next t
        ∧ t.xnet.seenNow = s.xnet.seenNow ||| mapOf (slice f.frame.body 16 32) (leAt f.frame.body 1 1 / 4 % 4)
        ∧ t.xnet.capNow = s.xnet.capNow ||| mapOf (slice f.frame.body 48 32) (leAt f.frame.body 1 1 / 4 % 4)
        ∧ t.xnet.present = s.xnet.present) ∧
    (∀ r, s.flag F.xnetStatPassive = true → ∃ t, exec (.censusRoundComplete r) s = .next t ∧ (t.ring r).round = none
      ∧ t.out = s.out) ∧
    (∀ r rd, s.flag F.xnetStatPassive = false → (s.ring r).round = some rd → ∃ t, exec (.censusRoundComplete r) s = .next t
      ∧ (t.ring r).round = none ∧ t.xnet.seenNow = s.xnet.seenNow ||| rd.seen ∧ t.xnet.capNow = s.xnet.capNow ||| rd.cap
      ∧ t.flag (closedFld r) = (rd.pending.isEmpty && !rd.turned)) ∧
    (s.configured = true → s.standby = false → ∃ t, exec .membershipInterval s = .next t
      ∧ t.xnet.seenNow = 0 ∧ t.xnet.present.getLsbD s.nodeId = true
      ∧ ∀ k < 1024, k ≠ s.nodeId →
        t.xnet.present.getLsbD k = (s.xnet.seenNow.getLsbD k
          || (s.xnet.present.getLsbD k && decide (Sparse.get (fun _ => 0) s.xnet.missed k < 2)))
        ∧ t.xnet.lost.getLsbD k =
          ((s.xnet.lost.getLsbD k && !(s.xnet.seenNow.getLsbD k && !s.xnet.present.getLsbD k))
            || (s.xnet.present.getLsbD k && !s.xnet.seenNow.getLsbD k
              && decide (2 ≤ Sparse.get (fun _ => 0) s.xnet.missed k) && !s.xnet.departed.getLsbD k)))

/-- Commands across the crossing (R338, R343, R345, R346): replay sends the next record and ends with REJOIN_DONE; an
acknowledgement for an absent node is held with result 8; lost nodes are forgotten one by one or all at once. -/
def Obligations.CrossingCommandsTakeEffect : Prop :=
  ∀ s : State, s.Canonical →
    (∀ lo hi r, s.configured = true → s.standby = false → s.xnet.replay = some (lo, hi) → lowestRec s.replayLeft = some r →
      ∃ t, exec .replaySend s = .next t ∧ t.xnet.replay = some (r.tally + 1, hi)
        ∧ (freeToSend s → s.xnet.rejoinPts = [] →
          sends (s.newFrame 0x02 0 r.tally true true ([2, 0, 0, 0] ++ r.bytes)) s t)) ∧
    (∀ lo hi, s.configured = true → s.standby = false → s.xnet.replay = some (lo, hi) → lowestRec s.replayLeft = none →
      s.xnet.rejoinPts = [] → ∃ t, exec .replaySend s = .next t ∧ t.xnet.replay = none
        ∧ t.flag F.xnetStatRejoining = false ∧ t.raised 0x064 9 = true) ∧
    (∀ h v m, Passes h 0x064080 v m s → m ≠ 0 → s.getH h F.xnetRackResBusy ≠ 1 →
      ∃ t, exec (.remoteAckCommand h v) s = .next t ∧ t.getH h F.xnetRackResDone = 1 ∧ t.raised 0x064 11 = true
        ∧ ((getBits v 31 28 = 0 ∨ 5 < getBits v 31 28) → t.getH h F.xnetRackResResult = 15 ∧ t.xnet = s.xnet)
        ∧ (1 ≤ getBits v 31 28 → getBits v 31 28 ≤ 5 → getBit v 27 = false → s.isPresent (getBits v 26 17) = false →
          getBits v 26 17 ≠ s.nodeId → t.getH h F.xnetRackResResult = 8
          ∧ ((getBits v 31 28 ≠ 3 ∧ getBits v 31 28 ≠ 5 ∨ s.xnet.lost.getLsbD (getBits v 26 17) = false) → t.xnet.pendAcks.getLast? = some ⟨getBits v 26 17, getBits v 31 28,
            if getBits v 31 28 = 3 then getBits v 16 0 % 4096 else getBits v 16 0,
            (s.regH h F.xnetRackArgInstance.addr).toNat, issuerWord h s⟩))) ∧
    (∀ h (node : NodeIdx) m, Passes h 0x06406C (BitVec.ofNat 32 (2 ^ 28 + node.toNat)) m s → m ≠ 0 →
      (s.xnet.lost.getLsbD node.toNat = true → ∃ t, exec (.forgetNode h node) s = .next t
        ∧ t.xnet.lost = s.xnet.lost &&& ~~~(nodeBit node.toNat) ∧ t.xnet.changed = true) ∧
      (s.xnet.lost.getLsbD node.toNat = false → ∃ t, exec (.forgetNode h node) s = .next t
        ∧ t.xnet = s.xnet ∧ t.raised 0x064 31 = true)) ∧
    (∀ h m, Passes h 0x06406C (BitVec.ofNat 32 (2 * 2 ^ 28)) m s → m ≠ 0 → s.xnet.lost ≠ 0 →
      ∃ t, exec (.forgetAllLost h) s = .next t ∧ t.xnet.lost = 0 ∧ t.xnet.changed = true
        ∧ t.xnet.present = s.xnet.present)

/-- Configuration transfers (R347, R348): BEGIN, STAGE and INSTALL open a transfer to a present node, and one to an
absent node ends with result 17; END and ABORT are sent; data words collect into frames of 64 bytes; a result other
than 0, or 64 ticks of silence, ends the transfer. At the target a staging transfer's data reaches the staging
window. Frames received are under the receipt rule (R352). -/
def Obligations.ConfigurationTransfersTakeEffect : Prop :=
  ∀ s : State, s.Canonical →
    (∀ h (node : NodeIdx) m, s.xnet.xferOut = none → node.toNat ≠ s.nodeId → s.isPresent node.toNat = true → m ≠ 0 →
      (Passes h 0x064090 (rcfgWord 1 node.toNat 0) m s → ∃ t, exec (.rcfgBegin h node) s = .next t
        ∧ t.xnet.xferOut = some ⟨node.toNat, false, 0, s.get F.xnetRcfgLenLen, 0, [], 1, s.now⟩
        ∧ t.xnet.xferNo = (s.xnet.xferNo + 1) % 2 ^ 16) ∧
      (∀ slot : BitVec 4, Passes h 0x064090 (rcfgWord 5 node.toNat slot.toNat) m s →
        ∃ t, exec (.rcfgStage h node slot) s = .next t
          ∧ t.xnet.xferOut = some ⟨node.toNat, true, slot.toNat, s.get F.xnetRcfgLenLen, 0, [], 5, s.now⟩) ∧
      (∀ slot : BitVec 4, Passes h 0x064090 (rcfgWord 4 node.toNat slot.toNat) m s →
        ∃ t, exec (.rcfgInstall h node slot) s = .next t
          ∧ t.xnet.xferOut = some ⟨node.toNat, false, slot.toNat, 0, 0, [], 4, s.now⟩ ∧ t.xnet.xferNo = s.xnet.xferNo)) ∧
    (∀ h (node : NodeIdx) m, s.xnet.xferOut = none → s.isPresent node.toNat = false → m ≠ 0 →
      Passes h 0x064090 (rcfgWord 1 node.toNat 0) m s → ∃ t, exec (.rcfgBegin h node) s = .next t
        ∧ t.xnet.xferOut = none ∧ t.get F.xnetRcfgResResult = 17 ∧ t.flag F.xnetRcfgResDone = true) ∧
    (∀ h (node : NodeIdx) m x, s.xnet.xferOut = some x → m ≠ 0 →
      (Passes h 0x064090 (rcfgWord 2 node.toNat 0) m s → ∃ t, exec (.rcfgEnd h node) s = .next t
        ∧ t.xnet.xferOut = some { x with off := x.off + x.buf.length, buf := [], op := 2, at_ := s.now }
        ∧ (freeToSend s → x.buf = [] → sends (s.newFrame 0x09 x.node (s.ord.tally + 1) false false
          ([1] ++ leBytes 1 2 ++ leBytes 2 s.xnet.xferNo ++ leBytes 4 0 ++ leBytes 1 0 ++ leBytes 3 0)) s t)) ∧
      (Passes h 0x064090 (rcfgWord 3 node.toNat 0) m s → ∃ t, exec (.rcfgAbort h node) s = .next t
        ∧ t.xnet.xferOut = some { x with op := 3, at_ := s.now }
        ∧ (freeToSend s → sends (s.newFrame 0x09 x.node (s.ord.tally + 1) false false
          ([1] ++ leBytes 1 3 ++ leBytes 2 s.xnet.xferNo ++ leBytes 4 0 ++ leBytes 1 0 ++ leBytes 3 0)) s t))) ∧
    (∀ h v m x, s.xnet.xferOut = some x → s.flag F.xnetRcfgResReady = true → Passes h 0x064098 v m s → m ≠ 0 →
      (x.buf.length < 60 → ∃ t, exec (.rcfgData h v) s = .next t
        ∧ t.xnet.xferOut = some { x with buf := x.buf ++ leBytes 4 v.toNat }) ∧
      (x.buf.length = 60 → ∃ t, exec (.rcfgData h v) s = .next t
        ∧ t.xnet.xferOut = some { x with off := x.off + 64, buf := [], at_ := s.now }
        ∧ (freeToSend s → sends (s.newFrame 0x09 x.node (s.ord.tally + 1) false false
          ([0, 0] ++ leBytes 2 s.xnet.xferNo ++ leBytes 4 x.off ++ leBytes 1 64 ++ leBytes 3 0
            ++ (x.buf ++ leBytes 4 v.toNat))) s t))) ∧
    (∀ frame r x, parseFrame frame = some r → r.frame.cls = 0x09 → r.frame.lenOk = true → leAt r.frame.body 0 1 = 2 →
      s.forMe r.frame = true → s.xnet.xferOut = some x → x.node = r.frame.origin → leAt r.frame.body 2 2 = s.xnet.xferNo →
      leAt r.frame.body 8 1 ≠ 0 → s.corrupt r.frame.tally = false →
      s.mayStamp (receiptTally s.ord.tally r.frame.tally) = true → ∃ t, exec (.rcfgResultReceive frame) s = .next t ∧ t.xnet.xferOut = none
        ∧ t.get F.xnetRcfgResResult = leAt r.frame.body 8 1 ∧ t.flag F.xnetRcfgResDone = true
        ∧ t.raised 0x064 18 = true) ∧
    (∀ x, s.xnet.xferOut = some x → s.flag F.xnetRcfgResReady = false → 64 ≤ s.since x.at_ →
      ∃ t, exec .rcfgTimeout s = .next t ∧ t.xnet.xferOut = none ∧ t.get F.xnetRcfgResResult = 17
        ∧ t.raised 0x064 18 = true) ∧
    (∀ frame r x endRead, parseFrame frame = some r → r.frame.cls = 0x09 → r.frame.lenOk = true → leAt r.frame.body 0 1 = 0 →
      s.corrupt r.frame.tally = false → s.mayStamp (receiptTally s.ord.tally r.frame.tally) = true →
      s.forMe r.frame = true → s.configured = true → s.flag F.xnetCfgRemoteCfg = true → s.localLoad = false →
      s.tt.install = none → s.xnet.xferIn = some x → x.stage = true → x.node = r.frame.origin → x.xfer = leAt r.frame.body 2 2 →
      x.off = leAt r.frame.body 4 4 → 4 ≤ leAt r.frame.body 8 1 → leAt r.frame.body 8 1 ≤ 64 → leAt r.frame.body 8 1 % 4 = 0 →
      x.off + leAt r.frame.body 8 1 ≤ 0x10000 → ∃ t, exec (.configFrameReceive frame endRead) s = .next t
        ∧ t.winBytes (0xE00000 + 0x10000 * x.slot + x.off) (leAt r.frame.body 8 1) = slice r.frame.body 12 (leAt r.frame.body 8 1)
        ∧ (∀ a, a < 0xE00000 + 0x10000 * x.slot + x.off
            ∨ 0xE00000 + 0x10000 * x.slot + x.off + leAt r.frame.body 8 1 ≤ a → t.winByte a = s.winByte a)
        ∧ t.xnet.xferIn = some { x with off := x.off + leAt r.frame.body 8 1 })

/-! Base images, keys and timetables. -/

/-- Loading a base image (R262, R267, R270, R271): BEGIN erases copy 2, words fill it page by page, END reads it, with a
return trip that is counted (R365) or a copy that cannot be read, and validates it, and a good image is copied to copy 1; END too early and ABORT end with result 13; a background repair copies a good store
over the bad one. -/
def Obligations.ImageLoadsTakeEffect : Prop :=
  ∀ s : State, s.Canonical →
    (∀ h m, Passes h 0x048060 (bitWord 0) m s → getBit m 0 = true → s.loading = false →
      ∃ t, exec (.imgBegin h) s = .next t ∧ t.loading = true ∧ t.flag F.ttbImgStatReady = false
        ∧ t.get F.ttbImgOffOff = 0 ∧ t.tt.erasing = true ∧ t.tt.len = s.get F.ttbImgLenLen) ∧
    (s.loading = true → s.tt.erasing = true → s.gateClosed = false →
      (∃ t, exec (.imgEraseDone true) s = .next t ∧ t.flag F.ttbImgStatReady = true ∧ t.tt.erasing = false
        ∧ ∀ a, t.norBytes a 1 = if 0xC00000 ≤ a ∧ a < 0x1800000 then [0xFF] else s.norBytes a 1) ∧
      (∃ t, exec (.imgEraseDone false) s = .next t ∧ t.loading = false ∧ t.get F.ttbImgStatResult = 11)) ∧
    (∀ h v m, Passes h 0x048068 v m s → m ≠ 0 → s.flag F.ttbImgStatReady = true → s.get F.ttbImgOffOff + 4 < 2 ^ 24 →
      ((s.get F.ttbImgOffOff + 4) % 256 ≠ 0 → s.get F.ttbImgOffOff + 4 < s.tt.len → ∃ t,
        exec (.imgData h v) s = .next t ∧ t.get F.ttbImgOffOff = s.get F.ttbImgOffOff + 4
          ∧ t.tt.page = s.tt.page ++ leBytes 4 v.toNat ∧ t.nor = s.nor) ∧
      ((s.get F.ttbImgOffOff + 4) % 256 = 0 → s.tt.page.length ≤ s.get F.ttbImgOffOff → s.gateClosed = false →
        s.tt.norHeld = [] → ∃ t, exec (.imgData h v) s = .next t ∧ t.tt.page = []
          ∧ t.norBytes (0xC00000 + s.get F.ttbImgOffOff - s.tt.page.length) (s.tt.page.length + 4)
            = s.tt.page ++ leBytes 4 v.toNat)) ∧
    (∀ h m, Passes h 0x048060 (bitWord 1) m s → getBit m 1 = true → s.loading = true → s.tt.copying = false →
      (∀ ok trip, (s.tt.erasing = true ∨ s.get F.ttbImgOffOff < s.tt.len) → ∃ t, exec (.imgEnd h ok trip) s = .next t ∧ t.loading = false
        ∧ t.get F.ttbImgStatResult = 13 ∧ t.raised 0x048 5 = true) ∧
      (s.tt.erasing = false → s.tt.len ≤ s.get F.ttbImgOffOff →
        (∀ a n, NorOp.erase a n ∈ s.tt.norHeld → copyBase 1 < a ∨ a + n ≤ copyBase 1) →
        ∀ trip, ∃ t, exec (.imgEnd h false trip) s = .next t ∧ t.loading = false
          ∧ t.get F.ttbImgStatResult = 11 ∧ t.raised 0x048 5 = true) ∧
      (s.tt.erasing = false → s.tt.len ≤ s.get F.ttbImgOffOff → s.tt.endRead = .ok → ∀ trip o u v,
        o = (if trip = true then NorRead.retryOk else .ok) →
        u = norRead (copyBase 1) o ((loadFlush (noteEndRead o s)).put F.ttbImgStatReady 0) →
        v = (norFlush (u.withTt { u.tt with endRead := .ok })).copyVerdict 1 → ∃ t, exec (.imgEnd h true trip) s = .next t
          ∧ t.get (F.hdrRetryCntTransient.page 0x048) =
            min 0xFFFF (s.get (F.hdrRetryCntTransient.page 0x048) + b2n trip)
          ∧ t.get F.ttbImgStatResult = v.1 ∧ t.tt.copying = decide (v.1 = 0) ∧ t.loading = decide (v.1 = 0))) ∧
    (s.tt.copying = true → s.gateClosed = false → s.phase = .running → ∀ array, ∃ t, exec (.imgCopy1Written array) s = .next t
      ∧ t.norBytes 0 (s.norImage 1).length = s.norImage 1 ∧ t.flag F.ttbImgStatNewer = true ∧ t.loading = false
      ∧ t.get F.ttbImgStatResult = 0 ∧ t.get F.ttbNorSerialSerial = imgSerial (s.norImage 1)) ∧
    (∀ h m, Passes h 0x048060 (bitWord 2) m s → getBit m 2 = true → s.loading = true →
      ∃ t, exec (.imgAbort h) s = .next t ∧ t.loading = false ∧ t.get F.ttbImgStatResult = 13
        ∧ t.raised 0x048 5 = true ∧ t.nor = s.nor) ∧
    (∀ src dst n rest, s.tt.repairs = (src, dst, n) :: rest → s.gateClosed = false → s.loading = false →
      ∃ t, exec .bootRepair s = .next t ∧ t.norBytes dst n = s.norBytes src n ∧ t.tt.repairs = rest)

/-- Key slots (R269): PROGRAM, REVOKE and AUTH_REQ act with the confirmation value, and every other KEY_CMD is refused;
KEY_DATA reads 0 afterwards, and a programmed slot holds its key. -/
def Obligations.KeyCommandsTakeEffect : Prop :=
  ∀ s : State, s.Canonical →
    (∀ h v m, Passes h 0x007040 v m s → m ≠ 0 → getBits v 23 8 = 0xC3A5 → s.tt.keyCmd = none →
      (getBits v 31 28 = 1 → s.keyProgrammed (getBits v 2 0) = false → ∃ t, exec (.keyProgram h v) s = .next t
        ∧ t.tt.keyCmd = some (getBits v 2 0, s.keyData) ∧ t.pageBusy 0x007 = true
        ∧ t.tt.keys = s.tt.keys) ∧
      (getBits v 31 28 = 2 → s.keyProgrammed (getBits v 2 0) = true → ∃ t, exec (.keyRevoke h v) s = .next t
        ∧ t.tt.revoked.testBit (getBits v 2 0) = true ∧ t.tt.keys = s.tt.keys
        ∧ (∀ k < 8, t.reg (0x007060 + 4 * k) = 0) ∧ t.raised 0x007 1 = true) ∧
      (getBits v 31 28 = 3 → ∃ t, exec (.authReqSet h v) s = .next t ∧ t.tt.authReq = true
        ∧ (∀ k < 8, t.reg (0x007060 + 4 * k) = 0) ∧ t.raised 0x007 3 = true)) ∧
    (∀ h v m, Passes h 0x007040 v m s → m ≠ 0 → (getBits v 23 8 ≠ 0xC3A5 ∨ s.tt.keyCmd.isSome = true) → ∃ t, exec (.keyProgram h v) s = .next t
      ∧ t.tt = s.tt ∧ (∀ k < 8, t.reg (0x007060 + 4 * k) = 0) ∧ t.raised 0x007 31 = true) ∧
    (∀ k bs, s.tt.keyCmd = some (k, bs) → ∃ t, exec .keyProgramDone s = .next t ∧ t.tt.keyCmd = none
      ∧ t.keyProgrammed k = true ∧ t.tt.keys.find? (fun x => x.1 == k) = some (k, bs)
      ∧ t.commandRuns 0x007 = false ∧ (∀ j < 8, t.reg (0x007060 + 4 * j) = 0)
      ∧ t.raised 0x007 0 = true)

/-- Timetables (R278, R279, R281 to R285): an install validates its staged copy and ends in both stores; a switch
request is refused, queued or pending; a mode frame is under the receipt rule (R352, R354) and followed from the duty node
alone; the switch takes effect at
the end of a pass. -/
def Obligations.TimetablesTakeEffect : Prop :=
  ∀ s : State, s.Canonical →
    (∀ h (slot : BitVec 4) m bs v, Passes h 0x048054 (bitWord 31 ||| slot.setWidth 32) m s → getBit m 31 = true →
      m &&& 0xF = 0xF → s.flag F.ttbInstCmdInstall = false → s.configured = true →
      bs = s.winBytes (0xE00000 + 0x10000 * slot.toNat) 0x10000 →
      v = validateTt bs slot.toNat (s.get F.ttbNorSerialSerial) s.tt.norKey s →
      (leAt bs 0 4 ≠ 0 → v.1 = 0 → ∃ t, exec (.ttInstall h slot) s = .next t
        ∧ t.tt.install = some (slot.toNat, bs.take (ttLength bs)) ∧ t.flag F.ttbInstCmdInstall = true) ∧
      (leAt bs 0 4 ≠ 0 → v.1 ≠ 0 → ∃ t, exec (.ttInstall h slot) s = .next t ∧ t.tt.install = s.tt.install
        ∧ t.get F.ttbInstResResult = v.1 ∧ t.flag F.ttbInstCmdInstall = false ∧ t.raised 0x048 4 = true) ∧
      (leAt bs 0 4 = 0 → (slot = 0 ∨ slot.toNat ≠ s.activeTt) → ∃ t, exec (.ttInstall h slot) s = .next t
        ∧ t.tt.install = some (slot.toNat, []))) ∧
    (∀ k bs, s.tt.install = some (k, bs) → s.gateClosed = false → s.xnet.xferIn = none → k < 16 → k ≠ 0 → k ≠ s.activeTt →
      bs ≠ [] → bs.length ≤ 0x10000 → ∃ t, exec .ttInstallDone s = .next t ∧ t.tt.install = none
        ∧ t.slotTt k = some bs ∧ t.norBytes (storeBase 0 k) bs.length = bs ∧ t.norBytes (storeBase 1 k) bs.length = bs
        ∧ (s.flag F.ttbInstCmdInstall = true → t.get F.ttbInstResResult = 0 ∧ t.flag F.ttbInstCmdInstall = false)) ∧
    (∀ h (tt : BitVec 4) m, Passes h 0x048048 ((s.reg 0x048048 &&& ~~~(0xF : Word)) ||| tt.setWidth 32) m s →
      m &&& 0xF ≠ 0 → tt.toNat ≠ s.activeTt →
      (tt ≠ 0 → s.slotTt tt.toNat = none → ∃ t, exec (.ttRequest h tt) s = .next t
        ∧ t.get F.ttbSwstatResult = 7 ∧ t.get F.ttbSwstatTt = tt.toNat ∧ t.tt.pending = s.tt.pending
        ∧ t.tt.queued = s.tt.queued) ∧
      ((tt = 0 ∨ (s.slotTt tt.toNat).isSome = true) → s.switchWaits = true → ∃ t, exec (.ttRequest h tt) s = .next t
        ∧ t.tt.queued = some ⟨tt.toNat, 1, 0, 0⟩ ∧ t.flag F.ttbReqQueued = true ∧ t.get F.ttbReqQueuedTt = tt.toNat
        ∧ t.tt.pending = s.tt.pending) ∧
      ((tt = 0 ∨ (s.slotTt tt.toNat).isSome = true) → s.switchWaits = false → s.eng.edit.isSome = true →
        ∃ t, exec (.ttRequest h tt) s = .next t ∧ t.tt.pending = some ⟨tt.toNat, 1, 0, 0⟩
          ∧ t.flag F.ttbReqPending = true) ∧
      ((tt = 0 ∨ (s.slotTt tt.toNat).isSome = true) → s.switchWaits = false → s.eng.edit = none →
        ∃ t, exec (.ttRequest h tt) s = .next t
          ∧ ((t.tt.pending = some ⟨tt.toNat, 1, 0, 0⟩ ∧ t.flag F.ttbReqPending = true)
            ∨ (t.tt.pending = none ∧ t.get F.ttbSwstatResult ≠ 0 ∧ t.get F.ttbSwstatTt = tt.toNat
              ∧ t.raised 0x048 1 = true)))) ∧
    (∀ frame r, parseFrame frame = some r → r.frame.cls = 0x05 → r.frame.lenOk = true → s.configured = true →
      (s.corrupt r.frame.tally = true → ∃ t, exec (.modeFrameReceive frame) s = .next t ∧ t.tt = s.tt
        ∧ t.get F.ordRejectCount = min 0xFFFF (s.get F.ordRejectCount + 1)) ∧
      (s.corrupt r.frame.tally = false → s.mayStamp (receiptTally s.ord.tally r.frame.tally) = true →
       (s.flag F.ttbCtlFollow = false → s.callIn = [] → ∃ t, exec (.modeFrameReceive frame) s = .next t ∧ t.tt = s.tt
        ∧ t.ord.tally = receiptTally s.ord.tally r.frame.tally ∧ ∀ a, a / 0x1000 ≠ 0x065 → t.reg a = s.reg a) ∧
       (s.flag F.ttbCtlFollow = true → s.flag F.callStatDutyValid = true → s.get F.callStatDutyNode ≠ r.frame.origin →
        ∃ t, exec (.modeFrameReceive frame) s = .next t ∧ t.raised 0x048 16 = true ∧ t.tt = s.tt) ∧
       (∀ k, s.flag F.ttbCtlFollow = true → s.flag F.callStatDutyValid = true → s.get F.callStatDutyNode = r.frame.origin →
        k = leAt r.frame.body 0 1 % 16 → k ≠ s.activeTt → (k = 0 ∨ (s.slotTt k).isSome = true) → s.switchWaits = true →
        ∃ t, exec (.modeFrameReceive frame) s = .next t ∧ t.tt.queued = some ⟨k, 3, 0, r.frame.origin⟩))) ∧
    (∀ r, s.tt.pending = some r → s.eng.edit = none → s.standby = false → s.tt.queued = none → r.tt < 16 → r.src < 4 →
      ∃ t, exec .ttSwitchApply s = .next t ∧ t.tt.pending = none ∧ t.tt.always = s.tt.plan.1
        ∧ t.tt.active = s.tt.plan.2
        ∧ (s.composedOf (ttPatches s.tt.plan.1) (ttPatches s.tt.plan.2) = [] → t.activeTt = r.tt ∧ t.get F.ttbActiveSrc = r.src ∧ t.gen = (s.gen + 1) % 2 ^ 32
          ∧ t.win = s.win ∧ t.get F.ttbSwstatResult = 0))

/-! Safety functions. -/

/-- The safety cycle (R379 to R383, R388, R391, R393, R406): a sample and a cycle advance their channel; in the safe
state, and in a cycle that finds a seal switch moved, no output of the channel is ON after the cycle; a second failed
test pulse and a fed wire at its dark test mark their pair and output in both channels; a wire is off for the 0.4 ms of
its dark test; a SACK input high for longer than 5.0 s is stuck. -/
def Obligations.SafetyCyclesTakeEffect : Prop :=
  ∀ s : State, s.Canonical → s.safeRuns = true →
    (∀ c l, ∃ t, exec (.safetyInputSample c l) s = .next t ∧ (t.ch c).t = (s.ch c).t + 1 ∧ (t.ch c).raw = rawOf l
      ∧ (t.ch c).sb = l.sb ∧ (t.ch c).edm = l.edm ∧ (t.ch (otherCh c)).filt = (s.ch (otherCh c)).filt) ∧
    (∀ c, ∃ t, exec (.safetyCycle c) s = .next t ∧ (t.ch c).cyc = (s.ch c).cyc + 1 ∧ (t.ch c).edges = 0
      ∧ (s.safe.cfg ≠ [] → s.inSafe = true → ∀ m < 8, ((t.ch c).out m).st ≠ .on)
      ∧ (s.safe.cfg ≠ [] → s.sealApart c = true → t.flag F.safeStatSealSafe = true ∧ t.sealApart .a = false
        ∧ t.sealApart .b = false ∧ t.get F.sealChangesCount = min 0xFFFF (s.get F.sealChangesCount + 1)
        ∧ ∀ m < 8, ((t.ch c).out m).st ≠ .on)) ∧
    (∀ c (tp : BitVec 2) (levels : BitVec 32) i, pulseInputs s.safe.cfg tp.toNat = [i] → (s.ch c).filtBit i = true →
      levels.getLsbD (if i % 2 = 0 then i / 2 else 16 + i / 2) = true → (∀ ch, i / 2 < (s.ch ch).pairs.length) →
      (Sparse.get (fun _ => 0) (s.ch c).tpFails i = 0 → ∃ t, exec (.testPulseCheck c tp levels) s = .next t
        ∧ Sparse.get (fun _ => 0) (t.ch c).tpFails i = 1) ∧
      (1 ≤ Sparse.get (fun _ => 0) (s.ch c).tpFails i → ∃ t, exec (.testPulseCheck c tp levels) s = .next t
        ∧ ∀ ch, ((t.ch ch).pair (i / 2)).tpBad = true)) ∧
    (∀ c (m : BitVec 3), (s.ch c).wireOn m.toNat = true → (∀ ch, m.toNat < (s.ch ch).outs.length) →
      (∃ t, exec (.outputDarkTest c m true) s = .next t ∧ ∀ ch, ((t.ch ch).out m.toNat).rbBad = true) ∧
      (∃ t, exec (.outputDarkTest c m false) s = .next t ∧ t.soPin c m.toNat = false
        ∧ Sparse.get (fun _ => 0) (t.ch c).dark m.toNat = (s.ch c).t + 4 ∧ ∀ ch, (t.ch ch).outs = (s.ch ch).outs)) ∧
    (∀ k : BitVec 2, s.safe.stuck.testBit k.toNat = false → s.safe.chA.sackHigh k.toNat = true →
      50000 < s.safe.chA.t - s.safe.chA.sackSince k.toNat → ∃ t, exec (.sackStuck k) s = .next t
        ∧ t.safe.stuck.testBit k.toNat = true ∧ t.raised 0x070 27 = true)

/-- Parcels, the chain, the seal and the selection (R399, R401, R403, R405, R406, R409): a parcel is judged and taken or
counted, one that names no connection under a number of the model's (log entry 63); the chain closes, is dark for the
0.3 ms of its pulse, faults and opens; a seal switch that either channel sees moved puts every output off and sets
SEAL_SAFE until a selection takes a valid copy; channels that select differently give result 36. On a part without the
safety functions the inputs are ignored and the outputs stay off (R2). -/
def Obligations.SafetyInputsTakeEffect : Prop :=
  (∀ s : State, s.part.safety = false → (∀ a b, exec (.chainInputChange a b) s = .next s) ∧
    (∀ code we seenB, exec (.sealChange code we seenB) s = .next s) ∧
    ∀ c k, s.soPin c k = false ∧ s.chnPin c = false ∧ s.tpPin k = false) ∧
  (∀ s : State, s.Canonical → s.part.safety = true →
    (∀ p conn ok, s.safeRuns = true → s.safe.cfg ≠ [] → judgeParcel s.safe.cfg p s.safe.chA = .bad conn ok →
      ∃ t, exec (.parcelReceive p) s = .next t ∧ t.safe.chA = s.safe.chA
        ∧ (connReg (conn.getD 64) t).integrity = min 0xFFFF ((connReg (conn.getD 64) s).integrity + 1)) ∧
    (∀ p c n at_ k, s.safeRuns = true → s.safe.cfg ≠ [] → judgeParcel s.safe.cfg p s.safe.chA = .passed c n (some at_) →
      s.safe.chA.conn c = some k → ∃ t, exec (.parcelReceive p) s = .next t ∧ t.safe.chA.conn c =
        some { k with rxLast := some n, rxPermit := leAt p 8 2, fresh := at_ + 10 * kWd s.safe.cfg c, got := true }) ∧
    (∀ a b, ∃ t, exec (.chainInputChange a b) s = .next t ∧ t.safe.chnA = a ∧ t.safe.chnB = b
      ∧ (s.safeRuns = true → s.safe.cfg ≠ [] → cMaster s.safe.cfg = true → s.safe.chA.chain = .establishing →
        a = true → b = true → t.safe.chA.chain = .closed ∧ t.safe.chB.chain = .closed
          ∧ t.get F.safeChainRtMeas ≤ 100 * cRt s.safe.cfg)) ∧
    (∀ c, s.safeRuns = true → s.safe.cfg ≠ [] → cMaster s.safe.cfg = true → s.safe.chA.chain = .closed →
      (∃ t, exec (.chainDarkPulse c true) s = .next t ∧ (t.ch c).chainDark = (s.ch c).t + 3 ∧ t.chnPin c = false
        ∧ t.safe.chA.chain = .closed ∧ t.safe.chB.chain = s.safe.chB.chain ∧ t.get F.safeChainRtMeas ≤ 100 * cRt s.safe.cfg) ∧
      (∃ t, exec (.chainDarkPulse c false) s = .next t ∧ t.safe.chA.chain = .fault ∧ t.safe.chB.chain = .fault
        ∧ t.raised 0x070 20 = true ∧ t.get F.safeLastfaultCause = 5)) ∧
    (s.safeRuns = true → s.safe.chA.chain = .establishing → ∃ t, exec .chainEstablishTimeout s = .next t
      ∧ t.safe.chA.chain = .opened ∧ t.safe.chB.chain = .opened) ∧
    (∀ (code : BitVec 8) we seenB (b : BitVec 9), seenB.getD (BitVec.ofNat 9 (code.toNat + 256 * b2n we)) = b →
      ∃ t, exec (.sealChange code we seenB) s = .next t ∧ t.safe.code = code ∧ t.safe.we = we ∧ t.safe.sealB = b
      ∧ (s.safeRuns = true → (code ≠ s.safe.accCode ∨ we ≠ s.safe.accWe ∨ b ≠ s.safe.accSealB) →
        t.safe.accCode = code ∧ t.safe.accWe = we ∧ t.safe.accSealB = b
        ∧ t.flag F.safeStatSealSafe = true ∧ t.flag F.sealStatStable = false
        ∧ t.get F.sealChangesCount = min 0xFFFF (s.get F.sealChangesCount + 1)
        ∧ ∀ ch m, ((t.ch ch).out m).st ≠ .on)) ∧
    (∀ readB a b slot r, s.configured = true → s.safe.code.toNat % 8 = slot → selectCopy slot s = a →
      selectCopyB (decide (readB = .bad)) s = b → bothResults a b (slot == s.safe.sealB.toNat % 8) = r →
      ∃ t, exec (.configSelection readB) s = .next t ∧ t.get F.sealStatResult = r ∧ (a.2 ≠ b.2 → r = 36)
        ∧ (r = 0 → t.safe.cfg = s.safeBytes a.1 slot ∧ t.flag F.safeStatSealSafe = false
          ∧ t.raised 0x071 4 = true)
        ∧ (r ≠ 0 → t.safe.cfg = [] ∧ t.lastingCode 0x071 = 0x40 ∧ t.raised 0x071 5 = true)
        ∧ ∀ ch m, ((t.ch ch).out m).st ≠ .on))

/-- Writing a safety configuration (R55, R409, R410): BEGIN erases copy B, 512 words fill it, END has both channels
validate it and copies it to copy A; a failed copy is erased, and channels that disagree give result 36; END too early
and ABORT end with result 35; no erase or rewrite ends while the NVM gate is closed. -/
def Obligations.SafetyWritesTakeEffect : Prop :=
  ∀ s : State, s.Canonical →
    (∀ h (slot : BitVec 3) m, Passes h 0x071048 (BitVec.ofNat 32 (16 * slot.toNat + 1)) m s → getBit m 0 = true →
      getBits m 6 4 = 7 → s.safe.write = none → ∃ t, exec (.safetyCfgBegin h slot) s = .next t
        ∧ t.safe.write = some (slot.toNat, .erasing, 0) ∧ t.flag F.sealCfgResDone = false
        ∧ t.get F.sealCfgResWords = 0) ∧
    (∀ slot n, s.safe.write = some (slot, .erasing, n) →
      (s.gateClosed = true → ∀ ok, exec (.safetyCfgEraseDone ok) s = .next s) ∧
      (s.gateClosed = false → ∃ t, exec (.safetyCfgEraseDone true) s = .next t ∧ t.safe.write = some (slot, .ready, 0)
        ∧ t.flag F.sealCfgResReady = true
        ∧ ∀ a, t.norBytes a 1 = if safeCopy 1 slot ≤ a ∧ a < safeCopy 1 slot + 0x10000 then [0xFF] else s.norBytes a 1) ∧
      (s.gateClosed = false → ∃ t, exec (.safetyCfgEraseDone false) s = .next t ∧ t.safe.write = none
        ∧ t.get F.sealCfgResResult = 11 ∧ t.flag F.sealCfgResDone = true ∧ t.nor = s.nor)) ∧
    (∀ h v slot n, Passes h 0x07104C v 0xFFFFFFFF s → s.safe.write = some (slot, .ready, n) → n < 512 →
      s.gateClosed = false → s.tt.norHeld = [] → ∃ t, exec (.safetyCfgData h v) s = .next t
        ∧ t.safe.write = some (slot, .ready, n + 1) ∧ t.get F.sealCfgResWords = n + 1
        ∧ t.norBytes (safeCopy 1 slot + 4 * n) 4 = leBytes 4 v.toNat
        ∧ (∀ a, a < safeCopy 1 slot + 4 * n ∨ safeCopy 1 slot + 4 * n + 4 ≤ a → t.norBytes a 1 = s.norBytes a 1)
        ∧ (n = 511 → t.flag F.sealCfgResReady = false)) ∧
    (∀ h m slot n, Passes h 0x071048 (cfgCtlWord 1 s) m s → getBit m 1 = true → s.safe.write = some (slot, .ready, n) →
      (∀ readB r, n = 512 → (norFlush s).safeVerdict 1 slot = r →
        (r = 0 → readB ≠ .bad → ∃ t, exec (.safetyCfgEnd h readB) s = .next t ∧ t.safe.write = some (slot, .copying, 512)) ∧
        (r ≠ 0 → readB ≠ .bad → ∃ t, exec (.safetyCfgEnd h readB) s = .next t ∧ t.safe.write = none
          ∧ t.get F.sealCfgResResult = r ∧ t.raised 0x071 3 = true
          ∧ (s.gateClosed = false → s.tt.norHeld = [] → ∀ a, t.norBytes a 1 =
            if safeCopy 1 slot ≤ a ∧ a < safeCopy 1 slot + 0x10000 then [0xFF] else s.norBytes a 1)) ∧
        (readB = .bad → ∃ t, exec (.safetyCfgEnd h readB) s = .next t ∧ t.safe.write = none
          ∧ t.get F.sealCfgResResult = (if r = 11 then 11 else 36) ∧ t.raised 0x071 3 = true)) ∧
      (∀ readB, n < 512 → ∃ t, exec (.safetyCfgEnd h readB) s = .next t ∧ t.safe.write = none
        ∧ t.get F.sealCfgResResult = 35)) ∧
    (∀ h m w, Passes h 0x071048 (cfgCtlWord 2 s) m s → getBit m 2 = true → s.safe.write = some w →
      ∃ t, exec (.safetyCfgAbort h) s = .next t ∧ t.safe.write = none ∧ t.get F.sealCfgResResult = 35
        ∧ t.flag F.sealCfgResDone = true) ∧
    (s.gateClosed = true → exec .safetyCfgCopyAWritten s = .next s) ∧
    (∀ slot n, s.safe.write = some (slot, .copying, n) → s.gateClosed = false → s.tt.norHeld = [] →
      ∃ t, exec .safetyCfgCopyAWritten s = .next t ∧ t.safe.write = none ∧ t.get F.sealCfgResResult = 0
        ∧ t.safeBytes 0 slot = s.safeBytes 1 slot ∧ t.raised 0x071 2 = true)

/-! The logbook and the gangways. -/

/-- The logbook (R420, R423 to R425, R427, R428, R431 to R433): the next record goes to the main area, or to the holding
ring while frozen; a worn slot is retired, in a full area with the record that R424 gives up; a freeze starts, ends,
expires and is merged, and no merge goes on under it; a clear takes an open key, and empties its scope. -/
def Obligations.LogbookTakesEffect : Prop :=
  ∀ s : State, s.Canonical →
    (∀ r q, s.logMay = true → s.lg.ingress = r :: q → s.flag F.logStatFailed = false → recHeld r s.lg.main = false →
      recHeld r s.lg.ring = false → recHeld r s.lg.failover = false →
      (s.ringing = false → s.lg.main.length < s.mainCap →
        ∃ t, exec (.logRecordWrite .ok) s = .next t ∧ t.lg.main = recInsert r s.lg.main ∧ t.lg.ring = s.lg.ring) ∧
      (s.ringing = true → s.lg.ring.length < 512 →
        ∃ t, exec (.logRecordWrite .ok) s = .next t ∧ t.lg.ring = recInsert r s.lg.ring ∧ t.lg.main = s.lg.main) ∧
      (∀ slot, s.ringing = false → s.lg.main.length < s.mainCap → ∃ t, exec (.logRecordWrite (.lasting slot)) s = .next t
        ∧ slot.toNat ∈ t.lg.retired ∧ t.lg.main = s.lg.main ∧ t.raised 0x078 12 = true) ∧
      (∀ slot v, s.ringing = false → s.mainCap ≤ s.lg.main.length → mainVictim r s = some v → slot.toNat ∉ s.lg.retired →
        ∃ t, exec (.logRecordWrite (.lasting slot)) s = .next t ∧ slot.toNat ∈ t.lg.retired
          ∧ t.lg.main = s.lg.main.erase v ∧ t.raised 0x078 1 = true ∧ t.raised 0x078 12 = true)) ∧
    (∀ (code : BitVec 16) b, s.lg.buckets.find? (fun b => b.code == code.toNat) = some b → b.due = true →
      ∃ t, exec (.summaryEmit code) s = .next t ∧ t.raised 0x078 10 = true) ∧
    (∀ h m, Passes h 0x078040 (setBits (s.reg 0x078040) 0 0 1) m s → getBit m 0 = true → s.flag F.logStatFailed = false →
      s.lg.freezeAt = none → ∃ t, exec (.logFreeze h) s = .next t ∧ t.lg.freezeAt = some s.now
        ∧ t.flag F.logStatFrozen = true ∧ t.flag F.logStatMerging = false ∧ t.lg.ring = s.lg.ring ∧ t.raised 0x078 4 = true) ∧
    (∀ h m, Passes h 0x078040 (setBits (s.reg 0x078040) 0 0 0) m s → getBit m 0 = true → s.lg.freezeAt.isSome = true →
      ∃ t, exec (.logUnfreeze h) s = .next t ∧ t.lg.freezeAt = none ∧ t.flag F.logStatFrozen = false
        ∧ t.flag F.logStatMerging = s.lg.clear.isNone ∧ t.raised 0x078 5 = true) ∧
    (∀ t0, s.lg.freezeAt = some t0 → 1920 ≤ s.since t0 → ∃ t, exec .freezeExpiry s = .next t ∧ t.lg.freezeAt = none
      ∧ t.flag F.logStatFrozen = false ∧ t.raised 0x078 5 = true) ∧
    (∀ worn, s.lg.freezeAt.isSome = true → exec (.logMergeDone worn) s = .next s) ∧
    (∀ worn, s.flag F.logStatMerging = true → s.lg.mergeDue = false → s.gateClosed = false → s.standby = false →
      s.lg.freezeAt = none → ∃ t, exec (.logMergeDone worn) s = .next t ∧ t.lg.ring = []
      ∧ t.flag F.logStatMerging = false ∧ t.raised 0x078 7 = true
      ∧ (∀ r slot, worn = [(0, slot)] → s.lg.ring = [r] → recHeld r s.lg.main = false → s.flag F.logStatFailed = false →
        slot.toNat ∉ s.lg.retired → s.lg.retired.length < 255 → s.lg.faultRun < 7 → s.lg.main.length + 1 < s.mainCap →
        slot.toNat ∈ t.lg.retired ∧ t.lg.main = recInsert r s.lg.main)) ∧
    (∀ h m, Passes h 0x0780D0 (bitWord 0) m s → getBit m 0 = true →
      (h = .a → s.clearBars = false → ∃ t k, exec (.clrReq h) s = .next t ∧ t.lg.clrKey = some (k, s.now, 0) ∧ 0 < k
        ∧ k < 2 ^ 16 ∧ t.get F.logClrKeyKey = k ∧ t.flag F.logClrKeyValid = true ∧ t.raised 0x078 8 = true) ∧
      (h = .b → ∃ t, exec (.clrReq h) s = .next t ∧ t.lg.clrKey = s.lg.clrKey ∧ t.raised 0x078 31 = true)) ∧
    (∀ v m k t0 n, Passes .a 0x0780D8 v m s → m ≠ 0 → s.lg.clrKey = some (k, t0, n) →
      (getBits v 15 0 = k → getBits v 31 28 = 0 → s.clearBars = false → ∃ t hi, exec (.clrCmd .a v) s = .next t
        ∧ t.lg.clear = some (0, hi) ∧ t.flag F.logStatClearing = true ∧ t.lg.clrKey = none) ∧
      (getBits v 15 0 ≠ k → n < 2 → ∃ t, exec (.clrCmd .a v) s = .next t ∧ t.lg.clrKey = some (k, t0, n + 1)
        ∧ t.lg.clear = s.lg.clear ∧ t.raised 0x078 31 = true)) ∧
    (∀ k t0 n, s.lg.clrKey = some (k, t0, n) → 64 ≤ s.since t0 → ∃ t, exec .clrKeyExpiry s = .next t ∧ t.lg.clrKey = none
      ∧ t.flag F.logClrKeyValid = false) ∧
    (∀ scope hi, s.lg.clear = some (scope, hi) → s.gateClosed = false → s.standby = false → s.lg.freezeAt = none →
      ∃ t, exec .clearComplete s = .next t ∧ t.lg.clear = none
        ∧ t.lg.main = s.lg.main.filter (fun r => !(decide (r.key ≤ hi) && (scope == 1 || decide (r.sev ≤ 6))))
        ∧ t.flag F.logStatClearing = false ∧ t.flag F.logClrResDone = true ∧ t.raised 0x078 9 = true)

/-- The gangways (R429, R430): a seek sets WAIT; its completion, and an advance, load the record it finds into the
sixteen data registers, or set END. -/
def Obligations.GangwaysTakeEffect : Prop :=
  ∀ (s : State) (h : HostId), s.Canonical →
    (∀ m, s.gwyWait h = false →
      (Passes h 0x079050 1 m s → getBits m 1 0 = 3 → ∃ t, exec (.seekKey h) s = .next t
        ∧ t.getH h F.gwyStatWait = 1 ∧ t.getH h F.gwyCmdOp = 1) ∧
      (Passes h 0x079050 2 m s → getBits m 1 0 = 3 → ∃ t, exec (.seekFirst h) s = .next t
        ∧ t.getH h F.gwyStatWait = 1 ∧ t.getH h F.gwyCmdOp = 2) ∧
      (Passes h 0x079050 3 m s → getBits m 1 0 = 3 → ∃ t, exec (.seekLast h) s = .next t
        ∧ t.getH h F.gwyStatWait = 1 ∧ t.getH h F.gwyCmdOp = 3)) ∧
    (s.getH h F.gwyStatWait ≠ 0 → s.gwyHeld = false →
      (∀ r, s.getH h F.gwyCmdOp = 1 → s.gwyRecs.find? (fun r => decide (s.gwyKey h ≤ r.key) && s.gwyPass h r) = some r →
        ∃ t, exec (.gwySeekDone h) s = .next t ∧ t.getH h F.gwyStatWait = 0 ∧ t.getH h F.gwyStatLoaded = 1
          ∧ t.getH h F.gwyStatEnd = 0 ∧ ∀ k < 16, t.regH h (0x079080 + 4 * k) = nth (bytesWords 16 r.bytes) k 0) ∧
      (∀ r, s.getH h F.gwyCmdOp = 3 → s.gwyRecs.reverse.find? (s.gwyPass h) = some r →
        ∃ t, exec (.gwySeekDone h) s = .next t ∧ t.getH h F.gwyStatLoaded = 1
          ∧ ∀ k < 16, t.regH h (0x079080 + 4 * k) = nth (bytesWords 16 r.bytes) k 0) ∧
      (s.getH h F.gwyCmdOp = 2 → (∀ r ∈ s.gwyRecs, s.gwyPass h r = false) → ∃ t, exec (.gwySeekDone h) s = .next t
        ∧ t.getH h F.gwyStatWait = 0 ∧ t.getH h F.gwyStatLoaded = 0 ∧ t.getH h F.gwyStatEnd = 1)) ∧
    (s.answers = true → s.gwyWait h = false → s.getH h F.gwyStatLoaded ≠ 0 →
      (∀ r, s.gwyRecs.find? (fun r => decide (s.gwyKey h + 1 ≤ r.key) && s.gwyPass h r) = some r →
        ∃ t, exec (.gwyAdvance h) s = .next t ∧ t.getH h F.gwyStatLoaded = 1
          ∧ ∀ k < 16, t.regH h (0x079080 + 4 * k) = nth (bytesWords 16 r.bytes) k 0) ∧
      (s.gwyRecs.find? (fun r => decide (s.gwyKey h + 1 ≤ r.key) && s.gwyPass h r) = none →
        ∃ t, exec (.gwyAdvance h) s = .next t ∧ t.getH h F.gwyStatLoaded = 0 ∧ t.getH h F.gwyStatEnd = 1))

/-! Rules stated whole. -/

/-- R92: a read of an unmapped address returns 0 and a write to one is ignored; either records the address and code
0x25 in the accessing port's BADADDR and sets its UNMAPPED event; no page's PAGE_STAT changes. -/
def Obligations.UnmappedAccessesAreRecorded : Prop :=
  ∀ (s : State) (h : HostId) (a : BitVec 24), s.Canonical → s.answers = true → mappedAddr a.toNat = false →
    (∀ sck, a.toNat % 4 = 0 → sckCheck h sck s = some true → ∃ t, exec (.hostRead h a 1 sck) s = .next t
      ∧ (t.port h).answer = [0] ∧ recordsBadAddress h a.toNat s t) ∧
    (∀ v crc sck, a.toNat % 4 = 0 → s.flag (hostFld F.hostModeCrc h) = false → sckCheck h sck s ≠ none →
      ∃ t, exec (.hostWrite h a 0 [v] 0 crc sck) s = .next t ∧ ignoresWrite s t ∧ recordsBadAddress h a.toNat s t) ∧
    (∀ v, ∃ t, exec (.registerWrite h a v) s = .next t ∧ ignoresWrite s t ∧ recordsBadAddress h a.toNat s t) ∧
    (∃ t, exec (.unmappedAccess h a) s = .next t ∧ ignoresWrite s t ∧ recordsBadAddress h a.toNat s t)

/-- R106: the mode-reset pattern returns the port to 1-1-1 SDR in any mode; DUMMY, CRC and every other register stay,
the rest of the transaction has no effect, and 0xFF is no command byte. -/
def Obligations.ModeResetReturnsToOneLane : Prop :=
  (∀ (s : State) (h : HostId), s.Canonical → s.answers = true → ∃ t, exec (.hostModeReset h) s = .next t
    ∧ t.get (hostFld F.hostModeLanes h) = 0 ∧ t.flag (hostFld F.hostModeDdr h) = false
    ∧ t.get (hostFld F.hostModeDummy h) = s.get (hostFld F.hostModeDummy h)
    ∧ t.flag (hostFld F.hostModeCrc h) = s.flag (hostFld F.hostModeCrc h)
    ∧ (∀ a, a ≠ hostPage h * 0x1000 + 0x040 → t.reg a = s.reg a) ∧ (t.port h).answer = [] ∧ t.win = s.win
    ∧ t.nor = s.nor) ∧
  badCmdOk 0xFF = true

/-- R225: a shelve command for a point of PRIO 0 or of category A is refused with result 6, and the point stays as it
is. -/
def Obligations.EmergencyAlarmsCannotBeShelved : Prop :=
  ∀ (s : State) (h : HostId) (i : PointIdx) p m, s.Canonical → Passes h 0x040060 (opWord 1 i.toNat) m s → m ≠ 0 →
    s.standby = false → s.get F.pteAdmresBusy = 0 → s.quiet = true → i.toNat ∉ s.eng.restoring → s.pt i.toNat = some p →
    s.inEdit i.toNat = false → p.oos = false →
    ((s.pcfg i.toNat).prio = 0 ∨ (s.pcfg i.toNat).cat = 0) → ∃ t, exec (.shelve h i) s = .next t
      ∧ t.get F.pteAdmresResult = 6 ∧ t.flag F.pteAdmresDone = true ∧ t.eng.pts = s.eng.pts

/-- R426: a record whose key is already held, in the main area, the holding ring or the fail-over area, is discarded, and
no count changes; a record merged from the holding ring likewise. -/
def Obligations.DuplicateRecordsAreDiscarded : Prop :=
  (∀ (s : State) (o : LogWrite) r q, s.logMay = true → s.lg.ingress = r :: q →
    (recHeld r s.lg.main = true ∨ recHeld r s.lg.ring = true ∨ recHeld r s.lg.failover = true) →
    exec (.logRecordWrite o) s = .next (s.withLg { s.lg with ingress := q })) ∧
  (∀ (s : State) worn, s.Canonical → s.flag F.logStatMerging = true → s.lg.mergeDue = false → s.gateClosed = false →
    s.standby = false → s.lg.freezeAt = none →
    (∀ r ∈ s.lg.ring, recHeld r s.lg.main = true) → ∃ t, exec (.logMergeDone worn) s = .next t ∧ t.lg.main = s.lg.main
      ∧ t.lg.ring = [] ∧ t.get F.logOvwrCount = s.get F.logOvwrCount ∧ t.lg.loss = s.lg.loss)
end

