-- ==== Sys2Proof/Laws/Sparse.lean ====
section
/-!
SUPPORT. Sparse maps: what a read gives after a write, and that every operation keeps the canonical form.
-/

set_option Elab.async false

namespace Sys2Proof.Machine.Sparse

set_option linter.unusedSectionVars false

variable {α : Type} [DecidableEq α] {d : Nat → α}

theorem rising_mono {lo lo' : Nat} (h : lo' ≤ lo) : ∀ {m : List (Nat × α)}, rising lo m = true → rising lo' m = true
  | [], _ => rfl
  | (k, v) :: m, hm => by
    simp only [rising, Bool.and_eq_true, decide_eq_true_eq] at hm ⊢
    exact ⟨Nat.le_trans h hm.1, hm.2⟩

theorem rising_erase {k : Nat} : ∀ {lo : Nat} {m : List (Nat × α)}, rising lo m = true → rising lo (erase m k) = true
  | _, [], _ => rfl
  | lo, (k', v') :: m, hm => by
    simp only [rising, Bool.and_eq_true, decide_eq_true_eq] at hm
    unfold erase
    split
    · exact rising_mono (by omega) hm.2
    · simp only [rising, Bool.and_eq_true, decide_eq_true_eq]
      exact ⟨hm.1, rising_erase hm.2⟩

theorem rising_insert {k : Nat} {v : α} :
    ∀ {lo : Nat} {m : List (Nat × α)}, lo ≤ k → rising lo m = true → rising lo (insert m k v) = true
  | _, [], hk, _ => by simp [insert, rising, hk]
  | lo, (k', v') :: m, hk, hm => by
    simp only [rising, Bool.and_eq_true, decide_eq_true_eq] at hm
    unfold insert
    split
    · rename_i h
      simp only [rising, Bool.and_eq_true, decide_eq_true_eq]
      exact ⟨hk, by omega, hm.2⟩
    · split
      · rename_i h
        subst h
        simp only [rising, Bool.and_eq_true, decide_eq_true_eq]
        exact ⟨hk, hm.2⟩
      · simp only [rising, Bool.and_eq_true, decide_eq_true_eq]
        exact ⟨hm.1, rising_insert (by omega) hm.2⟩

theorem rising_filter {p : Nat × α → Bool} : ∀ {lo : Nat} {m : List (Nat × α)}, rising lo m = true → rising lo (m.filter p) = true
  | _, [], _ => rfl
  | lo, (k, v) :: m, hm => by
    simp only [rising, Bool.and_eq_true, decide_eq_true_eq] at hm
    rw [List.filter_cons]
    split
    · simp only [rising, Bool.and_eq_true, decide_eq_true_eq]
      exact ⟨hm.1, rising_filter hm.2⟩
    · exact rising_mono (by omega) (rising_filter hm.2)

theorem mem_erase {k : Nat} {x : Nat × α} : ∀ {m : List (Nat × α)}, x ∈ erase m k → x ∈ m
  | [], h => h
  | (k', v') :: m, h => by
    unfold erase at h
    split at h
    · exact List.mem_cons_of_mem _ h
    · rcases List.mem_cons.1 h with rfl | h
      · exact List.mem_cons_self
      · exact List.mem_cons_of_mem _ (mem_erase h)

theorem mem_insert {k : Nat} {v : α} {x : Nat × α} : ∀ {m : List (Nat × α)}, x ∈ insert m k v → x = (k, v) ∨ x ∈ m
  | [], h => by simpa [insert] using h
  | (k', v') :: m, h => by
    unfold insert at h
    split at h
    · rcases List.mem_cons.1 h with rfl | h
      · exact .inl rfl
      · exact .inr h
    · split at h
      · rcases List.mem_cons.1 h with rfl | h
        · exact .inl rfl
        · exact .inr (List.mem_cons_of_mem _ h)
      · rcases List.mem_cons.1 h with rfl | h
        · exact .inr List.mem_cons_self
        · rcases mem_insert h with rfl | h
          · exact .inl rfl
          · exact .inr (List.mem_cons_of_mem _ h)

theorem wf_iff {m : List (Nat × α)} : wf d m = true ↔ rising 0 m = true ∧ ∀ x ∈ m, x.2 ≠ d x.1 := by
  simp [wf]

/-- The empty memory is canonical. -/
theorem wf_nil : wf d ([] : List (Nat × α)) = true := rfl

/-- A write keeps the canonical form. -/
theorem wf_set {m : List (Nat × α)} (k : Nat) (v : α) (h : wf d m = true) : wf d (set d m k v) = true := by
  rw [wf_iff] at h ⊢
  unfold set
  split
  · exact ⟨rising_erase h.1, fun x hx => h.2 x (mem_erase hx)⟩
  · rename_i hv
    refine ⟨rising_insert (Nat.zero_le k) h.1, fun x hx => ?_⟩
    rcases mem_insert hx with rfl | hx
    · exact hv
    · exact h.2 x hx

/-- Consecutive writes keep the canonical form. -/
theorem wf_setRange : ∀ (vs : List α) {m : List (Nat × α)} (k : Nat), wf d m = true → wf d (setRange d m k vs) = true
  | [], _, _, h => h
  | v :: vs, _, k, h => wf_setRange vs (k + 1) (wf_set k v h)

/-- Removing entries keeps the canonical form. -/
theorem wf_filter {m : List (Nat × α)} (p : Nat × α → Bool) (h : wf d m = true) : wf d (m.filter p) = true := by
  rw [wf_iff] at h ⊢
  exact ⟨rising_filter h.1, fun x hx => h.2 x (List.mem_filter.1 hx |>.1)⟩

/-- A fold of writes keeps the canonical form. -/
theorem wf_foldl {β : Type} {f : List (Nat × α) → β → List (Nat × α)} (hf : ∀ m b, wf d m = true → wf d (f m b) = true) :
    ∀ (l : List β) {m : List (Nat × α)}, wf d m = true → wf d (l.foldl f m) = true
  | [], _, h => h
  | b :: l, _, h => wf_foldl hf l (hf _ b h)

theorem get_of_lt : ∀ {m : List (Nat × α)} {lo k : Nat}, rising lo m = true → k < lo → get d m k = d k
  | [], _, _, _, _ => rfl
  | (k', v') :: m, lo, k, hm, hk => by
    simp only [rising, Bool.and_eq_true, decide_eq_true_eq] at hm
    unfold get
    rw [if_neg (by omega)]
    exact get_of_lt hm.2 (by omega)

theorem get_insert (m : List (Nat × α)) (k : Nat) (v : α) (k' : Nat) :
    get d (insert m k v) k' = if k' = k then v else get d m k' := by
  induction m with
  | nil =>
    by_cases h : k' = k
    · simp [insert, get, h]
    · simp [insert, get, h, Ne.symm h]
  | cons x m ih =>
    obtain ⟨a, b⟩ := x
    unfold insert
    split
    · by_cases h : k' = k
      · simp [get, h]
      · simp [get, h, Ne.symm h]
    · split
      · rename_i h
        subst h
        by_cases h : k' = a
        · simp [get, h]
        · simp [get, h, Ne.symm h]
      · by_cases ha : a = k'
        · subst ha
          rename_i h1 h2
          simp [get, h2]
        · simp only [get, ha, if_false, ih]

theorem get_erase {m : List (Nat × α)} {lo : Nat} (hm : rising lo m = true) (k k' : Nat) :
    get d (erase m k) k' = if k' = k then d k else get d m k' := by
  induction m generalizing lo with
  | nil => by_cases h : k' = k <;> simp [erase, get, h]
  | cons x m ih =>
    obtain ⟨a, b⟩ := x
    simp only [rising, Bool.and_eq_true, decide_eq_true_eq] at hm
    unfold erase
    split
    · rename_i h
      subst h
      by_cases h : k' = a
      · subst h
        simp [get_of_lt hm.2 (Nat.lt_succ_self _)]
      · simp [get, h, Ne.symm h]
    · rename_i h
      by_cases ha : a = k'
      · subst ha
        simp [get, h]
      · simp only [get, ha, if_false, ih hm.2]

/-- What a read gives after a write: the value written at its key, and what was there before elsewhere. -/
theorem get_set {m : List (Nat × α)} (h : wf d m = true) (k : Nat) (v : α) (k' : Nat) :
    get d (set d m k v) k' = if k' = k then v else get d m k' := by
  unfold set
  split
  · rename_i hv
    rw [get_erase (wf_iff.1 h).1]
    subst hv
    split <;> simp_all
  · exact get_insert m k v k'

/-- A read outside the range written gives what was there before. -/
theorem get_setRange_out : ∀ (vs : List α) {m : List (Nat × α)} (k k' : Nat), wf d m = true →
    k' < k ∨ k + vs.length ≤ k' → get d (setRange d m k vs) k' = get d m k'
  | [], _, _, _, _, _ => rfl
  | v :: vs, m, k, k', h, hk => by
    simp only [List.length_cons] at hk
    unfold setRange
    rw [get_setRange_out vs (k + 1) k' (wf_set k v h) (by omega), get_set h, if_neg (by omega)]

/-- What was stored reads back. -/
theorem getRange_setRange : ∀ (vs : List α) {m : List (Nat × α)} (k : Nat), wf d m = true →
    getRange d (setRange d m k vs) k vs.length = vs
  | [], _, _, _ => rfl
  | v :: vs, m, k, h => by
    simp only [List.length_cons, setRange, getRange]
    rw [getRange_setRange vs (k + 1) (wf_set k v h), get_setRange_out vs (k + 1) k (wf_set k v h) (by omega), get_set h, if_pos rfl]

end Sys2Proof.Machine.Sparse
end

