-- ==== Sys2Proof/Laws/Touch.lean ====
section
/-!
SUPPORT. What every operation touches: a bit mask of the fields of State it may change. Every other field, the queue
and the part fitted stay as they are, and canonical memories stay canonical.
-/

set_option Elab.async false
set_option linter.all false

namespace Sys2Proof.Machine

/-- The bits of `m` are bits of `n`. -/
abbrev Sub (m n : Nat) : Prop := m &&& n = m

theorem Sub.refl (m : Nat) : Sub m m := Nat.and_self m

theorem Sub.trans {a b c : Nat} (h : Sub b c) (k : Sub a b) : Sub a c := by
  unfold Sub at *
  rw [← k, Nat.and_assoc, h]

theorem Sub.bit {m n k : Nat} (h : Sub m n) (hk : m.testBit k = true) : n.testBit k = true := by
  unfold Sub at h
  rw [← h, Nat.testBit_and, Bool.and_eq_true] at hk
  exact hk.2

/-- The first pages of the blocks. -/
def blockPages : List Nat :=
  [0x1, 0x2, 0x3, 0x4, 0x5, 0x6, 0x7, 0x8, 0x10, 0x30, 0x31, 0x32, 0x33, 0x34, 0x40, 0x41, 0x42, 0x43, 0x44, 0x45, 0x48, 0x49, 0x50, 0x58, 0x59, 0x60, 0x64, 0x65, 0x66, 0x70, 0x71, 0x72, 0x78, 0x79, 0x7a, 0x80, 0x81, 0x88, 0x89]

/-- The class of a register address: the event words of every page header, the status words, the other header words,
then the blocks in the order of their pages. -/
def regClass (a : Nat) : Nat :=
  if a % 0x1000 < 0x40 then
    (if a % 0x1000 = 0x00C ∨ a % 0x1000 = 0x028 ∨ a % 0x1000 = 0x02C then 0 else if a % 0x1000 = 0x008 then 1 else 2)
  else 3 + (blockPages.filter fun p => decide (p ≤ a / 0x1000)).length

/-- The mask of one register class. -/
def regMask (a : Nat) : Nat := 0x10 ||| 2 ^ (32 + regClass a)

/-- The masks of the registers a field can lie in: one register, the pages from its own on, the elements of an array,
the two host pages. -/
def fldMask (f : Fld) : Nat := regMask f.addr
def aboveMask (k : Nat) : Nat := 2 ^ (32 + 43) - 2 ^ (32 + k)
def pageMask (f : Fld) : Nat := if f.addr % 0x1000 < 0x40 then regMask f.addr else 0x10 ||| aboveMask (regClass f.addr)
def idxMask (f : Fld) : Nat := 0x10 ||| (7 * 2 ^ 32 ||| aboveMask (3 + (blockPages.filter fun p => decide (p ≤ f.addr / 0x1000)).length))
def hostMask (f : Fld) : Nat := fldMask f ||| fldMask (f.page 1)

/-- From `s` to `t` only the fields of mask `M` may have changed. -/
structure Touch (M : Nat) (s t : State) : Prop where
  pending : t.pending = s.pending
  part : t.part = s.part
  freeCount : M.testBit 0 = false → t.freeCount = s.freeCount
  phase : M.testBit 1 = false → t.phase = s.phase
  rst : M.testBit 2 = false → t.rst = s.rst
  pwr : M.testBit 3 = false → t.pwr = s.pwr
  regs : M.testBit 4 = false → t.regs = s.regs
  regsA : M.testBit 5 = false → t.regsA = s.regsA
  regsB : M.testBit 6 = false → t.regsB = s.regsB
  staged : M.testBit 7 = false → t.staged = s.staged
  lasting : M.testBit 8 = false → t.lasting = s.lasting
  lastHi : M.testBit 9 = false → t.lastHi = s.lastHi
  portA : M.testBit 10 = false → t.portA = s.portA
  portB : M.testBit 11 = false → t.portB = s.portB
  own : M.testBit 12 = false → t.own = s.own
  ord : M.testBit 13 = false → t.ord = s.ord
  lg : M.testBit 14 = false → t.lg = s.lg
  eng : M.testBit 15 = false → t.eng = s.eng
  win : M.testBit 16 = false → t.win = s.win
  nor : M.testBit 17 = false → t.nor = s.nor
  out : M.testBit 18 = false → t.out = s.out
  xp : M.testBit 19 = false → t.xp = s.xp
  xnet : M.testBit 20 = false → t.xnet = s.xnet
  callIn : M.testBit 21 = false → t.callIn = s.callIn
  afe : M.testBit 22 = false → t.afe = s.afe
  outs : M.testBit 23 = false → t.outs = s.outs
  call : M.testBit 24 = false → t.call = s.call
  segs : M.testBit 25 = false → t.segs = s.segs
  panel : M.testBit 26 = false → t.panel = s.panel
  rtc : M.testBit 27 = false → t.rtc = s.rtc
  tt : M.testBit 28 = false → t.tt = s.tt
  safe : M.testBit 29 = false → t.safe = s.safe
  reg : ∀ a, M.testBit (32 + regClass a) = false → t.reg a = s.reg a
  canon : s.Canonical → t.Canonical

theorem Touch.refl (M : Nat) (s : State) : Touch M s s := by constructor <;> intros <;> first | rfl | assumption

theorem Touch.cut {M : Nat} {s₀ s t : State} (h : Touch M s₀ s) (k : Touch M s₀ s → Touch M s₀ t) : Touch M s₀ t := k h

theorem Touch.snd {M : Nat} {α : Type} {s₀ s : State} {p : α × State} {a : α} (h : Touch M s₀ p.2) (e : p = (a, s)) :
    Touch M s₀ s := by
  subst e
  exact h

theorem Touch.ite_else {M : Nat} {s₀ a s : State} {c : Prop} [Decidable c] (h : Touch M s₀ s)
    (ha : Touch M s₀ s → Touch M s₀ a) : Touch M s₀ (if c then a else s) := by
  split
  · exact ha h
  · exact h

theorem foldl_touch {M : Nat} {β : Type} {s₀ : State} {f : State → β → State}
    (hf : ∀ s b, Touch M s₀ s → Touch M s₀ (f s b)) {l : List β} {s : State} (h : Touch M s₀ s) :
    Touch M s₀ (l.foldl f s) := by
  induction l generalizing s with
  | nil => exact h
  | cons b l ih => exact ih (hf s b h)

/-- An outcome whose next state, if it has one, differs from `s` only in the fields of mask `M`. -/
def OutTouch (M : Nat) (s : State) : Host.Outcome State Fault Refusal → Prop
  | .next t => Touch M s t
  | _ => True

theorem OutTouch.next {M : Nat} {s t : State} (h : Touch M s t) : OutTouch M s (.next t) := h
theorem OutTouch.fault {M : Nat} {s : State} {r : Fault} : OutTouch M s (.fault r) := trivial

theorem State.withFreeCount_touch {M : Nat} {s₀ s : State} {v : Nat} (m : M.testBit 0 = true)
    (h : Touch M s₀ s) : Touch M s₀ (s.withFreeCount v) :=
  { h with freeCount := fun e => (Bool.noConfusion (m.symm.trans e)), reg := h.reg, canon := fun c => ⟨(h.canon c).regs, (h.canon c).regsA, (h.canon c).regsB, (h.canon c).win, (h.canon c).nor⟩ }

theorem State.withPhase_touch {M : Nat} {s₀ s : State} {v : Phase} (m : M.testBit 1 = true)
    (h : Touch M s₀ s) : Touch M s₀ (s.withPhase v) :=
  { h with phase := fun e => (Bool.noConfusion (m.symm.trans e)), reg := h.reg, canon := fun c => ⟨(h.canon c).regs, (h.canon c).regsA, (h.canon c).regsB, (h.canon c).win, (h.canon c).nor⟩ }

theorem State.withRst_touch {M : Nat} {s₀ s : State} {v : RstState} (m : M.testBit 2 = true)
    (h : Touch M s₀ s) : Touch M s₀ (s.withRst v) :=
  { h with rst := fun e => (Bool.noConfusion (m.symm.trans e)), reg := h.reg, canon := fun c => ⟨(h.canon c).regs, (h.canon c).regsA, (h.canon c).regsB, (h.canon c).win, (h.canon c).nor⟩ }

theorem State.withPwr_touch {M : Nat} {s₀ s : State} {v : Pwr} (m : M.testBit 3 = true)
    (h : Touch M s₀ s) : Touch M s₀ (s.withPwr v) :=
  { h with pwr := fun e => (Bool.noConfusion (m.symm.trans e)), reg := h.reg, canon := fun c => ⟨(h.canon c).regs, (h.canon c).regsA, (h.canon c).regsB, (h.canon c).win, (h.canon c).nor⟩ }

theorem State.withRegs_touch {M : Nat} {s₀ s : State} {v : List (Nat × Word)} (hv : Sparse.wf regDefault s.regs = true → Sparse.wf regDefault v = true) (hr : ∀ a, M.testBit (32 + regClass a) = false → Sparse.get regDefault v a = s.reg a) (m : M.testBit 4 = true)
    (h : Touch M s₀ s) : Touch M s₀ (s.withRegs v) :=
  { h with regs := fun e => (Bool.noConfusion (m.symm.trans e)), reg := fun a e => (hr a e).trans (h.reg a e), canon := fun c => ⟨hv (h.canon c).regs, (h.canon c).regsA, (h.canon c).regsB, (h.canon c).win, (h.canon c).nor⟩ }

theorem State.withRegsA_touch {M : Nat} {s₀ s : State} {v : List (Nat × Word)} (hv : Sparse.wf regDefault s.regsA = true → Sparse.wf regDefault v = true) (m : M.testBit 5 = true)
    (h : Touch M s₀ s) : Touch M s₀ (s.withRegsA v) :=
  { h with regsA := fun e => (Bool.noConfusion (m.symm.trans e)), reg := h.reg, canon := fun c => ⟨(h.canon c).regs, hv (h.canon c).regsA, (h.canon c).regsB, (h.canon c).win, (h.canon c).nor⟩ }

theorem State.withRegsB_touch {M : Nat} {s₀ s : State} {v : List (Nat × Word)} (hv : Sparse.wf regDefault s.regsB = true → Sparse.wf regDefault v = true) (m : M.testBit 6 = true)
    (h : Touch M s₀ s) : Touch M s₀ (s.withRegsB v) :=
  { h with regsB := fun e => (Bool.noConfusion (m.symm.trans e)), reg := h.reg, canon := fun c => ⟨(h.canon c).regs, (h.canon c).regsA, hv (h.canon c).regsB, (h.canon c).win, (h.canon c).nor⟩ }

theorem State.withStaged_touch {M : Nat} {s₀ s : State} {v : List StagedWord} (m : M.testBit 7 = true)
    (h : Touch M s₀ s) : Touch M s₀ (s.withStaged v) :=
  { h with staged := fun e => (Bool.noConfusion (m.symm.trans e)), reg := h.reg, canon := fun c => ⟨(h.canon c).regs, (h.canon c).regsA, (h.canon c).regsB, (h.canon c).win, (h.canon c).nor⟩ }

theorem State.withLasting_touch {M : Nat} {s₀ s : State} {v : List (Nat × Nat)} (m : M.testBit 8 = true)
    (h : Touch M s₀ s) : Touch M s₀ (s.withLasting v) :=
  { h with lasting := fun e => (Bool.noConfusion (m.symm.trans e)), reg := h.reg, canon := fun c => ⟨(h.canon c).regs, (h.canon c).regsA, (h.canon c).regsB, (h.canon c).win, (h.canon c).nor⟩ }

theorem State.withLastHi_touch {M : Nat} {s₀ s : State} {v : List (Nat × Nat)} (m : M.testBit 9 = true)
    (h : Touch M s₀ s) : Touch M s₀ (s.withLastHi v) :=
  { h with lastHi := fun e => (Bool.noConfusion (m.symm.trans e)), reg := h.reg, canon := fun c => ⟨(h.canon c).regs, (h.canon c).regsA, (h.canon c).regsB, (h.canon c).win, (h.canon c).nor⟩ }

theorem State.withPortA_touch {M : Nat} {s₀ s : State} {v : HostPort} (m : M.testBit 10 = true)
    (h : Touch M s₀ s) : Touch M s₀ (s.withPortA v) :=
  { h with portA := fun e => (Bool.noConfusion (m.symm.trans e)), reg := h.reg, canon := fun c => ⟨(h.canon c).regs, (h.canon c).regsA, (h.canon c).regsB, (h.canon c).win, (h.canon c).nor⟩ }

theorem State.withPortB_touch {M : Nat} {s₀ s : State} {v : HostPort} (m : M.testBit 11 = true)
    (h : Touch M s₀ s) : Touch M s₀ (s.withPortB v) :=
  { h with portB := fun e => (Bool.noConfusion (m.symm.trans e)), reg := h.reg, canon := fun c => ⟨(h.canon c).regs, (h.canon c).regsA, (h.canon c).regsB, (h.canon c).win, (h.canon c).nor⟩ }

theorem State.withOwn_touch {M : Nat} {s₀ s : State} {v : Ownership} (m : M.testBit 12 = true)
    (h : Touch M s₀ s) : Touch M s₀ (s.withOwn v) :=
  { h with own := fun e => (Bool.noConfusion (m.symm.trans e)), reg := h.reg, canon := fun c => ⟨(h.canon c).regs, (h.canon c).regsA, (h.canon c).regsB, (h.canon c).win, (h.canon c).nor⟩ }

theorem State.withOrd_touch {M : Nat} {s₀ s : State} {v : Ord} (m : M.testBit 13 = true)
    (h : Touch M s₀ s) : Touch M s₀ (s.withOrd v) :=
  { h with ord := fun e => (Bool.noConfusion (m.symm.trans e)), reg := h.reg, canon := fun c => ⟨(h.canon c).regs, (h.canon c).regsA, (h.canon c).regsB, (h.canon c).win, (h.canon c).nor⟩ }

theorem State.withLg_touch {M : Nat} {s₀ s : State} {v : Log} (m : M.testBit 14 = true)
    (h : Touch M s₀ s) : Touch M s₀ (s.withLg v) :=
  { h with lg := fun e => (Bool.noConfusion (m.symm.trans e)), reg := h.reg, canon := fun c => ⟨(h.canon c).regs, (h.canon c).regsA, (h.canon c).regsB, (h.canon c).win, (h.canon c).nor⟩ }

theorem State.withEng_touch {M : Nat} {s₀ s : State} {v : Eng} (m : M.testBit 15 = true)
    (h : Touch M s₀ s) : Touch M s₀ (s.withEng v) :=
  { h with eng := fun e => (Bool.noConfusion (m.symm.trans e)), reg := h.reg, canon := fun c => ⟨(h.canon c).regs, (h.canon c).regsA, (h.canon c).regsB, (h.canon c).win, (h.canon c).nor⟩ }

theorem State.withWin_touch {M : Nat} {s₀ s : State} {v : List (Nat × Byte)} (hv : Sparse.wf winDefault s.win = true → Sparse.wf winDefault v = true) (m : M.testBit 16 = true)
    (h : Touch M s₀ s) : Touch M s₀ (s.withWin v) :=
  { h with win := fun e => (Bool.noConfusion (m.symm.trans e)), reg := h.reg, canon := fun c => ⟨(h.canon c).regs, (h.canon c).regsA, (h.canon c).regsB, hv (h.canon c).win, (h.canon c).nor⟩ }

theorem State.withNor_touch {M : Nat} {s₀ s : State} {v : List (Nat × Byte)} (hv : Sparse.wf norDefault s.nor = true → Sparse.wf norDefault v = true) (m : M.testBit 17 = true)
    (h : Touch M s₀ s) : Touch M s₀ (s.withNor v) :=
  { h with nor := fun e => (Bool.noConfusion (m.symm.trans e)), reg := h.reg, canon := fun c => ⟨(h.canon c).regs, (h.canon c).regsA, (h.canon c).regsB, (h.canon c).win, hv (h.canon c).nor⟩ }

theorem State.withOut_touch {M : Nat} {s₀ s : State} {v : List Output} (m : M.testBit 18 = true)
    (h : Touch M s₀ s) : Touch M s₀ (s.withOut v) :=
  { h with out := fun e => (Bool.noConfusion (m.symm.trans e)), reg := h.reg, canon := fun c => ⟨(h.canon c).regs, (h.canon c).regsA, (h.canon c).regsB, (h.canon c).win, (h.canon c).nor⟩ }

theorem State.withXp_touch {M : Nat} {s₀ s : State} {v : List XPort} (m : M.testBit 19 = true)
    (h : Touch M s₀ s) : Touch M s₀ (s.withXp v) :=
  { h with xp := fun e => (Bool.noConfusion (m.symm.trans e)), reg := h.reg, canon := fun c => ⟨(h.canon c).regs, (h.canon c).regsA, (h.canon c).regsB, (h.canon c).win, (h.canon c).nor⟩ }

theorem State.withXnet_touch {M : Nat} {s₀ s : State} {v : Xnet} (m : M.testBit 20 = true)
    (h : Touch M s₀ s) : Touch M s₀ (s.withXnet v) :=
  { h with xnet := fun e => (Bool.noConfusion (m.symm.trans e)), reg := h.reg, canon := fun c => ⟨(h.canon c).regs, (h.canon c).regsA, (h.canon c).regsB, (h.canon c).win, (h.canon c).nor⟩ }

theorem State.withCallIn_touch {M : Nat} {s₀ s : State} {v : List Rec} (m : M.testBit 21 = true)
    (h : Touch M s₀ s) : Touch M s₀ (s.withCallIn v) :=
  { h with callIn := fun e => (Bool.noConfusion (m.symm.trans e)), reg := h.reg, canon := fun c => ⟨(h.canon c).regs, (h.canon c).regsA, (h.canon c).regsB, (h.canon c).win, (h.canon c).nor⟩ }

theorem State.withAfe_touch {M : Nat} {s₀ s : State} {v : Afe} (m : M.testBit 22 = true)
    (h : Touch M s₀ s) : Touch M s₀ (s.withAfe v) :=
  { h with afe := fun e => (Bool.noConfusion (m.symm.trans e)), reg := h.reg, canon := fun c => ⟨(h.canon c).regs, (h.canon c).regsA, (h.canon c).regsB, (h.canon c).win, (h.canon c).nor⟩ }

theorem State.withOuts_touch {M : Nat} {s₀ s : State} {v : Outs} (m : M.testBit 23 = true)
    (h : Touch M s₀ s) : Touch M s₀ (s.withOuts v) :=
  { h with outs := fun e => (Bool.noConfusion (m.symm.trans e)), reg := h.reg, canon := fun c => ⟨(h.canon c).regs, (h.canon c).regsA, (h.canon c).regsB, (h.canon c).win, (h.canon c).nor⟩ }

theorem State.withCall_touch {M : Nat} {s₀ s : State} {v : CallState} (m : M.testBit 24 = true)
    (h : Touch M s₀ s) : Touch M s₀ (s.withCall v) :=
  { h with call := fun e => (Bool.noConfusion (m.symm.trans e)), reg := h.reg, canon := fun c => ⟨(h.canon c).regs, (h.canon c).regsA, (h.canon c).regsB, (h.canon c).win, (h.canon c).nor⟩ }

theorem State.withSegs_touch {M : Nat} {s₀ s : State} {v : List (Nat × Seg)} (m : M.testBit 25 = true)
    (h : Touch M s₀ s) : Touch M s₀ (s.withSegs v) :=
  { h with segs := fun e => (Bool.noConfusion (m.symm.trans e)), reg := h.reg, canon := fun c => ⟨(h.canon c).regs, (h.canon c).regsA, (h.canon c).regsB, (h.canon c).win, (h.canon c).nor⟩ }

theorem State.withPanel_touch {M : Nat} {s₀ s : State} {v : Panel} (m : M.testBit 26 = true)
    (h : Touch M s₀ s) : Touch M s₀ (s.withPanel v) :=
  { h with panel := fun e => (Bool.noConfusion (m.symm.trans e)), reg := h.reg, canon := fun c => ⟨(h.canon c).regs, (h.canon c).regsA, (h.canon c).regsB, (h.canon c).win, (h.canon c).nor⟩ }

theorem State.withRtc_touch {M : Nat} {s₀ s : State} {v : Rtc} (m : M.testBit 27 = true)
    (h : Touch M s₀ s) : Touch M s₀ (s.withRtc v) :=
  { h with rtc := fun e => (Bool.noConfusion (m.symm.trans e)), reg := h.reg, canon := fun c => ⟨(h.canon c).regs, (h.canon c).regsA, (h.canon c).regsB, (h.canon c).win, (h.canon c).nor⟩ }

theorem State.withTt_touch {M : Nat} {s₀ s : State} {v : Tt} (m : M.testBit 28 = true)
    (h : Touch M s₀ s) : Touch M s₀ (s.withTt v) :=
  { h with tt := fun e => (Bool.noConfusion (m.symm.trans e)), reg := h.reg, canon := fun c => ⟨(h.canon c).regs, (h.canon c).regsA, (h.canon c).regsB, (h.canon c).win, (h.canon c).nor⟩ }

theorem State.withSafe_touch {M : Nat} {s₀ s : State} {v : Safe} (m : M.testBit 29 = true)
    (h : Touch M s₀ s) : Touch M s₀ (s.withSafe v) :=
  { h with safe := fun e => (Bool.noConfusion (m.symm.trans e)), reg := h.reg, canon := fun c => ⟨(h.canon c).regs, (h.canon c).regsA, (h.canon c).regsB, (h.canon c).win, (h.canon c).nor⟩ }

theorem get_erase_ne (d : Nat → Word) : ∀ (m : List (Nat × Word)) (k k' : Nat), k' ≠ k →
    Sparse.get d (Sparse.erase m k) k' = Sparse.get d m k'
  | [], _, _, _ => rfl
  | (a, v) :: m, k, k', h => by
    unfold Sparse.erase
    split
    · next e =>
      unfold Sparse.get
      rw [if_neg (fun e' => h (e'.symm.trans e))]
      cases m <;> rfl
    · unfold Sparse.get
      split
      · rfl
      · exact get_erase_ne d m k k' h

theorem get_set_ne (d : Nat → Word) (m : List (Nat × Word)) (k : Nat) (v : Word) (k' : Nat) (h : k' ≠ k) :
    Sparse.get d (Sparse.set d m k v) k' = Sparse.get d m k' := by
  unfold Sparse.set
  split
  · exact get_erase_ne d m k k' h
  · rw [Sparse.get_insert]
    split
    · exact absurd (by assumption) (by omega)
    · rfl

theorem Sub.left {a b m : Nat} (h : Sub (a ||| b) m) : Sub a m := h.trans (by
  unfold Sub
  apply Nat.eq_of_testBit_eq
  intro i
  simp only [Nat.testBit_and, Nat.testBit_or]
  cases a.testBit i <;> simp)

theorem Sub.right {a b m : Nat} (h : Sub (a ||| b) m) : Sub b m := Sub.left (Nat.or_comm a b ▸ h)

theorem Sub.or {a b m : Nat} (h : Sub a m) (k : Sub b m) : Sub (a ||| b) m := by
  unfold Sub at *
  rw [Nat.and_or_distrib_right, h, k]

theorem regMask_regs (a : Nat) : (regMask a).testBit 4 = true := by
  unfold regMask
  rw [Nat.testBit_or]
  rfl

theorem regMask_class (a : Nat) : (regMask a).testBit (32 + regClass a) = true := by
  unfold regMask
  rw [Nat.testBit_or, Nat.testBit_two_pow_self, Bool.or_true]

theorem filter_le_length (l : List Nat) {p q : Nat} (h : p ≤ q) :
    (l.filter fun x => decide (x ≤ p)).length ≤ (l.filter fun x => decide (x ≤ q)).length := by
  rw [← List.countP_eq_length_filter, ← List.countP_eq_length_filter]
  exact List.countP_mono_left fun x _ hx => by
    simp only [decide_eq_true_eq] at *
    omega

theorem regClass_lt (a : Nat) : regClass a < 43 := by
  unfold regClass
  split
  · split
    · omega
    · split <;> omega
  · exact Nat.lt_of_le_of_lt (Nat.add_le_add_left (List.length_filter_le _ _) 3) (by decide)

theorem aboveMask_bit {k c : Nat} (h : k ≤ c) (hc : c < 43) : (aboveMask k).testBit (32 + c) = true := by
  have e : aboveMask k = 2 ^ (32 + k) * (2 ^ (43 - k) - 1) := by
    unfold aboveMask
    rw [Nat.mul_sub, ← Nat.pow_add, Nat.mul_one]
    congr 2
    omega
  rw [e, Nat.testBit_two_pow_mul, Nat.testBit_two_pow_sub_one]
  simp
  omega

theorem regClass_page (f : Fld) (n : Nat) : (pageMask f).testBit (32 + regClass (f.page n).addr) = true := by
  have hmod : (f.page n).addr % 0x1000 = f.addr % 0x1000 := by
    simp only [Fld.page]
    omega
  unfold pageMask
  split
  · next h =>
    have : regClass (f.page n).addr = regClass f.addr := by
      unfold regClass
      rw [hmod, if_pos h, if_pos h]
    rw [this]
    exact regMask_class _
  · next h =>
    rw [Nat.testBit_or, aboveMask_bit, Bool.or_true]
    · unfold regClass
      rw [hmod, if_neg h, if_neg h]
      refine Nat.add_le_add_left (filter_le_length _ ?_) 3
      simp only [Fld.page]
      omega
    · exact regClass_lt _

theorem idxMask_ge {f : Fld} {a : Nat} (h : f.addr ≤ a) : (idxMask f).testBit (32 + regClass a) = true := by
  have hl := regClass_lt a
  unfold idxMask
  rw [Nat.testBit_or, Nat.testBit_or]
  by_cases hh : a % 0x1000 < 0x40
  · have : regClass a = 0 ∨ regClass a = 1 ∨ regClass a = 2 := by
      unfold regClass
      rw [if_pos hh]
      split
      · exact .inl rfl
      · split
        · exact .inr (.inl rfl)
        · exact .inr (.inr rfl)
    rcases this with e | e | e <;> rw [e] <;> simp <;> exact .inr (.inl (by decide))
  · rw [aboveMask_bit ?_ hl, Bool.or_true, Bool.or_true]
    unfold regClass
    rw [if_neg hh]
    exact Nat.add_le_add_left (filter_le_length _ (Nat.div_le_div_right h)) 3

theorem aboveMask_regs (k : Nat) : (0x10 ||| k).testBit 4 = true := by
  rw [Nat.testBit_or]
  rfl

theorem allRegs_bit (a : Nat) : (0x7ffffffffff00000010).testBit (32 + regClass a) = true := by
  have h := regClass_lt a
  generalize regClass a = c at h
  revert h
  revert c
  decide

theorem State.setReg_touch {M : Nat} {s₀ s : State} {a w} (m : Sub (regMask a) M) (h : Touch M s₀ s) :
    Touch M s₀ (s.setReg a w) := by
  refine State.withRegs_touch (Sparse.wf_set a w) ?_ (m.bit (regMask_regs a)) h
  intro b hb
  refine get_set_ne _ _ _ _ _ fun e => ?_
  rw [e, m.bit (regMask_class a)] at hb
  exact Bool.noConfusion hb

theorem setReg_bits_touch {M : Nat} {s₀ s : State} {a w} (m : M.testBit 4 = true) (c : M.testBit (32 + regClass a) = true)
    (h : Touch M s₀ s) : Touch M s₀ (s.setReg a w) := by
  refine State.withRegs_touch (Sparse.wf_set a w) ?_ m h
  intro b hb
  refine get_set_ne _ _ _ _ _ fun e => ?_
  rw [e, c] at hb
  exact Bool.noConfusion hb

theorem setReg_any_touch {M : Nat} {s₀ s : State} {a w} (m : Sub 0x7ffffffffff00000010 M) (h : Touch M s₀ s) :
    Touch M s₀ (s.setReg a w) := setReg_bits_touch (m.bit rfl) (m.bit (allRegs_bit a)) h

theorem setReg_fld_touch {M : Nat} {s₀ s : State} {f : Fld} {w} (m : Sub (fldMask f) M) (h : Touch M s₀ s) :
    Touch M s₀ (s.setReg f.addr w) := State.setReg_touch m h

theorem State.put_touch {M : Nat} {s₀ s : State} {f : Fld} {v} (m : Sub (fldMask f) M) (h : Touch M s₀ s) :
    Touch M s₀ (s.put f v) := State.setReg_touch m h

theorem put_any_touch {M : Nat} {s₀ s : State} {f : Fld} {v} (m : Sub 0x7ffffffffff00000010 M) (h : Touch M s₀ s) :
    Touch M s₀ (s.put f v) := setReg_any_touch m h

theorem put_page_touch {M : Nat} {s₀ s : State} {f : Fld} {n v} (m : Sub (pageMask f) M) (h : Touch M s₀ s) :
    Touch M s₀ (s.put (f.page n) v) :=
  setReg_bits_touch (m.bit (by unfold pageMask; split; exact regMask_regs _; exact aboveMask_regs _)) (m.bit (regClass_page f n)) h

theorem put_idx_touch {M : Nat} {s₀ s : State} {f : Fld} {n v} (m : Sub (idxMask f) M) (h : Touch M s₀ s) :
    Touch M s₀ (s.put (f.idx n) v) :=
  setReg_bits_touch (m.bit (aboveMask_regs _)) (m.bit (idxMask_ge (Nat.le_add_right _ _))) h

theorem put_ch_touch {M : Nat} {s₀ s : State} {f : Fld} {n v} (m : Sub (idxMask f) M) (h : Touch M s₀ s) :
    Touch M s₀ (s.put (f.ch n) v) :=
  setReg_bits_touch (m.bit (aboveMask_regs _))
    (m.bit (idxMask_ge (Nat.le_trans (Nat.le_add_right _ _) (Nat.le_add_right _ _)))) h

theorem put_host_touch {M : Nat} {s₀ s : State} {f : Fld} {x v} (m : Sub (hostMask f) M) (h : Touch M s₀ s) :
    Touch M s₀ (s.put (hostFld f x) v) := by
  cases x
  · exact State.put_touch (f := f) m.left h
  · exact State.put_touch m.right h

theorem put_pll_touch {M : Nat} {s₀ s : State} {p v} (m : Sub (fldMask F.clkStatPllEngLock) M) (h : Touch M s₀ s) :
    Touch M s₀ (s.put (pllFld p) v) := by
  cases p <;> exact State.put_touch m h

theorem put_master_touch {M : Nat} {s₀ s : State} {p v} (m : Sub (fldMask F.xnetStatMasterP) M) (h : Touch M s₀ s) :
    Touch M s₀ (s.put (masterFld p) v) := by
  cases p <;> exact State.put_touch m h

theorem put_closed_touch {M : Nat} {s₀ s : State} {p v} (m : Sub (fldMask F.xnetStatPClosed) M) (h : Touch M s₀ s) :
    Touch M s₀ (s.put (closedFld p) v) := by
  cases p <;> exact State.put_touch m h

theorem State.putFlag_touch {M : Nat} {s₀ s : State} {f : Fld} {b} (h : Touch M s₀ (s.put f (b2n b))) :
    Touch M s₀ (s.putFlag f b) := h

theorem State.bumpSat_touch {M : Nat} {s₀ s : State} {f : Fld} {n}
    (h : Touch M s₀ (s.put f (sat (2 ^ (f.hi + 1 - f.lo) - 1) (s.get f + n)))) : Touch M s₀ (s.bumpSat f n) := h

theorem State.bumpWrap_touch {M : Nat} {s₀ s : State} {f : Fld} {n} (h : Touch M s₀ (s.put f (s.get f + n))) :
    Touch M s₀ (s.bumpWrap f n) := h

theorem regMask_hdr {k : Nat} (hk : k < 0x40) (page : Nat) : regClass (page * 0x1000 + k) = regClass k := by
  have h1 : (page * 0x1000 + k) % 0x1000 = k := by omega
  have h2 : k % 0x1000 = k := by omega
  unfold regClass
  rw [h1, h2, if_pos hk, if_pos hk]

theorem setReg_hdr_touch {M : Nat} {s₀ s : State} {page k w} (hk : k < 0x40) (m : Sub (regMask k) M) (h : Touch M s₀ s) :
    Touch M s₀ (s.setReg (page * 0x1000 + k) w) :=
  setReg_bits_touch (m.bit (regMask_regs k)) (m.bit (regMask_hdr hk page ▸ regMask_class k)) h

theorem regMask_all (a : Nat) : Sub (regMask a) 0x7ffffffffff00000010 := by
  unfold Sub regMask
  rw [Nat.and_or_distrib_right]
  have h := allRegs_bit a
  generalize 32 + regClass a = c at h
  have : 2 ^ c &&& 0x7ffffffffff00000010 = 2 ^ c := by
    apply Nat.eq_of_testBit_eq
    intro i
    rw [Nat.testBit_and, Nat.testBit_two_pow]
    by_cases e : c = i
    · rw [← e, h]
      simp
    · simp [e]
  rw [this]
  rfl

theorem withRegs_any_touch {M : Nat} {s₀ s : State} {v : List (Nat × Word)}
    (hv : Sparse.wf regDefault s.regs = true → Sparse.wf regDefault v = true) (m : Sub 0x7ffffffffff00000010 M) (h : Touch M s₀ s) :
    Touch M s₀ (s.withRegs v) :=
  State.withRegs_touch hv (fun a e => by rw [m.bit (allRegs_bit a)] at e; exact Bool.noConfusion e) (m.bit rfl) h

end Sys2Proof.Machine
end

