-- ==== Sys2Proof/Laws/Fields.lean ====
section
/-!
SUPPORT. Reading a register field after a write: of the same field, of another field of the same register, of
another register; and the bits of EVT_RAW, which raising an event never clears.
-/

set_option Elab.async false

namespace Sys2Proof.Machine

/-! Bit fields of words. -/

/-- Bit `i` of a word with one field replaced. -/
theorem setBits_testBit {w : Word} {hi lo v i : Nat} (h : lo ≤ hi) (hh : hi < 32) :
    (setBits w hi lo v).toNat.testBit i =
      if lo ≤ i ∧ i ≤ hi then v.testBit (i - lo) else w.toNat.testBit i := by
  have hn := w.isLt
  unfold setBits
  simp only [BitVec.toNat_ofNat, Nat.shiftLeft_eq, Nat.shiftRight_eq_div_pow]
  generalize w.toNat = n at hn
  have hk : hi + 1 - lo + lo = hi + 1 := by omega
  generalize hkk : hi + 1 - lo = k at hk
  have hp : 0 < 2 ^ lo := Nat.two_pow_pos lo
  have hq : 0 < 2 ^ k := Nat.two_pow_pos k
  have hA : n / 2 ^ lo = 2 ^ k * (n / 2 ^ lo / 2 ^ k) + n / 2 ^ lo % 2 ^ k := (Nat.div_add_mod _ _).symm
  have hn1 : n = 2 ^ lo * (2 ^ k * (n / 2 ^ lo / 2 ^ k) + n / 2 ^ lo % 2 ^ k) + n % 2 ^ lo := by
    rw [← hA]
    exact (Nat.div_add_mod n (2 ^ lo)).symm
  generalize hx : n / 2 ^ lo / 2 ^ k = A at *
  generalize hf : n / 2 ^ lo % 2 ^ k = f at *
  have hB : n % 2 ^ lo < 2 ^ lo := Nat.mod_lt _ hp
  have hfk : f < 2 ^ k := hf ▸ Nat.mod_lt _ hq
  generalize n % 2 ^ lo = B at *
  have hvk : v % 2 ^ k < 2 ^ k := Nat.mod_lt _ hq
  generalize hu : v % 2 ^ k = u at *
  have hnew : n - f * 2 ^ lo + u * 2 ^ lo = 2 ^ lo * (2 ^ k * A + u) + B := by
    have e3 : n = 2 ^ lo * (2 ^ k * A) + f * 2 ^ lo + B := by rw [hn1, Nat.mul_add, Nat.mul_comm f]
    rw [e3, Nat.mul_add, Nat.mul_comm u]
    omega
  have hlt : 2 ^ lo * (2 ^ k * A + u) + B < 2 ^ 32 := by
    have hAk : A < 2 ^ (32 - (hi + 1)) := by
      have : 2 ^ (hi + 1) * A ≤ n := by
        rw [← hk, Nat.pow_add, Nat.mul_comm (2 ^ k), Nat.mul_assoc, hn1, Nat.mul_add]
        omega
      have h32 : 2 ^ 32 = 2 ^ (hi + 1) * 2 ^ (32 - (hi + 1)) := by rw [← Nat.pow_add]; congr 1; omega
      rw [h32] at hn
      exact Nat.lt_of_mul_lt_mul_left (Nat.lt_of_le_of_lt this hn)
    have h32 : 2 ^ 32 = 2 ^ lo * (2 ^ k * 2 ^ (32 - (hi + 1))) := by
      rw [← Nat.pow_add, ← Nat.pow_add]
      congr 1
      omega
    have h1 : 2 ^ k * A + u + 1 ≤ 2 ^ k * 2 ^ (32 - (hi + 1)) := by
      have : 2 ^ k * (A + 1) ≤ 2 ^ k * 2 ^ (32 - (hi + 1)) := Nat.mul_le_mul_left _ hAk
      rw [Nat.mul_add] at this
      omega
    have h2 := Nat.mul_le_mul_left (2 ^ lo) h1
    rw [h32]
    rw [Nat.mul_add] at h2
    omega
  have h0 : (n - f * 2 ^ lo + u * 2 ^ lo) % 2 ^ 32 = 2 ^ lo * (2 ^ k * A + u) + B := by
    rw [hnew, Nat.mod_eq_of_lt hlt]
  rw [h0, Nat.testBit_two_pow_mul_add _ hB, Nat.testBit_two_pow_mul_add _ hvk]
  have hnb : n.testBit i = if i < lo then B.testBit i else
      if i - lo < k then f.testBit (i - lo) else A.testBit (i - lo - k) := by
    conv => lhs; rw [hn1]
    rw [Nat.testBit_two_pow_mul_add _ hB, Nat.testBit_two_pow_mul_add _ hfk]
  rw [hnb]
  by_cases h1 : i < lo
  · simp [h1, Nat.not_le.2 h1]
  · by_cases h2 : i - lo < k
    · have : lo ≤ i ∧ i ≤ hi := by omega
      simp only [h1, h2, this, if_false, if_true, and_self]
      rw [← hu, Nat.testBit_mod_two_pow]
      simp [h2]
    · have : ¬ (lo ≤ i ∧ i ≤ hi) := by omega
      simp only [h1, h2, this, if_false]

theorem getBits_testBit {w : Word} {hi lo i : Nat} :
    (getBits w hi lo).testBit i = (decide (i < hi + 1 - lo) && w.toNat.testBit (lo + i)) := by
  unfold getBits
  rw [Nat.testBit_mod_two_pow, Nat.testBit_shiftRight]

/-- The field written reads as the low bits of the value. -/
theorem getBits_setBits {w : Word} {hi lo v : Nat} (h : lo ≤ hi) (hh : hi < 32) :
    getBits (setBits w hi lo v) hi lo = v % 2 ^ (hi + 1 - lo) := by
  apply Nat.eq_of_testBit_eq
  intro i
  rw [getBits_testBit, setBits_testBit h hh, Nat.testBit_mod_two_pow]
  by_cases hi' : i < hi + 1 - lo
  · have : lo ≤ lo + i ∧ lo + i ≤ hi := by omega
    simp [hi', this]
  · simp [hi']

/-- A field apart from the one written reads as before. -/
theorem getBits_setBits_ne {w : Word} {hi lo v hi' lo' : Nat} (h : lo ≤ hi) (hh : hi < 32) (hd : hi' < lo ∨ hi < lo') :
    getBits (setBits w hi lo v) hi' lo' = getBits w hi' lo' := by
  apply Nat.eq_of_testBit_eq
  intro i
  rw [getBits_testBit, getBits_testBit, setBits_testBit h hh]
  by_cases hi' : i < hi' + 1 - lo'
  · rw [if_neg (by omega)]
  · simp [hi']

/-! Registers. -/

theorem State.Canonical.touch {M : Nat} {s t : State} (h : s.Canonical) (k : Touch M s t) : t.Canonical := k.canon h

/-- The register written. -/
theorem State.reg_setReg {s : State} (hc : s.Canonical) (a : Nat) (w : Word) : (s.setReg a w).reg a = w := by
  simp only [State.reg, State.setReg, State.withRegs]
  rw [Sparse.get_set hc.regs, if_pos rfl]

/-- Another register. -/
theorem State.reg_setReg_ne {s : State} {a b : Nat} (w : Word) (h : b ≠ a) : (s.setReg a w).reg b = s.reg b :=
  get_set_ne _ _ _ _ _ h

theorem State.canonical_setReg {s : State} (hc : s.Canonical) (a : Nat) (w : Word) : (s.setReg a w).Canonical :=
  hc.touch (setReg_any_touch (M := 0x7ffffffffff00000010) (Sub.refl _) (Touch.refl _ _))

theorem State.canonical_put {s : State} (hc : s.Canonical) (f : Fld) (v : Nat) : (s.put f v).Canonical :=
  State.canonical_setReg hc _ _

theorem State.canonical_putFlag {s : State} (hc : s.Canonical) (f : Fld) (b : Bool) : (s.putFlag f b).Canonical :=
  State.canonical_setReg hc _ _

theorem State.canonical_setRaw {s : State} (hc : s.Canonical) (p b : Nat) : (s.setRaw p b).Canonical :=
  State.canonical_setReg hc _ _

/-- A field lies in its word. -/
def Fld.ok (f : Fld) : Bool := decide (f.lo ≤ f.hi) && decide (f.hi < 32)

/-- Two fields share no bit. -/
def Fld.apart (f g : Fld) : Bool := f.addr != g.addr || decide (g.hi < f.lo) || decide (f.hi < g.lo)

/-- The field written reads as the low bits of the value. -/
theorem State.get_put {s : State} (hc : s.Canonical) {f : Fld} (hf : f.ok = true) (v : Nat) :
    (s.put f v).get f = v % 2 ^ (f.hi + 1 - f.lo) := by
  simp only [Fld.ok, Bool.and_eq_true, decide_eq_true_eq] at hf
  unfold State.get State.put
  rw [State.reg_setReg hc, getBits_setBits hf.1 hf.2]

/-- A field apart from the one written reads as before. -/
theorem State.get_put_ne {s : State} (hc : s.Canonical) {f g : Fld} (hf : f.ok = true) (hd : f.apart g = true) (v : Nat) :
    (s.put f v).get g = s.get g := by
  simp only [Fld.ok, Bool.and_eq_true, decide_eq_true_eq] at hf
  simp only [Fld.apart, Bool.or_eq_true, bne_iff_ne, decide_eq_true_eq] at hd
  unfold State.get State.put
  by_cases e : g.addr = f.addr
  · rw [e, State.reg_setReg hc, getBits_setBits_ne hf.1 hf.2]
    rcases hd with (h | h) | h
    · exact absurd e.symm h
    · exact .inl h
    · exact .inr h
  · rw [State.reg_setReg_ne _ e]

theorem State.flag_put_ne {s : State} (hc : s.Canonical) {f g : Fld} (hf : f.ok = true) (hd : f.apart g = true) (v : Nat) :
    (s.put f v).flag g = s.flag g := by
  unfold State.flag
  rw [State.get_put_ne hc hf hd]

/-- A one-bit field written as a flag. -/
theorem State.flag_putFlag {s : State} (hc : s.Canonical) {f : Fld} (hf : f.ok = true) (b : Bool) :
    (s.putFlag f b).flag f = b := by
  unfold State.flag State.putFlag
  rw [State.get_put hc hf]
  have : 2 ≤ 2 ^ (f.hi + 1 - f.lo) := by
    simp only [Fld.ok, Bool.and_eq_true, decide_eq_true_eq] at hf
    have := Nat.pow_le_pow_right (n := 2) (by decide) (show 1 ≤ f.hi + 1 - f.lo by omega)
    simpa using this
  cases b
  · simp [b2n]
  · rw [b2n, if_pos rfl, Nat.mod_eq_of_lt (by omega)]
    rfl

/-- A field whose register a touch leaves alone. -/
theorem Touch.get {M : Nat} {s t : State} (k : Touch M s t) {f : Fld} (h : M.testBit (32 + regClass f.addr) = false) :
    t.get f = s.get f := by
  unfold State.get
  rw [k.reg _ h]

theorem Touch.flag {M : Nat} {s t : State} (k : Touch M s t) {f : Fld} (h : M.testBit (32 + regClass f.addr) = false) :
    t.flag f = s.flag f := by
  unfold State.flag
  rw [k.get h]

end Sys2Proof.Machine
end

