-- ==== Sys2Proof/Laws/TouchOps.lean ====
section
/-!
SUPPORT. What the definitions of Machine/Ops.lean touch.
-/

set_option Elab.async false
set_option linter.all false

namespace Sys2Proof.Machine

theorem State.setRegH_touch {M : Nat} {s₀ s : State} {x a w} (m : Sub 0x60 M) (h : Touch M s₀ s) : Touch M s₀ (s.setRegH x a w) := by
  cases x
  · exact State.withRegsA_touch (Sparse.wf_set a w) (m.bit rfl) h
  · exact State.withRegsB_touch (Sparse.wf_set a w) (m.bit rfl) h

theorem State.putH_touch {M : Nat} {s₀ s : State} {a1 a2 a3} (m : Sub 0x60 M) (h : Touch M s₀ s) :
    Touch M s₀ (State.putH s a1 a2 a3) := by
  unfold State.putH
  repeat' with_reducible first
    | assumption | refine State.setRegH_touch (m.trans rfl) ?_

theorem State.setPort_touch {M : Nat} {s₀ s : State} {a1 a2} (m : Sub 0xc00 M) (h : Touch M s₀ s) :
    Touch M s₀ (State.setPort s a1 a2) := by
  unfold State.setPort
  repeat' with_reducible first
    | assumption | refine State.withPortA_touch (m.bit rfl) ?_ | refine State.withPortB_touch (m.bit rfl) ?_ | split

theorem State.draw_touch {M : Nat} {s₀ s : State} {a1} (m : Sub 0x1 M) (h : Touch M s₀ s) :
    Touch M s₀ (State.draw s a1).2 := by
  unfold State.draw
  repeat' with_reducible first
    | assumption | refine State.withFreeCount_touch (m.bit rfl) ?_

theorem State.drawKey_touch {M : Nat} {s₀ s : State} (m : Sub 0x1 M) (h : Touch M s₀ s) :
    Touch M s₀ (State.drawKey s).2 := by
  unfold State.drawKey
  repeat' with_reducible first
    | assumption | refine State.withFreeCount_touch (m.bit rfl) ?_

theorem State.setWinBytes_touch {M : Nat} {s₀ s : State} {a bs} (m : Sub 0x10000 M) (h : Touch M s₀ s) : Touch M s₀ (s.setWinBytes a bs) :=
  State.withWin_touch (Sparse.wf_setRange bs a) (m.bit rfl) h

theorem State.setWinWord_touch {M : Nat} {s₀ s : State} {a1 a2} (m : Sub 0x10000 M) (h : Touch M s₀ s) :
    Touch M s₀ (State.setWinWord s a1 a2) := by
  unfold State.setWinWord
  repeat' with_reducible first
    | assumption | refine State.setWinBytes_touch (m.trans rfl) ?_

theorem State.setNorBytes_touch {M : Nat} {s₀ s : State} {a bs} (m : Sub 0x20000 M) (h : Touch M s₀ s) : Touch M s₀ (s.setNorBytes a bs) :=
  State.withNor_touch (Sparse.wf_setRange bs a) (m.bit rfl) h

theorem State.setRaw_touch {M : Nat} {s₀ s : State} {p b} (m : Sub 0x100000010 M) (h : Touch M s₀ s) : Touch M s₀ (s.setRaw p b) :=
  setReg_hdr_touch (by decide) (m.trans rfl) h

theorem State.setLastTally_touch {M : Nat} {s₀ s : State} {p b} (m : Sub 0x100000210 M) (h : Touch M s₀ s) : Touch M s₀ (s.setLastTally p b) :=
  State.withLastHi_touch (m.bit rfl) (setReg_hdr_touch (by decide) (m.trans rfl) h)

theorem logPush_touch {M : Nat} {s₀ s : State} {a0} (m : Sub 0x100000000100004010 M) (h : Touch M s₀ s) :
    Touch M s₀ (logPush a0 s) := by
  unfold logPush
  repeat' with_reducible first
    | assumption | refine State.withLg_touch (m.bit rfl) ?_
    | refine put_page_touch (m.trans (by decide +kernel)) ?_ | refine put_ch_touch (m.trans (by decide +kernel)) ?_ | refine put_idx_touch (m.trans (by decide +kernel)) ?_ | refine put_host_touch (m.trans (by decide +kernel)) ?_ | refine put_pll_touch (m.trans (by decide +kernel)) ?_ | refine put_master_touch (m.trans (by decide +kernel)) ?_ | refine put_closed_touch (m.trans (by decide +kernel)) ?_ | refine State.put_touch (m.trans (by decide +kernel)) ?_ | refine put_any_touch (m.trans (by decide +kernel)) ?_
    | refine State.bumpSat_touch ?_ | refine State.setRaw_touch (m.trans rfl) ?_
    | refine Touch.ite_else ?_ (fun _ => ?_) | unfold x
    | (extract_lets +onlyGivenNames x; first | (refine Touch.cut (s := x) ?_ (fun _ => ?_); rotate_left; clear_value x) | clear_value x)
    | split

theorem logOwn_touch {M : Nat} {s₀ s : State} {a0} (m : Sub 0x100000000100004010 M) (h : Touch M s₀ s) :
    Touch M s₀ (logOwn a0 s) := by
  unfold logOwn
  repeat' with_reducible first
    | assumption | refine State.withLg_touch (m.bit rfl) ?_ | refine logPush_touch (m.trans rfl) ?_
    | refine Touch.ite_else ?_ (fun _ => ?_) | unfold x
    | (extract_lets +onlyGivenNames x; first | (refine Touch.cut (s := x) ?_ (fun _ => ?_); rotate_left; clear_value x) | clear_value x)
    | split

theorem refreshCeil_touch {M : Nat} {s₀ s : State} (m : Sub 0x8000000000002010 M) (h : Touch M s₀ s) :
    Touch M s₀ (refreshCeil s) := by
  unfold refreshCeil
  repeat' with_reducible first
    | assumption
    | refine put_page_touch (m.trans (by decide +kernel)) ?_ | refine put_ch_touch (m.trans (by decide +kernel)) ?_ | refine put_idx_touch (m.trans (by decide +kernel)) ?_ | refine put_host_touch (m.trans (by decide +kernel)) ?_ | refine put_pll_touch (m.trans (by decide +kernel)) ?_ | refine put_master_touch (m.trans (by decide +kernel)) ?_ | refine put_closed_touch (m.trans (by decide +kernel)) ?_ | refine State.put_touch (m.trans (by decide +kernel)) ?_ | refine put_any_touch (m.trans (by decide +kernel)) ?_
    | refine State.withOrd_touch (m.bit rfl) ?_ | refine Touch.ite_else ?_ (fun _ => ?_) | unfold x
    | (extract_lets +onlyGivenNames x; first | (refine Touch.cut (s := x) ?_ (fun _ => ?_); rotate_left; clear_value x) | clear_value x)
    | split

theorem stampLocal_touch {M : Nat} {s₀ s : State} {a0} (m : Sub 0x108000000100206210 M) (h : Touch M s₀ s) :
    Touch M s₀ (stampLocal a0 s) := by
  unfold stampLocal
  repeat' with_reducible first
    | assumption | refine refreshCeil_touch (m.trans rfl) ?_ | refine State.withCallIn_touch (m.bit rfl) ?_
    | refine logOwn_touch (m.trans rfl) ?_ | refine State.withOrd_touch (m.bit rfl) ?_
    | refine State.setLastTally_touch (m.trans rfl) ?_ | refine Touch.ite_else ?_ (fun _ => ?_) | unfold x
    | (extract_lets +onlyGivenNames x; first | (refine Touch.cut (s := x) ?_ (fun _ => ?_); rotate_left; clear_value x) | clear_value x)
    | split

theorem holdUntil_touch {M : Nat} {s₀ s : State} {a0 a1} (m : Sub 0x8000000100002010 M) (h : Touch M s₀ s) :
    Touch M s₀ (holdUntil a0 a1 s) := by
  unfold holdUntil
  repeat' with_reducible first
    | assumption
    | refine put_page_touch (m.trans (by decide +kernel)) ?_ | refine put_ch_touch (m.trans (by decide +kernel)) ?_ | refine put_idx_touch (m.trans (by decide +kernel)) ?_ | refine put_host_touch (m.trans (by decide +kernel)) ?_ | refine put_pll_touch (m.trans (by decide +kernel)) ?_ | refine put_master_touch (m.trans (by decide +kernel)) ?_ | refine put_closed_touch (m.trans (by decide +kernel)) ?_ | refine State.put_touch (m.trans (by decide +kernel)) ?_ | refine put_any_touch (m.trans (by decide +kernel)) ?_
    | refine State.withOrd_touch (m.bit rfl) ?_ | refine State.setRaw_touch (m.trans rfl) ?_
    | refine Touch.ite_else ?_ (fun _ => ?_) | unfold x
    | (extract_lets +onlyGivenNames x; first | (refine Touch.cut (s := x) ?_ (fun _ => ?_); rotate_left; clear_value x) | clear_value x)
    | split

theorem holdEvt_touch {M : Nat} {s₀ s : State} {a0} (m : Sub 0x8000000100002010 M) (h : Touch M s₀ s) :
    Touch M s₀ (holdEvt a0 s) := by
  unfold holdEvt
  repeat' with_reducible first
    | assumption | refine holdUntil_touch (m.trans rfl) ?_

theorem emitLocal_touch {M : Nat} {s₀ s : State} {a0} (m : Sub 0x108000000100206210 M) (h : Touch M s₀ s) :
    Touch M s₀ (emitLocal a0 s) := by
  unfold emitLocal
  repeat' with_reducible first
    | assumption | refine holdEvt_touch (m.trans rfl) ?_ | refine stampLocal_touch (m.trans rfl) ?_
    | refine Touch.ite_else ?_ (fun _ => ?_) | split

theorem raise_touch {M : Nat} {s₀ s : State} {a0 a1 a2 a3} (m : Sub 0x108000000100206210 M) (h : Touch M s₀ s) :
    Touch M s₀ (raise a0 a1 a2 a3 s) := by
  unfold raise
  repeat' with_reducible first
    | assumption | refine emitLocal_touch (m.trans rfl) ?_ | refine State.setRaw_touch (m.trans rfl) ?_
    | refine Touch.ite_else ?_ (fun _ => ?_) | split

theorem record_touch {M : Nat} {s₀ s : State} {a0 a1 a2 a3} (m : Sub 0x108000000100206210 M) (h : Touch M s₀ s) :
    Touch M s₀ (record a0 a1 a2 a3 s) := by
  unfold record
  repeat' with_reducible first
    | assumption | refine emitLocal_touch (m.trans rfl) ?_

theorem mark_touch {M : Nat} {s₀ s : State} {a0 a1} (m : Sub 0x100000010 M) (h : Touch M s₀ s) :
    Touch M s₀ (mark a0 a1 s) := by
  unfold mark
  repeat' with_reducible first
    | assumption | refine State.setRaw_touch (m.trans rfl) ?_

theorem noteLater_touch {M : Nat} {s₀ s : State} {a0 a1 a2 a3} (m : Sub 0x4 M) (h : Touch M s₀ s) :
    Touch M s₀ (noteLater a0 a1 a2 a3 s) := by
  unfold noteLater
  repeat' with_reducible first
    | assumption | refine State.withRst_touch (m.bit rfl) ?_ | unfold x
    | (extract_lets +onlyGivenNames x; first | (refine Touch.cut (s := x) ?_ (fun _ => ?_); rotate_left; clear_value x) | clear_value x)

theorem note_touch {M : Nat} {s₀ s : State} {a0 a1 a2 a3} (m : Sub 0x108000000100206214 M) (h : Touch M s₀ s) :
    Touch M s₀ (note a0 a1 a2 a3 s) := by
  unfold note
  repeat' with_reducible first
    | assumption | refine raise_touch (m.trans rfl) ?_ | refine mark_touch (m.trans rfl) ?_
    | refine noteLater_touch (m.trans rfl) ?_ | refine Touch.ite_else ?_ (fun _ => ?_) | split

theorem noteRecord_touch {M : Nat} {s₀ s : State} {a0 a1 a2 a3} (m : Sub 0x108000000100206214 M) (h : Touch M s₀ s) :
    Touch M s₀ (noteRecord a0 a1 a2 a3 s) := by
  unfold noteRecord
  repeat' with_reducible first
    | assumption | refine record_touch (m.trans rfl) ?_ | refine noteLater_touch (m.trans rfl) ?_
    | refine Touch.ite_else ?_ (fun _ => ?_) | split

theorem notesLogged_touch {M : Nat} {s₀ s : State} (m : Sub 0x108000000100206214 M) (h : Touch M s₀ s) :
    Touch M s₀ (notesLogged s) := by
  unfold notesLogged
  repeat' with_reducible first
    | assumption | refine emitLocal_touch (m.trans rfl) ?_ | refine State.withRst_touch (m.bit rfl) ?_
    | refine foldl_touch (fun _ _ _ => ?_) ?_ | unfold x
    | (extract_lets +onlyGivenNames x; first | (refine Touch.cut (s := x) ?_ (fun _ => ?_); rotate_left; clear_value x) | clear_value x)

theorem State.setXport_touch {M : Nat} {s₀ s : State} {a1 a2} (m : Sub 0x80000 M) (h : Touch M s₀ s) :
    Touch M s₀ (State.setXport s a1 a2) := by
  unfold State.setXport
  repeat' with_reducible first
    | assumption | refine State.withXp_touch (m.bit rfl) ?_

theorem portSend_touch {M : Nat} {s₀ s : State} {a0 a1} (m : Sub 0x7ffe0000000000c0010 M) (h : Touch M s₀ s) :
    Touch M s₀ (portSend a0 a1 s) := by
  unfold portSend
  repeat' with_reducible first
    | assumption | refine State.bumpWrap_touch ?_ | refine State.withOut_touch (m.bit rfl) ?_
    | refine put_page_touch (m.trans (by decide +kernel)) ?_ | refine put_ch_touch (m.trans (by decide +kernel)) ?_ | refine put_idx_touch (m.trans (by decide +kernel)) ?_ | refine put_host_touch (m.trans (by decide +kernel)) ?_ | refine put_pll_touch (m.trans (by decide +kernel)) ?_ | refine put_master_touch (m.trans (by decide +kernel)) ?_ | refine put_closed_touch (m.trans (by decide +kernel)) ?_ | refine State.put_touch (m.trans (by decide +kernel)) ?_ | refine put_any_touch (m.trans (by decide +kernel)) ?_
    | refine State.setXport_touch (m.trans rfl) ?_ | unfold x
    | (extract_lets +onlyGivenNames x; first | (refine Touch.cut (s := x) ?_ (fun _ => ?_); rotate_left; clear_value x) | clear_value x)

theorem portsSend_touch {M : Nat} {s₀ s : State} {a0 a1} (m : Sub 0x7ffe0000000000c0010 M) (h : Touch M s₀ s) :
    Touch M s₀ (portsSend a0 a1 s) := by
  unfold portsSend
  repeat' with_reducible first
    | assumption | refine portSend_touch (m.trans rfl) ?_ | refine foldl_touch (fun _ _ _ => ?_) ?_

theorem raiseLoad_touch {M : Nat} {s₀ s : State} {a0} (m : Sub 0x108000000100286210 M) (h : Touch M s₀ s) :
    Touch M s₀ (raiseLoad a0 s) := by
  unfold raiseLoad
  repeat' with_reducible first
    | assumption | refine raise_touch (m.trans rfl) ?_ | refine State.setXport_touch (m.trans rfl) ?_
    | refine Touch.ite_else ?_ (fun _ => ?_) | unfold x
    | (extract_lets +onlyGivenNames x; first | (refine Touch.cut (s := x) ?_ (fun _ => ?_); rotate_left; clear_value x) | clear_value x)
    | split

theorem sendStream_touch {M : Nat} {s₀ s : State} {a0} (m : Sub 0x7ffe0000000000c2010 M) (h : Touch M s₀ s) :
    Touch M s₀ (sendStream a0 s) := by
  unfold sendStream
  repeat' with_reducible first
    | assumption | refine portsSend_touch (m.trans rfl) ?_ | refine State.withOrd_touch (m.bit rfl) ?_ | unfold x
    | (extract_lets +onlyGivenNames x; first | (refine Touch.cut (s := x) ?_ (fun _ => ?_); rotate_left; clear_value x) | clear_value x)

theorem noteGap_touch {M : Nat} {s₀ s : State} {a0 a1 a2 a3 a4} (m : Sub 0x8000000000000010 M) (h : Touch M s₀ s) :
    Touch M s₀ (noteGap a0 a1 a2 a3 a4 s) := by
  unfold noteGap
  repeat' with_reducible first
    | assumption
    | refine put_page_touch (m.trans (by decide +kernel)) ?_ | refine put_ch_touch (m.trans (by decide +kernel)) ?_ | refine put_idx_touch (m.trans (by decide +kernel)) ?_ | refine put_host_touch (m.trans (by decide +kernel)) ?_ | refine put_pll_touch (m.trans (by decide +kernel)) ?_ | refine put_master_touch (m.trans (by decide +kernel)) ?_ | refine put_closed_touch (m.trans (by decide +kernel)) ?_ | refine State.put_touch (m.trans (by decide +kernel)) ?_ | refine put_any_touch (m.trans (by decide +kernel)) ?_

theorem sendOutGap_touch {M : Nat} {s₀ s : State} (m : Sub 0x7ffe0000001002c6210 M) (h : Touch M s₀ s) :
    Touch M s₀ (sendOutGap s) := by
  unfold sendOutGap
  repeat' with_reducible first
    | assumption | refine noteGap_touch (m.trans rfl) ?_ | refine stampLocal_touch (m.trans rfl) ?_
    | refine sendStream_touch (m.trans rfl) ?_ | refine State.withOrd_touch (m.bit rfl) ?_
    | refine State.bumpSat_touch ?_ | refine State.setRaw_touch (m.trans rfl) ?_
    | refine put_page_touch (m.trans (by decide +kernel)) ?_ | refine put_ch_touch (m.trans (by decide +kernel)) ?_ | refine put_idx_touch (m.trans (by decide +kernel)) ?_ | refine put_host_touch (m.trans (by decide +kernel)) ?_ | refine put_pll_touch (m.trans (by decide +kernel)) ?_ | refine put_master_touch (m.trans (by decide +kernel)) ?_ | refine put_closed_touch (m.trans (by decide +kernel)) ?_ | refine State.put_touch (m.trans (by decide +kernel)) ?_ | refine put_any_touch (m.trans (by decide +kernel)) ?_
    | unfold x
    | (extract_lets +onlyGivenNames x; first | (refine Touch.cut (s := x) ?_ (fun _ => ?_); rotate_left; clear_value x) | clear_value x)
    | split

theorem xpump_touch {M : Nat} {s₀ s : State} {n} (m : Sub 0x7ffe0000001002c6210 M) (h : Touch M s₀ s) : Touch M s₀ (xpump n s) := by
  induction n generalizing s with
  | zero => exact h
  | succ n ih =>
    unfold xpump
    split
    · exact h
    · dsimp only
      split
      · exact raiseLoad_touch (m.trans rfl) h
      · split
        · exact h
        · exact ih (sendStream_touch (m.trans rfl) (State.withOrd_touch (m.bit rfl) (sendOutGap_touch (m.trans rfl) h)))

theorem originate_touch {M : Nat} {s₀ s : State} {a0} (m : Sub 0x7ffe0000001002c6210 M) (h : Touch M s₀ s) :
    Touch M s₀ (originate a0 s) := by
  unfold originate
  repeat' with_reducible first
    | assumption | refine xpump_touch (m.trans rfl) ?_ | refine State.withOrd_touch (m.bit rfl) ?_
    | refine Touch.ite_else ?_ (fun _ => ?_) | unfold x
    | (extract_lets +onlyGivenNames x; first | (refine Touch.cut (s := x) ?_ (fun _ => ?_); rotate_left; clear_value x) | clear_value x)
    | split

theorem originateNew_touch {M : Nat} {s₀ s : State} {a0 a1 a2 a3} (m : Sub 0x7ffe0000001002c6210 M) (h : Touch M s₀ s) :
    Touch M s₀ (originateNew a0 a1 a2 a3 s) := by
  unfold originateNew
  repeat' with_reducible first
    | assumption | refine originate_touch (m.trans rfl) ?_ | refine holdEvt_touch (m.trans rfl) ?_
    | refine refreshCeil_touch (m.trans rfl) ?_ | refine State.withOrd_touch (m.bit rfl) ?_
    | refine Touch.ite_else ?_ (fun _ => ?_) | unfold x
    | (extract_lets +onlyGivenNames x; first | (refine Touch.cut (s := x) ?_ (fun _ => ?_); rotate_left; clear_value x) | clear_value x)
    | split

theorem stamp_touch {M : Nat} {s₀ s : State} {a0} (m : Sub 0x7ffe0000001002c6210 M) (h : Touch M s₀ s) :
    Touch M s₀ (stamp a0 s) := by
  unfold stamp
  repeat' with_reducible first
    | assumption | refine originate_touch (m.trans rfl) ?_ | refine stampLocal_touch (m.trans rfl) ?_
    | refine Touch.ite_else ?_ (fun _ => ?_) | unfold x
    | (extract_lets +onlyGivenNames x; first | (refine Touch.cut (s := x) ?_ (fun _ => ?_); rotate_left; clear_value x) | clear_value x)
    | split

theorem emit_touch {M : Nat} {s₀ s : State} {a0} (m : Sub 0x7ffe0000001002c6210 M) (h : Touch M s₀ s) :
    Touch M s₀ (emit a0 s) := by
  unfold emit
  repeat' with_reducible first
    | assumption | refine holdEvt_touch (m.trans rfl) ?_ | refine stamp_touch (m.trans rfl) ?_
    | refine Touch.ite_else ?_ (fun _ => ?_) | split

theorem accessFault_touch {M : Nat} {s₀ s : State} {a0 a1} (m : Sub 0x108000000300206210 M) (h : Touch M s₀ s) :
    Touch M s₀ (accessFault a0 a1 s) := by
  unfold accessFault
  repeat' with_reducible first
    | assumption | refine raise_touch (m.trans rfl) ?_
    | refine put_page_touch (m.trans (by decide +kernel)) ?_ | refine put_ch_touch (m.trans (by decide +kernel)) ?_ | refine put_idx_touch (m.trans (by decide +kernel)) ?_ | refine put_host_touch (m.trans (by decide +kernel)) ?_ | refine put_pll_touch (m.trans (by decide +kernel)) ?_ | refine put_master_touch (m.trans (by decide +kernel)) ?_ | refine put_closed_touch (m.trans (by decide +kernel)) ?_ | refine State.put_touch (m.trans (by decide +kernel)) ?_ | refine put_any_touch (m.trans (by decide +kernel)) ?_
    | refine Touch.ite_else ?_ (fun _ => ?_) | split

theorem State.setLasting_touch {M : Nat} {s₀ s : State} {a1 a2} (m : Sub 0x100 M) (h : Touch M s₀ s) :
    Touch M s₀ (State.setLasting s a1 a2) := by
  unfold State.setLasting
  repeat' with_reducible first
    | assumption | refine State.withLasting_touch (m.bit rfl) ?_

theorem transient_touch {M : Nat} {s₀ s : State} {a0} (m : Sub 0x400000010 M) (h : Touch M s₀ s) :
    Touch M s₀ (transient a0 s) := by
  unfold transient
  repeat' with_reducible first
    | assumption | refine State.bumpSat_touch ?_
    | refine put_page_touch (m.trans (by decide +kernel)) ?_ | refine put_ch_touch (m.trans (by decide +kernel)) ?_ | refine put_idx_touch (m.trans (by decide +kernel)) ?_ | refine put_host_touch (m.trans (by decide +kernel)) ?_ | refine put_pll_touch (m.trans (by decide +kernel)) ?_ | refine put_master_touch (m.trans (by decide +kernel)) ?_ | refine put_closed_touch (m.trans (by decide +kernel)) ?_ | refine State.put_touch (m.trans (by decide +kernel)) ?_ | refine put_any_touch (m.trans (by decide +kernel)) ?_

theorem lastingFault_touch {M : Nat} {s₀ s : State} {a0} (m : Sub 0x400000010 M) (h : Touch M s₀ s) :
    Touch M s₀ (lastingFault a0 s) := by
  unfold lastingFault
  repeat' with_reducible first
    | assumption | refine State.bumpSat_touch ?_
    | refine put_page_touch (m.trans (by decide +kernel)) ?_ | refine put_ch_touch (m.trans (by decide +kernel)) ?_ | refine put_idx_touch (m.trans (by decide +kernel)) ?_ | refine put_host_touch (m.trans (by decide +kernel)) ?_ | refine put_pll_touch (m.trans (by decide +kernel)) ?_ | refine put_master_touch (m.trans (by decide +kernel)) ?_ | refine put_closed_touch (m.trans (by decide +kernel)) ?_ | refine State.put_touch (m.trans (by decide +kernel)) ?_ | refine put_any_touch (m.trans (by decide +kernel)) ?_

theorem mramWritten_touch {M : Nat} {s₀ s : State} {a0} (m : Sub 0x400000010 M) (h : Touch M s₀ s) :
    Touch M s₀ (mramWritten a0 s) := by
  unfold mramWritten
  repeat' with_reducible first
    | assumption | refine lastingFault_touch (m.trans rfl) ?_ | refine transient_touch (m.trans rfl) ?_ | split

theorem State.setBaseWord_touch {M : Nat} {s₀ s : State} {a1 a2} (m : Sub 0x7ffffffffff00010010 M) (h : Touch M s₀ s) :
    Touch M s₀ (State.setBaseWord s a1 a2) := by
  unfold State.setBaseWord
  repeat' with_reducible first
    | assumption | refine State.setWinWord_touch (m.trans rfl) ?_
    | refine setReg_fld_touch (m.trans (by decide +kernel)) ?_ | refine State.setReg_touch (m.trans (by decide +kernel)) ?_ | refine setReg_any_touch (m.trans (by decide +kernel)) ?_
    | refine Touch.ite_else ?_ (fun _ => ?_) | split

theorem State.stage_touch {M : Nat} {s₀ s : State} {a1 a2 a3 a4} (m : Sub 0x80 M) (h : Touch M s₀ s) :
    Touch M s₀ (State.stage s a1 a2 a3 a4) := by
  unfold State.stage
  repeat' with_reducible first
    | assumption | refine State.withStaged_touch (m.bit rfl) ?_ | unfold x
    | (extract_lets +onlyGivenNames x; first | (refine Touch.cut (s := x) ?_ (fun _ => ?_); rotate_left; clear_value x) | clear_value x)

theorem State.dropStaged_touch {M : Nat} {s₀ s : State} {a1} (m : Sub 0x80 M) (h : Touch M s₀ s) :
    Touch M s₀ (State.dropStaged s a1) := by
  unfold State.dropStaged
  repeat' with_reducible first
    | assumption | refine State.withStaged_touch (m.bit rfl) ?_

theorem State.dropStageMode_touch {M : Nat} {s₀ s : State} {a1} (m : Sub 0x80 M) (h : Touch M s₀ s) :
    Touch M s₀ (State.dropStageMode s a1) := by
  unfold State.dropStageMode
  repeat' with_reducible first
    | assumption | refine State.withStaged_touch (m.bit rfl) ?_ | refine Touch.ite_else ?_ (fun _ => ?_) | unfold x
    | (extract_lets +onlyGivenNames x; first | (refine Touch.cut (s := x) ?_ (fun _ => ?_); rotate_left; clear_value x) | clear_value x)
    | split

theorem State.takeStaged_touch {M : Nat} {s₀ s : State} {f1} (m : Sub 0x7ffffffffff00010090 M) (h : Touch M s₀ s) :
    Touch M s₀ (State.takeStaged s f1) := by
  unfold State.takeStaged
  repeat' with_reducible first
    | assumption | refine State.setBaseWord_touch (m.trans rfl) ?_ | refine State.withStaged_touch (m.bit rfl) ?_
    | refine foldl_touch (fun _ _ _ => ?_) ?_ | unfold x
    | (extract_lets +onlyGivenNames x; first | (refine Touch.cut (s := x) ?_ (fun _ => ?_); rotate_left; clear_value x) | clear_value x)

theorem State.applyStaged_touch {M : Nat} {s₀ s : State} {a1} (m : Sub 0x7ffffffffff00010090 M) (h : Touch M s₀ s) :
    Touch M s₀ (State.applyStaged s a1) := by
  unfold State.applyStaged
  repeat' with_reducible first
    | assumption | refine State.takeStaged_touch (m.trans rfl) ?_

end Sys2Proof.Machine
end

