-- ==== Sys2Proof/Laws/TouchEngine.lean ====
section
/-!
SUPPORT. What the definitions of Machine/Engine.lean touch.
-/

set_option Elab.async false
set_option linter.all false

namespace Sys2Proof.Machine

theorem State.setPt_touch {M : Nat} {s₀ s : State} {a1 a2} (m : Sub 0x8000 M) (h : Touch M s₀ s) :
    Touch M s₀ (State.setPt s a1 a2) := by
  unfold State.setPt
  repeat' with_reducible first
    | assumption | refine State.withEng_touch (m.bit rfl) ?_ | unfold x
    | (extract_lets +onlyGivenNames x; first | (refine Touch.cut (s := x) ?_ (fun _ => ?_); rotate_left; clear_value x) | clear_value x)

theorem State.trigger_touch {M : Nat} {s₀ s : State} {a1} (m : Sub 0x8000 M) (h : Touch M s₀ s) :
    Touch M s₀ (State.trigger s a1) := by
  unfold State.trigger
  repeat' with_reducible first
    | assumption | refine State.withEng_touch (m.bit rfl) ?_ | refine Touch.ite_else ?_ (fun _ => ?_) | unfold x
    | (extract_lets +onlyGivenNames x; first | (refine Touch.cut (s := x) ?_ (fun _ => ?_); rotate_left; clear_value x) | clear_value x)
    | split

theorem State.setFirst_touch {M : Nat} {s₀ s : State} {a1 a2} (m : Sub 0x8000 M) (h : Touch M s₀ s) :
    Touch M s₀ (State.setFirst s a1 a2) := by
  unfold State.setFirst
  repeat' with_reducible first
    | assumption | refine State.withEng_touch (m.bit rfl) ?_ | unfold x
    | (extract_lets +onlyGivenNames x; first | (refine Touch.cut (s := x) ?_ (fun _ => ?_); rotate_left; clear_value x) | clear_value x)
    | split

theorem groupEvent_touch {M : Nat} {s₀ s : State} {a0 a1} (m : Sub 0x7ffe0000001002c6210 M) (h : Touch M s₀ s) :
    Touch M s₀ (groupEvent a0 a1 s) := by
  unfold groupEvent
  repeat' with_reducible first
    | assumption | refine mark_touch (m.trans rfl) ?_ | refine emit_touch (m.trans rfl) ?_ | unfold x
    | (extract_lets +onlyGivenNames x; first | (refine Touch.cut (s := x) ?_ (fun _ => ?_); rotate_left; clear_value x) | clear_value x)

theorem groupAfter_touch {M : Nat} {s₀ s : State} {a0 a1 a2} (m : Sub 0x7ffe0000001002ce210 M) (h : Touch M s₀ s) :
    Touch M s₀ (groupAfter a0 a1 a2 s) := by
  unfold groupAfter
  repeat' with_reducible first
    | assumption | refine State.setFirst_touch (m.trans rfl) ?_ | refine groupEvent_touch (m.trans rfl) ?_
    | refine Touch.ite_else ?_ (fun _ => ?_) | unfold x
    | (extract_lets +onlyGivenNames x; first | (refine Touch.cut (s := x) ?_ (fun _ => ?_); rotate_left; clear_value x) | clear_value x)
    | refine Touch.snd ?_ (by assumption) | split

theorem sendValue_touch {M : Nat} {s₀ s : State} {a0 a1 a2 a3 a4} (m : Sub 0x7ffe0000001002c6210 M) (h : Touch M s₀ s) :
    Touch M s₀ (sendValue a0 a1 a2 a3 a4 s) := by
  unfold sendValue
  repeat' with_reducible first
    | assumption | refine originateNew_touch (m.trans rfl) ?_

theorem valueFrame_touch {M : Nat} {s₀ s : State} {a0 a1 a2} (m : Sub 0x7ffe0000001002ce210 M) (h : Touch M s₀ s) :
    Touch M s₀ (valueFrame a0 a1 a2 s) := by
  unfold valueFrame
  repeat' with_reducible first
    | assumption | refine sendValue_touch (m.trans rfl) ?_ | refine State.setPt_touch (m.trans rfl) ?_ | unfold x
    | (extract_lets +onlyGivenNames x; first | (refine Touch.cut (s := x) ?_ (fun _ => ?_); rotate_left; clear_value x) | clear_value x)

theorem withdrawFrame_touch {M : Nat} {s₀ s : State} {a0 a1} (m : Sub 0x7ffe0000001002c6210 M) (h : Touch M s₀ s) :
    Touch M s₀ (withdrawFrame a0 a1 s) := by
  unfold withdrawFrame
  repeat' with_reducible first
    | assumption | refine sendValue_touch (m.trans rfl) ?_ | refine Touch.ite_else ?_ (fun _ => ?_) | split

theorem publishCheck_touch {M : Nat} {s₀ s : State} {a0 a1 a2 a3} (m : Sub 0x7ffe0000001002ce210 M) (h : Touch M s₀ s) :
    Touch M s₀ (publishCheck a0 a1 a2 a3 s) := by
  unfold publishCheck
  repeat' with_reducible first
    | assumption | refine withdrawFrame_touch (m.trans rfl) ?_ | refine valueFrame_touch (m.trans rfl) ?_
    | refine State.setPt_touch (m.trans rfl) ?_ | refine Touch.ite_else ?_ (fun _ => ?_) | unfold x
    | (extract_lets +onlyGivenNames x; first | (refine Touch.cut (s := x) ?_ (fun _ => ?_); rotate_left; clear_value x) | clear_value x)
    | split

theorem notify_touch {M : Nat} {s₀ s : State} {a0 a1 a2} (m : Sub 0x8000 M) (h : Touch M s₀ s) :
    Touch M s₀ (notify a0 a1 a2 s) := by
  unfold notify
  repeat' with_reducible first
    | assumption | refine State.trigger_touch (m.trans rfl) ?_ | refine foldl_touch (fun _ _ _ => ?_) ?_

theorem egressEmit_touch {M : Nat} {s₀ s : State} {a0 a1} (m : Sub 0x7ffe0000001002ce210 M) (h : Touch M s₀ s) :
    Touch M s₀ (egressEmit a0 a1 s) := by
  unfold egressEmit
  repeat' with_reducible first
    | assumption | refine emit_touch (m.trans rfl) ?_ | refine State.withEng_touch (m.bit rfl) ?_
    | refine Touch.ite_else ?_ (fun _ => ?_) | unfold x
    | (extract_lets +onlyGivenNames x; first | (refine Touch.cut (s := x) ?_ (fun _ => ?_); rotate_left; clear_value x) | clear_value x)
    | split

theorem commitPt_touch {M : Nat} {s₀ s : State} {a0 a1 a2 a3 a4 a5} (m : Sub 0x7ffe0000001002ce210 M) (h : Touch M s₀ s) :
    Touch M s₀ (commitPt a0 a1 a2 a3 a4 a5 s) := by
  unfold commitPt
  repeat' with_reducible first
    | assumption | refine notify_touch (m.trans rfl) ?_ | refine mark_touch (m.trans rfl) ?_
    | refine publishCheck_touch (m.trans rfl) ?_ | refine groupAfter_touch (m.trans rfl) ?_
    | refine egressEmit_touch (m.trans rfl) ?_ | refine State.setPt_touch (m.trans rfl) ?_
    | refine foldl_touch (fun _ _ _ => ?_) ?_ | refine Touch.ite_else ?_ (fun _ => ?_) | unfold x
    | (extract_lets +onlyGivenNames x; first | (refine Touch.cut (s := x) ?_ (fun _ => ?_); rotate_left; clear_value x) | clear_value x)
    | split

theorem countEval_touch {M : Nat} {s₀ s : State} (m : Sub 0x4000000008010 M) (h : Touch M s₀ s) :
    Touch M s₀ (countEval s) := by
  unfold countEval
  repeat' with_reducible first
    | assumption | refine State.bumpWrap_touch ?_ | refine State.withEng_touch (m.bit rfl) ?_
    | refine put_page_touch (m.trans (by decide +kernel)) ?_ | refine put_ch_touch (m.trans (by decide +kernel)) ?_ | refine put_idx_touch (m.trans (by decide +kernel)) ?_ | refine put_host_touch (m.trans (by decide +kernel)) ?_ | refine put_pll_touch (m.trans (by decide +kernel)) ?_ | refine put_master_touch (m.trans (by decide +kernel)) ?_ | refine put_closed_touch (m.trans (by decide +kernel)) ?_ | refine State.put_touch (m.trans (by decide +kernel)) ?_ | refine put_any_touch (m.trans (by decide +kernel)) ?_
    | unfold x
    | (extract_lets +onlyGivenNames x; first | (refine Touch.cut (s := x) ?_ (fun _ => ?_); rotate_left; clear_value x) | clear_value x)

theorem deliver_touch {M : Nat} {s₀ s : State} {a0 a1 a2 a3 a4} (m : Sub 0x7ffe0040001002ce210 M) (h : Touch M s₀ s) :
    Touch M s₀ (deliver a0 a1 a2 a3 a4 s) := by
  unfold deliver
  repeat' with_reducible first
    | assumption | refine commitPt_touch (m.trans rfl) ?_ | refine notify_touch (m.trans rfl) ?_
    | refine publishCheck_touch (m.trans rfl) ?_ | refine countEval_touch (m.trans rfl) ?_
    | refine State.setPt_touch (m.trans rfl) ?_ | refine Touch.ite_else ?_ (fun _ => ?_) | unfold x
    | (extract_lets +onlyGivenNames x; first | (refine Touch.cut (s := x) ?_ (fun _ => ?_); rotate_left; clear_value x) | clear_value x)
    | refine Touch.snd ?_ (by assumption) | split

theorem gateOnly_touch {M : Nat} {s₀ s : State} {a0 a1 a2} (m : Sub 0x7ffe0040001002ce210 M) (h : Touch M s₀ s) :
    Touch M s₀ (gateOnly a0 a1 a2 s) := by
  unfold gateOnly
  repeat' with_reducible first
    | assumption | refine commitPt_touch (m.trans rfl) ?_ | refine countEval_touch (m.trans rfl) ?_
    | refine Touch.ite_else ?_ (fun _ => ?_) | split

theorem evalDerived_touch {M : Nat} {s₀ s : State} {a0 a1} (m : Sub 0x7ffe0040001002ce210 M) (h : Touch M s₀ s) :
    Touch M s₀ (evalDerived a0 a1 s) := by
  unfold evalDerived
  repeat' with_reducible first
    | assumption | refine deliver_touch (m.trans rfl) ?_ | refine gateOnly_touch (m.trans rfl) ?_
    | refine State.setPt_touch (m.trans rfl) ?_ | refine Touch.ite_else ?_ (fun _ => ?_) | unfold x
    | (extract_lets +onlyGivenNames x; first | (refine Touch.cut (s := x) ?_ (fun _ => ?_); rotate_left; clear_value x) | clear_value x)
    | refine Touch.snd ?_ (by assumption) | split

theorem evalGate_touch {M : Nat} {s₀ s : State} {a0} (m : Sub 0x7ffe0040001002ce210 M) (h : Touch M s₀ s) :
    Touch M s₀ (evalGate a0 s) := by
  unfold evalGate
  repeat' with_reducible first
    | assumption | refine gateOnly_touch (m.trans rfl) ?_ | refine Touch.ite_else ?_ (fun _ => ?_) | unfold x
    | (extract_lets +onlyGivenNames x; first | (refine Touch.cut (s := x) ?_ (fun _ => ?_); rotate_left; clear_value x) | clear_value x)
    | split

theorem evalForce_touch {M : Nat} {s₀ s : State} {a0} (m : Sub 0x7ffe0040001002ce210 M) (h : Touch M s₀ s) :
    Touch M s₀ (evalForce a0 s) := by
  unfold evalForce
  repeat' with_reducible first
    | assumption | refine commitPt_touch (m.trans rfl) ?_ | refine countEval_touch (m.trans rfl) ?_
    | refine Touch.ite_else ?_ (fun _ => ?_) | unfold x
    | (extract_lets +onlyGivenNames x; first | (refine Touch.cut (s := x) ?_ (fun _ => ?_); rotate_left; clear_value x) | clear_value x)
    | split

theorem State.setSlot_touch {M : Nat} {s₀ s : State} {a1 a2} (m : Sub 0x8000 M) (h : Touch M s₀ s) :
    Touch M s₀ (State.setSlot s a1 a2) := by
  unfold State.setSlot
  repeat' with_reducible first
    | assumption | refine State.withEng_touch (m.bit rfl) ?_ | unfold x
    | (extract_lets +onlyGivenNames x; first | (refine Touch.cut (s := x) ?_ (fun _ => ?_); rotate_left; clear_value x) | clear_value x)

theorem rebuildPt_touch {M : Nat} {s₀ s : State} {a0} (m : Sub 0x8000 M) (h : Touch M s₀ s) :
    Touch M s₀ (rebuildPt a0 s) := by
  unfold rebuildPt
  repeat' with_reducible first
    | assumption | refine State.withEng_touch (m.bit rfl) ?_ | refine State.setPt_touch (m.trans rfl) ?_
    | refine Touch.ite_else ?_ (fun _ => ?_) | unfold x
    | (extract_lets +onlyGivenNames x; first | (refine Touch.cut (s := x) ?_ (fun _ => ?_); rotate_left; clear_value x) | clear_value x)
    | split

theorem writeSlot_touch {M : Nat} {s₀ s : State} {a0 a1} (m : Sub 0x8008 M) (h : Touch M s₀ s) :
    Touch M s₀ (writeSlot a0 a1 s) := by
  unfold writeSlot
  repeat' with_reducible first
    | assumption | refine State.withPwr_touch (m.bit rfl) ?_ | refine State.setSlot_touch (m.trans rfl) ?_
    | refine Touch.ite_else ?_ (fun _ => ?_) | unfold x
    | (extract_lets +onlyGivenNames x; first | (refine Touch.cut (s := x) ?_ (fun _ => ?_); rotate_left; clear_value x) | clear_value x)
    | split

theorem firstLost_touch {M : Nat} {s₀ s : State} {a0} (m : Sub 0x7ffe0000001002ce210 M) (h : Touch M s₀ s) :
    Touch M s₀ (firstLost a0 s) := by
  unfold firstLost
  repeat' with_reducible first
    | assumption | refine State.setFirst_touch (m.trans rfl) ?_ | refine groupEvent_touch (m.trans rfl) ?_
    | refine Touch.ite_else ?_ (fun _ => ?_) | split

theorem checkFirst_touch {M : Nat} {s₀ s : State} {a0} (m : Sub 0x7ffe0000001002ce210 M) (h : Touch M s₀ s) :
    Touch M s₀ (checkFirst a0 s) := by
  unfold checkFirst
  repeat' with_reducible first
    | assumption | refine firstLost_touch (m.trans rfl) ?_ | refine Touch.ite_else ?_ (fun _ => ?_) | split

theorem recountGroups_touch {M : Nat} {s₀ s : State} {a0} (m : Sub 0x7ffe0000001002ce210 M) (h : Touch M s₀ s) :
    Touch M s₀ (recountGroups a0 s) := by
  unfold recountGroups
  repeat' with_reducible first
    | assumption | refine checkFirst_touch (m.trans rfl) ?_ | refine groupAfter_touch (m.trans rfl) ?_
    | refine foldl_touch (fun _ _ _ => ?_) ?_

theorem egressGap_touch {M : Nat} {s₀ s : State} {a0} (m : Sub 0x7ffe0000001002ce210 M) (h : Touch M s₀ s) :
    Touch M s₀ (egressGap a0 s) := by
  unfold egressGap
  repeat' with_reducible first
    | assumption | refine noteGap_touch (m.trans rfl) ?_ | refine emit_touch (m.trans rfl) ?_
    | refine State.bumpSat_touch ?_ | refine State.withEng_touch (m.bit rfl) ?_
    | refine State.setRaw_touch (m.trans rfl) ?_
    | refine put_page_touch (m.trans (by decide +kernel)) ?_ | refine put_ch_touch (m.trans (by decide +kernel)) ?_ | refine put_idx_touch (m.trans (by decide +kernel)) ?_ | refine put_host_touch (m.trans (by decide +kernel)) ?_ | refine put_pll_touch (m.trans (by decide +kernel)) ?_ | refine put_master_touch (m.trans (by decide +kernel)) ?_ | refine put_closed_touch (m.trans (by decide +kernel)) ?_ | refine State.put_touch (m.trans (by decide +kernel)) ?_ | refine put_any_touch (m.trans (by decide +kernel)) ?_
    | unfold x
    | (extract_lets +onlyGivenNames x; first | (refine Touch.cut (s := x) ?_ (fun _ => ?_); rotate_left; clear_value x) | clear_value x)
    | split

theorem rebuildAll_touch {M : Nat} {s₀ s : State} (m : Sub 0x7ffe0000001002ce210 M) (h : Touch M s₀ s) :
    Touch M s₀ (rebuildAll s) := by
  unfold rebuildAll
  repeat' with_reducible first
    | assumption | refine rebuildPt_touch (m.trans rfl) ?_ | refine egressGap_touch (m.trans rfl) ?_
    | refine State.withEng_touch (m.bit rfl) ?_ | refine foldl_touch (fun _ _ _ => ?_) ?_ | unfold x
    | (extract_lets +onlyGivenNames x; first | (refine Touch.cut (s := x) ?_ (fun _ => ?_); rotate_left; clear_value x) | clear_value x)

theorem rebuildReset_touch {M : Nat} {s₀ s : State} (m : Sub 0x7ffe0000001002ce210 M) (h : Touch M s₀ s) :
    Touch M s₀ (rebuildReset s) := by
  unfold rebuildReset
  repeat' with_reducible first
    | assumption | refine rebuildAll_touch (m.trans rfl) ?_ | refine groupEvent_touch (m.trans rfl) ?_
    | refine foldl_touch (fun _ _ _ => ?_) ?_ | refine Touch.ite_else ?_ (fun _ => ?_) | split

theorem notifyRebuilt_touch {M : Nat} {s₀ s : State} {a0} (m : Sub 0x8000 M) (h : Touch M s₀ s) :
    Touch M s₀ (notifyRebuilt a0 s) := by
  unfold notifyRebuilt
  repeat' with_reducible first
    | assumption | refine notify_touch (m.trans rfl) ?_ | refine foldl_touch (fun _ _ _ => ?_) ?_
    | refine Touch.ite_else ?_ (fun _ => ?_) | split

theorem publishRebuilt_touch {M : Nat} {s₀ s : State} {a0 a1} (m : Sub 0x7ffe0000001002ce210 M) (h : Touch M s₀ s) :
    Touch M s₀ (publishRebuilt a0 a1 s) := by
  unfold publishRebuilt
  repeat' with_reducible first
    | assumption | refine withdrawFrame_touch (m.trans rfl) ?_ | refine valueFrame_touch (m.trans rfl) ?_ | split

theorem renewPt_touch {M : Nat} {s₀ s : State} {a0} (m : Sub 0x7ffe0000001002ce210 M) (h : Touch M s₀ s) :
    Touch M s₀ (renewPt a0 s) := by
  unfold renewPt
  repeat' with_reducible first
    | assumption | refine publishRebuilt_touch (m.trans rfl) ?_ | refine rebuildPt_touch (m.trans rfl) ?_
    | refine egressGap_touch (m.trans rfl) ?_

theorem rebuildSome_touch {M : Nat} {s₀ s : State} {a0} (m : Sub 0x7ffe0000001002ce210 M) (h : Touch M s₀ s) :
    Touch M s₀ (rebuildSome a0 s) := by
  unfold rebuildSome
  repeat' with_reducible first
    | assumption | refine renewPt_touch (m.trans rfl) ?_ | refine notifyRebuilt_touch (m.trans rfl) ?_
    | refine recountGroups_touch (m.trans rfl) ?_ | refine foldl_touch (fun _ _ _ => ?_) ?_ | unfold x
    | (extract_lets +onlyGivenNames x; first | (refine Touch.cut (s := x) ?_ (fun _ => ?_); rotate_left; clear_value x) | clear_value x)

theorem mirrorSlots_touch {M : Nat} {s₀ s : State} (m : Sub 0x8000 M) (h : Touch M s₀ s) :
    Touch M s₀ (mirrorSlots s) := by
  unfold mirrorSlots
  repeat' with_reducible first
    | assumption | refine State.setSlot_touch (m.trans rfl) ?_ | refine foldl_touch (fun _ _ _ => ?_) ?_
    | refine Touch.ite_else ?_ (fun _ => ?_) | split

theorem forceAll_touch {M : Nat} {s₀ s : State} {a0} (m : Sub 0x8000 M) (h : Touch M s₀ s) :
    Touch M s₀ (forceAll a0 s) := by
  unfold forceAll
  repeat' with_reducible first
    | assumption | refine State.trigger_touch (m.trans rfl) ?_ | refine foldl_touch (fun _ _ _ => ?_) ?_

theorem expireStale_touch {M : Nat} {s₀ s : State} {a0} (m : Sub 0x7ffe0040001002ce210 M) (h : Touch M s₀ s) :
    Touch M s₀ (expireStale a0 s) := by
  unfold expireStale
  repeat' with_reducible first
    | assumption | refine commitPt_touch (m.trans rfl) ?_ | refine countEval_touch (m.trans rfl) ?_
    | refine Touch.ite_else ?_ (fun _ => ?_) | unfold x
    | (extract_lets +onlyGivenNames x; first | (refine Touch.cut (s := x) ?_ (fun _ => ?_); rotate_left; clear_value x) | clear_value x)
    | split

theorem expireDly_touch {M : Nat} {s₀ s : State} {a0} (m : Sub 0x7ffe0040001002ce210 M) (h : Touch M s₀ s) :
    Touch M s₀ (expireDly a0 s) := by
  unfold expireDly
  repeat' with_reducible first
    | assumption | refine commitPt_touch (m.trans rfl) ?_ | refine countEval_touch (m.trans rfl) ?_
    | refine Touch.ite_else ?_ (fun _ => ?_) | unfold x
    | (extract_lets +onlyGivenNames x; first | (refine Touch.cut (s := x) ?_ (fun _ => ?_); rotate_left; clear_value x) | clear_value x)
    | split

theorem expireRunup_touch {M : Nat} {s₀ s : State} {a0} (m : Sub 0x7ffe0040001002ce210 M) (h : Touch M s₀ s) :
    Touch M s₀ (expireRunup a0 s) := by
  unfold expireRunup
  repeat' with_reducible first
    | assumption | refine commitPt_touch (m.trans rfl) ?_ | refine countEval_touch (m.trans rfl) ?_
    | refine Touch.ite_else ?_ (fun _ => ?_) | unfold x
    | (extract_lets +onlyGivenNames x; first | (refine Touch.cut (s := x) ?_ (fun _ => ?_); rotate_left; clear_value x) | clear_value x)
    | split

theorem expireShelve_touch {M : Nat} {s₀ s : State} {a0} (m : Sub 0x7ffe0040001002ce210 M) (h : Touch M s₀ s) :
    Touch M s₀ (expireShelve a0 s) := by
  unfold expireShelve
  repeat' with_reducible first
    | assumption | refine commitPt_touch (m.trans rfl) ?_ | refine mark_touch (m.trans rfl) ?_
    | refine countEval_touch (m.trans rfl) ?_ | refine Touch.ite_else ?_ (fun _ => ?_) | unfold x
    | (extract_lets +onlyGivenNames x; first | (refine Touch.cut (s := x) ?_ (fun _ => ?_); rotate_left; clear_value x) | clear_value x)
    | split

theorem expireEsc_touch {M : Nat} {s₀ s : State} {a0} (m : Sub 0x7ffe0040001002ce210 M) (h : Touch M s₀ s) :
    Touch M s₀ (expireEsc a0 s) := by
  unfold expireEsc
  repeat' with_reducible first
    | assumption | refine commitPt_touch (m.trans rfl) ?_ | refine countEval_touch (m.trans rfl) ?_
    | refine Touch.ite_else ?_ (fun _ => ?_) | unfold x
    | (extract_lets +onlyGivenNames x; first | (refine Touch.cut (s := x) ?_ (fun _ => ?_); rotate_left; clear_value x) | clear_value x)
    | split

theorem expirePt_touch {M : Nat} {s₀ s : State} {a0} (m : Sub 0x7ffe0040001002ce210 M) (h : Touch M s₀ s) :
    Touch M s₀ (expirePt a0 s) := by
  unfold expirePt
  repeat' with_reducible first
    | assumption | refine expireShelve_touch (m.trans rfl) ?_ | refine expireStale_touch (m.trans rfl) ?_
    | refine expireEsc_touch (m.trans rfl) ?_ | refine expireRunup_touch (m.trans rfl) ?_
    | refine expireDly_touch (m.trans rfl) ?_

theorem logRefused_touch {M : Nat} {s₀ s : State} {a0 a1 a2 a3} (m : Sub 0x108000000100206210 M) (h : Touch M s₀ s) :
    Touch M s₀ (logRefused a0 a1 a2 a3 s) := by
  unfold logRefused
  repeat' with_reducible first
    | assumption | refine record_touch (m.trans rfl) ?_ | refine Touch.ite_else ?_ (fun _ => ?_) | split

theorem commandPt_touch {M : Nat} {s₀ s : State} {a0 f1 a2 a3} (m : Sub 0x7ffe0040001002ce210 M) (h : Touch M s₀ s) :
    Touch M s₀ (commandPt a0 f1 a2 a3 s) := by
  unfold commandPt
  repeat' with_reducible first
    | assumption | refine commitPt_touch (m.trans rfl) ?_ | refine countEval_touch (m.trans rfl) ?_ | split

theorem ackOne_touch {M : Nat} {s₀ s : State} {a0 a1 a2 a3} (m : Sub 0x7ffe0040001002ce210 M) (h : Touch M s₀ s) :
    Touch M s₀ (ackOne a0 a1 a2 a3 s).2 := by
  unfold ackOne
  repeat' with_reducible first
    | assumption | refine commandPt_touch (m.trans rfl) ?_ | refine logRefused_touch (m.trans rfl) ?_
    | refine Touch.ite_else ?_ (fun _ => ?_) | unfold x
    | (extract_lets +onlyGivenNames x; first | (refine Touch.cut (s := x) ?_ (fun _ => ?_); rotate_left; clear_value x) | clear_value x)
    | split

theorem silenceOne_touch {M : Nat} {s₀ s : State} {a0 a1 a2} (m : Sub 0x7ffe0040001002ce210 M) (h : Touch M s₀ s) :
    Touch M s₀ (silenceOne a0 a1 a2 s).2 := by
  unfold silenceOne
  repeat' with_reducible first
    | assumption | refine commandPt_touch (m.trans rfl) ?_ | refine logRefused_touch (m.trans rfl) ?_
    | refine Touch.ite_else ?_ (fun _ => ?_) | unfold x
    | (extract_lets +onlyGivenNames x; first | (refine Touch.cut (s := x) ?_ (fun _ => ?_); rotate_left; clear_value x) | clear_value x)
    | split

theorem ackScope_touch {M : Nat} {s₀ s : State} {a0 a1 a2 a3} (m : Sub 0x7ffe0040001002ce210 M) (h : Touch M s₀ s) :
    Touch M s₀ (ackScope a0 a1 a2 a3 s).2 := by
  unfold ackScope
  repeat' with_reducible first
    | assumption | refine commandPt_touch (m.trans rfl) ?_ | refine foldl_touch (fun _ _ _ => ?_) ?_ | unfold x
    | (extract_lets +onlyGivenNames x; first | (refine Touch.cut (s := x) ?_ (fun _ => ?_); rotate_left; clear_value x) | clear_value x)

theorem silenceScope_touch {M : Nat} {s₀ s : State} {a0 a1} (m : Sub 0x7ffe0040001002ce210 M) (h : Touch M s₀ s) :
    Touch M s₀ (silenceScope a0 a1 s).2 := by
  unfold silenceScope
  repeat' with_reducible first
    | assumption | refine commandPt_touch (m.trans rfl) ?_ | refine foldl_touch (fun _ _ _ => ?_) ?_ | unfold x
    | (extract_lets +onlyGivenNames x; first | (refine Touch.cut (s := x) ?_ (fun _ => ?_); rotate_left; clear_value x) | clear_value x)

theorem remoteOne_touch {M : Nat} {s₀ s : State} {a0 a1 a2 a3} (m : Sub 0x7ffe0040001002ce210 M) (h : Touch M s₀ s) :
    Touch M s₀ (remoteOne a0 a1 a2 a3 s) := by
  unfold remoteOne
  repeat' with_reducible first
    | assumption | refine ackOne_touch (m.trans rfl) ?_ | refine silenceOne_touch (m.trans rfl) ?_
    | refine Touch.ite_else ?_ (fun _ => ?_) | split

theorem evalTrig_touch {M : Nat} {s₀ s : State} {a0} (m : Sub 0x7ffe0040001002ce210 M) (h : Touch M s₀ s) :
    Touch M s₀ (evalTrig a0 s) := by
  unfold evalTrig
  repeat' with_reducible first
    | assumption | refine evalDerived_touch (m.trans rfl) ?_ | refine remoteOne_touch (m.trans rfl) ?_
    | refine deliver_touch (m.trans rfl) ?_ | refine evalGate_touch (m.trans rfl) ?_
    | refine evalForce_touch (m.trans rfl) ?_ | split

end Sys2Proof.Machine
end

