-- ==== Sys2Proof/Laws/TouchJudge.lean ====
section
/-!
SUPPORT. What the definitions of Machine/Judge.lean touch.
-/

set_option Elab.async false
set_option linter.all false

namespace Sys2Proof.Machine

theorem storeFields_touch {M : Nat} {s₀ s : State} {x a v w} (m : Sub (0xf0 ||| regMask a) M) (h : Touch M s₀ s) :
    Touch M s₀ (storeFields x a v w s) := by
  unfold storeFields
  refine foldl_touch (fun s f h => ?_) h
  dsimp only
  split
  · split
    · exact State.setRegH_touch (m.left.trans rfl) h
    · split
      · split
        · exact State.stage_touch (m.left.trans rfl) h
        · exact State.stage_touch (m.left.trans rfl) h
      · exact State.setReg_touch m.right h
  · exact h

theorem storeFields_any_touch {M : Nat} {s₀ s : State} {x a v w} (m : Sub (0xf0 ||| 0x7ffffffffff00000010) M) (h : Touch M s₀ s) :
    Touch M s₀ (storeFields x a v w s) := storeFields_touch (m.left.or (m.right.trans (regMask_all a))) h

theorem judged_touch {M : Nat} {s₀ s : State} {x a v} {f : Word → State → State} (m : Sub 0x108000000300206210 M) (hf : ∀ m s, Touch M s₀ s → Touch M s₀ (f m s))
    (h : Touch M s₀ s) : Touch M s₀ (judged x a v f s) := by
  unfold judged
  dsimp only
  repeat' with_reducible first
    | assumption
    | apply accessFault_touch (m.trans rfl)
    | apply hf
    | split

theorem plainWrite_touch {M : Nat} {s₀ s : State} {x a v} (m : Sub (0x1080000003002062f0 ||| regMask a) M) (h : Touch M s₀ s) :
    Touch M s₀ (plainWrite x a v s) :=
  judged_touch (m.left.trans rfl) (fun _ _ h => storeFields_touch ((m.left.trans rfl).or m.right) h) h

theorem hostWord_touch {M : Nat} {s₀ s : State} {x a v} {f : Word → State → State} (m : Sub (0x1080000003002062f0 ||| regMask a) M) (hf : ∀ m s, Touch M s₀ s → Touch M s₀ (f m s))
    (h : Touch M s₀ s) : Touch M s₀ (hostWord x a v f s) := by
  unfold hostWord
  split
  · exact judged_touch (m.left.trans rfl) (fun _ _ h => hf _ _ (storeFields_touch ((m.left.trans rfl).or m.right) h)) h
  · exact h

theorem hostWord_any_touch {M : Nat} {s₀ s : State} {x a v} {f : Word → State → State} (m : Sub (0x1080000003002062f0 ||| 0x7ffffffffff00000010) M) (hf : ∀ m s, Touch M s₀ s → Touch M s₀ (f m s))
    (h : Touch M s₀ s) : Touch M s₀ (hostWord x a v f s) := hostWord_touch (m.left.or (m.right.trans (regMask_all a))) hf h

end Sys2Proof.Machine
end

