-- ==== Sys2Proof/Laws/TouchAnalog.lean ====
section
/-!
SUPPORT. What the definitions of Machine/Analog.lean touch.
-/

set_option Elab.async false
set_option linter.all false

namespace Sys2Proof.Machine

theorem State.setGrp_touch {M : Nat} {s₀ s : State} {a1 a2} (m : Sub 0x400000 M) (h : Touch M s₀ s) :
    Touch M s₀ (State.setGrp s a1 a2) := by
  unfold State.setGrp
  repeat' with_reducible first
    | assumption | refine State.withAfe_touch (m.bit rfl) ?_ | unfold x
    | (extract_lets +onlyGivenNames x; first | (refine Touch.cut (s := x) ?_ (fun _ => ?_); rotate_left; clear_value x) | clear_value x)

theorem State.setChan_touch {M : Nat} {s₀ s : State} {a1 a2} (m : Sub 0x400000 M) (h : Touch M s₀ s) :
    Touch M s₀ (State.setChan s a1 a2) := by
  unfold State.setChan
  repeat' with_reducible first
    | assumption | refine State.withAfe_touch (m.bit rfl) ?_ | unfold x
    | (extract_lets +onlyGivenNames x; first | (refine Touch.cut (s := x) ?_ (fun _ => ?_); rotate_left; clear_value x) | clear_value x)

theorem afePllStop_touch {M : Nat} {s₀ s : State} (m : Sub 0x2000000010 M) (h : Touch M s₀ s) :
    Touch M s₀ (afePllStop s) := by
  unfold afePllStop
  repeat' with_reducible first
    | assumption
    | refine put_page_touch (m.trans (by decide +kernel)) ?_ | refine put_ch_touch (m.trans (by decide +kernel)) ?_ | refine put_idx_touch (m.trans (by decide +kernel)) ?_ | refine put_host_touch (m.trans (by decide +kernel)) ?_ | refine put_pll_touch (m.trans (by decide +kernel)) ?_ | refine put_master_touch (m.trans (by decide +kernel)) ?_ | refine put_closed_touch (m.trans (by decide +kernel)) ?_ | refine State.put_touch (m.trans (by decide +kernel)) ?_ | refine put_any_touch (m.trans (by decide +kernel)) ?_
    | refine Touch.ite_else ?_ (fun _ => ?_) | split

theorem hfxoStart_touch {M : Nat} {s₀ s : State} (m : Sub 0x2000000010 M) (h : Touch M s₀ s) :
    Touch M s₀ (hfxoStart s) := by
  unfold hfxoStart
  repeat' with_reducible first
    | assumption
    | refine put_page_touch (m.trans (by decide +kernel)) ?_ | refine put_ch_touch (m.trans (by decide +kernel)) ?_ | refine put_idx_touch (m.trans (by decide +kernel)) ?_ | refine put_host_touch (m.trans (by decide +kernel)) ?_ | refine put_pll_touch (m.trans (by decide +kernel)) ?_ | refine put_master_touch (m.trans (by decide +kernel)) ?_ | refine put_closed_touch (m.trans (by decide +kernel)) ?_ | refine State.put_touch (m.trans (by decide +kernel)) ?_ | refine put_any_touch (m.trans (by decide +kernel)) ?_
    | refine Touch.ite_else ?_ (fun _ => ?_) | split

theorem convWake_touch {M : Nat} {s₀ s : State} (m : Sub 0x3000000010 M) (h : Touch M s₀ s) :
    Touch M s₀ (convWake s) := by
  unfold convWake
  repeat' with_reducible first
    | assumption
    | refine put_page_touch (m.trans (by decide +kernel)) ?_ | refine put_ch_touch (m.trans (by decide +kernel)) ?_ | refine put_idx_touch (m.trans (by decide +kernel)) ?_ | refine put_host_touch (m.trans (by decide +kernel)) ?_ | refine put_pll_touch (m.trans (by decide +kernel)) ?_ | refine put_master_touch (m.trans (by decide +kernel)) ?_ | refine put_closed_touch (m.trans (by decide +kernel)) ?_ | refine State.put_touch (m.trans (by decide +kernel)) ?_ | refine put_any_touch (m.trans (by decide +kernel)) ?_
    | refine hfxoStart_touch (m.trans rfl) ?_ | refine Touch.ite_else ?_ (fun _ => ?_) | split

theorem sendChannel_touch {M : Nat} {s₀ s : State} {a0 a1 a2 a3 a4} (m : Sub 0x8000 M) (h : Touch M s₀ s) :
    Touch M s₀ (sendChannel a0 a1 a2 a3 a4 s) := by
  unfold sendChannel
  repeat' with_reducible first
    | assumption | refine State.trigger_touch (m.trans rfl) ?_ | refine foldl_touch (fun _ _ _ => ?_) ?_
    | refine Touch.ite_else ?_ (fun _ => ?_) | unfold x
    | (extract_lets +onlyGivenNames x; first | (refine Touch.cut (s := x) ?_ (fun _ => ?_); rotate_left; clear_value x) | clear_value x)
    | split

theorem dropBand_touch {M : Nat} {s₀ s : State} {a0 a1} (m : Sub 0x7ffffffc00700400010 M) (h : Touch M s₀ s) :
    Touch M s₀ (dropBand a0 a1 s) := by
  unfold dropBand
  repeat' with_reducible first
    | assumption
    | refine put_page_touch (m.trans (by decide +kernel)) ?_ | refine put_ch_touch (m.trans (by decide +kernel)) ?_ | refine put_idx_touch (m.trans (by decide +kernel)) ?_ | refine put_host_touch (m.trans (by decide +kernel)) ?_ | refine put_pll_touch (m.trans (by decide +kernel)) ?_ | refine put_master_touch (m.trans (by decide +kernel)) ?_ | refine put_closed_touch (m.trans (by decide +kernel)) ?_ | refine State.put_touch (m.trans (by decide +kernel)) ?_ | refine put_any_touch (m.trans (by decide +kernel)) ?_
    | refine State.setChan_touch (m.trans rfl) ?_ | unfold x
    | (extract_lets +onlyGivenNames x; first | (refine Touch.cut (s := x) ?_ (fun _ => ?_); rotate_left; clear_value x) | clear_value x)

theorem staleSend_touch {M : Nat} {s₀ s : State} {a0} (m : Sub 0x7ffffffc00700408010 M) (h : Touch M s₀ s) :
    Touch M s₀ (staleSend a0 s) := by
  unfold staleSend
  repeat' with_reducible first
    | assumption | refine sendChannel_touch (m.trans rfl) ?_ | refine dropBand_touch (m.trans rfl) ?_
    | refine State.setChan_touch (m.trans rfl) ?_ | refine Touch.ite_else ?_ (fun _ => ?_) | unfold x
    | (extract_lets +onlyGivenNames x; first | (refine Touch.cut (s := x) ?_ (fun _ => ?_); rotate_left; clear_value x) | clear_value x)
    | split

theorem staleChan_touch {M : Nat} {s₀ s : State} {a0} (m : Sub 0x7fffffff00700408010 M) (h : Touch M s₀ s) :
    Touch M s₀ (staleChan a0 s) := by
  unfold staleChan
  repeat' with_reducible first
    | assumption
    | refine put_page_touch (m.trans (by decide +kernel)) ?_ | refine put_ch_touch (m.trans (by decide +kernel)) ?_ | refine put_idx_touch (m.trans (by decide +kernel)) ?_ | refine put_host_touch (m.trans (by decide +kernel)) ?_ | refine put_pll_touch (m.trans (by decide +kernel)) ?_ | refine put_master_touch (m.trans (by decide +kernel)) ?_ | refine put_closed_touch (m.trans (by decide +kernel)) ?_ | refine State.put_touch (m.trans (by decide +kernel)) ?_ | refine put_any_touch (m.trans (by decide +kernel)) ?_
    | refine State.setChan_touch (m.trans rfl) ?_ | refine staleSend_touch (m.trans rfl) ?_
    | refine Touch.ite_else ?_ (fun _ => ?_) | unfold x
    | (extract_lets +onlyGivenNames x; first | (refine Touch.cut (s := x) ?_ (fun _ => ?_); rotate_left; clear_value x) | clear_value x)
    | split

theorem staleChans_touch {M : Nat} {s₀ s : State} {a0} (m : Sub 0x7fffffff00700408010 M) (h : Touch M s₀ s) :
    Touch M s₀ (staleChans a0 s) := by
  unfold staleChans
  repeat' with_reducible first
    | assumption | refine staleChan_touch (m.trans rfl) ?_ | refine foldl_touch (fun _ _ _ => ?_) ?_

theorem staleSweep_touch {M : Nat} {s₀ s : State} (m : Sub 0x7fffffff00700408010 M) (h : Touch M s₀ s) :
    Touch M s₀ (staleSweep s) := by
  unfold staleSweep
  repeat' with_reducible first
    | assumption | refine staleChans_touch (m.trans rfl) ?_ | refine foldl_touch (fun _ _ _ => ?_) ?_
    | refine Touch.ite_else ?_ (fun _ => ?_) | split

theorem setExc_touch {M : Nat} {s₀ s : State} {a0 a1} (m : Sub 0x200000000010 M) (h : Touch M s₀ s) :
    Touch M s₀ (setExc a0 a1 s) := by
  unfold setExc
  repeat' with_reducible first
    | assumption
    | refine put_page_touch (m.trans (by decide +kernel)) ?_ | refine put_ch_touch (m.trans (by decide +kernel)) ?_ | refine put_idx_touch (m.trans (by decide +kernel)) ?_ | refine put_host_touch (m.trans (by decide +kernel)) ?_ | refine put_pll_touch (m.trans (by decide +kernel)) ?_ | refine put_master_touch (m.trans (by decide +kernel)) ?_ | refine put_closed_touch (m.trans (by decide +kernel)) ?_ | refine State.put_touch (m.trans (by decide +kernel)) ?_ | refine put_any_touch (m.trans (by decide +kernel)) ?_
    | refine Touch.ite_else ?_ (fun _ => ?_) | unfold x
    | (extract_lets +onlyGivenNames x; first | (refine Touch.cut (s := x) ?_ (fun _ => ?_); rotate_left; clear_value x) | clear_value x)
    | split

theorem logOverrun_touch {M : Nat} {s₀ s : State} {a0} (m : Sub 0x108000000100206210 M) (h : Touch M s₀ s) :
    Touch M s₀ (logOverrun a0 s) := by
  unfold logOverrun
  repeat' with_reducible first
    | assumption | refine record_touch (m.trans rfl) ?_ | refine Touch.ite_else ?_ (fun _ => ?_) | split

theorem periodTaken_touch {M : Nat} {s₀ s : State} (m : Sub 0x400000 M) (h : Touch M s₀ s) :
    Touch M s₀ (periodTaken s) := by
  unfold periodTaken
  repeat' with_reducible first
    | assumption | refine State.withAfe_touch (m.bit rfl) ?_ | unfold x
    | (extract_lets +onlyGivenNames x; first | (refine Touch.cut (s := x) ?_ (fun _ => ?_); rotate_left; clear_value x) | clear_value x)

theorem abandonSlots_touch {M : Nat} {s₀ s : State} (m : Sub 0x7fffffff02100606210 M) (h : Touch M s₀ s) :
    Touch M s₀ (abandonSlots s) := by
  unfold abandonSlots
  repeat' with_reducible first
    | assumption | refine State.withAfe_touch (m.bit rfl) ?_ | refine State.setGrp_touch (m.trans rfl) ?_
    | refine put_page_touch (m.trans (by decide +kernel)) ?_ | refine put_ch_touch (m.trans (by decide +kernel)) ?_ | refine put_idx_touch (m.trans (by decide +kernel)) ?_ | refine put_host_touch (m.trans (by decide +kernel)) ?_ | refine put_pll_touch (m.trans (by decide +kernel)) ?_ | refine put_master_touch (m.trans (by decide +kernel)) ?_ | refine put_closed_touch (m.trans (by decide +kernel)) ?_ | refine State.put_touch (m.trans (by decide +kernel)) ?_ | refine put_any_touch (m.trans (by decide +kernel)) ?_
    | refine logOverrun_touch (m.trans rfl) ?_ | refine periodTaken_touch (m.trans rfl) ?_
    | refine foldl_touch (fun _ _ _ => ?_) ?_ | refine Touch.ite_else ?_ (fun _ => ?_) | unfold x
    | (extract_lets +onlyGivenNames x; first | (refine Touch.cut (s := x) ?_ (fun _ => ?_); rotate_left; clear_value x) | clear_value x)
    | split

theorem staleAll_touch {M : Nat} {s₀ s : State} (m : Sub 0x7fffffff00700408010 M) (h : Touch M s₀ s) :
    Touch M s₀ (staleAll s) := by
  unfold staleAll
  repeat' with_reducible first
    | assumption | refine staleChans_touch (m.trans rfl) ?_

theorem endBurst_touch {M : Nat} {s₀ s : State} (m : Sub 0x108000002100606210 M) (h : Touch M s₀ s) :
    Touch M s₀ (endBurst s) := by
  unfold endBurst
  repeat' with_reducible first
    | assumption | refine State.withAfe_touch (m.bit rfl) ?_ | refine logOverrun_touch (m.trans rfl) ?_
    | refine periodTaken_touch (m.trans rfl) ?_ | refine afePllStop_touch (m.trans rfl) ?_
    | refine Touch.ite_else ?_ (fun _ => ?_) | unfold x
    | (extract_lets +onlyGivenNames x; first | (refine Touch.cut (s := x) ?_ (fun _ => ?_); rotate_left; clear_value x) | clear_value x)
    | split

theorem scanWritten_touch {M : Nat} {s₀ s : State} {a0 a1} (m : Sub 0x7fffffff0370060e210 M) (h : Touch M s₀ s) :
    Touch M s₀ (scanWritten a0 a1 s) := by
  unfold scanWritten
  repeat' with_reducible first
    | assumption | refine State.withAfe_touch (m.bit rfl) ?_ | refine staleSweep_touch (m.trans rfl) ?_
    | refine endBurst_touch (m.trans rfl) ?_ | refine State.setGrp_touch (m.trans rfl) ?_
    | refine convWake_touch (m.trans rfl) ?_ | refine periodTaken_touch (m.trans rfl) ?_
    | refine foldl_touch (fun _ _ _ => ?_) ?_ | refine Touch.ite_else ?_ (fun _ => ?_) | unfold x
    | (extract_lets +onlyGivenNames x; first | (refine Touch.cut (s := x) ?_ (fun _ => ?_); rotate_left; clear_value x) | clear_value x)
    | split

theorem atBoundary_touch {M : Nat} {s₀ s : State} (m : Sub 0x400000 M) (h : Touch M s₀ s) :
    Touch M s₀ (atBoundary s) := by
  unfold atBoundary
  repeat' with_reducible first
    | assumption | refine State.withAfe_touch (m.bit rfl) ?_ | unfold x
    | (extract_lets +onlyGivenNames x; first | (refine Touch.cut (s := x) ?_ (fun _ => ?_); rotate_left; clear_value x) | clear_value x)

theorem burstStart_touch {M : Nat} {s₀ s : State} (m : Sub 0x108000002100606210 M) (h : Touch M s₀ s) :
    Touch M s₀ (burstStart s) := by
  unfold burstStart
  repeat' with_reducible first
    | assumption | refine State.withAfe_touch (m.bit rfl) ?_ | refine endBurst_touch (m.trans rfl) ?_
    | refine State.setGrp_touch (m.trans rfl) ?_ | refine mark_touch (m.trans rfl) ?_
    | refine atBoundary_touch (m.trans rfl) ?_ | refine foldl_touch (fun _ _ _ => ?_) ?_
    | refine Touch.ite_else ?_ (fun _ => ?_) | unfold x
    | (extract_lets +onlyGivenNames x; first | (refine Touch.cut (s := x) ?_ (fun _ => ?_); rotate_left; clear_value x) | clear_value x)
    | split

theorem commitTaken_touch {M : Nat} {s₀ s : State} {a0} (m : Sub 0x7ffffffffff00010090 M) (h : Touch M s₀ s) :
    Touch M s₀ (commitTaken a0 s) := by
  unfold commitTaken
  repeat' with_reducible first
    | assumption | refine State.applyStaged_touch (m.trans rfl) ?_ | refine State.putFlag_touch ?_
    | refine put_page_touch (m.trans (by decide +kernel)) ?_ | refine put_ch_touch (m.trans (by decide +kernel)) ?_ | refine put_idx_touch (m.trans (by decide +kernel)) ?_ | refine put_host_touch (m.trans (by decide +kernel)) ?_ | refine put_pll_touch (m.trans (by decide +kernel)) ?_ | refine put_master_touch (m.trans (by decide +kernel)) ?_ | refine put_closed_touch (m.trans (by decide +kernel)) ?_ | refine State.put_touch (m.trans (by decide +kernel)) ?_ | refine put_any_touch (m.trans (by decide +kernel)) ?_

theorem commitRefused_touch {M : Nat} {s₀ s : State} {a0 a1} (m : Sub 0x108000000700206210 M) (h : Touch M s₀ s) :
    Touch M s₀ (commitRefused a0 a1 s) := by
  unfold commitRefused
  repeat' with_reducible first
    | assumption | refine State.putFlag_touch ?_ | refine accessFault_touch (m.trans rfl) ?_
    | refine put_page_touch (m.trans (by decide +kernel)) ?_ | refine put_ch_touch (m.trans (by decide +kernel)) ?_ | refine put_idx_touch (m.trans (by decide +kernel)) ?_ | refine put_host_touch (m.trans (by decide +kernel)) ?_ | refine put_pll_touch (m.trans (by decide +kernel)) ?_ | refine put_master_touch (m.trans (by decide +kernel)) ?_ | refine put_closed_touch (m.trans (by decide +kernel)) ?_ | refine State.put_touch (m.trans (by decide +kernel)) ?_ | refine put_any_touch (m.trans (by decide +kernel)) ?_

theorem moveRange_touch {M : Nat} {s₀ s : State} {a0 a1} (m : Sub 0x7fffffff00700400010 M) (h : Touch M s₀ s) :
    Touch M s₀ (moveRange a0 a1 s) := by
  unfold moveRange
  repeat' with_reducible first
    | assumption
    | refine put_page_touch (m.trans (by decide +kernel)) ?_ | refine put_ch_touch (m.trans (by decide +kernel)) ?_ | refine put_idx_touch (m.trans (by decide +kernel)) ?_ | refine put_host_touch (m.trans (by decide +kernel)) ?_ | refine put_pll_touch (m.trans (by decide +kernel)) ?_ | refine put_master_touch (m.trans (by decide +kernel)) ?_ | refine put_closed_touch (m.trans (by decide +kernel)) ?_ | refine State.put_touch (m.trans (by decide +kernel)) ?_ | refine put_any_touch (m.trans (by decide +kernel)) ?_
    | refine State.setChan_touch (m.trans rfl) ?_ | refine Touch.ite_else ?_ (fun _ => ?_) | unfold x
    | (extract_lets +onlyGivenNames x; first | (refine Touch.cut (s := x) ?_ (fun _ => ?_); rotate_left; clear_value x) | clear_value x)
    | split

theorem chanTaken_touch {M : Nat} {s₀ s : State} {a0 a1} (m : Sub 0x7fffffff00700408010 M) (h : Touch M s₀ s) :
    Touch M s₀ (chanTaken a0 a1 s) := by
  unfold chanTaken
  repeat' with_reducible first
    | assumption | refine moveRange_touch (m.trans rfl) ?_ | refine staleChan_touch (m.trans rfl) ?_
    | refine State.setChan_touch (m.trans rfl) ?_ | refine Touch.ite_else ?_ (fun _ => ?_) | unfold x
    | (extract_lets +onlyGivenNames x; first | (refine Touch.cut (s := x) ?_ (fun _ => ?_); rotate_left; clear_value x) | clear_value x)
    | split

theorem fastTaken_touch {M : Nat} {s₀ s : State} {a0} (m : Sub 0x7fffffff0370060e210 M) (h : Touch M s₀ s) :
    Touch M s₀ (fastTaken a0 s) := by
  unfold fastTaken
  repeat' with_reducible first
    | assumption | refine staleChans_touch (m.trans rfl) ?_ | refine endBurst_touch (m.trans rfl) ?_
    | refine State.setGrp_touch (m.trans rfl) ?_
    | refine put_page_touch (m.trans (by decide +kernel)) ?_ | refine put_ch_touch (m.trans (by decide +kernel)) ?_ | refine put_idx_touch (m.trans (by decide +kernel)) ?_ | refine put_host_touch (m.trans (by decide +kernel)) ?_ | refine put_pll_touch (m.trans (by decide +kernel)) ?_ | refine put_master_touch (m.trans (by decide +kernel)) ?_ | refine put_closed_touch (m.trans (by decide +kernel)) ?_ | refine State.put_touch (m.trans (by decide +kernel)) ?_ | refine put_any_touch (m.trans (by decide +kernel)) ?_
    | refine convWake_touch (m.trans rfl) ?_ | refine State.setChan_touch (m.trans rfl) ?_
    | refine setExc_touch (m.trans rfl) ?_ | refine Touch.ite_else ?_ (fun _ => ?_) | unfold x
    | (extract_lets +onlyGivenNames x; first | (refine Touch.cut (s := x) ?_ (fun _ => ?_); rotate_left; clear_value x) | clear_value x)
    | split

theorem passFollow_touch {M : Nat} {s₀ s : State} {a0} (m : Sub 0x108000002100606210 M) (h : Touch M s₀ s) :
    Touch M s₀ (passFollow a0 s) := by
  unfold passFollow
  repeat' with_reducible first
    | assumption | refine endBurst_touch (m.trans rfl) ?_ | refine State.setGrp_touch (m.trans rfl) ?_ | unfold x
    | (extract_lets +onlyGivenNames x; first | (refine Touch.cut (s := x) ?_ (fun _ => ?_); rotate_left; clear_value x) | clear_value x)

theorem afgCommit_touch {M : Nat} {s₀ s : State} {a0} (m : Sub 0x7ffffffffff0061e290 M) (h : Touch M s₀ s) :
    Touch M s₀ (afgCommit a0 s) := by
  unfold afgCommit
  repeat' with_reducible first
    | assumption | refine passFollow_touch (m.trans rfl) ?_ | refine chanTaken_touch (m.trans rfl) ?_
    | refine commitRefused_touch (m.trans rfl) ?_ | refine fastTaken_touch (m.trans rfl) ?_
    | refine commitTaken_touch (m.trans rfl) ?_ | refine foldl_touch (fun _ _ _ => ?_) ?_
    | refine Touch.ite_else ?_ (fun _ => ?_) | unfold x
    | (extract_lets +onlyGivenNames x; first | (refine Touch.cut (s := x) ?_ (fun _ => ?_); rotate_left; clear_value x) | clear_value x)
    | split

theorem restartFast_touch {M : Nat} {s₀ s : State} {a0} (m : Sub 0x7fffffff00700408010 M) (h : Touch M s₀ s) :
    Touch M s₀ (restartFast a0 s) := by
  unfold restartFast
  repeat' with_reducible first
    | assumption | refine State.setGrp_touch (m.trans rfl) ?_ | refine staleChan_touch (m.trans rfl) ?_
    | refine State.setChan_touch (m.trans rfl) ?_ | refine setExc_touch (m.trans rfl) ?_
    | refine Touch.ite_else ?_ (fun _ => ?_) | unfold x
    | (extract_lets +onlyGivenNames x; first | (refine Touch.cut (s := x) ?_ (fun _ => ?_); rotate_left; clear_value x) | clear_value x)
    | split

theorem afgQuiet_touch {M : Nat} {s₀ s : State} {a0} (m : Sub 0x7ffffffffff0061e290 M) (h : Touch M s₀ s) :
    Touch M s₀ (afgQuiet a0 s) := by
  unfold afgQuiet
  repeat' with_reducible first
    | assumption | refine restartFast_touch (m.trans rfl) ?_ | refine afgCommit_touch (m.trans rfl) ?_
    | refine Touch.ite_else ?_ (fun _ => ?_) | unfold x
    | (extract_lets +onlyGivenNames x; first | (refine Touch.cut (s := x) ?_ (fun _ => ?_); rotate_left; clear_value x) | clear_value x)
    | split

theorem narrowNow_touch {M : Nat} {s₀ s : State} {a0} (m : Sub 0x7fffffff00700400010 M) (h : Touch M s₀ s) :
    Touch M s₀ (narrowNow a0 s) := by
  unfold narrowNow
  repeat' with_reducible first
    | assumption | refine moveRange_touch (m.trans rfl) ?_ | refine State.setChan_touch (m.trans rfl) ?_
    | refine Touch.ite_else ?_ (fun _ => ?_) | unfold x
    | (extract_lets +onlyGivenNames x; first | (refine Touch.cut (s := x) ?_ (fun _ => ?_); rotate_left; clear_value x) | clear_value x)
    | split

theorem countNarrow_touch {M : Nat} {s₀ s : State} {a0 a1 a2} (m : Sub 0x400000 M) (h : Touch M s₀ s) :
    Touch M s₀ (countNarrow a0 a1 a2 s) := by
  unfold countNarrow
  repeat' with_reducible first
    | assumption | refine State.setChan_touch (m.trans rfl) ?_ | refine Touch.ite_else ?_ (fun _ => ?_) | unfold x
    | (extract_lets +onlyGivenNames x; first | (refine Touch.cut (s := x) ?_ (fun _ => ?_); rotate_left; clear_value x) | clear_value x)
    | split

theorem putStat_touch {M : Nat} {s₀ s : State} {a0 a1 a2 a3 a4} (m : Sub 0x7ffffffffff00000010 M) (h : Touch M s₀ s) :
    Touch M s₀ (putStat a0 a1 a2 a3 a4 s) := by
  unfold putStat
  repeat' with_reducible first
    | assumption
    | refine put_page_touch (m.trans (by decide +kernel)) ?_ | refine put_ch_touch (m.trans (by decide +kernel)) ?_ | refine put_idx_touch (m.trans (by decide +kernel)) ?_ | refine put_host_touch (m.trans (by decide +kernel)) ?_ | refine put_pll_touch (m.trans (by decide +kernel)) ?_ | refine put_master_touch (m.trans (by decide +kernel)) ?_ | refine put_closed_touch (m.trans (by decide +kernel)) ?_ | refine State.put_touch (m.trans (by decide +kernel)) ?_ | refine put_any_touch (m.trans (by decide +kernel)) ?_
    | refine State.putFlag_touch ?_ | refine Touch.ite_else ?_ (fun _ => ?_) | unfold x
    | (extract_lets +onlyGivenNames x; first | (refine Touch.cut (s := x) ?_ (fun _ => ?_); rotate_left; clear_value x) | clear_value x)
    | split

theorem episodeStep_touch {M : Nat} {s₀ s : State} {a0 a1} (m : Sub 0x7fffffff00700606210 M) (h : Touch M s₀ s) :
    Touch M s₀ (episodeStep a0 a1 s) := by
  unfold episodeStep
  repeat' with_reducible first
    | assumption | refine raise_touch (m.trans rfl) ?_ | refine State.bumpSat_touch ?_
    | refine State.setChan_touch (m.trans rfl) ?_
    | refine put_page_touch (m.trans (by decide +kernel)) ?_ | refine put_ch_touch (m.trans (by decide +kernel)) ?_ | refine put_idx_touch (m.trans (by decide +kernel)) ?_ | refine put_host_touch (m.trans (by decide +kernel)) ?_ | refine put_pll_touch (m.trans (by decide +kernel)) ?_ | refine put_master_touch (m.trans (by decide +kernel)) ?_ | refine put_closed_touch (m.trans (by decide +kernel)) ?_ | refine State.put_touch (m.trans (by decide +kernel)) ?_ | refine put_any_touch (m.trans (by decide +kernel)) ?_
    | refine Touch.ite_else ?_ (fun _ => ?_) | unfold x
    | (extract_lets +onlyGivenNames x; first | (refine Touch.cut (s := x) ?_ (fun _ => ?_); rotate_left; clear_value x) | clear_value x)
    | split

theorem completeResult_touch {M : Nat} {s₀ s : State} {a0 a1} (m : Sub 0x7ffffffffff00606210 M) (h : Touch M s₀ s) :
    Touch M s₀ (completeResult a0 a1 s) := by
  unfold completeResult
  repeat' with_reducible first
    | assumption | refine State.bumpWrap_touch ?_ | refine episodeStep_touch (m.trans rfl) ?_
    | refine State.setGrp_touch (m.trans rfl) ?_
    | refine put_page_touch (m.trans (by decide +kernel)) ?_ | refine put_ch_touch (m.trans (by decide +kernel)) ?_ | refine put_idx_touch (m.trans (by decide +kernel)) ?_ | refine put_host_touch (m.trans (by decide +kernel)) ?_ | refine put_pll_touch (m.trans (by decide +kernel)) ?_ | refine put_master_touch (m.trans (by decide +kernel)) ?_ | refine put_closed_touch (m.trans (by decide +kernel)) ?_ | refine State.put_touch (m.trans (by decide +kernel)) ?_ | refine put_any_touch (m.trans (by decide +kernel)) ?_
    | refine putStat_touch (m.trans rfl) ?_ | refine State.setChan_touch (m.trans rfl) ?_ | unfold x
    | (extract_lets +onlyGivenNames x; first | (refine Touch.cut (s := x) ?_ (fun _ => ?_); rotate_left; clear_value x) | clear_value x)

theorem readbackLost_touch {M : Nat} {s₀ s : State} {a0} (m : Sub 0x7fffffff0070060e310 M) (h : Touch M s₀ s) :
    Touch M s₀ (readbackLost a0 s) := by
  unfold readbackLost
  repeat' with_reducible first
    | assumption | refine lastingFault_touch (m.trans rfl) ?_ | refine staleChans_touch (m.trans rfl) ?_
    | refine raise_touch (m.trans rfl) ?_ | refine State.setGrp_touch (m.trans rfl) ?_
    | refine put_page_touch (m.trans (by decide +kernel)) ?_ | refine put_ch_touch (m.trans (by decide +kernel)) ?_ | refine put_idx_touch (m.trans (by decide +kernel)) ?_ | refine put_host_touch (m.trans (by decide +kernel)) ?_ | refine put_pll_touch (m.trans (by decide +kernel)) ?_ | refine put_master_touch (m.trans (by decide +kernel)) ?_ | refine put_closed_touch (m.trans (by decide +kernel)) ?_ | refine State.put_touch (m.trans (by decide +kernel)) ?_ | refine put_any_touch (m.trans (by decide +kernel)) ?_
    | refine State.setLasting_touch (m.trans rfl) ?_ | unfold x
    | (extract_lets +onlyGivenNames x; first | (refine Touch.cut (s := x) ?_ (fun _ => ?_); rotate_left; clear_value x) | clear_value x)

theorem readbackTrips_touch {M : Nat} {s₀ s : State} {a0 a1} (m : Sub 0x400000010 M) (h : Touch M s₀ s) :
    Touch M s₀ (readbackTrips a0 a1 s) := by
  unfold readbackTrips
  repeat' with_reducible first
    | assumption | refine State.bumpSat_touch ?_
    | refine put_page_touch (m.trans (by decide +kernel)) ?_ | refine put_ch_touch (m.trans (by decide +kernel)) ?_ | refine put_idx_touch (m.trans (by decide +kernel)) ?_ | refine put_host_touch (m.trans (by decide +kernel)) ?_ | refine put_pll_touch (m.trans (by decide +kernel)) ?_ | refine put_master_touch (m.trans (by decide +kernel)) ?_ | refine put_closed_touch (m.trans (by decide +kernel)) ?_ | refine State.put_touch (m.trans (by decide +kernel)) ?_ | refine put_any_touch (m.trans (by decide +kernel)) ?_
    | refine Touch.ite_else ?_ (fun _ => ?_) | split

theorem readbackOk_touch {M : Nat} {s₀ s : State} {a0} (m : Sub 0x7fffffff00000000110 M) (h : Touch M s₀ s) :
    Touch M s₀ (readbackOk a0 s) := by
  unfold readbackOk
  repeat' with_reducible first
    | assumption
    | refine put_page_touch (m.trans (by decide +kernel)) ?_ | refine put_ch_touch (m.trans (by decide +kernel)) ?_ | refine put_idx_touch (m.trans (by decide +kernel)) ?_ | refine put_host_touch (m.trans (by decide +kernel)) ?_ | refine put_pll_touch (m.trans (by decide +kernel)) ?_ | refine put_master_touch (m.trans (by decide +kernel)) ?_ | refine put_closed_touch (m.trans (by decide +kernel)) ?_ | refine State.put_touch (m.trans (by decide +kernel)) ?_ | refine put_any_touch (m.trans (by decide +kernel)) ?_
    | refine State.setLasting_touch (m.trans rfl) ?_ | refine Touch.ite_else ?_ (fun _ => ?_) | unfold x
    | (extract_lets +onlyGivenNames x; first | (refine Touch.cut (s := x) ?_ (fun _ => ?_); rotate_left; clear_value x) | clear_value x)
    | split

theorem newSlot_touch {M : Nat} {s₀ s : State} {a0 a1 a2} (m : Sub 0x7fffffff00000400010 M) (h : Touch M s₀ s) :
    Touch M s₀ (newSlot a0 a1 a2 s) := by
  unfold newSlot
  repeat' with_reducible first
    | assumption | refine State.setGrp_touch (m.trans rfl) ?_
    | refine put_page_touch (m.trans (by decide +kernel)) ?_ | refine put_ch_touch (m.trans (by decide +kernel)) ?_ | refine put_idx_touch (m.trans (by decide +kernel)) ?_ | refine put_host_touch (m.trans (by decide +kernel)) ?_ | refine put_pll_touch (m.trans (by decide +kernel)) ?_ | refine put_master_touch (m.trans (by decide +kernel)) ?_ | refine put_closed_touch (m.trans (by decide +kernel)) ?_ | refine State.put_touch (m.trans (by decide +kernel)) ?_ | refine put_any_touch (m.trans (by decide +kernel)) ?_
    | refine Touch.ite_else ?_ (fun _ => ?_) | unfold x
    | (extract_lets +onlyGivenNames x; first | (refine Touch.cut (s := x) ?_ (fun _ => ?_); rotate_left; clear_value x) | clear_value x)
    | split

theorem excitationOn_touch {M : Nat} {s₀ s : State} {a0} (m : Sub 0x200000400010 M) (h : Touch M s₀ s) :
    Touch M s₀ (excitationOn a0 s) := by
  unfold excitationOn
  repeat' with_reducible first
    | assumption | refine State.setGrp_touch (m.trans rfl) ?_ | refine setExc_touch (m.trans rfl) ?_
    | refine Touch.ite_else ?_ (fun _ => ?_) | unfold x
    | (extract_lets +onlyGivenNames x; first | (refine Touch.cut (s := x) ?_ (fun _ => ?_); rotate_left; clear_value x) | clear_value x)
    | split

theorem checkEnd_touch {M : Nat} {s₀ s : State} {a0 a1} (m : Sub 0x400000 M) (h : Touch M s₀ s) :
    Touch M s₀ (checkEnd a0 a1 s) := by
  unfold checkEnd
  repeat' with_reducible first
    | assumption | refine State.setGrp_touch (m.trans rfl) ?_ | refine Touch.ite_else ?_ (fun _ => ?_) | unfold x
    | (extract_lets +onlyGivenNames x; first | (refine Touch.cut (s := x) ?_ (fun _ => ?_); rotate_left; clear_value x) | clear_value x)
    | split

theorem conversionStart_touch {M : Nat} {s₀ s : State} {a0} (m : Sub 0x400000 M) (h : Touch M s₀ s) :
    Touch M s₀ (conversionStart a0 s) := by
  unfold conversionStart
  repeat' with_reducible first
    | assumption | refine State.setGrp_touch (m.trans rfl) ?_ | refine Touch.ite_else ?_ (fun _ => ?_) | unfold x
    | (extract_lets +onlyGivenNames x; first | (refine Touch.cut (s := x) ?_ (fun _ => ?_); rotate_left; clear_value x) | clear_value x)
    | split

theorem putMon_touch {M : Nat} {s₀ s : State} {a0 a1} (m : Sub 0x7fffffff00700000010 M) (h : Touch M s₀ s) :
    Touch M s₀ (putMon a0 a1 s) := by
  unfold putMon
  repeat' with_reducible first
    | assumption
    | refine put_page_touch (m.trans (by decide +kernel)) ?_ | refine put_ch_touch (m.trans (by decide +kernel)) ?_ | refine put_idx_touch (m.trans (by decide +kernel)) ?_ | refine put_host_touch (m.trans (by decide +kernel)) ?_ | refine put_pll_touch (m.trans (by decide +kernel)) ?_ | refine put_master_touch (m.trans (by decide +kernel)) ?_ | refine put_closed_touch (m.trans (by decide +kernel)) ?_ | refine State.put_touch (m.trans (by decide +kernel)) ?_ | refine put_any_touch (m.trans (by decide +kernel)) ?_
    | refine Touch.ite_else ?_ (fun _ => ?_) | unfold x
    | (extract_lets +onlyGivenNames x; first | (refine Touch.cut (s := x) ?_ (fun _ => ?_); rotate_left; clear_value x) | clear_value x)
    | split

theorem monitorMeasure_touch {M : Nat} {s₀ s : State} {a0 a1} (m : Sub 0x7fffffff00700400010 M) (h : Touch M s₀ s) :
    Touch M s₀ (monitorMeasure a0 a1 s) := by
  unfold monitorMeasure
  repeat' with_reducible first
    | assumption | refine State.setGrp_touch (m.trans rfl) ?_ | refine putMon_touch (m.trans rfl) ?_
    | refine Touch.ite_else ?_ (fun _ => ?_) | unfold x
    | (extract_lets +onlyGivenNames x; first | (refine Touch.cut (s := x) ?_ (fun _ => ?_); rotate_left; clear_value x) | clear_value x)
    | split

theorem meanCode_touch {M : Nat} {s₀ s : State} {a0 a1} (m : Sub 0x1 M) (h : Touch M s₀ s) :
    Touch M s₀ (meanCode a0 a1 s).2 := by
  unfold meanCode
  repeat' with_reducible first
    | assumption | refine State.draw_touch (m.trans rfl) ?_ | refine Touch.ite_else ?_ (fun _ => ?_) | unfold x
    | (extract_lets +onlyGivenNames x; first | (refine Touch.cut (s := x) ?_ (fun _ => ?_); rotate_left; clear_value x) | clear_value x)
    | refine Touch.snd ?_ (by assumption) | split

theorem finishSlot_touch {M : Nat} {s₀ s : State} {a0 a1 a2 a3 a4} (m : Sub 0x7ffffffffff00606210 M) (h : Touch M s₀ s) :
    Touch M s₀ (finishSlot a0 a1 a2 a3 a4 s) := by
  unfold finishSlot
  repeat' with_reducible first
    | assumption | refine State.setGrp_touch (m.trans rfl) ?_ | refine completeResult_touch (m.trans rfl) ?_
    | refine State.setChan_touch (m.trans rfl) ?_ | unfold x
    | (extract_lets +onlyGivenNames x; first | (refine Touch.cut (s := x) ?_ (fun _ => ?_); rotate_left; clear_value x) | clear_value x)

theorem phaseComplete_touch {M : Nat} {s₀ s : State} {a0 a1} (m : Sub 0x7ffffffffff0060e311 M) (h : Touch M s₀ s) :
    Touch M s₀ (phaseComplete a0 a1 s) := by
  unfold phaseComplete
  repeat' with_reducible first
    | assumption | refine readbackLost_touch (m.trans rfl) ?_ | refine finishSlot_touch (m.trans rfl) ?_
    | refine State.setGrp_touch (m.trans rfl) ?_ | refine readbackTrips_touch (m.trans rfl) ?_
    | refine readbackOk_touch (m.trans rfl) ?_ | refine meanCode_touch (m.trans rfl) ?_
    | refine Touch.ite_else ?_ (fun _ => ?_) | unfold x
    | (extract_lets +onlyGivenNames x; first | (refine Touch.cut (s := x) ?_ (fun _ => ?_); rotate_left; clear_value x) | clear_value x)
    | refine Touch.snd ?_ (by assumption) | split

theorem slotEnd_touch {M : Nat} {s₀ s : State} {a0} (m : Sub 0x7ffffffffff0061e290 M) (h : Touch M s₀ s) :
    Touch M s₀ (slotEnd a0 s) := by
  unfold slotEnd
  repeat' with_reducible first
    | assumption | refine passFollow_touch (m.trans rfl) ?_ | refine staleSweep_touch (m.trans rfl) ?_
    | refine State.setGrp_touch (m.trans rfl) ?_
    | refine put_page_touch (m.trans (by decide +kernel)) ?_ | refine put_ch_touch (m.trans (by decide +kernel)) ?_ | refine put_idx_touch (m.trans (by decide +kernel)) ?_ | refine put_host_touch (m.trans (by decide +kernel)) ?_ | refine put_pll_touch (m.trans (by decide +kernel)) ?_ | refine put_master_touch (m.trans (by decide +kernel)) ?_ | refine put_closed_touch (m.trans (by decide +kernel)) ?_ | refine State.put_touch (m.trans (by decide +kernel)) ?_ | refine put_any_touch (m.trans (by decide +kernel)) ?_
    | refine setExc_touch (m.trans rfl) ?_ | refine afgCommit_touch (m.trans rfl) ?_
    | refine Touch.ite_else ?_ (fun _ => ?_) | unfold x
    | (extract_lets +onlyGivenNames x; first | (refine Touch.cut (s := x) ?_ (fun _ => ?_); rotate_left; clear_value x) | clear_value x)
    | split

theorem extraResult_touch {M : Nat} {s₀ s : State} {a0 a1 a2 a3} (m : Sub 0x7ffffffffff00400010 M) (h : Touch M s₀ s) :
    Touch M s₀ (extraResult a0 a1 a2 a3 s) := by
  unfold extraResult
  repeat' with_reducible first
    | assumption | refine State.bumpWrap_touch ?_ | refine State.setGrp_touch (m.trans rfl) ?_
    | refine put_page_touch (m.trans (by decide +kernel)) ?_ | refine put_ch_touch (m.trans (by decide +kernel)) ?_ | refine put_idx_touch (m.trans (by decide +kernel)) ?_ | refine put_host_touch (m.trans (by decide +kernel)) ?_ | refine put_pll_touch (m.trans (by decide +kernel)) ?_ | refine put_master_touch (m.trans (by decide +kernel)) ?_ | refine put_closed_touch (m.trans (by decide +kernel)) ?_ | refine State.put_touch (m.trans (by decide +kernel)) ?_ | refine put_any_touch (m.trans (by decide +kernel)) ?_
    | refine putStat_touch (m.trans rfl) ?_ | refine Touch.ite_else ?_ (fun _ => ?_) | unfold x
    | (extract_lets +onlyGivenNames x; first | (refine Touch.cut (s := x) ?_ (fun _ => ?_); rotate_left; clear_value x) | clear_value x)
    | split

theorem rangeOverload_touch {M : Nat} {s₀ s : State} {a0 a1} (m : Sub 0x7ffffffffff00400010 M) (h : Touch M s₀ s) :
    Touch M s₀ (rangeOverload a0 a1 s) := by
  unfold rangeOverload
  repeat' with_reducible first
    | assumption | refine State.setGrp_touch (m.trans rfl) ?_ | refine moveRange_touch (m.trans rfl) ?_
    | refine extraResult_touch (m.trans rfl) ?_ | refine Touch.ite_else ?_ (fun _ => ?_) | unfold x
    | (extract_lets +onlyGivenNames x; first | (refine Touch.cut (s := x) ?_ (fun _ => ?_); rotate_left; clear_value x) | clear_value x)
    | split

end Sys2Proof.Machine
end

