-- ==== Sys2Proof/Laws/TouchLinear.lean ====
section
/-!
SUPPORT. What the definitions of Machine/Linear.lean touch.
-/

set_option Elab.async false
set_option linter.all false

namespace Sys2Proof.Machine

theorem latchSeq_touch {M : Nat} {s₀ s : State} {a0} (m : Sub 0x7ffffffc00700000010 M) (h : Touch M s₀ s) :
    Touch M s₀ (latchSeq a0 s).2 := by
  unfold latchSeq
  repeat' with_reducible first
    | assumption
    | refine put_page_touch (m.trans (by decide +kernel)) ?_ | refine put_ch_touch (m.trans (by decide +kernel)) ?_ | refine put_idx_touch (m.trans (by decide +kernel)) ?_ | refine put_host_touch (m.trans (by decide +kernel)) ?_ | refine put_pll_touch (m.trans (by decide +kernel)) ?_ | refine put_master_touch (m.trans (by decide +kernel)) ?_ | refine put_closed_touch (m.trans (by decide +kernel)) ?_ | refine State.put_touch (m.trans (by decide +kernel)) ?_ | refine put_any_touch (m.trans (by decide +kernel)) ?_
    | refine Touch.ite_else ?_ (fun _ => ?_) | unfold x
    | (extract_lets +onlyGivenNames x; first | (refine Touch.cut (s := x) ?_ (fun _ => ?_); rotate_left; clear_value x) | clear_value x)
    | refine Touch.snd ?_ (by assumption) | split

theorem linearise_touch {M : Nat} {s₀ s : State} {a0} (m : Sub 0x7fffffff00700606210 M) (h : Touch M s₀ s) :
    Touch M s₀ (linearise a0 s).2 := by
  unfold linearise
  repeat' with_reducible first
    | assumption | refine raise_touch (m.trans rfl) ?_
    | refine put_page_touch (m.trans (by decide +kernel)) ?_ | refine put_ch_touch (m.trans (by decide +kernel)) ?_ | refine put_idx_touch (m.trans (by decide +kernel)) ?_ | refine put_host_touch (m.trans (by decide +kernel)) ?_ | refine put_pll_touch (m.trans (by decide +kernel)) ?_ | refine put_master_touch (m.trans (by decide +kernel)) ?_ | refine put_closed_touch (m.trans (by decide +kernel)) ?_ | refine State.put_touch (m.trans (by decide +kernel)) ?_ | refine put_any_touch (m.trans (by decide +kernel)) ?_
    | refine State.setChan_touch (m.trans rfl) ?_ | refine Touch.ite_else ?_ (fun _ => ?_) | unfold x
    | (extract_lets +onlyGivenNames x; first | (refine Touch.cut (s := x) ?_ (fun _ => ?_); rotate_left; clear_value x) | clear_value x)
    | split

theorem deliverResult_touch {M : Nat} {s₀ s : State} {a0} (m : Sub 0x7fffffff0070060e210 M) (h : Touch M s₀ s) :
    Touch M s₀ (deliverResult a0 s) := by
  unfold deliverResult
  repeat' with_reducible first
    | assumption | refine linearise_touch (m.trans rfl) ?_ | refine sendChannel_touch (m.trans rfl) ?_
    | refine put_page_touch (m.trans (by decide +kernel)) ?_ | refine put_ch_touch (m.trans (by decide +kernel)) ?_ | refine put_idx_touch (m.trans (by decide +kernel)) ?_ | refine put_host_touch (m.trans (by decide +kernel)) ?_ | refine put_pll_touch (m.trans (by decide +kernel)) ?_ | refine put_master_touch (m.trans (by decide +kernel)) ?_ | refine put_closed_touch (m.trans (by decide +kernel)) ?_ | refine State.put_touch (m.trans (by decide +kernel)) ?_ | refine put_any_touch (m.trans (by decide +kernel)) ?_
    | refine dropBand_touch (m.trans rfl) ?_ | refine State.setChan_touch (m.trans rfl) ?_
    | refine countNarrow_touch (m.trans rfl) ?_ | refine Touch.ite_else ?_ (fun _ => ?_) | unfold x
    | (extract_lets +onlyGivenNames x; first | (refine Touch.cut (s := x) ?_ (fun _ => ?_); rotate_left; clear_value x) | clear_value x)
    | refine Touch.snd ?_ (by assumption) | split

theorem resultLinearise_touch {M : Nat} {s₀ s : State} {a0} (m : Sub 0x7fffffff0070060e210 M) (h : Touch M s₀ s) :
    Touch M s₀ (resultLinearise a0 s) := by
  unfold resultLinearise
  repeat' with_reducible first
    | assumption | refine deliverResult_touch (m.trans rfl) ?_ | refine State.setGrp_touch (m.trans rfl) ?_
    | refine staleSend_touch (m.trans rfl) ?_ | refine Touch.ite_else ?_ (fun _ => ?_) | unfold x
    | (extract_lets +onlyGivenNames x; first | (refine Touch.cut (s := x) ?_ (fun _ => ?_); rotate_left; clear_value x) | clear_value x)
    | split

theorem fastEnd_touch {M : Nat} {s₀ s : State} {a0} (m : Sub 0x7fffffff00700408010 M) (h : Touch M s₀ s) :
    Touch M s₀ (fastEnd a0 s) := by
  unfold fastEnd
  repeat' with_reducible first
    | assumption | refine staleSweep_touch (m.trans rfl) ?_ | refine State.setGrp_touch (m.trans rfl) ?_
    | refine put_page_touch (m.trans (by decide +kernel)) ?_ | refine put_ch_touch (m.trans (by decide +kernel)) ?_ | refine put_idx_touch (m.trans (by decide +kernel)) ?_ | refine put_host_touch (m.trans (by decide +kernel)) ?_ | refine put_pll_touch (m.trans (by decide +kernel)) ?_ | refine put_master_touch (m.trans (by decide +kernel)) ?_ | refine put_closed_touch (m.trans (by decide +kernel)) ?_ | refine State.put_touch (m.trans (by decide +kernel)) ?_ | refine put_any_touch (m.trans (by decide +kernel)) ?_
    | refine setExc_touch (m.trans rfl) ?_ | unfold x
    | (extract_lets +onlyGivenNames x; first | (refine Touch.cut (s := x) ?_ (fun _ => ?_); rotate_left; clear_value x) | clear_value x)

theorem fastOutput_touch {M : Nat} {s₀ s : State} {a0 a1} (m : Sub 0x7ffffffffff0061e390 M) (h : Touch M s₀ s) :
    Touch M s₀ (fastOutput a0 a1 s) := by
  unfold fastOutput
  repeat' with_reducible first
    | assumption | refine readbackLost_touch (m.trans rfl) ?_ | refine State.setGrp_touch (m.trans rfl) ?_
    | refine readbackTrips_touch (m.trans rfl) ?_ | refine afgQuiet_touch (m.trans rfl) ?_
    | refine latchSeq_touch (m.trans rfl) ?_ | refine fastEnd_touch (m.trans rfl) ?_
    | refine completeResult_touch (m.trans rfl) ?_ | refine narrowNow_touch (m.trans rfl) ?_
    | refine readbackOk_touch (m.trans rfl) ?_ | refine State.setChan_touch (m.trans rfl) ?_
    | refine Touch.ite_else ?_ (fun _ => ?_) | unfold x
    | (extract_lets +onlyGivenNames x; first | (refine Touch.cut (s := x) ?_ (fun _ => ?_); rotate_left; clear_value x) | clear_value x)
    | refine Touch.snd ?_ (by assumption) | split

theorem fastMonitor_touch {M : Nat} {s₀ s : State} {a0 a1} (m : Sub 0x7fffffff00700400010 M) (h : Touch M s₀ s) :
    Touch M s₀ (fastMonitor a0 a1 s) := by
  unfold fastMonitor
  repeat' with_reducible first
    | assumption | refine State.setGrp_touch (m.trans rfl) ?_ | refine putMon_touch (m.trans rfl) ?_
    | refine Touch.ite_else ?_ (fun _ => ?_) | unfold x
    | (extract_lets +onlyGivenNames x; first | (refine Touch.cut (s := x) ?_ (fun _ => ?_); rotate_left; clear_value x) | clear_value x)
    | split

theorem slotStart_touch {M : Nat} {s₀ s : State} {a0} (m : Sub 0x7fffffff00700400010 M) (h : Touch M s₀ s) :
    Touch M s₀ (slotStart a0 s) := by
  unfold slotStart
  repeat' with_reducible first
    | assumption | refine latchSeq_touch (m.trans rfl) ?_ | refine newSlot_touch (m.trans rfl) ?_
    | refine narrowNow_touch (m.trans rfl) ?_ | refine Touch.ite_else ?_ (fun _ => ?_) | unfold x
    | (extract_lets +onlyGivenNames x; first | (refine Touch.cut (s := x) ?_ (fun _ => ?_); rotate_left; clear_value x) | clear_value x)
    | refine Touch.snd ?_ (by assumption) | split

theorem curveLoad_touch {M : Nat} {s₀ s : State} {a0 a1 a2} (m : Sub 0x4000004000f0 M) (h : Touch M s₀ s) :
    Touch M s₀ (curveLoad a0 a1 a2 s) := by
  unfold curveLoad
  repeat' with_reducible first
    | assumption | refine State.withAfe_touch (m.bit rfl) ?_
    | refine put_page_touch (m.trans (by decide +kernel)) ?_ | refine put_ch_touch (m.trans (by decide +kernel)) ?_ | refine put_idx_touch (m.trans (by decide +kernel)) ?_ | refine put_host_touch (m.trans (by decide +kernel)) ?_ | refine put_pll_touch (m.trans (by decide +kernel)) ?_ | refine put_master_touch (m.trans (by decide +kernel)) ?_ | refine put_closed_touch (m.trans (by decide +kernel)) ?_ | refine State.put_touch (m.trans (by decide +kernel)) ?_ | refine put_any_touch (m.trans (by decide +kernel)) ?_
    | refine storeFields_touch (m.trans (by decide +kernel)) ?_ | refine storeFields_any_touch (m.trans (by decide +kernel)) ?_
    | refine Touch.ite_else ?_ (fun _ => ?_) | unfold x
    | (extract_lets +onlyGivenNames x; first | (refine Touch.cut (s := x) ?_ (fun _ => ?_); rotate_left; clear_value x) | clear_value x)
    | split

theorem curveLoadDone_touch {M : Nat} {s₀ s : State} (m : Sub 0x108000400300606210 M) (h : Touch M s₀ s) :
    Touch M s₀ (curveLoadDone s) := by
  unfold curveLoadDone
  repeat' with_reducible first
    | assumption | refine State.withAfe_touch (m.bit rfl) ?_ | refine raise_touch (m.trans rfl) ?_
    | refine put_page_touch (m.trans (by decide +kernel)) ?_ | refine put_ch_touch (m.trans (by decide +kernel)) ?_ | refine put_idx_touch (m.trans (by decide +kernel)) ?_ | refine put_host_touch (m.trans (by decide +kernel)) ?_ | refine put_pll_touch (m.trans (by decide +kernel)) ?_ | refine put_master_touch (m.trans (by decide +kernel)) ?_ | refine put_closed_touch (m.trans (by decide +kernel)) ?_ | refine State.put_touch (m.trans (by decide +kernel)) ?_ | refine put_any_touch (m.trans (by decide +kernel)) ?_
    | refine accessFault_touch (m.trans rfl) ?_ | refine Touch.ite_else ?_ (fun _ => ?_) | unfold x
    | (extract_lets +onlyGivenNames x; first | (refine Touch.cut (s := x) ?_ (fun _ => ?_); rotate_left; clear_value x) | clear_value x)
    | split

theorem linCommit_touch {M : Nat} {s₀ s : State} (m : Sub 0x7ffffffffff0061e290 M) (h : Touch M s₀ s) :
    Touch M s₀ (linCommit s) := by
  unfold linCommit
  repeat' with_reducible first
    | assumption | refine commitRefused_touch (m.trans rfl) ?_ | refine commitTaken_touch (m.trans rfl) ?_
    | refine restartFast_touch (m.trans rfl) ?_ | refine foldl_touch (fun _ _ _ => ?_) ?_
    | refine Touch.ite_else ?_ (fun _ => ?_) | unfold x
    | (extract_lets +onlyGivenNames x; first | (refine Touch.cut (s := x) ?_ (fun _ => ?_); rotate_left; clear_value x) | clear_value x)
    | split

theorem execSlotStart_touch {M : Nat} {s₀ s : State} {a0} (m : Sub 0x7fffffff00700400010 M) (h : Touch M s₀ s) :
    OutTouch M s₀ (execSlotStart a0 s) := by
  unfold execSlotStart
  repeat' with_reducible first
    | assumption | apply OutTouch.next | refine slotStart_touch (m.trans rfl) ?_

theorem execExcitationOn_touch {M : Nat} {s₀ s : State} {a0} (m : Sub 0x200000400010 M) (h : Touch M s₀ s) :
    OutTouch M s₀ (execExcitationOn a0 s) := by
  unfold execExcitationOn
  repeat' with_reducible first
    | assumption | apply OutTouch.next | refine excitationOn_touch (m.trans rfl) ?_

theorem execCheckCurrentEnd_touch {M : Nat} {s₀ s : State} {a0 a1} (m : Sub 0x400000 M) (h : Touch M s₀ s) :
    OutTouch M s₀ (execCheckCurrentEnd a0 a1 s) := by
  unfold execCheckCurrentEnd
  repeat' with_reducible first
    | assumption | apply OutTouch.next | refine checkEnd_touch (m.trans rfl) ?_

theorem execConversionStart_touch {M : Nat} {s₀ s : State} {a0} (m : Sub 0x400000 M) (h : Touch M s₀ s) :
    OutTouch M s₀ (execConversionStart a0 s) := by
  unfold execConversionStart
  repeat' with_reducible first
    | assumption | apply OutTouch.next | refine conversionStart_touch (m.trans rfl) ?_

theorem execMonitorMeasure_touch {M : Nat} {s₀ s : State} {a0 a1} (m : Sub 0x7fffffff00700400010 M) (h : Touch M s₀ s) :
    OutTouch M s₀ (execMonitorMeasure a0 a1 s) := by
  unfold execMonitorMeasure
  repeat' with_reducible first
    | assumption | apply OutTouch.next | refine monitorMeasure_touch (m.trans rfl) ?_

theorem execPhaseComplete_touch {M : Nat} {s₀ s : State} {a0 a1} (m : Sub 0x7ffffffffff0060e311 M) (h : Touch M s₀ s) :
    OutTouch M s₀ (execPhaseComplete a0 a1 s) := by
  unfold execPhaseComplete
  repeat' with_reducible first
    | assumption | apply OutTouch.next | refine phaseComplete_touch (m.trans rfl) ?_

theorem execSlotEnd_touch {M : Nat} {s₀ s : State} {a0} (m : Sub 0x7ffffffffff0061e290 M) (h : Touch M s₀ s) :
    OutTouch M s₀ (execSlotEnd a0 s) := by
  unfold execSlotEnd
  repeat' with_reducible first
    | assumption | apply OutTouch.next | refine slotEnd_touch (m.trans rfl) ?_

theorem execResultLinearise_touch {M : Nat} {s₀ s : State} {a0} (m : Sub 0x7fffffff0070060e210 M) (h : Touch M s₀ s) :
    OutTouch M s₀ (execResultLinearise a0 s) := by
  unfold execResultLinearise
  repeat' with_reducible first
    | assumption | apply OutTouch.next | refine resultLinearise_touch (m.trans rfl) ?_

theorem execRangeOverload_touch {M : Nat} {s₀ s : State} {a0 a1} (m : Sub 0x7ffffffffff00400010 M) (h : Touch M s₀ s) :
    OutTouch M s₀ (execRangeOverload a0 a1 s) := by
  unfold execRangeOverload
  repeat' with_reducible first
    | assumption | apply OutTouch.next | refine rangeOverload_touch (m.trans rfl) ?_

theorem execFastOutput_touch {M : Nat} {s₀ s : State} {a0 a1} (m : Sub 0x7ffffffffff0061e390 M) (h : Touch M s₀ s) :
    OutTouch M s₀ (execFastOutput a0 a1 s) := by
  unfold execFastOutput
  repeat' with_reducible first
    | assumption | apply OutTouch.next | refine fastOutput_touch (m.trans rfl) ?_

theorem execFastMonitor_touch {M : Nat} {s₀ s : State} {a0 a1} (m : Sub 0x7fffffff00700400010 M) (h : Touch M s₀ s) :
    OutTouch M s₀ (execFastMonitor a0 a1 s) := by
  unfold execFastMonitor
  repeat' with_reducible first
    | assumption | apply OutTouch.next | refine fastMonitor_touch (m.trans rfl) ?_

theorem tsRead_touch {M : Nat} {s₀ s : State} {a0 a1 a2} (m : Sub 0x7ffffffe00700606210 M) (h : Touch M s₀ s) :
    Touch M s₀ (tsRead a0 a1 a2 s) := by
  unfold tsRead
  repeat' with_reducible first
    | assumption | refine State.withAfe_touch (m.bit rfl) ?_ | refine raise_touch (m.trans rfl) ?_
    | refine put_page_touch (m.trans (by decide +kernel)) ?_ | refine put_ch_touch (m.trans (by decide +kernel)) ?_ | refine put_idx_touch (m.trans (by decide +kernel)) ?_ | refine put_host_touch (m.trans (by decide +kernel)) ?_ | refine put_pll_touch (m.trans (by decide +kernel)) ?_ | refine put_master_touch (m.trans (by decide +kernel)) ?_ | refine put_closed_touch (m.trans (by decide +kernel)) ?_ | refine State.put_touch (m.trans (by decide +kernel)) ?_ | refine put_any_touch (m.trans (by decide +kernel)) ?_
    | refine State.putFlag_touch ?_ | refine Touch.ite_else ?_ (fun _ => ?_) | unfold x
    | (extract_lets +onlyGivenNames x; first | (refine Touch.cut (s := x) ?_ (fun _ => ?_); rotate_left; clear_value x) | clear_value x)
    | split

theorem execTsRead_touch {M : Nat} {s₀ s : State} {a0 a1 a2} (m : Sub 0x7ffffffe00700606210 M) (h : Touch M s₀ s) :
    OutTouch M s₀ (execTsRead a0 a1 a2 s) := by
  unfold execTsRead
  repeat' with_reducible first
    | assumption | apply OutTouch.next | refine tsRead_touch (m.trans rfl) ?_ | refine Touch.ite_else ?_ (fun _ => ?_)
    | split

theorem execCurveLoad_touch {M : Nat} {s₀ s : State} {a0 a1} (m : Sub 0x1080004003006062f0 M) (h : Touch M s₀ s) :
    OutTouch M s₀ (execCurveLoad a0 a1 s) := by
  unfold execCurveLoad
  repeat' with_reducible first
    | assumption | apply OutTouch.next
    | refine hostWord_touch (m.trans (by decide +kernel)) (fun _ _ _ => ?_) ?_ | refine hostWord_any_touch (m.trans (by decide +kernel)) (fun _ _ _ => ?_) ?_
    | refine curveLoad_touch (m.trans rfl) ?_ | unfold x
    | (extract_lets +onlyGivenNames x; first | (refine Touch.cut (s := x) ?_ (fun _ => ?_); rotate_left; clear_value x) | clear_value x)

theorem execCurveLoadDone_touch {M : Nat} {s₀ s : State} (m : Sub 0x108000400300606210 M) (h : Touch M s₀ s) :
    OutTouch M s₀ (execCurveLoadDone s) := by
  unfold execCurveLoadDone
  repeat' with_reducible first
    | assumption | apply OutTouch.next | refine curveLoadDone_touch (m.trans rfl) ?_

end Sys2Proof.Machine
end

