-- ==== Sys2Proof/Laws/TouchOutputs.lean ====
section
/-!
SUPPORT. What the definitions of Machine/Outputs.lean touch.
-/

set_option Elab.async false
set_option linter.all false

namespace Sys2Proof.Machine

theorem repDrive_touch {M : Nat} {s₀ s : State} {a0} (m : Sub 0x7ffffff800700a06210 M) (h : Touch M s₀ s) :
    Touch M s₀ (repDrive a0 s) := by
  unfold repDrive
  repeat' with_reducible first
    | assumption | refine raise_touch (m.trans rfl) ?_
    | refine put_page_touch (m.trans (by decide +kernel)) ?_ | refine put_ch_touch (m.trans (by decide +kernel)) ?_ | refine put_idx_touch (m.trans (by decide +kernel)) ?_ | refine put_host_touch (m.trans (by decide +kernel)) ?_ | refine put_pll_touch (m.trans (by decide +kernel)) ?_ | refine put_master_touch (m.trans (by decide +kernel)) ?_ | refine put_closed_touch (m.trans (by decide +kernel)) ?_ | refine State.put_touch (m.trans (by decide +kernel)) ?_ | refine put_any_touch (m.trans (by decide +kernel)) ?_
    | refine State.putFlag_touch ?_ | refine State.withOuts_touch (m.bit rfl) ?_
    | refine Touch.ite_else ?_ (fun _ => ?_) | unfold x
    | (extract_lets +onlyGivenNames x; first | (refine Touch.cut (s := x) ?_ (fun _ => ?_); rotate_left; clear_value x) | clear_value x)
    | split

theorem repOff_touch {M : Nat} {s₀ s : State} (m : Sub 0x7ffffff800700000010 M) (h : Touch M s₀ s) :
    Touch M s₀ (repOff s) := by
  unfold repOff
  repeat' with_reducible first
    | assumption
    | refine put_page_touch (m.trans (by decide +kernel)) ?_ | refine put_ch_touch (m.trans (by decide +kernel)) ?_ | refine put_idx_touch (m.trans (by decide +kernel)) ?_ | refine put_host_touch (m.trans (by decide +kernel)) ?_ | refine put_pll_touch (m.trans (by decide +kernel)) ?_ | refine put_master_touch (m.trans (by decide +kernel)) ?_ | refine put_closed_touch (m.trans (by decide +kernel)) ?_ | refine State.put_touch (m.trans (by decide +kernel)) ?_ | refine put_any_touch (m.trans (by decide +kernel)) ?_
    | refine foldl_touch (fun _ _ _ => ?_) ?_

theorem repDriveAll_touch {M : Nat} {s₀ s : State} (m : Sub 0x7ffffff800700a06210 M) (h : Touch M s₀ s) :
    Touch M s₀ (repDriveAll s) := by
  unfold repDriveAll
  repeat' with_reducible first
    | assumption | refine repDrive_touch (m.trans rfl) ?_ | refine foldl_touch (fun _ _ _ => ?_) ?_
    | refine Touch.ite_else ?_ (fun _ => ?_) | split

theorem repTiming_touch {M : Nat} {s₀ s : State} {a0} (m : Sub 0x7ffffff800700206210 M) (h : Touch M s₀ s) :
    Touch M s₀ (repTiming a0 s) := by
  unfold repTiming
  repeat' with_reducible first
    | assumption | refine raise_touch (m.trans rfl) ?_
    | refine put_page_touch (m.trans (by decide +kernel)) ?_ | refine put_ch_touch (m.trans (by decide +kernel)) ?_ | refine put_idx_touch (m.trans (by decide +kernel)) ?_ | refine put_host_touch (m.trans (by decide +kernel)) ?_ | refine put_pll_touch (m.trans (by decide +kernel)) ?_ | refine put_master_touch (m.trans (by decide +kernel)) ?_ | refine put_closed_touch (m.trans (by decide +kernel)) ?_ | refine State.put_touch (m.trans (by decide +kernel)) ?_ | refine put_any_touch (m.trans (by decide +kernel)) ?_
    | refine Touch.ite_else ?_ (fun _ => ?_) | split

theorem repTake_touch {M : Nat} {s₀ s : State} {a0} (m : Sub 0x7ffffffffff00000090 M) (h : Touch M s₀ s) :
    Touch M s₀ (repTake a0 s) := by
  unfold repTake
  repeat' with_reducible first
    | assumption | refine State.withStaged_touch (m.bit rfl) ?_
    | refine setReg_fld_touch (m.trans (by decide +kernel)) ?_ | refine State.setReg_touch (m.trans (by decide +kernel)) ?_ | refine setReg_any_touch (m.trans (by decide +kernel)) ?_
    | refine foldl_touch (fun _ _ _ => ?_) ?_ | unfold x
    | (extract_lets +onlyGivenNames x; first | (refine Touch.cut (s := x) ?_ (fun _ => ?_); rotate_left; clear_value x) | clear_value x)

theorem repCommitAt_touch {M : Nat} {s₀ s : State} {a0} (m : Sub 0x7ffffffffff00a16290 M) (h : Touch M s₀ s) :
    Touch M s₀ (repCommitAt a0 s) := by
  unfold repCommitAt
  repeat' with_reducible first
    | assumption | refine commitRefused_touch (m.trans rfl) ?_ | refine commitTaken_touch (m.trans rfl) ?_
    | refine State.withOuts_touch (m.bit rfl) ?_ | refine repTake_touch (m.trans rfl) ?_
    | refine foldl_touch (fun _ _ _ => ?_) ?_ | refine Touch.ite_else ?_ (fun _ => ?_) | unfold x
    | (extract_lets +onlyGivenNames x; first | (refine Touch.cut (s := x) ?_ (fun _ => ?_); rotate_left; clear_value x) | clear_value x)
    | split

theorem repBoundary_touch {M : Nat} {s₀ s : State} {a0} (m : Sub 0x7ffffffffff00a16290 M) (h : Touch M s₀ s) :
    Touch M s₀ (repBoundary a0 s) := by
  unfold repBoundary
  repeat' with_reducible first
    | assumption | refine repDrive_touch (m.trans rfl) ?_ | refine repCommitAt_touch (m.trans rfl) ?_
    | refine repTiming_touch (m.trans rfl) ?_ | refine Touch.ite_else ?_ (fun _ => ?_) | split

theorem execRepPeriodBoundary_touch {M : Nat} {s₀ s : State} {a0} (m : Sub 0x7ffffffffff00a16290 M) (h : Touch M s₀ s) :
    OutTouch M s₀ (execRepPeriodBoundary a0 s) := by
  unfold execRepPeriodBoundary
  repeat' with_reducible first
    | assumption | apply OutTouch.next | refine repBoundary_touch (m.trans rfl) ?_

theorem refreshDo_touch {M : Nat} {s₀ s : State} (m : Sub 0x1000000800010 M) (h : Touch M s₀ s) :
    Touch M s₀ (refreshDo s) := by
  unfold refreshDo
  repeat' with_reducible first
    | assumption
    | refine put_page_touch (m.trans (by decide +kernel)) ?_ | refine put_ch_touch (m.trans (by decide +kernel)) ?_ | refine put_idx_touch (m.trans (by decide +kernel)) ?_ | refine put_host_touch (m.trans (by decide +kernel)) ?_ | refine put_pll_touch (m.trans (by decide +kernel)) ?_ | refine put_master_touch (m.trans (by decide +kernel)) ?_ | refine put_closed_touch (m.trans (by decide +kernel)) ?_ | refine State.put_touch (m.trans (by decide +kernel)) ?_ | refine put_any_touch (m.trans (by decide +kernel)) ?_
    | refine State.withOuts_touch (m.bit rfl) ?_ | refine foldl_touch (fun _ _ _ => ?_) ?_
    | refine Touch.ite_else ?_ (fun _ => ?_) | unfold x
    | (extract_lets +onlyGivenNames x; first | (refine Touch.cut (s := x) ?_ (fun _ => ?_); rotate_left; clear_value x) | clear_value x)
    | split

theorem updateDo_touch {M : Nat} {s₀ s : State} (m : Sub 0x1000000800010 M) (h : Touch M s₀ s) :
    Touch M s₀ (updateDo s) := by
  unfold updateDo
  repeat' with_reducible first
    | assumption | refine refreshDo_touch (m.trans rfl) ?_ | refine State.withOuts_touch (m.bit rfl) ?_
    | refine foldl_touch (fun _ _ _ => ?_) ?_ | unfold x
    | (extract_lets +onlyGivenNames x; first | (refine Touch.cut (s := x) ?_ (fun _ => ?_); rotate_left; clear_value x) | clear_value x)

theorem dioCommit_touch {M : Nat} {s₀ s : State} (m : Sub 0x7ffffffffff00a16290 M) (h : Touch M s₀ s) :
    Touch M s₀ (dioCommit s) := by
  unfold dioCommit
  repeat' with_reducible first
    | assumption | refine commitRefused_touch (m.trans rfl) ?_ | refine commitTaken_touch (m.trans rfl) ?_
    | refine updateDo_touch (m.trans rfl) ?_ | refine Touch.ite_else ?_ (fun _ => ?_) | split

theorem actDoSet_touch {M : Nat} {s₀ s : State} {a0 a1 a2} (m : Sub 0x10000008000f0 M) (h : Touch M s₀ s) :
    Touch M s₀ (actDoSet a0 a1 a2 s) := by
  unfold actDoSet
  repeat' with_reducible first
    | assumption
    | refine storeFields_touch (m.trans (by decide +kernel)) ?_ | refine storeFields_any_touch (m.trans (by decide +kernel)) ?_
    | refine refreshDo_touch (m.trans rfl) ?_

theorem execDoSet_touch {M : Nat} {s₀ s : State} {a0 a1} (m : Sub 0x108001000300a062f0 M) (h : Touch M s₀ s) :
    OutTouch M s₀ (execDoSet a0 a1 s) := by
  unfold execDoSet
  repeat' with_reducible first
    | assumption | apply OutTouch.next
    | refine hostWord_touch (m.trans (by decide +kernel)) (fun _ _ _ => ?_) ?_ | refine hostWord_any_touch (m.trans (by decide +kernel)) (fun _ _ _ => ?_) ?_
    | refine actDoSet_touch (m.trans rfl) ?_ | unfold x
    | (extract_lets +onlyGivenNames x; first | (refine Touch.cut (s := x) ?_ (fun _ => ?_); rotate_left; clear_value x) | clear_value x)

theorem doOverload_touch {M : Nat} {s₀ s : State} {a0} (m : Sub 0x108001000100a06210 M) (h : Touch M s₀ s) :
    Touch M s₀ (doOverload a0 s) := by
  unfold doOverload
  repeat' with_reducible first
    | assumption | refine raise_touch (m.trans rfl) ?_
    | refine put_page_touch (m.trans (by decide +kernel)) ?_ | refine put_ch_touch (m.trans (by decide +kernel)) ?_ | refine put_idx_touch (m.trans (by decide +kernel)) ?_ | refine put_host_touch (m.trans (by decide +kernel)) ?_ | refine put_pll_touch (m.trans (by decide +kernel)) ?_ | refine put_master_touch (m.trans (by decide +kernel)) ?_ | refine put_closed_touch (m.trans (by decide +kernel)) ?_ | refine State.put_touch (m.trans (by decide +kernel)) ?_ | refine put_any_touch (m.trans (by decide +kernel)) ?_
    | refine refreshDo_touch (m.trans rfl) ?_ | refine State.withOuts_touch (m.bit rfl) ?_
    | refine Touch.ite_else ?_ (fun _ => ?_) | unfold x
    | (extract_lets +onlyGivenNames x; first | (refine Touch.cut (s := x) ?_ (fun _ => ?_); rotate_left; clear_value x) | clear_value x)
    | split

theorem execDoOverload_touch {M : Nat} {s₀ s : State} {a0} (m : Sub 0x108001000100a06210 M) (h : Touch M s₀ s) :
    OutTouch M s₀ (execDoOverload a0 s) := by
  unfold execDoOverload
  repeat' with_reducible first
    | assumption | apply OutTouch.next | refine doOverload_touch (m.trans rfl) ?_

theorem doRetry_touch {M : Nat} {s₀ s : State} {a0} (m : Sub 0x1000000800010 M) (h : Touch M s₀ s) :
    Touch M s₀ (doRetry a0 s) := by
  unfold doRetry
  repeat' with_reducible first
    | assumption | refine refreshDo_touch (m.trans rfl) ?_ | refine State.withOuts_touch (m.bit rfl) ?_
    | refine Touch.ite_else ?_ (fun _ => ?_) | unfold x
    | (extract_lets +onlyGivenNames x; first | (refine Touch.cut (s := x) ?_ (fun _ => ?_); rotate_left; clear_value x) | clear_value x)
    | split

theorem execDoOverloadRetry_touch {M : Nat} {s₀ s : State} {a0} (m : Sub 0x1000000800010 M) (h : Touch M s₀ s) :
    OutTouch M s₀ (execDoOverloadRetry a0 s) := by
  unfold execDoOverloadRetry
  repeat' with_reducible first
    | assumption | apply OutTouch.next | refine doRetry_touch (m.trans rfl) ?_

theorem diEdges_touch {M : Nat} {s₀ s : State} {a0} (m : Sub 0x7ffffff000700808010 M) (h : Touch M s₀ s) :
    Touch M s₀ (diEdges a0 s) := by
  unfold diEdges
  repeat' with_reducible first
    | assumption | refine State.bumpWrap_touch ?_ | refine State.withOuts_touch (m.bit rfl) ?_
    | refine State.setPt_touch (m.trans rfl) ?_
    | refine put_page_touch (m.trans (by decide +kernel)) ?_ | refine put_ch_touch (m.trans (by decide +kernel)) ?_ | refine put_idx_touch (m.trans (by decide +kernel)) ?_ | refine put_host_touch (m.trans (by decide +kernel)) ?_ | refine put_pll_touch (m.trans (by decide +kernel)) ?_ | refine put_master_touch (m.trans (by decide +kernel)) ?_ | refine put_closed_touch (m.trans (by decide +kernel)) ?_ | refine State.put_touch (m.trans (by decide +kernel)) ?_ | refine put_any_touch (m.trans (by decide +kernel)) ?_
    | refine foldl_touch (fun _ _ _ => ?_) ?_ | refine Touch.ite_else ?_ (fun _ => ?_) | unfold x
    | (extract_lets +onlyGivenNames x; first | (refine Touch.cut (s := x) ?_ (fun _ => ?_); rotate_left; clear_value x) | clear_value x)
    | split

theorem diSample_touch {M : Nat} {s₀ s : State} {a0} (m : Sub 0x7ffffff000700808010 M) (h : Touch M s₀ s) :
    Touch M s₀ (diSample a0 s) := by
  unfold diSample
  repeat' with_reducible first
    | assumption | refine diEdges_touch (m.trans rfl) ?_
    | refine put_page_touch (m.trans (by decide +kernel)) ?_ | refine put_ch_touch (m.trans (by decide +kernel)) ?_ | refine put_idx_touch (m.trans (by decide +kernel)) ?_ | refine put_host_touch (m.trans (by decide +kernel)) ?_ | refine put_pll_touch (m.trans (by decide +kernel)) ?_ | refine put_master_touch (m.trans (by decide +kernel)) ?_ | refine put_closed_touch (m.trans (by decide +kernel)) ?_ | refine State.put_touch (m.trans (by decide +kernel)) ?_ | refine put_any_touch (m.trans (by decide +kernel)) ?_
    | refine State.withOuts_touch (m.bit rfl) ?_ | refine Touch.ite_else ?_ (fun _ => ?_) | unfold x
    | (extract_lets +onlyGivenNames x; first | (refine Touch.cut (s := x) ?_ (fun _ => ?_); rotate_left; clear_value x) | clear_value x)
    | split

theorem execDiSample_touch {M : Nat} {s₀ s : State} {a0} (m : Sub 0x7ffffff000700808010 M) (h : Touch M s₀ s) :
    OutTouch M s₀ (execDiSample a0 s) := by
  unfold execDiSample
  repeat' with_reducible first
    | assumption | apply OutTouch.next | refine diSample_touch (m.trans rfl) ?_

theorem diAccept_touch {M : Nat} {s₀ s : State} {a0 a1 a2} (m : Sub 0x8000 M) (h : Touch M s₀ s) :
    Touch M s₀ (diAccept a0 a1 a2 s) := by
  unfold diAccept
  repeat' with_reducible first
    | assumption | refine State.trigger_touch (m.trans rfl) ?_ | refine foldl_touch (fun _ _ _ => ?_) ?_
    | refine Touch.ite_else ?_ (fun _ => ?_) | split

theorem execDiChangeAccept_touch {M : Nat} {s₀ s : State} {a0 a1 a2} (m : Sub 0x8000 M) (h : Touch M s₀ s) :
    OutTouch M s₀ (execDiChangeAccept a0 a1 a2 s) := by
  unfold execDiChangeAccept
  repeat' with_reducible first
    | assumption | apply OutTouch.next | refine diAccept_touch (m.trans rfl) ?_

theorem diFreq_touch {M : Nat} {s₀ s : State} {a0} (m : Sub 0x8000 M) (h : Touch M s₀ s) :
    Touch M s₀ (diFreq a0 s) := by
  unfold diFreq
  repeat' with_reducible first
    | assumption | refine State.trigger_touch (m.trans rfl) ?_ | refine State.setPt_touch (m.trans rfl) ?_
    | refine Touch.ite_else ?_ (fun _ => ?_) | unfold x
    | (extract_lets +onlyGivenNames x; first | (refine Touch.cut (s := x) ?_ (fun _ => ?_); rotate_left; clear_value x) | clear_value x)
    | split

theorem execDiFreqSample_touch {M : Nat} {s₀ s : State} {a0} (m : Sub 0x8000 M) (h : Touch M s₀ s) :
    OutTouch M s₀ (execDiFreqSample a0 s) := by
  unfold execDiFreqSample
  repeat' with_reducible first
    | assumption | apply OutTouch.next | refine diFreq_touch (m.trans rfl) ?_

theorem diResume_touch {M : Nat} {s₀ s : State} (m : Sub 0x808000 M) (h : Touch M s₀ s) :
    Touch M s₀ (diResume s) := by
  unfold diResume
  repeat' with_reducible first
    | assumption | refine State.withOuts_touch (m.bit rfl) ?_ | refine State.setPt_touch (m.trans rfl) ?_
    | refine foldl_touch (fun _ _ _ => ?_) ?_ | unfold x
    | (extract_lets +onlyGivenNames x; first | (refine Touch.cut (s := x) ?_ (fun _ => ?_); rotate_left; clear_value x) | clear_value x)
    | split

theorem diInvalid_touch {M : Nat} {s₀ s : State} (m : Sub 0x108001000100a0e210 M) (h : Touch M s₀ s) :
    Touch M s₀ (diInvalid s) := by
  unfold diInvalid
  repeat' with_reducible first
    | assumption | refine raise_touch (m.trans rfl) ?_
    | refine put_page_touch (m.trans (by decide +kernel)) ?_ | refine put_ch_touch (m.trans (by decide +kernel)) ?_ | refine put_idx_touch (m.trans (by decide +kernel)) ?_ | refine put_host_touch (m.trans (by decide +kernel)) ?_ | refine put_pll_touch (m.trans (by decide +kernel)) ?_ | refine put_master_touch (m.trans (by decide +kernel)) ?_ | refine put_closed_touch (m.trans (by decide +kernel)) ?_ | refine State.put_touch (m.trans (by decide +kernel)) ?_ | refine put_any_touch (m.trans (by decide +kernel)) ?_
    | refine State.trigger_touch (m.trans rfl) ?_ | refine State.withOuts_touch (m.bit rfl) ?_
    | refine foldl_touch (fun _ _ _ => ?_) ?_ | refine Touch.ite_else ?_ (fun _ => ?_) | unfold x
    | (extract_lets +onlyGivenNames x; first | (refine Touch.cut (s := x) ?_ (fun _ => ?_); rotate_left; clear_value x) | clear_value x)
    | split

theorem diHeldFault_touch {M : Nat} {s₀ s : State} (m : Sub 0x8000 M) (h : Touch M s₀ s) :
    Touch M s₀ (diHeldFault s) := by
  unfold diHeldFault
  repeat' with_reducible first
    | assumption | refine State.trigger_touch (m.trans rfl) ?_ | refine foldl_touch (fun _ _ _ => ?_) ?_
    | refine Touch.ite_else ?_ (fun _ => ?_) | split

theorem levelTick_touch {M : Nat} {s₀ s : State} {a0} (m : Sub 0x8000 M) (h : Touch M s₀ s) :
    Touch M s₀ (levelTick a0 s) := by
  unfold levelTick
  repeat' with_reducible first
    | assumption | refine notify_touch (m.trans rfl) ?_ | refine State.trigger_touch (m.trans rfl) ?_
    | refine State.setPt_touch (m.trans rfl) ?_ | refine Touch.ite_else ?_ (fun _ => ?_) | split

theorem dioTick_touch {M : Nat} {s₀ s : State} (m : Sub 0x1000000808010 M) (h : Touch M s₀ s) :
    Touch M s₀ (dioTick s) := by
  unfold dioTick
  repeat' with_reducible first
    | assumption
    | refine put_page_touch (m.trans (by decide +kernel)) ?_ | refine put_ch_touch (m.trans (by decide +kernel)) ?_ | refine put_idx_touch (m.trans (by decide +kernel)) ?_ | refine put_host_touch (m.trans (by decide +kernel)) ?_ | refine put_pll_touch (m.trans (by decide +kernel)) ?_ | refine put_master_touch (m.trans (by decide +kernel)) ?_ | refine put_closed_touch (m.trans (by decide +kernel)) ?_ | refine State.put_touch (m.trans (by decide +kernel)) ?_ | refine put_any_touch (m.trans (by decide +kernel)) ?_
    | refine diHeldFault_touch (m.trans rfl) ?_ | refine levelTick_touch (m.trans rfl) ?_
    | refine State.trigger_touch (m.trans rfl) ?_ | refine State.withOuts_touch (m.bit rfl) ?_
    | refine foldl_touch (fun _ _ _ => ?_) ?_ | refine Touch.ite_else ?_ (fun _ => ?_) | unfold x
    | (extract_lets +onlyGivenNames x; first | (refine Touch.cut (s := x) ?_ (fun _ => ?_); rotate_left; clear_value x) | clear_value x)
    | split

end Sys2Proof.Machine
end

