-- ==== Sys2Proof/Laws/TouchCalls.lean ====
section
/-!
SUPPORT. What the definitions of Machine/Calls.lean touch.
-/

set_option Elab.async false
set_option linter.all false

namespace Sys2Proof.Machine

theorem State.withCalls_touch {M : Nat} {s₀ s : State} {a1} (m : Sub 0x1000000 M) (h : Touch M s₀ s) :
    Touch M s₀ (State.withCalls s a1) := by
  unfold State.withCalls
  repeat' with_reducible first
    | assumption | refine State.withCall_touch (m.bit rfl) ?_ | unfold x
    | (extract_lets +onlyGivenNames x; first | (refine Touch.cut (s := x) ?_ (fun _ => ?_); rotate_left; clear_value x) | clear_value x)

theorem State.setCallOf_touch {M : Nat} {s₀ s : State} {a1} (m : Sub 0x1000000 M) (h : Touch M s₀ s) :
    Touch M s₀ (State.setCallOf s a1) := by
  unfold State.setCallOf
  repeat' with_reducible first
    | assumption | refine State.withCalls_touch (m.trans rfl) ?_

theorem refreshUnits_touch {M : Nat} {s₀ s : State} (m : Sub 0x1000000800010 M) (h : Touch M s₀ s) :
    Touch M s₀ (refreshUnits s) := by
  unfold refreshUnits
  repeat' with_reducible first
    | assumption
    | refine put_page_touch (m.trans (by decide +kernel)) ?_ | refine put_ch_touch (m.trans (by decide +kernel)) ?_ | refine put_idx_touch (m.trans (by decide +kernel)) ?_ | refine put_host_touch (m.trans (by decide +kernel)) ?_ | refine put_pll_touch (m.trans (by decide +kernel)) ?_ | refine put_master_touch (m.trans (by decide +kernel)) ?_ | refine put_closed_touch (m.trans (by decide +kernel)) ?_ | refine State.put_touch (m.trans (by decide +kernel)) ?_ | refine put_any_touch (m.trans (by decide +kernel)) ?_
    | refine refreshDo_touch (m.trans rfl) ?_ | refine State.withOuts_touch (m.bit rfl) ?_
    | refine foldl_touch (fun _ _ _ => ?_) ?_ | unfold x
    | (extract_lets +onlyGivenNames x; first | (refine Touch.cut (s := x) ?_ (fun _ => ?_); rotate_left; clear_value x) | clear_value x)

theorem nameUnits_touch {M : Nat} {s₀ s : State} {a0 a1 a2} (m : Sub 0x1000001800010 M) (h : Touch M s₀ s) :
    Touch M s₀ (nameUnits a0 a1 a2 s) := by
  unfold nameUnits
  repeat' with_reducible first
    | assumption | refine State.withCall_touch (m.bit rfl) ?_ | refine refreshUnits_touch (m.trans rfl) ?_ | unfold x
    | (extract_lets +onlyGivenNames x; first | (refine Touch.cut (s := x) ?_ (fun _ => ?_); rotate_left; clear_value x) | clear_value x)

theorem driveCall_touch {M : Nat} {s₀ s : State} {a0} (m : Sub 0x1000000 M) (h : Touch M s₀ s) :
    Touch M s₀ (driveCall a0 s) := by
  unfold driveCall
  repeat' with_reducible first
    | assumption | refine State.setCallOf_touch (m.trans rfl) ?_ | refine Touch.ite_else ?_ (fun _ => ?_) | unfold x
    | (extract_lets +onlyGivenNames x; first | (refine Touch.cut (s := x) ?_ (fun _ => ?_); rotate_left; clear_value x) | clear_value x)
    | split

theorem sendCall_touch {M : Nat} {s₀ s : State} {a0} (m : Sub 0x7ffe001000101ac6210 M) (h : Touch M s₀ s) :
    Touch M s₀ (sendCall a0 s) := by
  unfold sendCall
  repeat' with_reducible first
    | assumption | refine driveCall_touch (m.trans rfl) ?_ | refine originateNew_touch (m.trans rfl) ?_
    | refine nameUnits_touch (m.trans rfl) ?_ | refine Touch.ite_else ?_ (fun _ => ?_) | unfold x
    | (extract_lets +onlyGivenNames x; first | (refine Touch.cut (s := x) ?_ (fun _ => ?_); rotate_left; clear_value x) | clear_value x)
    | split

theorem changeCall_touch {M : Nat} {s₀ s : State} {a0 a1 a2 a3} (m : Sub 0x7ffe001000101ac6210 M) (h : Touch M s₀ s) :
    Touch M s₀ (changeCall a0 a1 a2 a3 s) := by
  unfold changeCall
  repeat' with_reducible first
    | assumption | refine driveCall_touch (m.trans rfl) ?_ | refine nameUnits_touch (m.trans rfl) ?_
    | refine mark_touch (m.trans rfl) ?_ | refine emit_touch (m.trans rfl) ?_ | unfold x
    | (extract_lets +onlyGivenNames x; first | (refine Touch.cut (s := x) ?_ (fun _ => ?_); rotate_left; clear_value x) | clear_value x)

theorem dmEvent_touch {M : Nat} {s₀ s : State} {a0 a1 a2} (m : Sub 0x108000000100206210 M) (h : Touch M s₀ s) :
    Touch M s₀ (dmEvent a0 a1 a2 s) := by
  unfold dmEvent
  repeat' with_reducible first
    | assumption | refine emitLocal_touch (m.trans rfl) ?_ | refine mark_touch (m.trans rfl) ?_

theorem logUnreachable_touch {M : Nat} {s₀ s : State} {a0} (m : Sub 0x108000000101206210 M) (h : Touch M s₀ s) :
    Touch M s₀ (logUnreachable a0 s) := by
  unfold logUnreachable
  repeat' with_reducible first
    | assumption | refine raise_touch (m.trans rfl) ?_ | refine State.setCallOf_touch (m.trans rfl) ?_
    | refine foldl_touch (fun _ _ _ => ?_) ?_ | unfold x
    | (extract_lets +onlyGivenNames x; first | (refine Touch.cut (s := x) ?_ (fun _ => ?_); rotate_left; clear_value x) | clear_value x)
    | split

theorem enterStage_touch {M : Nat} {s₀ s : State} {k g b a n} (m : Sub 0x7ffe001000101ac6210 M) (h : Touch M s₀ s) : Touch M s₀ (enterStage k g b a n s) := by
  induction n generalizing g b s with
  | zero => exact h
  | succ n ih =>
    unfold enterStage
    extract_lets old c x
    have hx : Touch M s₀ x := logUnreachable_touch (m.trans rfl) (changeCall_touch (m.trans rfl) (State.setCallOf_touch (m.trans rfl) h))
    split
    · exact ih (record_touch (m.trans rfl) hx)
    · split
      · exact ih hx
      · exact hx

theorem resendCall_touch {M : Nat} {s₀ s : State} {a0} (m : Sub 0x7ffe001000101ac6210 M) (h : Touch M s₀ s) :
    Touch M s₀ (resendCall a0 s) := by
  unfold resendCall
  repeat' with_reducible first
    | assumption | refine enterStage_touch (m.trans rfl) ?_ | refine record_touch (m.trans rfl) ?_
    | refine sendCall_touch (m.trans rfl) ?_ | refine Touch.ite_else ?_ (fun _ => ?_) | split

theorem closeCall_touch {M : Nat} {s₀ s : State} {a0} (m : Sub 0x7ffe001000101ac6210 M) (h : Touch M s₀ s) :
    Touch M s₀ (closeCall a0 s) := by
  unfold closeCall
  repeat' with_reducible first
    | assumption | refine changeCall_touch (m.trans rfl) ?_ | refine State.withCalls_touch (m.trans rfl) ?_ | unfold x
    | (extract_lets +onlyGivenNames x; first | (refine Touch.cut (s := x) ?_ (fun _ => ?_); rotate_left; clear_value x) | clear_value x)
    | split

theorem followCall_touch {M : Nat} {s₀ s : State} {a0 a1 a2} (m : Sub 0x7ffe001000101ac6210 M) (h : Touch M s₀ s) :
    Touch M s₀ (followCall a0 a1 a2 s) := by
  unfold followCall
  repeat' with_reducible first
    | assumption | refine enterStage_touch (m.trans rfl) ?_ | refine closeCall_touch (m.trans rfl) ?_
    | refine sendCall_touch (m.trans rfl) ?_ | refine Touch.ite_else ?_ (fun _ => ?_) | split

theorem changeOccs_touch {M : Nat} {s₀ s : State} {f0 a1 a2} (m : Sub 0x7ffe001000101ac6210 M) (h : Touch M s₀ s) :
    Touch M s₀ (changeOccs f0 a1 a2 s) := by
  unfold changeOccs
  repeat' with_reducible first
    | assumption | refine State.withCall_touch (m.bit rfl) ?_ | refine followCall_touch (m.trans rfl) ?_
    | refine foldl_touch (fun _ _ _ => ?_) ?_ | unfold x
    | (extract_lets +onlyGivenNames x; first | (refine Touch.cut (s := x) ?_ (fun _ => ?_); rotate_left; clear_value x) | clear_value x)

theorem trackPoint_touch {M : Nat} {s₀ s : State} {a0 a1} (m : Sub 0x7ffe001000101ac6210 M) (h : Touch M s₀ s) :
    Touch M s₀ (trackPoint a0 a1 s) := by
  unfold trackPoint
  repeat' with_reducible first
    | assumption | refine changeOccs_touch (m.trans rfl) ?_ | refine Touch.ite_else ?_ (fun _ => ?_) | unfold x
    | (extract_lets +onlyGivenNames x; first | (refine Touch.cut (s := x) ?_ (fun _ => ?_); rotate_left; clear_value x) | clear_value x)
    | split

theorem trackDeadMan_touch {M : Nat} {s₀ s : State} {a0 a1 a2} (m : Sub 0x7ffe001000101ac6210 M) (h : Touch M s₀ s) :
    Touch M s₀ (trackDeadMan a0 a1 a2 s) := by
  unfold trackDeadMan
  repeat' with_reducible first
    | assumption | refine changeOccs_touch (m.trans rfl) ?_ | refine Touch.ite_else ?_ (fun _ => ?_) | split

theorem acceptAt_touch {M : Nat} {s₀ s : State} {a0} (m : Sub 0x7ffe001000101ac6210 M) (h : Touch M s₀ s) :
    Touch M s₀ (acceptAt a0 s) := by
  unfold acceptAt
  repeat' with_reducible first
    | assumption | refine State.setCallOf_touch (m.trans rfl) ?_ | refine changeCall_touch (m.trans rfl) ?_
    | refine foldl_touch (fun _ _ _ => ?_) ?_ | refine Touch.ite_else ?_ (fun _ => ?_) | unfold x
    | (extract_lets +onlyGivenNames x; first | (refine Touch.cut (s := x) ?_ (fun _ => ?_); rotate_left; clear_value x) | clear_value x)
    | split

theorem dmRestart_touch {M : Nat} {s₀ s : State} (m : Sub 0x1000000 M) (h : Touch M s₀ s) :
    Touch M s₀ (dmRestart s) := by
  unfold dmRestart
  repeat' with_reducible first
    | assumption | refine State.withCall_touch (m.bit rfl) ?_ | unfold x
    | (extract_lets +onlyGivenNames x; first | (refine Touch.cut (s := x) ?_ (fun _ => ?_); rotate_left; clear_value x) | clear_value x)

theorem dmSet_touch {M : Nat} {s₀ s : State} {a0} (m : Sub 0x7ffe021000101ac6210 M) (h : Touch M s₀ s) :
    Touch M s₀ (dmSet a0 s) := by
  unfold dmSet
  repeat' with_reducible first
    | assumption | refine originateNew_touch (m.trans rfl) ?_
    | refine put_page_touch (m.trans (by decide +kernel)) ?_ | refine put_ch_touch (m.trans (by decide +kernel)) ?_ | refine put_idx_touch (m.trans (by decide +kernel)) ?_ | refine put_host_touch (m.trans (by decide +kernel)) ?_ | refine put_pll_touch (m.trans (by decide +kernel)) ?_ | refine put_master_touch (m.trans (by decide +kernel)) ?_ | refine put_closed_touch (m.trans (by decide +kernel)) ?_ | refine State.put_touch (m.trans (by decide +kernel)) ?_ | refine put_any_touch (m.trans (by decide +kernel)) ?_
    | refine State.withCall_touch (m.bit rfl) ?_ | refine dmEvent_touch (m.trans rfl) ?_
    | refine refreshUnits_touch (m.trans rfl) ?_ | refine trackDeadMan_touch (m.trans rfl) ?_
    | refine Touch.ite_else ?_ (fun _ => ?_) | unfold x
    | (extract_lets +onlyGivenNames x; first | (refine Touch.cut (s := x) ?_ (fun _ => ?_); rotate_left; clear_value x) | clear_value x)
    | split

theorem dmReset_touch {M : Nat} {s₀ s : State} (m : Sub 0x7ffe021000101ac6210 M) (h : Touch M s₀ s) :
    Touch M s₀ (dmReset s) := by
  unfold dmReset
  repeat' with_reducible first
    | assumption | refine dmSet_touch (m.trans rfl) ?_ | refine dmRestart_touch (m.trans rfl) ?_
    | refine Touch.ite_else ?_ (fun _ => ?_) | split

theorem execDmOnInput_touch {M : Nat} {s₀ s : State} (m : Sub 0x7ffe021000101ac6210 M) (h : Touch M s₀ s) :
    OutTouch M s₀ (execDmOnInput s) := by
  unfold execDmOnInput
  repeat' with_reducible first
    | assumption | apply OutTouch.next | refine dmSet_touch (m.trans rfl) ?_ | refine dmRestart_touch (m.trans rfl) ?_
    | refine Touch.ite_else ?_ (fun _ => ?_) | split

theorem execDmResetInput_touch {M : Nat} {s₀ s : State} (m : Sub 0x7ffe021000101ac6210 M) (h : Touch M s₀ s) :
    OutTouch M s₀ (execDmResetInput s) := by
  unfold execDmResetInput
  repeat' with_reducible first
    | assumption | apply OutTouch.next | refine dmReset_touch (m.trans rfl) ?_
    | refine Touch.ite_else ?_ (fun _ => ?_) | split

theorem execDmOffInput_touch {M : Nat} {s₀ s : State} (m : Sub 0x7ffe021000101ac6210 M) (h : Touch M s₀ s) :
    OutTouch M s₀ (execDmOffInput s) := by
  unfold execDmOffInput
  repeat' with_reducible first
    | assumption | apply OutTouch.next | refine dmSet_touch (m.trans rfl) ?_ | refine Touch.ite_else ?_ (fun _ => ?_)
    | split

theorem execDmPrewarn_touch {M : Nat} {s₀ s : State} (m : Sub 0x7ffe021000101ac6210 M) (h : Touch M s₀ s) :
    OutTouch M s₀ (execDmPrewarn s) := by
  unfold execDmPrewarn
  repeat' with_reducible first
    | assumption | apply OutTouch.next | refine dmSet_touch (m.trans rfl) ?_ | refine Touch.ite_else ?_ (fun _ => ?_)
    | split

theorem execDmExpired_touch {M : Nat} {s₀ s : State} (m : Sub 0x7ffe021000101ac6210 M) (h : Touch M s₀ s) :
    OutTouch M s₀ (execDmExpired s) := by
  unfold execDmExpired
  repeat' with_reducible first
    | assumption | apply OutTouch.next | refine dmSet_touch (m.trans rfl) ?_ | refine Touch.ite_else ?_ (fun _ => ?_)
    | split

theorem dropOccs_touch {M : Nat} {s₀ s : State} {a0} (m : Sub 0x1000000 M) (h : Touch M s₀ s) :
    Touch M s₀ (dropOccs a0 s) := by
  unfold dropOccs
  repeat' with_reducible first
    | assumption | refine State.withCall_touch (m.bit rfl) ?_ | refine Touch.ite_else ?_ (fun _ => ?_) | unfold x
    | (extract_lets +onlyGivenNames x; first | (refine Touch.cut (s := x) ?_ (fun _ => ?_); rotate_left; clear_value x) | clear_value x)
    | split

theorem cancelCall_touch {M : Nat} {s₀ s : State} {a0 a1} (m : Sub 0x7ffe001000301ac6210 M) (h : Touch M s₀ s) :
    Touch M s₀ (cancelCall a0 a1 s) := by
  unfold cancelCall
  repeat' with_reducible first
    | assumption | refine record_touch (m.trans rfl) ?_ | refine dropOccs_touch (m.trans rfl) ?_
    | refine closeCall_touch (m.trans rfl) ?_ | refine accessFault_touch (m.trans rfl) ?_
    | refine Touch.ite_else ?_ (fun _ => ?_) | unfold x
    | (extract_lets +onlyGivenNames x; first | (refine Touch.cut (s := x) ?_ (fun _ => ?_); rotate_left; clear_value x) | clear_value x)
    | split

theorem actCallCmd_touch {M : Nat} {s₀ s : State} {a0 a1 a2} (m : Sub 0x7ffe021000301ac6210 M) (h : Touch M s₀ s) :
    Touch M s₀ (actCallCmd a0 a1 a2 s) := by
  unfold actCallCmd
  repeat' with_reducible first
    | assumption | refine cancelCall_touch (m.trans rfl) ?_ | refine dmSet_touch (m.trans rfl) ?_
    | refine accessFault_touch (m.trans rfl) ?_ | refine Touch.ite_else ?_ (fun _ => ?_) | split

theorem execCallCancel_touch {M : Nat} {s₀ s : State} {a0 a1} (m : Sub 0x7ffe021000301ac62f0 M) (h : Touch M s₀ s) :
    OutTouch M s₀ (execCallCancel a0 a1 s) := by
  unfold execCallCancel
  repeat' with_reducible first
    | assumption | apply OutTouch.next
    | refine hostWord_touch (m.trans (by decide +kernel)) (fun _ _ _ => ?_) ?_ | refine hostWord_any_touch (m.trans (by decide +kernel)) (fun _ _ _ => ?_) ?_
    | refine actCallCmd_touch (m.trans rfl) ?_ | unfold x
    | (extract_lets +onlyGivenNames x; first | (refine Touch.cut (s := x) ?_ (fun _ => ?_); rotate_left; clear_value x) | clear_value x)

theorem execDmDisarm_touch {M : Nat} {s₀ s : State} {a0} (m : Sub 0x7ffe021000301ac62f0 M) (h : Touch M s₀ s) :
    OutTouch M s₀ (execDmDisarm a0 s) := by
  unfold execDmDisarm
  repeat' with_reducible first
    | assumption | apply OutTouch.next
    | refine hostWord_touch (m.trans (by decide +kernel)) (fun _ _ _ => ?_) ?_ | refine hostWord_any_touch (m.trans (by decide +kernel)) (fun _ _ _ => ?_) ?_
    | refine actCallCmd_touch (m.trans rfl) ?_ | unfold x
    | (extract_lets +onlyGivenNames x; first | (refine Touch.cut (s := x) ?_ (fun _ => ?_); rotate_left; clear_value x) | clear_value x)

theorem stageExpiry_touch {M : Nat} {s₀ s : State} {a0} (m : Sub 0x7ffe001000101ac6210 M) (h : Touch M s₀ s) :
    Touch M s₀ (stageExpiry a0 s) := by
  unfold stageExpiry
  repeat' with_reducible first
    | assumption | refine enterStage_touch (m.trans rfl) ?_ | refine Touch.ite_else ?_ (fun _ => ?_) | split

theorem execStageTimerExpiry_touch {M : Nat} {s₀ s : State} {a0} (m : Sub 0x7ffe001000101ac6210 M) (h : Touch M s₀ s) :
    OutTouch M s₀ (execStageTimerExpiry a0 s) := by
  unfold execStageTimerExpiry
  repeat' with_reducible first
    | assumption | apply OutTouch.next | refine stageExpiry_touch (m.trans rfl) ?_

theorem attendExpiry_touch {M : Nat} {s₀ s : State} {a0} (m : Sub 0x7ffe001000101ac6210 M) (h : Touch M s₀ s) :
    Touch M s₀ (attendExpiry a0 s) := by
  unfold attendExpiry
  repeat' with_reducible first
    | assumption | refine enterStage_touch (m.trans rfl) ?_ | refine Touch.ite_else ?_ (fun _ => ?_) | split

theorem execAttendExpiry_touch {M : Nat} {s₀ s : State} {a0} (m : Sub 0x7ffe001000101ac6210 M) (h : Touch M s₀ s) :
    OutTouch M s₀ (execAttendExpiry a0 s) := by
  unfold execAttendExpiry
  repeat' with_reducible first
    | assumption | apply OutTouch.next | refine attendExpiry_touch (m.trans rfl) ?_

theorem callRefresh_touch {M : Nat} {s₀ s : State} (m : Sub 0x7ffe001000101ac6210 M) (h : Touch M s₀ s) :
    Touch M s₀ (callRefresh s) := by
  unfold callRefresh
  repeat' with_reducible first
    | assumption | refine raise_touch (m.trans rfl) ?_ | refine resendCall_touch (m.trans rfl) ?_
    | refine logUnreachable_touch (m.trans rfl) ?_ | refine foldl_touch (fun _ _ _ => ?_) ?_
    | refine Touch.ite_else ?_ (fun _ => ?_) | unfold x
    | (extract_lets +onlyGivenNames x; first | (refine Touch.cut (s := x) ?_ (fun _ => ?_); rotate_left; clear_value x) | clear_value x)
    | split

theorem execCallRefresh_touch {M : Nat} {s₀ s : State} (m : Sub 0x7ffe001000101ac6210 M) (h : Touch M s₀ s) :
    OutTouch M s₀ (execCallRefresh s) := by
  unfold execCallRefresh
  repeat' with_reducible first
    | assumption | apply OutTouch.next | refine callRefresh_touch (m.trans rfl) ?_

theorem sendUnits_touch {M : Nat} {s₀ s : State} (m : Sub 0x7ffe0000001002c6210 M) (h : Touch M s₀ s) :
    Touch M s₀ (sendUnits s) := by
  unfold sendUnits
  repeat' with_reducible first
    | assumption | refine originateNew_touch (m.trans rfl) ?_ | refine Touch.ite_else ?_ (fun _ => ?_) | split

theorem execUnitFrameTimer_touch {M : Nat} {s₀ s : State} (m : Sub 0x7ffe0000001002c6210 M) (h : Touch M s₀ s) :
    OutTouch M s₀ (execUnitFrameTimer s) := by
  unfold execUnitFrameTimer
  repeat' with_reducible first
    | assumption | apply OutTouch.next | refine sendUnits_touch (m.trans rfl) ?_

theorem unitTimeout_touch {M : Nat} {s₀ s : State} {a0} (m : Sub 0x1000001800010 M) (h : Touch M s₀ s) :
    Touch M s₀ (unitTimeout a0 s) := by
  unfold unitTimeout
  repeat' with_reducible first
    | assumption | refine State.withCall_touch (m.bit rfl) ?_ | refine refreshUnits_touch (m.trans rfl) ?_ | unfold x
    | (extract_lets +onlyGivenNames x; first | (refine Touch.cut (s := x) ?_ (fun _ => ?_); rotate_left; clear_value x) | clear_value x)

theorem execUnitTimeout_touch {M : Nat} {s₀ s : State} {a0} (m : Sub 0x1000001800010 M) (h : Touch M s₀ s) :
    OutTouch M s₀ (execUnitTimeout a0 s) := by
  unfold execUnitTimeout
  repeat' with_reducible first
    | assumption | apply OutTouch.next | exact OutTouch.fault | refine unitTimeout_touch (m.trans rfl) ?_
    | refine Touch.ite_else ?_ (fun _ => ?_) | split

theorem unitAccept_touch {M : Nat} {s₀ s : State} {a0} (m : Sub 0x7ffe021000101ac6210 M) (h : Touch M s₀ s) :
    Touch M s₀ (unitAccept a0 s) := by
  unfold unitAccept
  repeat' with_reducible first
    | assumption | refine originateNew_touch (m.trans rfl) ?_ | refine dmReset_touch (m.trans rfl) ?_
    | refine acceptAt_touch (m.trans rfl) ?_ | refine Touch.ite_else ?_ (fun _ => ?_) | unfold x
    | (extract_lets +onlyGivenNames x; first | (refine Touch.cut (s := x) ?_ (fun _ => ?_); rotate_left; clear_value x) | clear_value x)
    | split

theorem execUnitAcceptInput_touch {M : Nat} {s₀ s : State} {a0} (m : Sub 0x7ffe021000101ac6210 M) (h : Touch M s₀ s) :
    OutTouch M s₀ (execUnitAcceptInput a0 s) := by
  unfold execUnitAcceptInput
  repeat' with_reducible first
    | assumption | apply OutTouch.next | exact OutTouch.fault | refine unitAccept_touch (m.trans rfl) ?_
    | refine Touch.ite_else ?_ (fun _ => ?_) | split

theorem mergeCall_touch {M : Nat} {s₀ s : State} {a0 a1 a2} (m : Sub 0x7ffe001000101ac6210 M) (h : Touch M s₀ s) :
    Touch M s₀ (mergeCall a0 a1 a2 s) := by
  unfold mergeCall
  repeat' with_reducible first
    | assumption | refine enterStage_touch (m.trans rfl) ?_ | refine record_touch (m.trans rfl) ?_
    | refine State.setCallOf_touch (m.trans rfl) ?_ | refine resendCall_touch (m.trans rfl) ?_
    | refine changeCall_touch (m.trans rfl) ?_ | refine State.withCall_touch (m.bit rfl) ?_
    | refine Touch.ite_else ?_ (fun _ => ?_) | unfold x
    | (extract_lets +onlyGivenNames x; first | (refine Touch.cut (s := x) ?_ (fun _ => ?_); rotate_left; clear_value x) | clear_value x)
    | split

theorem callStateRx_touch {M : Nat} {s₀ s : State} {a0} (m : Sub 0x7ffe001000101ac6210 M) (h : Touch M s₀ s) :
    Touch M s₀ (callStateRx a0 s) := by
  unfold callStateRx
  repeat' with_reducible first
    | assumption | refine State.setCallOf_touch (m.trans rfl) ?_ | refine dropOccs_touch (m.trans rfl) ?_
    | refine nameUnits_touch (m.trans rfl) ?_ | refine mergeCall_touch (m.trans rfl) ?_
    | refine State.withCalls_touch (m.trans rfl) ?_ | refine Touch.ite_else ?_ (fun _ => ?_) | unfold x
    | (extract_lets +onlyGivenNames x; first | (refine Touch.cut (s := x) ?_ (fun _ => ?_); rotate_left; clear_value x) | clear_value x)
    | split

theorem callRx_touch {M : Nat} {s₀ s : State} {a0} (m : Sub 0x7ffe001000101ac6210 M) (h : Touch M s₀ s) :
    Touch M s₀ (callRx a0 s) := by
  unfold callRx
  repeat' with_reducible first
    | assumption | refine State.withCall_touch (m.bit rfl) ?_ | refine trackDeadMan_touch (m.trans rfl) ?_
    | refine acceptAt_touch (m.trans rfl) ?_ | refine callStateRx_touch (m.trans rfl) ?_
    | refine foldl_touch (fun _ _ _ => ?_) ?_ | unfold x
    | (extract_lets +onlyGivenNames x; first | (refine Touch.cut (s := x) ?_ (fun _ => ?_); rotate_left; clear_value x) | clear_value x)
    | split

theorem adoptOccs_touch {M : Nat} {s₀ s : State} (m : Sub 0x1000000 M) (h : Touch M s₀ s) :
    Touch M s₀ (adoptOccs s) := by
  unfold adoptOccs
  repeat' with_reducible first
    | assumption | refine State.withCall_touch (m.bit rfl) ?_ | refine Touch.ite_else ?_ (fun _ => ?_) | unfold x
    | (extract_lets +onlyGivenNames x; first | (refine Touch.cut (s := x) ?_ (fun _ => ?_); rotate_left; clear_value x) | clear_value x)
    | split

theorem reopenCalls_touch {M : Nat} {s₀ s : State} (m : Sub 0x7ffe001000101ac6210 M) (h : Touch M s₀ s) :
    Touch M s₀ (reopenCalls s) := by
  unfold reopenCalls
  repeat' with_reducible first
    | assumption | refine enterStage_touch (m.trans rfl) ?_ | refine foldl_touch (fun _ _ _ => ?_) ?_
    | refine Touch.ite_else ?_ (fun _ => ?_) | unfold x
    | (extract_lets +onlyGivenNames x; first | (refine Touch.cut (s := x) ?_ (fun _ => ?_); rotate_left; clear_value x) | clear_value x)
    | split

theorem becomeDuty_touch {M : Nat} {s₀ s : State} (m : Sub 0x7ffe021000101ac6210 M) (h : Touch M s₀ s) :
    Touch M s₀ (becomeDuty s) := by
  unfold becomeDuty
  repeat' with_reducible first
    | assumption | refine raise_touch (m.trans rfl) ?_
    | refine put_page_touch (m.trans (by decide +kernel)) ?_ | refine put_ch_touch (m.trans (by decide +kernel)) ?_ | refine put_idx_touch (m.trans (by decide +kernel)) ?_ | refine put_host_touch (m.trans (by decide +kernel)) ?_ | refine put_pll_touch (m.trans (by decide +kernel)) ?_ | refine put_master_touch (m.trans (by decide +kernel)) ?_ | refine put_closed_touch (m.trans (by decide +kernel)) ?_ | refine State.put_touch (m.trans (by decide +kernel)) ?_ | refine put_any_touch (m.trans (by decide +kernel)) ?_
    | refine callRefresh_touch (m.trans rfl) ?_ | refine State.withCalls_touch (m.trans rfl) ?_
    | refine adoptOccs_touch (m.trans rfl) ?_ | refine reopenCalls_touch (m.trans rfl) ?_ | unfold x
    | (extract_lets +onlyGivenNames x; first | (refine Touch.cut (s := x) ?_ (fun _ => ?_); rotate_left; clear_value x) | clear_value x)

theorem ceaseDuty_touch {M : Nat} {s₀ s : State} (m : Sub 0x108020000100206210 M) (h : Touch M s₀ s) :
    Touch M s₀ (ceaseDuty s) := by
  unfold ceaseDuty
  repeat' with_reducible first
    | assumption | refine raise_touch (m.trans rfl) ?_
    | refine put_page_touch (m.trans (by decide +kernel)) ?_ | refine put_ch_touch (m.trans (by decide +kernel)) ?_ | refine put_idx_touch (m.trans (by decide +kernel)) ?_ | refine put_host_touch (m.trans (by decide +kernel)) ?_ | refine put_pll_touch (m.trans (by decide +kernel)) ?_ | refine put_master_touch (m.trans (by decide +kernel)) ?_ | refine put_closed_touch (m.trans (by decide +kernel)) ?_ | refine State.put_touch (m.trans (by decide +kernel)) ?_ | refine put_any_touch (m.trans (by decide +kernel)) ?_

theorem callTaken_touch {M : Nat} {s₀ s : State} {a0 a1} (m : Sub 0x7ffe021000101ac6210 M) (h : Touch M s₀ s) :
    Touch M s₀ (callTaken a0 a1 s) := by
  unfold callTaken
  repeat' with_reducible first
    | assumption | refine sendUnits_touch (m.trans rfl) ?_ | refine resendCall_touch (m.trans rfl) ?_
    | refine dmSet_touch (m.trans rfl) ?_ | refine refreshUnits_touch (m.trans rfl) ?_
    | refine foldl_touch (fun _ _ _ => ?_) ?_ | refine Touch.ite_else ?_ (fun _ => ?_) | unfold x
    | (extract_lets +onlyGivenNames x; first | (refine Touch.cut (s := x) ?_ (fun _ => ?_); rotate_left; clear_value x) | clear_value x)
    | split

theorem callCommit_touch {M : Nat} {s₀ s : State} (m : Sub 0x7ffffffffff01ad6290 M) (h : Touch M s₀ s) :
    Touch M s₀ (callCommit s) := by
  unfold callCommit
  repeat' with_reducible first
    | assumption | refine callTaken_touch (m.trans rfl) ?_ | refine commitRefused_touch (m.trans rfl) ?_
    | refine commitTaken_touch (m.trans rfl) ?_ | refine Touch.ite_else ?_ (fun _ => ?_) | unfold x
    | (extract_lets +onlyGivenNames x; first | (refine Touch.cut (s := x) ?_ (fun _ => ?_); rotate_left; clear_value x) | clear_value x)
    | split

theorem callTick_touch {M : Nat} {s₀ s : State} (m : Sub 0x1000000800010 M) (h : Touch M s₀ s) :
    Touch M s₀ (callTick s) := by
  unfold callTick
  repeat' with_reducible first
    | assumption | refine refreshUnits_touch (m.trans rfl) ?_ | refine Touch.ite_else ?_ (fun _ => ?_) | split

end Sys2Proof.Machine
end

