-- ==== Sys2Proof/Laws/TouchFieldBus.lean ====
section
/-!
SUPPORT. What the definitions of Machine/FieldBus.lean touch.
-/

set_option Elab.async false
set_option linter.all false

namespace Sys2Proof.Machine

theorem State.setSeg_touch {M : Nat} {s₀ s : State} {a1 a2} (m : Sub 0x2000000 M) (h : Touch M s₀ s) :
    Touch M s₀ (State.setSeg s a1 a2) := by
  unfold State.setSeg
  repeat' with_reducible first
    | assumption | refine State.withSegs_touch (m.bit rfl) ?_

theorem putDesc3_touch {M : Nat} {s₀ s : State} {a0 a1 a2 a3 a4} (m : Sub 0x10000 M) (h : Touch M s₀ s) :
    Touch M s₀ (putDesc3 a0 a1 a2 a3 a4 s) := by
  unfold putDesc3
  repeat' with_reducible first
    | assumption | refine State.setWinWord_touch (m.trans rfl) ?_ | unfold x
    | (extract_lets +onlyGivenNames x; first | (refine Touch.cut (s := x) ?_ (fun _ => ?_); rotate_left; clear_value x) | clear_value x)

theorem staleBus_touch {M : Nat} {s₀ s : State} {a0} (m : Sub 0x8000 M) (h : Touch M s₀ s) :
    Touch M s₀ (staleBus a0 s) := by
  unfold staleBus
  repeat' with_reducible first
    | assumption | refine State.trigger_touch (m.trans rfl) ?_ | refine foldl_touch (fun _ _ _ => ?_) ?_

theorem stopMatrix_touch {M : Nat} {s₀ s : State} {a0} (m : Sub 0x7fff800000700000010 M) (h : Touch M s₀ s) :
    Touch M s₀ (stopMatrix a0 s) := by
  unfold stopMatrix
  repeat' with_reducible first
    | assumption
    | refine put_page_touch (m.trans (by decide +kernel)) ?_ | refine put_ch_touch (m.trans (by decide +kernel)) ?_ | refine put_idx_touch (m.trans (by decide +kernel)) ?_ | refine put_host_touch (m.trans (by decide +kernel)) ?_ | refine put_pll_touch (m.trans (by decide +kernel)) ?_ | refine put_master_touch (m.trans (by decide +kernel)) ?_ | refine put_closed_touch (m.trans (by decide +kernel)) ?_ | refine State.put_touch (m.trans (by decide +kernel)) ?_ | refine put_any_touch (m.trans (by decide +kernel)) ?_

theorem putRequests_touch {M : Nat} {s₀ s : State} {a0 a1} (m : Sub 0x7fffc00000000000010 M) (h : Touch M s₀ s) :
    Touch M s₀ (putRequests a0 a1 s) := by
  unfold putRequests
  repeat' with_reducible first
    | assumption
    | refine put_page_touch (m.trans (by decide +kernel)) ?_ | refine put_ch_touch (m.trans (by decide +kernel)) ?_ | refine put_idx_touch (m.trans (by decide +kernel)) ?_ | refine put_host_touch (m.trans (by decide +kernel)) ?_ | refine put_pll_touch (m.trans (by decide +kernel)) ?_ | refine put_master_touch (m.trans (by decide +kernel)) ?_ | refine put_closed_touch (m.trans (by decide +kernel)) ?_ | refine State.put_touch (m.trans (by decide +kernel)) ?_ | refine put_any_touch (m.trans (by decide +kernel)) ?_

theorem clearRequest_touch {M : Nat} {s₀ s : State} {a0 a1} (m : Sub 0x7fffc00000000000010 M) (h : Touch M s₀ s) :
    Touch M s₀ (clearRequest a0 a1 s) := by
  unfold clearRequest
  repeat' with_reducible first
    | assumption | refine putRequests_touch (m.trans rfl) ?_ | refine Touch.ite_else ?_ (fun _ => ?_) | unfold x
    | (extract_lets +onlyGivenNames x; first | (refine Touch.cut (s := x) ?_ (fun _ => ?_); rotate_left; clear_value x) | clear_value x)
    | split

theorem setDrop_touch {M : Nat} {s₀ s : State} {a0 a1} (m : Sub 0x7fffc00000000000010 M) (h : Touch M s₀ s) :
    Touch M s₀ (setDrop a0 a1 s) := by
  unfold setDrop
  repeat' with_reducible first
    | assumption
    | refine put_page_touch (m.trans (by decide +kernel)) ?_ | refine put_ch_touch (m.trans (by decide +kernel)) ?_ | refine put_idx_touch (m.trans (by decide +kernel)) ?_ | refine put_host_touch (m.trans (by decide +kernel)) ?_ | refine put_pll_touch (m.trans (by decide +kernel)) ?_ | refine put_master_touch (m.trans (by decide +kernel)) ?_ | refine put_closed_touch (m.trans (by decide +kernel)) ?_ | refine State.put_touch (m.trans (by decide +kernel)) ?_ | refine put_any_touch (m.trans (by decide +kernel)) ?_
    | refine Touch.ite_else ?_ (fun _ => ?_) | split

theorem clearDrop_touch {M : Nat} {s₀ s : State} {a0 a1} (m : Sub 0x7fffc00000000000010 M) (h : Touch M s₀ s) :
    Touch M s₀ (clearDrop a0 a1 s) := by
  unfold clearDrop
  repeat' with_reducible first
    | assumption
    | refine put_page_touch (m.trans (by decide +kernel)) ?_ | refine put_ch_touch (m.trans (by decide +kernel)) ?_ | refine put_idx_touch (m.trans (by decide +kernel)) ?_ | refine put_host_touch (m.trans (by decide +kernel)) ?_ | refine put_pll_touch (m.trans (by decide +kernel)) ?_ | refine put_master_touch (m.trans (by decide +kernel)) ?_ | refine put_closed_touch (m.trans (by decide +kernel)) ?_ | refine State.put_touch (m.trans (by decide +kernel)) ?_ | refine put_any_touch (m.trans (by decide +kernel)) ?_
    | refine Touch.ite_else ?_ (fun _ => ?_) | split

theorem txMissed_touch {M : Nat} {s₀ s : State} {a0} (m : Sub 0x108000000102206210 M) (h : Touch M s₀ s) :
    Touch M s₀ (txMissed a0 s) := by
  unfold txMissed
  repeat' with_reducible first
    | assumption | refine raise_touch (m.trans rfl) ?_ | refine State.setSeg_touch (m.trans rfl) ?_ | unfold x
    | (extract_lets +onlyGivenNames x; first | (refine Touch.cut (s := x) ?_ (fun _ => ?_); rotate_left; clear_value x) | clear_value x)
    | split

theorem fbStart_touch {M : Nat} {s₀ s : State} {a0} (m : Sub 0x108000000102246210 M) (h : Touch M s₀ s) :
    Touch M s₀ (fbStart a0 s) := by
  unfold fbStart
  repeat' with_reducible first
    | assumption | refine State.withOut_touch (m.bit rfl) ?_ | refine State.setSeg_touch (m.trans rfl) ?_
    | refine txMissed_touch (m.trans rfl) ?_ | refine Touch.ite_else ?_ (fun _ => ?_) | unfold x
    | (extract_lets +onlyGivenNames x; first | (refine Touch.cut (s := x) ?_ (fun _ => ?_); rotate_left; clear_value x) | clear_value x)
    | split

theorem passTime_touch {M : Nat} {s₀ s : State} {a0 a1} (m : Sub 0x2000001 M) (h : Touch M s₀ s) :
    Touch M s₀ (passTime a0 a1 s) := by
  unfold passTime
  repeat' with_reducible first
    | assumption | refine State.setSeg_touch (m.trans rfl) ?_ | refine State.draw_touch (m.trans rfl) ?_
    | refine Touch.ite_else ?_ (fun _ => ?_) | unfold x
    | (extract_lets +onlyGivenNames x; first | (refine Touch.cut (s := x) ?_ (fun _ => ?_); rotate_left; clear_value x) | clear_value x)
    | refine Touch.snd ?_ (by assumption) | split

theorem fbLater_touch {M : Nat} {s₀ s : State} {a0 a1} (m : Sub 0x108000000102246211 M) (h : Touch M s₀ s) :
    Touch M s₀ (fbLater a0 a1 s) := by
  unfold fbLater
  repeat' with_reducible first
    | assumption | refine passTime_touch (m.trans rfl) ?_ | refine fbStart_touch (m.trans rfl) ?_

theorem putCounters_touch {M : Nat} {s₀ s : State} {a0 a1 a2} (m : Sub 0x7fffc00000100206210 M) (h : Touch M s₀ s) :
    Touch M s₀ (putCounters a0 a1 a2 s) := by
  unfold putCounters
  repeat' with_reducible first
    | assumption | refine raise_touch (m.trans rfl) ?_
    | refine put_page_touch (m.trans (by decide +kernel)) ?_ | refine put_ch_touch (m.trans (by decide +kernel)) ?_ | refine put_idx_touch (m.trans (by decide +kernel)) ?_ | refine put_host_touch (m.trans (by decide +kernel)) ?_ | refine put_pll_touch (m.trans (by decide +kernel)) ?_ | refine put_master_touch (m.trans (by decide +kernel)) ?_ | refine put_closed_touch (m.trans (by decide +kernel)) ?_ | refine State.put_touch (m.trans (by decide +kernel)) ?_ | refine put_any_touch (m.trans (by decide +kernel)) ?_
    | refine State.putFlag_touch ?_ | refine Touch.ite_else ?_ (fun _ => ?_) | unfold x
    | (extract_lets +onlyGivenNames x; first | (refine Touch.cut (s := x) ?_ (fun _ => ?_); rotate_left; clear_value x) | clear_value x)
    | split

theorem returnKept_touch {M : Nat} {s₀ s : State} {a0} (m : Sub 0x7fffc00000102246211 M) (h : Touch M s₀ s) :
    Touch M s₀ (returnKept a0 s) := by
  unfold returnKept
  repeat' with_reducible first
    | assumption
    | refine put_page_touch (m.trans (by decide +kernel)) ?_ | refine put_ch_touch (m.trans (by decide +kernel)) ?_ | refine put_idx_touch (m.trans (by decide +kernel)) ?_ | refine put_host_touch (m.trans (by decide +kernel)) ?_ | refine put_pll_touch (m.trans (by decide +kernel)) ?_ | refine put_master_touch (m.trans (by decide +kernel)) ?_ | refine put_closed_touch (m.trans (by decide +kernel)) ?_ | refine State.put_touch (m.trans (by decide +kernel)) ?_ | refine put_any_touch (m.trans (by decide +kernel)) ?_
    | refine fbLater_touch (m.trans rfl) ?_

theorem putBuffer_touch {M : Nat} {s₀ s : State} {a0 a1 a2} (m : Sub 0x10000 M) (h : Touch M s₀ s) :
    Touch M s₀ (putBuffer a0 a1 a2 s) := by
  unfold putBuffer
  repeat' with_reducible first
    | assumption | refine State.setWinBytes_touch (m.trans rfl) ?_

theorem failover_touch {M : Nat} {s₀ s : State} {a0} (m : Sub 0x7fffc00000102256211 M) (h : Touch M s₀ s) :
    Touch M s₀ (failover a0 s) := by
  unfold failover
  repeat' with_reducible first
    | assumption | refine raise_touch (m.trans rfl) ?_ | refine setDrop_touch (m.trans rfl) ?_
    | refine put_page_touch (m.trans (by decide +kernel)) ?_ | refine put_ch_touch (m.trans (by decide +kernel)) ?_ | refine put_idx_touch (m.trans (by decide +kernel)) ?_ | refine put_host_touch (m.trans (by decide +kernel)) ?_ | refine put_pll_touch (m.trans (by decide +kernel)) ?_ | refine put_master_touch (m.trans (by decide +kernel)) ?_ | refine put_closed_touch (m.trans (by decide +kernel)) ?_ | refine State.put_touch (m.trans (by decide +kernel)) ?_ | refine put_any_touch (m.trans (by decide +kernel)) ?_
    | refine putBuffer_touch (m.trans rfl) ?_ | refine State.setSeg_touch (m.trans rfl) ?_
    | refine fbLater_touch (m.trans rfl) ?_ | refine returnKept_touch (m.trans rfl) ?_
    | refine putRequests_touch (m.trans rfl) ?_ | refine foldl_touch (fun _ _ _ => ?_) ?_
    | refine Touch.ite_else ?_ (fun _ => ?_) | unfold x
    | (extract_lets +onlyGivenNames x; first | (refine Touch.cut (s := x) ?_ (fun _ => ?_); rotate_left; clear_value x) | clear_value x)
    | split

theorem busOff_touch {M : Nat} {s₀ s : State} {a0} (m : Sub 0x7fffc0000070225e211 M) (h : Touch M s₀ s) :
    Touch M s₀ (busOff a0 s) := by
  unfold busOff
  repeat' with_reducible first
    | assumption | refine raise_touch (m.trans rfl) ?_ | refine setDrop_touch (m.trans rfl) ?_
    | refine put_page_touch (m.trans (by decide +kernel)) ?_ | refine put_ch_touch (m.trans (by decide +kernel)) ?_ | refine put_idx_touch (m.trans (by decide +kernel)) ?_ | refine put_host_touch (m.trans (by decide +kernel)) ?_ | refine put_pll_touch (m.trans (by decide +kernel)) ?_ | refine put_master_touch (m.trans (by decide +kernel)) ?_ | refine put_closed_touch (m.trans (by decide +kernel)) ?_ | refine State.put_touch (m.trans (by decide +kernel)) ?_ | refine put_any_touch (m.trans (by decide +kernel)) ?_
    | refine State.setSeg_touch (m.trans rfl) ?_ | refine stopMatrix_touch (m.trans rfl) ?_
    | refine State.bumpSat_touch ?_ | refine returnKept_touch (m.trans rfl) ?_
    | refine staleBus_touch (m.trans rfl) ?_ | refine clearRequest_touch (m.trans rfl) ?_
    | refine failover_touch (m.trans rfl) ?_ | refine foldl_touch (fun _ _ _ => ?_) ?_
    | refine Touch.ite_else ?_ (fun _ => ?_) | unfold x
    | (extract_lets +onlyGivenNames x; first | (refine Touch.cut (s := x) ?_ (fun _ => ?_); rotate_left; clear_value x) | clear_value x)
    | split

theorem extractAll_touch {M : Nat} {s₀ s : State} {a0 a1 a2} (m : Sub 0x8000 M) (h : Touch M s₀ s) :
    Touch M s₀ (extractAll a0 a1 a2 s) := by
  unfold extractAll
  repeat' with_reducible first
    | assumption | refine State.trigger_touch (m.trans rfl) ?_ | refine foldl_touch (fun _ _ _ => ?_) ?_ | split

theorem putRxNew_touch {M : Nat} {s₀ s : State} {a0 a1 a2} (m : Sub 0x7ffffffffff00000010 M) (h : Touch M s₀ s) :
    Touch M s₀ (putRxNew a0 a1 a2 s) := by
  unfold putRxNew
  repeat' with_reducible first
    | assumption
    | refine put_page_touch (m.trans (by decide +kernel)) ?_ | refine put_ch_touch (m.trans (by decide +kernel)) ?_ | refine put_idx_touch (m.trans (by decide +kernel)) ?_ | refine put_host_touch (m.trans (by decide +kernel)) ?_ | refine put_pll_touch (m.trans (by decide +kernel)) ?_ | refine put_master_touch (m.trans (by decide +kernel)) ?_ | refine put_closed_touch (m.trans (by decide +kernel)) ?_ | refine State.put_touch (m.trans (by decide +kernel)) ?_ | refine put_any_touch (m.trans (by decide +kernel)) ?_
    | refine Touch.ite_else ?_ (fun _ => ?_) | unfold x
    | (extract_lets +onlyGivenNames x; first | (refine Touch.cut (s := x) ?_ (fun _ => ?_); rotate_left; clear_value x) | clear_value x)
    | split

theorem takeFrame_touch {M : Nat} {s₀ s : State} {a0 a1 a2} (m : Sub 0x7ffffffffff02216210 M) (h : Touch M s₀ s) :
    Touch M s₀ (takeFrame a0 a1 a2 s) := by
  unfold takeFrame
  repeat' with_reducible first
    | assumption | refine putDesc3_touch (m.trans rfl) ?_ | refine putRxNew_touch (m.trans rfl) ?_
    | refine raise_touch (m.trans rfl) ?_ | refine putBuffer_touch (m.trans rfl) ?_
    | refine State.setSeg_touch (m.trans rfl) ?_ | refine Touch.ite_else ?_ (fun _ => ?_) | unfold x
    | (extract_lets +onlyGivenNames x; first | (refine Touch.cut (s := x) ?_ (fun _ => ?_); rotate_left; clear_value x) | clear_value x)
    | split

theorem acceptFrame_touch {M : Nat} {s₀ s : State} {a0 a1} (m : Sub 0x7ffffffffff0221e210 M) (h : Touch M s₀ s) :
    Touch M s₀ (acceptFrame a0 a1 s) := by
  unfold acceptFrame
  repeat' with_reducible first
    | assumption | refine takeFrame_touch (m.trans rfl) ?_ | refine State.bumpSat_touch ?_
    | refine extractAll_touch (m.trans rfl) ?_
    | refine put_page_touch (m.trans (by decide +kernel)) ?_ | refine put_ch_touch (m.trans (by decide +kernel)) ?_ | refine put_idx_touch (m.trans (by decide +kernel)) ?_ | refine put_host_touch (m.trans (by decide +kernel)) ?_ | refine put_pll_touch (m.trans (by decide +kernel)) ?_ | refine put_master_touch (m.trans (by decide +kernel)) ?_ | refine put_closed_touch (m.trans (by decide +kernel)) ?_ | refine State.put_touch (m.trans (by decide +kernel)) ?_ | refine put_any_touch (m.trans (by decide +kernel)) ?_
    | split

theorem recAfterFrame_touch {M : Nat} {s₀ s : State} {a0} (m : Sub 0x7fffc00000100206211 M) (h : Touch M s₀ s) :
    Touch M s₀ (recAfterFrame a0 s) := by
  unfold recAfterFrame
  repeat' with_reducible first
    | assumption | refine putCounters_touch (m.trans rfl) ?_ | refine State.draw_touch (m.trans rfl) ?_
    | refine Touch.ite_else ?_ (fun _ => ?_) | unfold x
    | (extract_lets +onlyGivenNames x; first | (refine Touch.cut (s := x) ?_ (fun _ => ?_); rotate_left; clear_value x) | clear_value x)
    | refine Touch.snd ?_ (by assumption) | split

theorem slotBegin_touch {M : Nat} {s₀ s : State} {a0} (m : Sub 0x108000000102246210 M) (h : Touch M s₀ s) :
    Touch M s₀ (slotBegin a0 s) := by
  unfold slotBegin
  repeat' with_reducible first
    | assumption | refine State.setSeg_touch (m.trans rfl) ?_ | refine fbStart_touch (m.trans rfl) ?_ | unfold x
    | (extract_lets +onlyGivenNames x; first | (refine Touch.cut (s := x) ?_ (fun _ => ?_); rotate_left; clear_value x) | clear_value x)

theorem slotOver_touch {M : Nat} {s₀ s : State} {a0} (m : Sub 0x108000000102206210 M) (h : Touch M s₀ s) :
    Touch M s₀ (slotOver a0 s) := by
  unfold slotOver
  repeat' with_reducible first
    | assumption | refine txMissed_touch (m.trans rfl) ?_ | refine Touch.ite_else ?_ (fun _ => ?_) | unfold x
    | (extract_lets +onlyGivenNames x; first | (refine Touch.cut (s := x) ?_ (fun _ => ?_); rotate_left; clear_value x) | clear_value x)
    | split

theorem startMatrix_touch {M : Nat} {s₀ s : State} {a0} (m : Sub 0x7fff800000702246210 M) (h : Touch M s₀ s) :
    Touch M s₀ (startMatrix a0 s) := by
  unfold startMatrix
  repeat' with_reducible first
    | assumption | refine raise_touch (m.trans rfl) ?_
    | refine put_page_touch (m.trans (by decide +kernel)) ?_ | refine put_ch_touch (m.trans (by decide +kernel)) ?_ | refine put_idx_touch (m.trans (by decide +kernel)) ?_ | refine put_host_touch (m.trans (by decide +kernel)) ?_ | refine put_pll_touch (m.trans (by decide +kernel)) ?_ | refine put_master_touch (m.trans (by decide +kernel)) ?_ | refine put_closed_touch (m.trans (by decide +kernel)) ?_ | refine State.put_touch (m.trans (by decide +kernel)) ?_ | refine put_any_touch (m.trans (by decide +kernel)) ?_
    | refine slotBegin_touch (m.trans rfl) ?_ | refine State.setSeg_touch (m.trans rfl) ?_
    | refine stopMatrix_touch (m.trans rfl) ?_ | refine fbStart_touch (m.trans rfl) ?_
    | refine Touch.ite_else ?_ (fun _ => ?_) | unfold x
    | (extract_lets +onlyGivenNames x; first | (refine Touch.cut (s := x) ?_ (fun _ => ?_); rotate_left; clear_value x) | clear_value x)
    | split

theorem takesPart_touch {M : Nat} {s₀ s : State} {a0 a1} (m : Sub 0x7fff800000702246211 M) (h : Touch M s₀ s) :
    Touch M s₀ (takesPart a0 a1 s) := by
  unfold takesPart
  repeat' with_reducible first
    | assumption | refine fbLater_touch (m.trans rfl) ?_ | refine startMatrix_touch (m.trans rfl) ?_
    | refine Touch.ite_else ?_ (fun _ => ?_) | split

theorem goAsleep_touch {M : Nat} {s₀ s : State} {a0} (m : Sub 0x7fffc00000700008010 M) (h : Touch M s₀ s) :
    Touch M s₀ (goAsleep a0 s) := by
  unfold goAsleep
  repeat' with_reducible first
    | assumption
    | refine put_page_touch (m.trans (by decide +kernel)) ?_ | refine put_ch_touch (m.trans (by decide +kernel)) ?_ | refine put_idx_touch (m.trans (by decide +kernel)) ?_ | refine put_host_touch (m.trans (by decide +kernel)) ?_ | refine put_pll_touch (m.trans (by decide +kernel)) ?_ | refine put_master_touch (m.trans (by decide +kernel)) ?_ | refine put_closed_touch (m.trans (by decide +kernel)) ?_ | refine State.put_touch (m.trans (by decide +kernel)) ?_ | refine put_any_touch (m.trans (by decide +kernel)) ?_
    | refine stopMatrix_touch (m.trans rfl) ?_ | refine staleBus_touch (m.trans rfl) ?_

theorem fbJoin_touch {M : Nat} {s₀ s : State} {a0} (m : Sub 0x7fffc00000702008010 M) (h : Touch M s₀ s) :
    Touch M s₀ (fbJoin a0 s) := by
  unfold fbJoin
  repeat' with_reducible first
    | assumption | refine goAsleep_touch (m.trans rfl) ?_
    | refine put_page_touch (m.trans (by decide +kernel)) ?_ | refine put_ch_touch (m.trans (by decide +kernel)) ?_ | refine put_idx_touch (m.trans (by decide +kernel)) ?_ | refine put_host_touch (m.trans (by decide +kernel)) ?_ | refine put_pll_touch (m.trans (by decide +kernel)) ?_ | refine put_master_touch (m.trans (by decide +kernel)) ?_ | refine put_closed_touch (m.trans (by decide +kernel)) ?_ | refine State.put_touch (m.trans (by decide +kernel)) ?_ | refine put_any_touch (m.trans (by decide +kernel)) ?_
    | refine State.setSeg_touch (m.trans rfl) ?_ | refine Touch.ite_else ?_ (fun _ => ?_) | unfold x
    | (extract_lets +onlyGivenNames x; first | (refine Touch.cut (s := x) ?_ (fun _ => ?_); rotate_left; clear_value x) | clear_value x)
    | split

theorem wakeSeg_touch {M : Nat} {s₀ s : State} {a0} (m : Sub 0x7fffc00000702008010 M) (h : Touch M s₀ s) :
    Touch M s₀ (wakeSeg a0 s) := by
  unfold wakeSeg
  repeat' with_reducible first
    | assumption | refine fbJoin_touch (m.trans rfl) ?_
    | refine put_page_touch (m.trans (by decide +kernel)) ?_ | refine put_ch_touch (m.trans (by decide +kernel)) ?_ | refine put_idx_touch (m.trans (by decide +kernel)) ?_ | refine put_host_touch (m.trans (by decide +kernel)) ?_ | refine put_pll_touch (m.trans (by decide +kernel)) ?_ | refine put_master_touch (m.trans (by decide +kernel)) ?_ | refine put_closed_touch (m.trans (by decide +kernel)) ?_ | refine State.put_touch (m.trans (by decide +kernel)) ?_ | refine put_any_touch (m.trans (by decide +kernel)) ?_

theorem sleepFollow_touch {M : Nat} {s₀ s : State} {a0 a1} (m : Sub 0x7fffc00000702008010 M) (h : Touch M s₀ s) :
    Touch M s₀ (sleepFollow a0 a1 s) := by
  unfold sleepFollow
  repeat' with_reducible first
    | assumption | refine goAsleep_touch (m.trans rfl) ?_ | refine wakeSeg_touch (m.trans rfl) ?_
    | refine Touch.ite_else ?_ (fun _ => ?_) | unfold x
    | (extract_lets +onlyGivenNames x; first | (refine Touch.cut (s := x) ?_ (fun _ => ?_); rotate_left; clear_value x) | clear_value x)
    | split

theorem sailTake_touch {M : Nat} {s₀ s : State} {a0} (m : Sub 0x7ffffffffff02256290 M) (h : Touch M s₀ s) :
    Touch M s₀ (sailTake a0 s) := by
  unfold sailTake
  repeat' with_reducible first
    | assumption | refine State.setSeg_touch (m.trans rfl) ?_ | refine stopMatrix_touch (m.trans rfl) ?_
    | refine startMatrix_touch (m.trans rfl) ?_ | refine State.takeStaged_touch (m.trans rfl) ?_
    | refine Touch.ite_else ?_ (fun _ => ?_) | unfold x
    | (extract_lets +onlyGivenNames x; first | (refine Touch.cut (s := x) ?_ (fun _ => ?_); rotate_left; clear_value x) | clear_value x)
    | split

theorem sailCommitAt_touch {M : Nat} {s₀ s : State} {a0} (m : Sub 0x7ffffffffff02256290 M) (h : Touch M s₀ s) :
    Touch M s₀ (sailCommitAt a0 s) := by
  unfold sailCommitAt
  repeat' with_reducible first
    | assumption | refine raise_touch (m.trans rfl) ?_ | refine sailTake_touch (m.trans rfl) ?_
    | refine put_page_touch (m.trans (by decide +kernel)) ?_ | refine put_ch_touch (m.trans (by decide +kernel)) ?_ | refine put_idx_touch (m.trans (by decide +kernel)) ?_ | refine put_host_touch (m.trans (by decide +kernel)) ?_ | refine put_pll_touch (m.trans (by decide +kernel)) ?_ | refine put_master_touch (m.trans (by decide +kernel)) ?_ | refine put_closed_touch (m.trans (by decide +kernel)) ?_ | refine State.put_touch (m.trans (by decide +kernel)) ?_ | refine put_any_touch (m.trans (by decide +kernel)) ?_
    | refine commitRefused_touch (m.trans rfl) ?_ | refine State.setSeg_touch (m.trans rfl) ?_
    | refine commitTaken_touch (m.trans rfl) ?_ | refine foldl_touch (fun _ _ _ => ?_) ?_
    | refine Touch.ite_else ?_ (fun _ => ?_) | unfold x
    | (extract_lets +onlyGivenNames x; first | (refine Touch.cut (s := x) ?_ (fun _ => ?_); rotate_left; clear_value x) | clear_value x)
    | split

theorem detectOver_touch {M : Nat} {s₀ s : State} {a0} (m : Sub 0x7fffc00000002000010 M) (h : Touch M s₀ s) :
    Touch M s₀ (detectOver a0 s) := by
  unfold detectOver
  repeat' with_reducible first
    | assumption
    | refine put_page_touch (m.trans (by decide +kernel)) ?_ | refine put_ch_touch (m.trans (by decide +kernel)) ?_ | refine put_idx_touch (m.trans (by decide +kernel)) ?_ | refine put_host_touch (m.trans (by decide +kernel)) ?_ | refine put_pll_touch (m.trans (by decide +kernel)) ?_ | refine put_master_touch (m.trans (by decide +kernel)) ?_ | refine put_closed_touch (m.trans (by decide +kernel)) ?_ | refine State.put_touch (m.trans (by decide +kernel)) ?_ | refine put_any_touch (m.trans (by decide +kernel)) ?_
    | refine State.setSeg_touch (m.trans rfl) ?_ | unfold x
    | (extract_lets +onlyGivenNames x; first | (refine Touch.cut (s := x) ?_ (fun _ => ?_); rotate_left; clear_value x) | clear_value x)

theorem detectFail_touch {M : Nat} {s₀ s : State} {a0} (m : Sub 0x7fffc00000102206210 M) (h : Touch M s₀ s) :
    Touch M s₀ (detectFail a0 s) := by
  unfold detectFail
  repeat' with_reducible first
    | assumption | refine raise_touch (m.trans rfl) ?_
    | refine put_page_touch (m.trans (by decide +kernel)) ?_ | refine put_ch_touch (m.trans (by decide +kernel)) ?_ | refine put_idx_touch (m.trans (by decide +kernel)) ?_ | refine put_host_touch (m.trans (by decide +kernel)) ?_ | refine put_pll_touch (m.trans (by decide +kernel)) ?_ | refine put_master_touch (m.trans (by decide +kernel)) ?_ | refine put_closed_touch (m.trans (by decide +kernel)) ?_ | refine State.put_touch (m.trans (by decide +kernel)) ?_ | refine put_any_touch (m.trans (by decide +kernel)) ?_
    | refine detectOver_touch (m.trans rfl) ?_

theorem detectAbandon_touch {M : Nat} {s₀ s : State} {a0} (m : Sub 0x7fffc00000102206210 M) (h : Touch M s₀ s) :
    Touch M s₀ (detectAbandon a0 s) := by
  unfold detectAbandon
  repeat' with_reducible first
    | assumption | refine detectFail_touch (m.trans rfl) ?_ | refine Touch.ite_else ?_ (fun _ => ?_) | split

theorem requestAll_touch {M : Nat} {s₀ s : State} {a0 a1} (m : Sub 0x7fffc00000000000010 M) (h : Touch M s₀ s) :
    Touch M s₀ (requestAll a0 a1 s) := by
  unfold requestAll
  repeat' with_reducible first
    | assumption | refine clearDrop_touch (m.trans rfl) ?_ | refine putRequests_touch (m.trans rfl) ?_
    | refine foldl_touch (fun _ _ _ => ?_) ?_

theorem withoutRequests_touch {M : Nat} {s₀ s : State} {a0} (m : Sub 0x80 M) (h : Touch M s₀ s) :
    Touch M s₀ (withoutRequests a0 s) := by
  unfold withoutRequests
  repeat' with_reducible first
    | assumption | refine State.withStaged_touch (m.bit rfl) ?_

theorem fbTake_touch {M : Nat} {s₀ s : State} {a0} (m : Sub 0x7ffffffffff0221e290 M) (h : Touch M s₀ s) :
    Touch M s₀ (fbTake a0 s) := by
  unfold fbTake
  repeat' with_reducible first
    | assumption | refine sleepFollow_touch (m.trans rfl) ?_ | refine withoutRequests_touch (m.trans rfl) ?_
    | refine requestAll_touch (m.trans rfl) ?_
    | refine put_page_touch (m.trans (by decide +kernel)) ?_ | refine put_ch_touch (m.trans (by decide +kernel)) ?_ | refine put_idx_touch (m.trans (by decide +kernel)) ?_ | refine put_host_touch (m.trans (by decide +kernel)) ?_ | refine put_pll_touch (m.trans (by decide +kernel)) ?_ | refine put_master_touch (m.trans (by decide +kernel)) ?_ | refine put_closed_touch (m.trans (by decide +kernel)) ?_ | refine State.put_touch (m.trans (by decide +kernel)) ?_ | refine put_any_touch (m.trans (by decide +kernel)) ?_
    | refine commitRefused_touch (m.trans rfl) ?_ | refine commitTaken_touch (m.trans rfl) ?_
    | refine detectAbandon_touch (m.trans rfl) ?_ | refine Touch.ite_else ?_ (fun _ => ?_) | unfold x
    | (extract_lets +onlyGivenNames x; first | (refine Touch.cut (s := x) ?_ (fun _ => ?_); rotate_left; clear_value x) | clear_value x)
    | split

theorem fbCommit_touch {M : Nat} {s₀ s : State} {a0} (m : Sub 0x7ffffffffff0225e291 M) (h : Touch M s₀ s) :
    Touch M s₀ (fbCommit a0 s) := by
  unfold fbCommit
  repeat' with_reducible first
    | assumption | refine fbLater_touch (m.trans rfl) ?_ | refine fbTake_touch (m.trans rfl) ?_
    | refine Touch.ite_else ?_ (fun _ => ?_) | split

theorem fbIdle_touch {M : Nat} {s₀ s : State} {a0} (m : Sub 0x7ffffffffff0225e290 M) (h : Touch M s₀ s) :
    Touch M s₀ (fbIdle a0 s) := by
  unfold fbIdle
  repeat' with_reducible first
    | assumption | refine sailCommitAt_touch (m.trans rfl) ?_ | refine fbTake_touch (m.trans rfl) ?_
    | refine Touch.ite_else ?_ (fun _ => ?_) | unfold x
    | (extract_lets +onlyGivenNames x; first | (refine Touch.cut (s := x) ?_ (fun _ => ?_); rotate_left; clear_value x) | clear_value x)
    | split

theorem afterIdle_touch {M : Nat} {s₀ s : State} {a0} (m : Sub 0x7fffc0000070224e210 M) (h : Touch M s₀ s) :
    Touch M s₀ (afterIdle a0 s) := by
  unfold afterIdle
  repeat' with_reducible first
    | assumption | refine goAsleep_touch (m.trans rfl) ?_ | refine fbStart_touch (m.trans rfl) ?_
    | refine Touch.ite_else ?_ (fun _ => ?_) | split

theorem detectNext_touch {M : Nat} {s₀ s : State} {a0} (m : Sub 0x7fffc00000102206210 M) (h : Touch M s₀ s) :
    Touch M s₀ (detectNext a0 s) := by
  unfold detectNext
  repeat' with_reducible first
    | assumption | refine detectFail_touch (m.trans rfl) ?_
    | refine put_page_touch (m.trans (by decide +kernel)) ?_ | refine put_ch_touch (m.trans (by decide +kernel)) ?_ | refine put_idx_touch (m.trans (by decide +kernel)) ?_ | refine put_host_touch (m.trans (by decide +kernel)) ?_ | refine put_pll_touch (m.trans (by decide +kernel)) ?_ | refine put_master_touch (m.trans (by decide +kernel)) ?_ | refine put_closed_touch (m.trans (by decide +kernel)) ?_ | refine State.put_touch (m.trans (by decide +kernel)) ?_ | refine put_any_touch (m.trans (by decide +kernel)) ?_
    | refine State.setSeg_touch (m.trans rfl) ?_ | refine Touch.ite_else ?_ (fun _ => ?_) | unfold x
    | (extract_lets +onlyGivenNames x; first | (refine Touch.cut (s := x) ?_ (fun _ => ?_); rotate_left; clear_value x) | clear_value x)
    | split

theorem detectDone_touch {M : Nat} {s₀ s : State} {a0 a1 a2} (m : Sub 0x7ffffffffff02246211 M) (h : Touch M s₀ s) :
    Touch M s₀ (detectDone a0 a1 a2 s) := by
  unfold detectDone
  repeat' with_reducible first
    | assumption | refine raise_touch (m.trans rfl) ?_
    | refine put_page_touch (m.trans (by decide +kernel)) ?_ | refine put_ch_touch (m.trans (by decide +kernel)) ?_ | refine put_idx_touch (m.trans (by decide +kernel)) ?_ | refine put_host_touch (m.trans (by decide +kernel)) ?_ | refine put_pll_touch (m.trans (by decide +kernel)) ?_ | refine put_master_touch (m.trans (by decide +kernel)) ?_ | refine put_closed_touch (m.trans (by decide +kernel)) ?_ | refine State.put_touch (m.trans (by decide +kernel)) ?_ | refine put_any_touch (m.trans (by decide +kernel)) ?_
    | refine takesPart_touch (m.trans rfl) ?_ | refine State.putFlag_touch ?_
    | refine detectOver_touch (m.trans rfl) ?_
    | refine setReg_fld_touch (m.trans (by decide +kernel)) ?_ | refine State.setReg_touch (m.trans (by decide +kernel)) ?_ | refine setReg_any_touch (m.trans (by decide +kernel)) ?_
    | unfold x
    | (extract_lets +onlyGivenNames x; first | (refine Touch.cut (s := x) ?_ (fun _ => ?_); rotate_left; clear_value x) | clear_value x)

theorem detectFrame_touch {M : Nat} {s₀ s : State} {a0 a1} (m : Sub 0x7ffffffffff02246211 M) (h : Touch M s₀ s) :
    Touch M s₀ (detectFrame a0 a1 s) := by
  unfold detectFrame
  repeat' with_reducible first
    | assumption | refine detectDone_touch (m.trans rfl) ?_ | refine State.setSeg_touch (m.trans rfl) ?_
    | refine Touch.ite_else ?_ (fun _ => ?_) | unfold x
    | (extract_lets +onlyGivenNames x; first | (refine Touch.cut (s := x) ?_ (fun _ => ?_); rotate_left; clear_value x) | clear_value x)
    | split

theorem canReceived_touch {M : Nat} {s₀ s : State} {a0 a1} (m : Sub 0x7ffffffffff0225e211 M) (h : Touch M s₀ s) :
    Touch M s₀ (canReceived a0 a1 s) := by
  unfold canReceived
  repeat' with_reducible first
    | assumption | refine recAfterFrame_touch (m.trans rfl) ?_ | refine detectFrame_touch (m.trans rfl) ?_
    | refine acceptFrame_touch (m.trans rfl) ?_ | refine Touch.ite_else ?_ (fun _ => ?_) | unfold x
    | (extract_lets +onlyGivenNames x; first | (refine Touch.cut (s := x) ?_ (fun _ => ?_); rotate_left; clear_value x) | clear_value x)
    | split

theorem canRxError_touch {M : Nat} {s₀ s : State} {a0 a1 a2} (m : Sub 0x7fffc00000102206210 M) (h : Touch M s₀ s) :
    Touch M s₀ (canRxError a0 a1 a2 s) := by
  unfold canRxError
  repeat' with_reducible first
    | assumption
    | refine put_page_touch (m.trans (by decide +kernel)) ?_ | refine put_ch_touch (m.trans (by decide +kernel)) ?_ | refine put_idx_touch (m.trans (by decide +kernel)) ?_ | refine put_host_touch (m.trans (by decide +kernel)) ?_ | refine put_pll_touch (m.trans (by decide +kernel)) ?_ | refine put_master_touch (m.trans (by decide +kernel)) ?_ | refine put_closed_touch (m.trans (by decide +kernel)) ?_ | refine State.put_touch (m.trans (by decide +kernel)) ?_ | refine put_any_touch (m.trans (by decide +kernel)) ?_
    | refine putCounters_touch (m.trans rfl) ?_ | refine detectNext_touch (m.trans rfl) ?_
    | refine State.bumpSat_touch ?_ | refine Touch.ite_else ?_ (fun _ => ?_) | unfold x
    | (extract_lets +onlyGivenNames x; first | (refine Touch.cut (s := x) ?_ (fun _ => ?_); rotate_left; clear_value x) | clear_value x)
    | split

theorem releaseFront_touch {M : Nat} {s₀ s : State} {a0 a1} (m : Sub 0x7ffffffffff02010010 M) (h : Touch M s₀ s) :
    Touch M s₀ (releaseFront a0 a1 s) := by
  unfold releaseFront
  repeat' with_reducible first
    | assumption | refine putRxNew_touch (m.trans rfl) ?_ | refine State.setWinWord_touch (m.trans rfl) ?_
    | refine putBuffer_touch (m.trans rfl) ?_ | refine State.setSeg_touch (m.trans rfl) ?_
    | refine Touch.ite_else ?_ (fun _ => ?_) | unfold x
    | (extract_lets +onlyGivenNames x; first | (refine Touch.cut (s := x) ?_ (fun _ => ?_); rotate_left; clear_value x) | clear_value x)
    | split

theorem actRxRel_touch {M : Nat} {s₀ s : State} {a0 a1 a2} (m : Sub 0x7ffffffffff02010010 M) (h : Touch M s₀ s) :
    Touch M s₀ (actRxRel a0 a1 a2 s) := by
  unfold actRxRel
  repeat' with_reducible first
    | assumption | refine releaseFront_touch (m.trans rfl) ?_ | refine Touch.ite_else ?_ (fun _ => ?_) | split

theorem execRxRelease_touch {M : Nat} {s₀ s : State} {a0 a1 a2} (m : Sub 0x7ffffffffff022162f0 M) (h : Touch M s₀ s) :
    OutTouch M s₀ (execRxRelease a0 a1 a2 s) := by
  unfold execRxRelease
  repeat' with_reducible first
    | assumption | apply OutTouch.next
    | refine hostWord_touch (m.trans (by decide +kernel)) (fun _ _ _ => ?_) ?_ | refine hostWord_any_touch (m.trans (by decide +kernel)) (fun _ _ _ => ?_) ?_
    | refine actRxRel_touch (m.trans rfl) ?_ | unfold x
    | (extract_lets +onlyGivenNames x; first | (refine Touch.cut (s := x) ?_ (fun _ => ?_); rotate_left; clear_value x) | clear_value x)

theorem actTxReq_touch {M : Nat} {s₀ s : State} {a0 a1 a2 a3 a4} (m : Sub 0x7fffc00000102246211 M) (h : Touch M s₀ s) :
    Touch M s₀ (actTxReq a0 a1 a2 a3 a4 s) := by
  unfold actTxReq
  repeat' with_reducible first
    | assumption | refine requestAll_touch (m.trans rfl) ?_ | refine fbLater_touch (m.trans rfl) ?_

theorem takeBack_touch {M : Nat} {s₀ s : State} {a0 a1} (m : Sub 0x7fffc00000002000010 M) (h : Touch M s₀ s) :
    Touch M s₀ (takeBack a0 a1 s) := by
  unfold takeBack
  repeat' with_reducible first
    | assumption | refine State.setSeg_touch (m.trans rfl) ?_ | refine clearRequest_touch (m.trans rfl) ?_
    | refine foldl_touch (fun _ _ _ => ?_) ?_ | refine Touch.ite_else ?_ (fun _ => ?_) | unfold x
    | (extract_lets +onlyGivenNames x; first | (refine Touch.cut (s := x) ?_ (fun _ => ?_); rotate_left; clear_value x) | clear_value x)
    | split

theorem discardKept_touch {M : Nat} {s₀ s : State} {a0} (m : Sub 0x7fffc00000002000010 M) (h : Touch M s₀ s) :
    Touch M s₀ (discardKept a0 s) := by
  unfold discardKept
  repeat' with_reducible first
    | assumption
    | refine put_page_touch (m.trans (by decide +kernel)) ?_ | refine put_ch_touch (m.trans (by decide +kernel)) ?_ | refine put_idx_touch (m.trans (by decide +kernel)) ?_ | refine put_host_touch (m.trans (by decide +kernel)) ?_ | refine put_pll_touch (m.trans (by decide +kernel)) ?_ | refine put_master_touch (m.trans (by decide +kernel)) ?_ | refine put_closed_touch (m.trans (by decide +kernel)) ?_ | refine State.put_touch (m.trans (by decide +kernel)) ?_ | refine put_any_touch (m.trans (by decide +kernel)) ?_
    | refine State.setSeg_touch (m.trans rfl) ?_ | refine clearRequest_touch (m.trans rfl) ?_
    | refine takeBack_touch (m.trans rfl) ?_ | refine foldl_touch (fun _ _ _ => ?_) ?_
    | refine Touch.ite_else ?_ (fun _ => ?_) | unfold x
    | (extract_lets +onlyGivenNames x; first | (refine Touch.cut (s := x) ?_ (fun _ => ?_); rotate_left; clear_value x) | clear_value x)
    | split

theorem cancelTx_touch {M : Nat} {s₀ s : State} {a0 a1} (m : Sub 0x7fffc00000102246211 M) (h : Touch M s₀ s) :
    Touch M s₀ (cancelTx a0 a1 s) := by
  unfold cancelTx
  repeat' with_reducible first
    | assumption | refine discardKept_touch (m.trans rfl) ?_ | refine State.setSeg_touch (m.trans rfl) ?_
    | refine returnKept_touch (m.trans rfl) ?_ | refine clearRequest_touch (m.trans rfl) ?_
    | refine foldl_touch (fun _ _ _ => ?_) ?_ | refine Touch.ite_else ?_ (fun _ => ?_) | unfold x
    | (extract_lets +onlyGivenNames x; first | (refine Touch.cut (s := x) ?_ (fun _ => ?_); rotate_left; clear_value x) | clear_value x)
    | split

theorem actTxCan_touch {M : Nat} {s₀ s : State} {a0 a1 a2 a3 a4} (m : Sub 0x7fffc00000102246211 M) (h : Touch M s₀ s) :
    Touch M s₀ (actTxCan a0 a1 a2 a3 a4 s) := by
  unfold actTxCan
  repeat' with_reducible first
    | assumption | refine fbLater_touch (m.trans rfl) ?_ | refine cancelTx_touch (m.trans rfl) ?_
    | refine foldl_touch (fun _ _ _ => ?_) ?_

theorem pairWrite_touch {M : Nat} {s₀ s : State} {x a k} {f : Nat → Word → Word → State → State} (m : Sub 0x7ffffffffff002062f0 M)
    (hf : ∀ n v m s, Touch M s₀ s → Touch M s₀ (f n v m s)) (h : Touch M s₀ s) : Touch M s₀ (pairWrite x a k f s) := by
  unfold pairWrite
  extract_lets lo hi y
  have hy : Touch M s₀ y := by
    unfold y
    split
    · exact h
    · exact hostWord_any_touch (m.trans rfl) (fun m s h => hf _ _ _ _ h) h
  split
  · exact hy
  · exact hostWord_any_touch (m.trans rfl) (fun m s h => hf _ _ _ _ h) hy

theorem execTxRequest_touch {M : Nat} {s₀ s : State} {a0 a1 a2 a4} (m : Sub 0x7ffffffffff022462f1 M) (h : Touch M s₀ s) :
    OutTouch M s₀ (execTxRequest a0 a1 a2 s a4) := by
  unfold execTxRequest
  repeat' with_reducible first
    | assumption | apply OutTouch.next | refine actTxReq_touch (m.trans rfl) ?_
    | refine pairWrite_touch (m.trans rfl) (fun _ _ _ _ _ => ?_) ?_

theorem execTxCancel_touch {M : Nat} {s₀ s : State} {a0 a1 a2 a4} (m : Sub 0x7ffffffffff022462f1 M) (h : Touch M s₀ s) :
    OutTouch M s₀ (execTxCancel a0 a1 a2 s a4) := by
  unfold execTxCancel
  repeat' with_reducible first
    | assumption | apply OutTouch.next | refine actTxCan_touch (m.trans rfl) ?_
    | refine pairWrite_touch (m.trans rfl) (fun _ _ _ _ _ => ?_) ?_

theorem doneWith_touch {M : Nat} {s₀ s : State} {a0 a1} (m : Sub 0x7fffc00000002000010 M) (h : Touch M s₀ s) :
    Touch M s₀ (doneWith a0 a1 s) := by
  unfold doneWith
  repeat' with_reducible first
    | assumption
    | refine put_page_touch (m.trans (by decide +kernel)) ?_ | refine put_ch_touch (m.trans (by decide +kernel)) ?_ | refine put_idx_touch (m.trans (by decide +kernel)) ?_ | refine put_host_touch (m.trans (by decide +kernel)) ?_ | refine put_pll_touch (m.trans (by decide +kernel)) ?_ | refine put_master_touch (m.trans (by decide +kernel)) ?_ | refine put_closed_touch (m.trans (by decide +kernel)) ?_ | refine State.put_touch (m.trans (by decide +kernel)) ?_ | refine put_any_touch (m.trans (by decide +kernel)) ?_
    | refine State.setSeg_touch (m.trans rfl) ?_ | refine clearRequest_touch (m.trans rfl) ?_
    | refine Touch.ite_else ?_ (fun _ => ?_) | unfold x
    | (extract_lets +onlyGivenNames x; first | (refine Touch.cut (s := x) ?_ (fun _ => ?_); rotate_left; clear_value x) | clear_value x)
    | split

theorem abandonTx_touch {M : Nat} {s₀ s : State} {a0 a1 a2} (m : Sub 0x7fffc00000102246211 M) (h : Touch M s₀ s) :
    Touch M s₀ (abandonTx a0 a1 a2 s) := by
  unfold abandonTx
  repeat' with_reducible first
    | assumption | refine raise_touch (m.trans rfl) ?_ | refine setDrop_touch (m.trans rfl) ?_
    | refine doneWith_touch (m.trans rfl) ?_ | refine returnKept_touch (m.trans rfl) ?_
    | refine Touch.ite_else ?_ (fun _ => ?_) | unfold x
    | (extract_lets +onlyGivenNames x; first | (refine Touch.cut (s := x) ?_ (fun _ => ?_); rotate_left; clear_value x) | clear_value x)
    | split

theorem retryTx_touch {M : Nat} {s₀ s : State} {a0 a1} (m : Sub 0x2000000 M) (h : Touch M s₀ s) :
    Touch M s₀ (retryTx a0 a1 s) := by
  unfold retryTx
  repeat' with_reducible first
    | assumption | refine State.setSeg_touch (m.trans rfl) ?_ | unfold x
    | (extract_lets +onlyGivenNames x; first | (refine Touch.cut (s := x) ?_ (fun _ => ?_); rotate_left; clear_value x) | clear_value x)

theorem txCompleted_touch {M : Nat} {s₀ s : State} {a0 a1} (m : Sub 0x7ffffffffff0221e210 M) (h : Touch M s₀ s) :
    Touch M s₀ (txCompleted a0 a1 s) := by
  unfold txCompleted
  repeat' with_reducible first
    | assumption | refine putDesc3_touch (m.trans rfl) ?_ | refine raise_touch (m.trans rfl) ?_
    | refine put_page_touch (m.trans (by decide +kernel)) ?_ | refine put_ch_touch (m.trans (by decide +kernel)) ?_ | refine put_idx_touch (m.trans (by decide +kernel)) ?_ | refine put_host_touch (m.trans (by decide +kernel)) ?_ | refine put_pll_touch (m.trans (by decide +kernel)) ?_ | refine put_master_touch (m.trans (by decide +kernel)) ?_ | refine put_closed_touch (m.trans (by decide +kernel)) ?_ | refine State.put_touch (m.trans (by decide +kernel)) ?_ | refine put_any_touch (m.trans (by decide +kernel)) ?_
    | refine putCounters_touch (m.trans rfl) ?_ | refine doneWith_touch (m.trans rfl) ?_
    | refine State.setSeg_touch (m.trans rfl) ?_ | refine clearRequest_touch (m.trans rfl) ?_
    | refine acceptFrame_touch (m.trans rfl) ?_ | refine transient_touch (m.trans rfl) ?_
    | refine Touch.ite_else ?_ (fun _ => ?_) | unfold x
    | (extract_lets +onlyGivenNames x; first | (refine Touch.cut (s := x) ?_ (fun _ => ?_); rotate_left; clear_value x) | clear_value x)
    | split

theorem noteBitError_touch {M : Nat} {s₀ s : State} {a0 a1 a2} (m : Sub 0x2000000 M) (h : Touch M s₀ s) :
    Touch M s₀ (noteBitError a0 a1 a2 s) := by
  unfold noteBitError
  repeat' with_reducible first
    | assumption | refine State.setSeg_touch (m.trans rfl) ?_ | refine Touch.ite_else ?_ (fun _ => ?_) | unfold x
    | (extract_lets +onlyGivenNames x; first | (refine Touch.cut (s := x) ?_ (fun _ => ?_); rotate_left; clear_value x) | clear_value x)
    | split

theorem clash_touch {M : Nat} {s₀ s : State} {a0 a1} (m : Sub 0x7fffc00000102256211 M) (h : Touch M s₀ s) :
    Touch M s₀ (clash a0 a1 s) := by
  unfold clash
  repeat' with_reducible first
    | assumption | refine putDesc3_touch (m.trans rfl) ?_ | refine abandonTx_touch (m.trans rfl) ?_
    | refine raise_touch (m.trans rfl) ?_
    | refine put_page_touch (m.trans (by decide +kernel)) ?_ | refine put_ch_touch (m.trans (by decide +kernel)) ?_ | refine put_idx_touch (m.trans (by decide +kernel)) ?_ | refine put_host_touch (m.trans (by decide +kernel)) ?_ | refine put_pll_touch (m.trans (by decide +kernel)) ?_ | refine put_master_touch (m.trans (by decide +kernel)) ?_ | refine put_closed_touch (m.trans (by decide +kernel)) ?_ | refine State.put_touch (m.trans (by decide +kernel)) ?_ | refine put_any_touch (m.trans (by decide +kernel)) ?_
    | refine State.putFlag_touch ?_ | unfold x
    | (extract_lets +onlyGivenNames x; first | (refine Touch.cut (s := x) ?_ (fun _ => ?_); rotate_left; clear_value x) | clear_value x)

theorem txError_touch {M : Nat} {s₀ s : State} {a0 a1 a2 a3 a4} (m : Sub 0x7fffc0000070225e211 M) (h : Touch M s₀ s) :
    Touch M s₀ (txError a0 a1 a2 a3 a4 s) := by
  unfold txError
  repeat' with_reducible first
    | assumption | refine putDesc3_touch (m.trans rfl) ?_ | refine lastingFault_touch (m.trans rfl) ?_
    | refine abandonTx_touch (m.trans rfl) ?_ | refine raise_touch (m.trans rfl) ?_
    | refine clash_touch (m.trans rfl) ?_ | refine retryTx_touch (m.trans rfl) ?_
    | refine noteBitError_touch (m.trans rfl) ?_
    | refine put_page_touch (m.trans (by decide +kernel)) ?_ | refine put_ch_touch (m.trans (by decide +kernel)) ?_ | refine put_idx_touch (m.trans (by decide +kernel)) ?_ | refine put_host_touch (m.trans (by decide +kernel)) ?_ | refine put_pll_touch (m.trans (by decide +kernel)) ?_ | refine put_master_touch (m.trans (by decide +kernel)) ?_ | refine put_closed_touch (m.trans (by decide +kernel)) ?_ | refine State.put_touch (m.trans (by decide +kernel)) ?_ | refine put_any_touch (m.trans (by decide +kernel)) ?_
    | refine putCounters_touch (m.trans rfl) ?_ | refine State.setSeg_touch (m.trans rfl) ?_
    | refine busOff_touch (m.trans rfl) ?_ | refine Touch.ite_else ?_ (fun _ => ?_) | unfold x
    | (extract_lets +onlyGivenNames x; first | (refine Touch.cut (s := x) ?_ (fun _ => ?_); rotate_left; clear_value x) | clear_value x)
    | split

theorem txArbLost_touch {M : Nat} {s₀ s : State} {a0 a1} (m : Sub 0x7fffc00000102246211 M) (h : Touch M s₀ s) :
    Touch M s₀ (txArbLost a0 a1 s) := by
  unfold txArbLost
  repeat' with_reducible first
    | assumption | refine abandonTx_touch (m.trans rfl) ?_ | refine retryTx_touch (m.trans rfl) ?_
    | refine noteBitError_touch (m.trans rfl) ?_ | refine Touch.ite_else ?_ (fun _ => ?_) | unfold x
    | (extract_lets +onlyGivenNames x; first | (refine Touch.cut (s := x) ?_ (fun _ => ?_); rotate_left; clear_value x) | clear_value x)
    | split

theorem txOverload_touch {M : Nat} {s₀ s : State} {a0 a1} (m : Sub 0x7fffc0000070225e211 M) (h : Touch M s₀ s) :
    Touch M s₀ (txOverload a0 a1 s) := by
  unfold txOverload
  repeat' with_reducible first
    | assumption | refine putCounters_touch (m.trans rfl) ?_ | refine busOff_touch (m.trans rfl) ?_
    | refine Touch.ite_else ?_ (fun _ => ?_) | unfold x
    | (extract_lets +onlyGivenNames x; first | (refine Touch.cut (s := x) ?_ (fun _ => ?_); rotate_left; clear_value x) | clear_value x)
    | split

theorem txAttemptEnd_touch {M : Nat} {s₀ s : State} {a0 a1 a2 a3 a4} (m : Sub 0x7ffffffffff0225e291 M) (h : Touch M s₀ s) :
    Touch M s₀ (txAttemptEnd a0 a1 a2 a3 a4 s) := by
  unfold txAttemptEnd
  repeat' with_reducible first
    | assumption | refine txError_touch (m.trans rfl) ?_ | refine noteBitError_touch (m.trans rfl) ?_
    | refine txOverload_touch (m.trans rfl) ?_ | refine txCompleted_touch (m.trans rfl) ?_
    | refine passTime_touch (m.trans rfl) ?_ | refine State.setSeg_touch (m.trans rfl) ?_
    | refine afterIdle_touch (m.trans rfl) ?_ | refine fbIdle_touch (m.trans rfl) ?_
    | refine txArbLost_touch (m.trans rfl) ?_ | refine Touch.ite_else ?_ (fun _ => ?_) | unfold x
    | (extract_lets +onlyGivenNames x; first | (refine Touch.cut (s := x) ?_ (fun _ => ?_); rotate_left; clear_value x) | clear_value x)
    | split

theorem execTxAttemptEnd_touch {M : Nat} {s₀ s : State} {a0 a1 a2 a4 a5} (m : Sub 0x7ffffffffff0225e291 M) (h : Touch M s₀ s) :
    OutTouch M s₀ (execTxAttemptEnd a0 a1 a2 s a4 a5) := by
  unfold execTxAttemptEnd
  repeat' with_reducible first
    | assumption | apply OutTouch.next | refine txAttemptEnd_touch (m.trans rfl) ?_

theorem notBegun_touch {M : Nat} {s₀ s : State} {a0} (m : Sub 0x7fffc00000102246211 M) (h : Touch M s₀ s) :
    Touch M s₀ (notBegun a0 s) := by
  unfold notBegun
  repeat' with_reducible first
    | assumption | refine abandonTx_touch (m.trans rfl) ?_ | refine State.setSeg_touch (m.trans rfl) ?_
    | refine Touch.ite_else ?_ (fun _ => ?_) | unfold x
    | (extract_lets +onlyGivenNames x; first | (refine Touch.cut (s := x) ?_ (fun _ => ?_); rotate_left; clear_value x) | clear_value x)
    | split

theorem putOutOnce_touch {M : Nat} {s₀ s : State} {a0 a1} (m : Sub 0x40000 M) (h : Touch M s₀ s) :
    Touch M s₀ (putOutOnce a0 a1 s) := by
  unfold putOutOnce
  repeat' with_reducible first
    | assumption | refine State.withOut_touch (m.bit rfl) ?_ | refine Touch.ite_else ?_ (fun _ => ?_) | split

theorem idleAfter_touch {M : Nat} {s₀ s : State} {a0 a1} (m : Sub 0x7ffffffffff0225e291 M) (h : Touch M s₀ s) :
    Touch M s₀ (idleAfter a0 a1 s) := by
  unfold idleAfter
  repeat' with_reducible first
    | assumption | refine putOutOnce_touch (m.trans rfl) ?_ | refine passTime_touch (m.trans rfl) ?_
    | refine notBegun_touch (m.trans rfl) ?_ | refine afterIdle_touch (m.trans rfl) ?_
    | refine fbIdle_touch (m.trans rfl) ?_ | refine Touch.ite_else ?_ (fun _ => ?_) | split

theorem execCanFrameReceived_touch {M : Nat} {s₀ s : State} {a0 a1 a3} (m : Sub 0x7ffffffffff0225e291 M) (h : Touch M s₀ s) :
    OutTouch M s₀ (execCanFrameReceived a0 a1 s a3) := by
  unfold execCanFrameReceived
  repeat' with_reducible first
    | assumption | apply OutTouch.next | refine idleAfter_touch (m.trans rfl) ?_
    | refine canReceived_touch (m.trans rfl) ?_

theorem execCanRxError_touch {M : Nat} {s₀ s : State} {a0 a1 a3 a4} (m : Sub 0x7ffffffffff0225e291 M) (h : Touch M s₀ s) :
    OutTouch M s₀ (execCanRxError a0 a1 s a3 a4) := by
  unfold execCanRxError
  repeat' with_reducible first
    | assumption | apply OutTouch.next | refine canRxError_touch (m.trans rfl) ?_
    | refine idleAfter_touch (m.trans rfl) ?_

theorem matrixSlot_touch {M : Nat} {s₀ s : State} {a0} (m : Sub 0x7ffffffffff02256290 M) (h : Touch M s₀ s) :
    Touch M s₀ (matrixSlot a0 s) := by
  unfold matrixSlot
  repeat' with_reducible first
    | assumption | refine slotOver_touch (m.trans rfl) ?_
    | refine put_page_touch (m.trans (by decide +kernel)) ?_ | refine put_ch_touch (m.trans (by decide +kernel)) ?_ | refine put_idx_touch (m.trans (by decide +kernel)) ?_ | refine put_host_touch (m.trans (by decide +kernel)) ?_ | refine put_pll_touch (m.trans (by decide +kernel)) ?_ | refine put_master_touch (m.trans (by decide +kernel)) ?_ | refine put_closed_touch (m.trans (by decide +kernel)) ?_ | refine State.put_touch (m.trans (by decide +kernel)) ?_ | refine put_any_touch (m.trans (by decide +kernel)) ?_
    | refine slotBegin_touch (m.trans rfl) ?_ | refine sailCommitAt_touch (m.trans rfl) ?_
    | refine Touch.ite_else ?_ (fun _ => ?_) | unfold x
    | (extract_lets +onlyGivenNames x; first | (refine Touch.cut (s := x) ?_ (fun _ => ?_); rotate_left; clear_value x) | clear_value x)
    | split

theorem execMatrixSlotStart_touch {M : Nat} {s₀ s : State} {a0} (m : Sub 0x7ffffffffff02256290 M) (h : Touch M s₀ s) :
    OutTouch M s₀ (execMatrixSlotStart a0 s) := by
  unfold execMatrixSlotStart
  repeat' with_reducible first
    | assumption | apply OutTouch.next | refine matrixSlot_touch (m.trans rfl) ?_

theorem expectationCheck_touch {M : Nat} {s₀ s : State} {a0} (m : Sub 0x10800000010221e210 M) (h : Touch M s₀ s) :
    Touch M s₀ (expectationCheck a0 s) := by
  unfold expectationCheck
  repeat' with_reducible first
    | assumption | refine putDesc3_touch (m.trans rfl) ?_ | refine raise_touch (m.trans rfl) ?_
    | refine State.setSeg_touch (m.trans rfl) ?_ | refine State.trigger_touch (m.trans rfl) ?_
    | refine foldl_touch (fun _ _ _ => ?_) ?_ | refine Touch.ite_else ?_ (fun _ => ?_) | unfold x
    | (extract_lets +onlyGivenNames x; first | (refine Touch.cut (s := x) ?_ (fun _ => ?_); rotate_left; clear_value x) | clear_value x)
    | refine Touch.snd ?_ (by assumption) | split

theorem execRxExpectationCheck_touch {M : Nat} {s₀ s : State} {a0} (m : Sub 0x10800000010221e210 M) (h : Touch M s₀ s) :
    OutTouch M s₀ (execRxExpectationCheck a0 s) := by
  unfold execRxExpectationCheck
  repeat' with_reducible first
    | assumption | apply OutTouch.next | refine expectationCheck_touch (m.trans rfl) ?_

theorem integrated_touch {M : Nat} {s₀ s : State} {a0 a1} (m : Sub 0x7ffffffffff0225e291 M) (h : Touch M s₀ s) :
    Touch M s₀ (integrated a0 a1 s) := by
  unfold integrated
  repeat' with_reducible first
    | assumption
    | refine put_page_touch (m.trans (by decide +kernel)) ?_ | refine put_ch_touch (m.trans (by decide +kernel)) ?_ | refine put_idx_touch (m.trans (by decide +kernel)) ?_ | refine put_host_touch (m.trans (by decide +kernel)) ?_ | refine put_pll_touch (m.trans (by decide +kernel)) ?_ | refine put_master_touch (m.trans (by decide +kernel)) ?_ | refine put_closed_touch (m.trans (by decide +kernel)) ?_ | refine State.put_touch (m.trans (by decide +kernel)) ?_ | refine put_any_touch (m.trans (by decide +kernel)) ?_
    | refine takesPart_touch (m.trans rfl) ?_ | refine State.setSeg_touch (m.trans rfl) ?_
    | refine fbIdle_touch (m.trans rfl) ?_ | refine Touch.ite_else ?_ (fun _ => ?_) | unfold x
    | (extract_lets +onlyGivenNames x; first | (refine Touch.cut (s := x) ?_ (fun _ => ?_); rotate_left; clear_value x) | clear_value x)
    | split

theorem execIntegrationComplete_touch {M : Nat} {s₀ s : State} {a0 a2} (m : Sub 0x7ffffffffff0225e291 M) (h : Touch M s₀ s) :
    OutTouch M s₀ (execIntegrationComplete a0 s a2) := by
  unfold execIntegrationComplete
  repeat' with_reducible first
    | assumption | apply OutTouch.next | refine integrated_touch (m.trans rfl) ?_

theorem boffHold_touch {M : Nat} {s₀ s : State} {a0} (m : Sub 0x7fffc00000000000010 M) (h : Touch M s₀ s) :
    Touch M s₀ (boffHold a0 s) := by
  unfold boffHold
  repeat' with_reducible first
    | assumption
    | refine put_page_touch (m.trans (by decide +kernel)) ?_ | refine put_ch_touch (m.trans (by decide +kernel)) ?_ | refine put_idx_touch (m.trans (by decide +kernel)) ?_ | refine put_host_touch (m.trans (by decide +kernel)) ?_ | refine put_pll_touch (m.trans (by decide +kernel)) ?_ | refine put_master_touch (m.trans (by decide +kernel)) ?_ | refine put_closed_touch (m.trans (by decide +kernel)) ?_ | refine State.put_touch (m.trans (by decide +kernel)) ?_ | refine put_any_touch (m.trans (by decide +kernel)) ?_
    | refine Touch.ite_else ?_ (fun _ => ?_) | split

theorem execBoffHoldExpiry_touch {M : Nat} {s₀ s : State} {a0} (m : Sub 0x7fffc00000000000010 M) (h : Touch M s₀ s) :
    OutTouch M s₀ (execBoffHoldExpiry a0 s) := by
  unfold execBoffHoldExpiry
  repeat' with_reducible first
    | assumption | apply OutTouch.next | refine boffHold_touch (m.trans rfl) ?_

theorem busRecovered_touch {M : Nat} {s₀ s : State} {a0} (m : Sub 0x7fffc00000702246210 M) (h : Touch M s₀ s) :
    Touch M s₀ (busRecovered a0 s) := by
  unfold busRecovered
  repeat' with_reducible first
    | assumption | refine raise_touch (m.trans rfl) ?_
    | refine put_page_touch (m.trans (by decide +kernel)) ?_ | refine put_ch_touch (m.trans (by decide +kernel)) ?_ | refine put_idx_touch (m.trans (by decide +kernel)) ?_ | refine put_host_touch (m.trans (by decide +kernel)) ?_ | refine put_pll_touch (m.trans (by decide +kernel)) ?_ | refine put_master_touch (m.trans (by decide +kernel)) ?_ | refine put_closed_touch (m.trans (by decide +kernel)) ?_ | refine State.put_touch (m.trans (by decide +kernel)) ?_ | refine put_any_touch (m.trans (by decide +kernel)) ?_
    | refine State.setSeg_touch (m.trans rfl) ?_ | refine startMatrix_touch (m.trans rfl) ?_
    | refine Touch.ite_else ?_ (fun _ => ?_) | unfold x
    | (extract_lets +onlyGivenNames x; first | (refine Touch.cut (s := x) ?_ (fun _ => ?_); rotate_left; clear_value x) | clear_value x)
    | split

theorem execBusOffRecovered_touch {M : Nat} {s₀ s : State} {a0} (m : Sub 0x7fffc00000702246210 M) (h : Touch M s₀ s) :
    OutTouch M s₀ (execBusOffRecovered a0 s) := by
  unfold execBusOffRecovered
  repeat' with_reducible first
    | assumption | apply OutTouch.next | refine busRecovered_touch (m.trans rfl) ?_

theorem actFbCtl_touch {M : Nat} {s₀ s : State} {a0 a1 a2 a3} (m : Sub 0x7ffffffffff020080f0 M) (h : Touch M s₀ s) :
    Touch M s₀ (actFbCtl a0 a1 a2 a3 s) := by
  unfold actFbCtl
  repeat' with_reducible first
    | assumption | refine sleepFollow_touch (m.trans rfl) ?_
    | refine storeFields_touch (m.trans (by decide +kernel)) ?_ | refine storeFields_any_touch (m.trans (by decide +kernel)) ?_

theorem execFbSleep_touch {M : Nat} {s₀ s : State} {a0 a1} (m : Sub 0x7ffffffffff0220e2f0 M) (h : Touch M s₀ s) :
    OutTouch M s₀ (execFbSleep a0 a1 s) := by
  unfold execFbSleep
  repeat' with_reducible first
    | assumption | apply OutTouch.next
    | refine hostWord_touch (m.trans (by decide +kernel)) (fun _ _ _ => ?_) ?_ | refine hostWord_any_touch (m.trans (by decide +kernel)) (fun _ _ _ => ?_) ?_
    | refine actFbCtl_touch (m.trans rfl) ?_ | unfold x
    | (extract_lets +onlyGivenNames x; first | (refine Touch.cut (s := x) ?_ (fun _ => ?_); rotate_left; clear_value x) | clear_value x)

theorem startDetect_touch {M : Nat} {s₀ s : State} {a0} (m : Sub 0x7fffc00000302206210 M) (h : Touch M s₀ s) :
    Touch M s₀ (startDetect a0 s) := by
  unfold startDetect
  repeat' with_reducible first
    | assumption | refine raise_touch (m.trans rfl) ?_ | refine record_touch (m.trans rfl) ?_
    | refine put_page_touch (m.trans (by decide +kernel)) ?_ | refine put_ch_touch (m.trans (by decide +kernel)) ?_ | refine put_idx_touch (m.trans (by decide +kernel)) ?_ | refine put_host_touch (m.trans (by decide +kernel)) ?_ | refine put_pll_touch (m.trans (by decide +kernel)) ?_ | refine put_master_touch (m.trans (by decide +kernel)) ?_ | refine put_closed_touch (m.trans (by decide +kernel)) ?_ | refine State.put_touch (m.trans (by decide +kernel)) ?_ | refine put_any_touch (m.trans (by decide +kernel)) ?_
    | refine State.setSeg_touch (m.trans rfl) ?_ | refine accessFault_touch (m.trans rfl) ?_
    | refine foldl_touch (fun _ _ _ => ?_) ?_ | refine Touch.ite_else ?_ (fun _ => ?_) | unfold x
    | (extract_lets +onlyGivenNames x; first | (refine Touch.cut (s := x) ?_ (fun _ => ?_); rotate_left; clear_value x) | clear_value x)
    | split

theorem actFbCmd_touch {M : Nat} {s₀ s : State} {a0 a1 a2} (m : Sub 0x7fffc0000070220e210 M) (h : Touch M s₀ s) :
    Touch M s₀ (actFbCmd a0 a1 a2 s) := by
  unfold actFbCmd
  repeat' with_reducible first
    | assumption
    | refine put_page_touch (m.trans (by decide +kernel)) ?_ | refine put_ch_touch (m.trans (by decide +kernel)) ?_ | refine put_idx_touch (m.trans (by decide +kernel)) ?_ | refine put_host_touch (m.trans (by decide +kernel)) ?_ | refine put_pll_touch (m.trans (by decide +kernel)) ?_ | refine put_master_touch (m.trans (by decide +kernel)) ?_ | refine put_closed_touch (m.trans (by decide +kernel)) ?_ | refine State.put_touch (m.trans (by decide +kernel)) ?_ | refine put_any_touch (m.trans (by decide +kernel)) ?_
    | refine startDetect_touch (m.trans rfl) ?_ | refine accessFault_touch (m.trans rfl) ?_
    | refine wakeSeg_touch (m.trans rfl) ?_ | refine Touch.ite_else ?_ (fun _ => ?_) | unfold x
    | (extract_lets +onlyGivenNames x; first | (refine Touch.cut (s := x) ?_ (fun _ => ?_); rotate_left; clear_value x) | clear_value x)
    | split

theorem execRecStart_touch {M : Nat} {s₀ s : State} {a0 a1} (m : Sub 0x7ffffffffff0220e2f0 M) (h : Touch M s₀ s) :
    OutTouch M s₀ (execRecStart a0 a1 s) := by
  unfold execRecStart
  repeat' with_reducible first
    | assumption | apply OutTouch.next
    | refine hostWord_touch (m.trans (by decide +kernel)) (fun _ _ _ => ?_) ?_ | refine hostWord_any_touch (m.trans (by decide +kernel)) (fun _ _ _ => ?_) ?_
    | refine actFbCmd_touch (m.trans rfl) ?_

theorem execDetect_touch {M : Nat} {s₀ s : State} {a0 a1} (m : Sub 0x7ffffffffff0220e2f0 M) (h : Touch M s₀ s) :
    OutTouch M s₀ (execDetect a0 a1 s) := by
  unfold execDetect
  repeat' with_reducible first
    | assumption | apply OutTouch.next
    | refine hostWord_touch (m.trans (by decide +kernel)) (fun _ _ _ => ?_) ?_ | refine hostWord_any_touch (m.trans (by decide +kernel)) (fun _ _ _ => ?_) ?_
    | refine actFbCmd_touch (m.trans rfl) ?_

theorem execFbWake_touch {M : Nat} {s₀ s : State} {a0 a1} (m : Sub 0x7ffffffffff0220e2f0 M) (h : Touch M s₀ s) :
    OutTouch M s₀ (execFbWake a0 a1 s) := by
  unfold execFbWake
  repeat' with_reducible first
    | assumption | apply OutTouch.next
    | refine hostWord_touch (m.trans (by decide +kernel)) (fun _ _ _ => ?_) ?_ | refine hostWord_any_touch (m.trans (by decide +kernel)) (fun _ _ _ => ?_) ?_
    | refine actFbCmd_touch (m.trans rfl) ?_

theorem detectTimeout_touch {M : Nat} {s₀ s : State} {a0 a1} (m : Sub 0x7fffc00000102206210 M) (h : Touch M s₀ s) :
    Touch M s₀ (detectTimeout a0 a1 s) := by
  unfold detectTimeout
  repeat' with_reducible first
    | assumption | refine detectNext_touch (m.trans rfl) ?_ | refine Touch.ite_else ?_ (fun _ => ?_) | split

theorem execDetectCandidateTimeout_touch {M : Nat} {s₀ s : State} {a0 a1} (m : Sub 0x7fffc00000102206210 M) (h : Touch M s₀ s) :
    OutTouch M s₀ (execDetectCandidateTimeout a0 a1 s) := by
  unfold execDetectCandidateTimeout
  repeat' with_reducible first
    | assumption | apply OutTouch.next | refine detectTimeout_touch (m.trans rfl) ?_

theorem wakePattern_touch {M : Nat} {s₀ s : State} {a0} (m : Sub 0x7fffc0000070220e210 M) (h : Touch M s₀ s) :
    Touch M s₀ (wakePattern a0 s) := by
  unfold wakePattern
  repeat' with_reducible first
    | assumption | refine raise_touch (m.trans rfl) ?_ | refine wakeSeg_touch (m.trans rfl) ?_
    | refine Touch.ite_else ?_ (fun _ => ?_) | unfold x
    | (extract_lets +onlyGivenNames x; first | (refine Touch.cut (s := x) ?_ (fun _ => ?_); rotate_left; clear_value x) | clear_value x)
    | split

theorem execWakePattern_touch {M : Nat} {s₀ s : State} {a0} (m : Sub 0x7fffc0000070220e210 M) (h : Touch M s₀ s) :
    OutTouch M s₀ (execWakePattern a0 s) := by
  unfold execWakePattern
  repeat' with_reducible first
    | assumption | apply OutTouch.next | refine wakePattern_touch (m.trans rfl) ?_

theorem fbForce_touch {M : Nat} {s₀ s : State} {a0} (m : Sub 0x7ffffffffff0225e291 M) (h : Touch M s₀ s) :
    Touch M s₀ (fbForce a0 s) := by
  unfold fbForce
  repeat' with_reducible first
    | assumption | refine abandonTx_touch (m.trans rfl) ?_ | refine State.setSeg_touch (m.trans rfl) ?_
    | refine fbCommit_touch (m.trans rfl) ?_ | refine Touch.ite_else ?_ (fun _ => ?_) | unfold x
    | (extract_lets +onlyGivenNames x; first | (refine Touch.cut (s := x) ?_ (fun _ => ?_); rotate_left; clear_value x) | clear_value x)
    | split

theorem execFbCommitForce_touch {M : Nat} {s₀ s : State} {a0} (m : Sub 0x7ffffffffff0225e291 M) (h : Touch M s₀ s) :
    OutTouch M s₀ (execFbCommitForce a0 s) := by
  unfold execFbCommitForce
  repeat' with_reducible first
    | assumption | apply OutTouch.next | refine fbForce_touch (m.trans rfl) ?_

theorem fbStop_touch {M : Nat} {s₀ s : State} {a0} (m : Sub 0x7fffc00000702008010 M) (h : Touch M s₀ s) :
    Touch M s₀ (fbStop a0 s) := by
  unfold fbStop
  repeat' with_reducible first
    | assumption
    | refine put_page_touch (m.trans (by decide +kernel)) ?_ | refine put_ch_touch (m.trans (by decide +kernel)) ?_ | refine put_idx_touch (m.trans (by decide +kernel)) ?_ | refine put_host_touch (m.trans (by decide +kernel)) ?_ | refine put_pll_touch (m.trans (by decide +kernel)) ?_ | refine put_master_touch (m.trans (by decide +kernel)) ?_ | refine put_closed_touch (m.trans (by decide +kernel)) ?_ | refine State.put_touch (m.trans (by decide +kernel)) ?_ | refine put_any_touch (m.trans (by decide +kernel)) ?_
    | refine State.setSeg_touch (m.trans rfl) ?_ | refine stopMatrix_touch (m.trans rfl) ?_
    | refine staleBus_touch (m.trans rfl) ?_ | unfold x
    | (extract_lets +onlyGivenNames x; first | (refine Touch.cut (s := x) ?_ (fun _ => ?_); rotate_left; clear_value x) | clear_value x)

theorem fbStopAll_touch {M : Nat} {s₀ s : State} (m : Sub 0x7fffc00000702008010 M) (h : Touch M s₀ s) :
    Touch M s₀ (fbStopAll s) := by
  unfold fbStopAll
  repeat' with_reducible first
    | assumption | refine fbStop_touch (m.trans rfl) ?_ | refine foldl_touch (fun _ _ _ => ?_) ?_
    | refine Touch.ite_else ?_ (fun _ => ?_) | split

theorem fbJoinAll_touch {M : Nat} {s₀ s : State} (m : Sub 0x7fffc00000702008010 M) (h : Touch M s₀ s) :
    Touch M s₀ (fbJoinAll s) := by
  unfold fbJoinAll
  repeat' with_reducible first
    | assumption | refine fbJoin_touch (m.trans rfl) ?_ | refine foldl_touch (fun _ _ _ => ?_) ?_
    | refine Touch.ite_else ?_ (fun _ => ?_) | split

end Sys2Proof.Machine
end

