-- ==== Sys2Proof/Laws/TouchPanel.lean ====
section
/-!
SUPPORT. What the definitions of Machine/Panel.lean touch.
-/

set_option Elab.async false
set_option linter.all false

namespace Sys2Proof.Machine

theorem updatePanel_touch {M : Nat} {s₀ s : State} (m : Sub 0x4000000 M) (h : Touch M s₀ s) :
    Touch M s₀ (updatePanel s) := by
  unfold updatePanel
  repeat' with_reducible first
    | assumption | refine State.withPanel_touch (m.bit rfl) ?_ | refine foldl_touch (fun _ _ _ => ?_) ?_ | unfold x
    | (extract_lets +onlyGivenNames x; first | (refine Touch.cut (s := x) ?_ (fun _ => ?_); rotate_left; clear_value x) | clear_value x)

theorem regionRequest_touch {M : Nat} {s₀ s : State} {a0 a1 a2} (m : Sub 0x4000000 M) (h : Touch M s₀ s) :
    Touch M s₀ (regionRequest a0 a1 a2 s) := by
  unfold regionRequest
  repeat' with_reducible first
    | assumption | refine State.withPanel_touch (m.bit rfl) ?_ | unfold x
    | (extract_lets +onlyGivenNames x; first | (refine Touch.cut (s := x) ?_ (fun _ => ?_); rotate_left; clear_value x) | clear_value x)

theorem fadeStep_touch {M : Nat} {s₀ s : State} {a0 a1 a2 a3 a4} (m : Sub 0x6000000000704000010 M) (h : Touch M s₀ s) :
    Touch M s₀ (fadeStep a0 a1 a2 a3 a4 s) := by
  unfold fadeStep
  repeat' with_reducible first
    | assumption
    | refine put_page_touch (m.trans (by decide +kernel)) ?_ | refine put_ch_touch (m.trans (by decide +kernel)) ?_ | refine put_idx_touch (m.trans (by decide +kernel)) ?_ | refine put_host_touch (m.trans (by decide +kernel)) ?_ | refine put_pll_touch (m.trans (by decide +kernel)) ?_ | refine put_master_touch (m.trans (by decide +kernel)) ?_ | refine put_closed_touch (m.trans (by decide +kernel)) ?_ | refine State.put_touch (m.trans (by decide +kernel)) ?_ | refine put_any_touch (m.trans (by decide +kernel)) ?_
    | refine State.withPanel_touch (m.bit rfl) ?_ | refine Touch.ite_else ?_ (fun _ => ?_) | unfold x
    | (extract_lets +onlyGivenNames x; first | (refine Touch.cut (s := x) ?_ (fun _ => ?_); rotate_left; clear_value x) | clear_value x)
    | split

theorem regionBoundary_touch {M : Nat} {s₀ s : State} {a1} (m : Sub 0x6000000000704000010 M) (h : Touch M s₀ s) :
    Touch M s₀ (regionBoundary s a1) := by
  unfold regionBoundary
  repeat' with_reducible first
    | assumption | refine fadeStep_touch (m.trans rfl) ?_ | split

theorem latchDisplay_touch {M : Nat} {s₀ s : State} (m : Sub 0x4000000 M) (h : Touch M s₀ s) :
    Touch M s₀ (latchDisplay s) := by
  unfold latchDisplay
  repeat' with_reducible first
    | assumption | refine State.withPanel_touch (m.bit rfl) ?_ | refine foldl_touch (fun _ _ _ => ?_) ?_
    | refine Touch.ite_else ?_ (fun _ => ?_) | unfold x
    | (extract_lets +onlyGivenNames x; first | (refine Touch.cut (s := x) ?_ (fun _ => ?_); rotate_left; clear_value x) | clear_value x)
    | split

theorem bandBoundary_touch {M : Nat} {s₀ s : State} (m : Sub 0x2108000000100206210 M) (h : Touch M s₀ s) :
    Touch M s₀ (bandBoundary s) := by
  unfold bandBoundary
  repeat' with_reducible first
    | assumption | refine raise_touch (m.trans rfl) ?_
    | refine put_page_touch (m.trans (by decide +kernel)) ?_ | refine put_ch_touch (m.trans (by decide +kernel)) ?_ | refine put_idx_touch (m.trans (by decide +kernel)) ?_ | refine put_host_touch (m.trans (by decide +kernel)) ?_ | refine put_pll_touch (m.trans (by decide +kernel)) ?_ | refine put_master_touch (m.trans (by decide +kernel)) ?_ | refine put_closed_touch (m.trans (by decide +kernel)) ?_ | refine State.put_touch (m.trans (by decide +kernel)) ?_ | refine put_any_touch (m.trans (by decide +kernel)) ?_
    | refine Touch.ite_else ?_ (fun _ => ?_) | split

theorem testBoundary_touch {M : Nat} {s₀ s : State} (m : Sub 0x2108000000100206210 M) (h : Touch M s₀ s) :
    Touch M s₀ (testBoundary s) := by
  unfold testBoundary
  repeat' with_reducible first
    | assumption | refine raise_touch (m.trans rfl) ?_
    | refine put_page_touch (m.trans (by decide +kernel)) ?_ | refine put_ch_touch (m.trans (by decide +kernel)) ?_ | refine put_idx_touch (m.trans (by decide +kernel)) ?_ | refine put_host_touch (m.trans (by decide +kernel)) ?_ | refine put_pll_touch (m.trans (by decide +kernel)) ?_ | refine put_master_touch (m.trans (by decide +kernel)) ?_ | refine put_closed_touch (m.trans (by decide +kernel)) ?_ | refine State.put_touch (m.trans (by decide +kernel)) ?_ | refine put_any_touch (m.trans (by decide +kernel)) ?_
    | refine Touch.ite_else ?_ (fun _ => ?_) | split

theorem panelTiming_touch {M : Nat} {s₀ s : State} (m : Sub 0x2108000000100206210 M) (h : Touch M s₀ s) :
    Touch M s₀ (panelTiming s) := by
  unfold panelTiming
  repeat' with_reducible first
    | assumption | refine raise_touch (m.trans rfl) ?_
    | refine put_page_touch (m.trans (by decide +kernel)) ?_ | refine put_ch_touch (m.trans (by decide +kernel)) ?_ | refine put_idx_touch (m.trans (by decide +kernel)) ?_ | refine put_host_touch (m.trans (by decide +kernel)) ?_ | refine put_pll_touch (m.trans (by decide +kernel)) ?_ | refine put_master_touch (m.trans (by decide +kernel)) ?_ | refine put_closed_touch (m.trans (by decide +kernel)) ?_ | refine State.put_touch (m.trans (by decide +kernel)) ?_ | refine put_any_touch (m.trans (by decide +kernel)) ?_
    | refine Touch.ite_else ?_ (fun _ => ?_) | split

theorem panelLf_touch {M : Nat} {s₀ s : State} (m : Sub 0x2108000000100206210 M) (h : Touch M s₀ s) :
    Touch M s₀ (panelLf s) := by
  unfold panelLf
  repeat' with_reducible first
    | assumption | refine panelTiming_touch (m.trans rfl) ?_ | refine Touch.ite_else ?_ (fun _ => ?_) | split

theorem refuseLan_touch {M : Nat} {s₀ s : State} {a0} (m : Sub 0x108000000300206210 M) (h : Touch M s₀ s) :
    Touch M s₀ (refuseLan a0 s) := by
  unfold refuseLan
  repeat' with_reducible first
    | assumption | refine raise_touch (m.trans rfl) ?_ | refine accessFault_touch (m.trans rfl) ?_

theorem beaconFollow_touch {M : Nat} {s₀ s : State} (m : Sub 0x2000000000000000010 M) (h : Touch M s₀ s) :
    Touch M s₀ (beaconFollow s) := by
  unfold beaconFollow
  repeat' with_reducible first
    | assumption | refine State.putFlag_touch ?_
    | refine put_page_touch (m.trans (by decide +kernel)) ?_ | refine put_ch_touch (m.trans (by decide +kernel)) ?_ | refine put_idx_touch (m.trans (by decide +kernel)) ?_ | refine put_host_touch (m.trans (by decide +kernel)) ?_ | refine put_pll_touch (m.trans (by decide +kernel)) ?_ | refine put_master_touch (m.trans (by decide +kernel)) ?_ | refine put_closed_touch (m.trans (by decide +kernel)) ?_ | refine State.put_touch (m.trans (by decide +kernel)) ?_ | refine put_any_touch (m.trans (by decide +kernel)) ?_

theorem lanCommit_touch {M : Nat} {s₀ s : State} (m : Sub 0x7ffffffffff04216290 M) (h : Touch M s₀ s) :
    Touch M s₀ (lanCommit s) := by
  unfold lanCommit
  repeat' with_reducible first
    | assumption | refine State.putFlag_touch ?_ | refine beaconFollow_touch (m.trans rfl) ?_
    | refine regionRequest_touch (m.trans rfl) ?_ | refine commitTaken_touch (m.trans rfl) ?_
    | refine refuseLan_touch (m.trans rfl) ?_
    | refine put_page_touch (m.trans (by decide +kernel)) ?_ | refine put_ch_touch (m.trans (by decide +kernel)) ?_ | refine put_idx_touch (m.trans (by decide +kernel)) ?_ | refine put_host_touch (m.trans (by decide +kernel)) ?_ | refine put_pll_touch (m.trans (by decide +kernel)) ?_ | refine put_master_touch (m.trans (by decide +kernel)) ?_ | refine put_closed_touch (m.trans (by decide +kernel)) ?_ | refine State.put_touch (m.trans (by decide +kernel)) ?_ | refine put_any_touch (m.trans (by decide +kernel)) ?_
    | refine foldl_touch (fun _ _ _ => ?_) ?_ | refine Touch.ite_else ?_ (fun _ => ?_) | unfold x
    | (extract_lets +onlyGivenNames x; first | (refine Touch.cut (s := x) ?_ (fun _ => ?_); rotate_left; clear_value x) | clear_value x)
    | split

theorem frameLatch_touch {M : Nat} {s₀ s : State} (m : Sub 0x7ffffffffff04216290 M) (h : Touch M s₀ s) :
    Touch M s₀ (frameLatch s) := by
  unfold frameLatch
  repeat' with_reducible first
    | assumption | refine latchDisplay_touch (m.trans rfl) ?_ | refine panelTiming_touch (m.trans rfl) ?_
    | refine State.withPanel_touch (m.bit rfl) ?_ | refine lanCommit_touch (m.trans rfl) ?_
    | refine testBoundary_touch (m.trans rfl) ?_ | refine regionBoundary_touch (m.trans rfl) ?_
    | refine bandBoundary_touch (m.trans rfl) ?_ | refine foldl_touch (fun _ _ _ => ?_) ?_ | unfold x
    | (extract_lets +onlyGivenNames x; first | (refine Touch.cut (s := x) ?_ (fun _ => ?_); rotate_left; clear_value x) | clear_value x)

theorem frameBoundary_touch {M : Nat} {s₀ s : State} (m : Sub 0x7ffffffffff04216290 M) (h : Touch M s₀ s) :
    Touch M s₀ (frameBoundary s) := by
  unfold frameBoundary
  repeat' with_reducible first
    | assumption | refine frameLatch_touch (m.trans rfl) ?_ | refine Touch.ite_else ?_ (fun _ => ?_) | split

theorem execFrameBoundary_touch {M : Nat} {s₀ s : State} (m : Sub 0x7ffffffffff04216290 M) (h : Touch M s₀ s) :
    OutTouch M s₀ (execFrameBoundary s) := by
  unfold execFrameBoundary
  repeat' with_reducible first
    | assumption | apply OutTouch.next | refine frameBoundary_touch (m.trans rfl) ?_

theorem rowSlot_touch {M : Nat} {s₀ s : State} {a0} (m : Sub 0x4040000 M) (h : Touch M s₀ s) :
    Touch M s₀ (rowSlot a0 s) := by
  unfold rowSlot
  repeat' with_reducible first
    | assumption | refine State.withOut_touch (m.bit rfl) ?_ | refine State.withPanel_touch (m.bit rfl) ?_
    | refine Touch.ite_else ?_ (fun _ => ?_) | unfold x
    | (extract_lets +onlyGivenNames x; first | (refine Touch.cut (s := x) ?_ (fun _ => ?_); rotate_left; clear_value x) | clear_value x)
    | split

theorem execRowSlot_touch {M : Nat} {s₀ s : State} {a0} (m : Sub 0x4040000 M) (h : Touch M s₀ s) :
    OutTouch M s₀ (execRowSlot a0 s) := by
  unfold execRowSlot
  repeat' with_reducible first
    | assumption | apply OutTouch.next | refine rowSlot_touch (m.trans rfl) ?_

theorem panelTemp_touch {M : Nat} {s₀ s : State} {a0} (m : Sub 0x2000000000004000010 M) (h : Touch M s₀ s) :
    Touch M s₀ (panelTemp a0 s) := by
  unfold panelTemp
  repeat' with_reducible first
    | assumption
    | refine put_page_touch (m.trans (by decide +kernel)) ?_ | refine put_ch_touch (m.trans (by decide +kernel)) ?_ | refine put_idx_touch (m.trans (by decide +kernel)) ?_ | refine put_host_touch (m.trans (by decide +kernel)) ?_ | refine put_pll_touch (m.trans (by decide +kernel)) ?_ | refine put_master_touch (m.trans (by decide +kernel)) ?_ | refine put_closed_touch (m.trans (by decide +kernel)) ?_ | refine State.put_touch (m.trans (by decide +kernel)) ?_ | refine put_any_touch (m.trans (by decide +kernel)) ?_
    | refine State.withPanel_touch (m.bit rfl) ?_ | refine Touch.ite_else ?_ (fun _ => ?_) | unfold x
    | (extract_lets +onlyGivenNames x; first | (refine Touch.cut (s := x) ?_ (fun _ => ?_); rotate_left; clear_value x) | clear_value x)
    | split

theorem execPanelTempRead_touch {M : Nat} {s₀ s : State} {a0} (m : Sub 0x2000000000004000010 M) (h : Touch M s₀ s) :
    OutTouch M s₀ (execPanelTempRead a0 s) := by
  unfold execPanelTempRead
  repeat' with_reducible first
    | assumption | apply OutTouch.next | refine panelTemp_touch (m.trans rfl) ?_

theorem actRegion_touch {M : Nat} {s₀ s : State} {a0 a1 a2 a3} (m : Sub 0x7ffffffffff040000f0 M) (h : Touch M s₀ s) :
    Touch M s₀ (actRegion a0 a1 a2 a3 s) := by
  unfold actRegion
  repeat' with_reducible first
    | assumption
    | refine storeFields_touch (m.trans (by decide +kernel)) ?_ | refine storeFields_any_touch (m.trans (by decide +kernel)) ?_
    | refine regionRequest_touch (m.trans rfl) ?_ | refine Touch.ite_else ?_ (fun _ => ?_) | unfold x
    | (extract_lets +onlyGivenNames x; first | (refine Touch.cut (s := x) ?_ (fun _ => ?_); rotate_left; clear_value x) | clear_value x)
    | split

theorem execRegionRequest_touch {M : Nat} {s₀ s : State} {a0 a1 a2} (m : Sub 0x7ffffffffff042062f0 M) (h : Touch M s₀ s) :
    OutTouch M s₀ (execRegionRequest a0 a1 a2 s) := by
  unfold execRegionRequest
  repeat' with_reducible first
    | assumption | apply OutTouch.next
    | refine hostWord_touch (m.trans (by decide +kernel)) (fun _ _ _ => ?_) ?_ | refine hostWord_any_touch (m.trans (by decide +kernel)) (fun _ _ _ => ?_) ?_
    | refine actRegion_touch (m.trans rfl) ?_

theorem actHostwin_touch {M : Nat} {s₀ s : State} {a0 a1} (m : Sub 0x108000000304206210 M) (h : Touch M s₀ s) :
    Touch M s₀ (actHostwin a0 a1 s) := by
  unfold actHostwin
  repeat' with_reducible first
    | assumption | refine State.withPanel_touch (m.bit rfl) ?_ | refine refuseLan_touch (m.trans rfl) ?_
    | refine Touch.ite_else ?_ (fun _ => ?_) | unfold x
    | (extract_lets +onlyGivenNames x; first | (refine Touch.cut (s := x) ?_ (fun _ => ?_); rotate_left; clear_value x) | clear_value x)
    | split

theorem execHostwinWrite_touch {M : Nat} {s₀ s : State} {a0 a1} (m : Sub 0x21080000003042062f0 M) (h : Touch M s₀ s) :
    OutTouch M s₀ (execHostwinWrite a0 a1 s) := by
  unfold execHostwinWrite
  repeat' with_reducible first
    | assumption | apply OutTouch.next
    | refine hostWord_touch (m.trans (by decide +kernel)) (fun _ _ _ => ?_) ?_ | refine hostWord_any_touch (m.trans (by decide +kernel)) (fun _ _ _ => ?_) ?_
    | refine actHostwin_touch (m.trans rfl) ?_

theorem actWincfg_touch {M : Nat} {s₀ s : State} {a0 a1 a2 a3} (m : Sub 0x80 M) (h : Touch M s₀ s) :
    Touch M s₀ (actWincfg a0 a1 a2 a3 s) := by
  unfold actWincfg
  repeat' with_reducible first
    | assumption | refine State.stage_touch (m.trans rfl) ?_ | refine Touch.ite_else ?_ (fun _ => ?_) | split

theorem actLanCmd_touch {M : Nat} {s₀ s : State} {a0 a1} (m : Sub 0x108000000304206210 M) (h : Touch M s₀ s) :
    Touch M s₀ (actLanCmd a0 a1 s) := by
  unfold actLanCmd
  repeat' with_reducible first
    | assumption | refine State.withPanel_touch (m.bit rfl) ?_ | refine refuseLan_touch (m.trans rfl) ?_
    | refine Touch.ite_else ?_ (fun _ => ?_) | unfold x
    | (extract_lets +onlyGivenNames x; first | (refine Touch.cut (s := x) ?_ (fun _ => ?_); rotate_left; clear_value x) | clear_value x)
    | split

theorem execLamptest_touch {M : Nat} {s₀ s : State} {a0} (m : Sub 0x21080000003042062f0 M) (h : Touch M s₀ s) :
    OutTouch M s₀ (execLamptest a0 s) := by
  unfold execLamptest
  repeat' with_reducible first
    | assumption | apply OutTouch.next
    | refine hostWord_touch (m.trans (by decide +kernel)) (fun _ _ _ => ?_) ?_ | refine hostWord_any_touch (m.trans (by decide +kernel)) (fun _ _ _ => ?_) ?_
    | refine actLanCmd_touch (m.trans rfl) ?_

theorem execLtStop_touch {M : Nat} {s₀ s : State} {a0} (m : Sub 0x21080000003042062f0 M) (h : Touch M s₀ s) :
    OutTouch M s₀ (execLtStop a0 s) := by
  unfold execLtStop
  repeat' with_reducible first
    | assumption | apply OutTouch.next
    | refine hostWord_touch (m.trans (by decide +kernel)) (fun _ _ _ => ?_) ?_ | refine hostWord_any_touch (m.trans (by decide +kernel)) (fun _ _ _ => ?_) ?_
    | refine actLanCmd_touch (m.trans rfl) ?_

theorem testExpiry_touch {M : Nat} {s₀ s : State} (m : Sub 0x4000000 M) (h : Touch M s₀ s) :
    Touch M s₀ (testExpiry s) := by
  unfold testExpiry
  repeat' with_reducible first
    | assumption | refine State.withPanel_touch (m.bit rfl) ?_ | refine Touch.ite_else ?_ (fun _ => ?_) | unfold x
    | (extract_lets +onlyGivenNames x; first | (refine Touch.cut (s := x) ?_ (fun _ => ?_); rotate_left; clear_value x) | clear_value x)
    | split

theorem execLamptestExpiry_touch {M : Nat} {s₀ s : State} (m : Sub 0x4000000 M) (h : Touch M s₀ s) :
    OutTouch M s₀ (execLamptestExpiry s) := by
  unfold execLamptestExpiry
  repeat' with_reducible first
    | assumption | apply OutTouch.next | refine testExpiry_touch (m.trans rfl) ?_

theorem inputAsk_touch {M : Nat} {s₀ s : State} (m : Sub 0x108000000304206210 M) (h : Touch M s₀ s) :
    Touch M s₀ (inputAsk s) := by
  unfold inputAsk
  repeat' with_reducible first
    | assumption | refine State.withPanel_touch (m.bit rfl) ?_ | refine refuseLan_touch (m.trans rfl) ?_
    | refine Touch.ite_else ?_ (fun _ => ?_) | unfold x
    | (extract_lets +onlyGivenNames x; first | (refine Touch.cut (s := x) ?_ (fun _ => ?_); rotate_left; clear_value x) | clear_value x)
    | split

theorem inputLow_touch {M : Nat} {s₀ s : State} (m : Sub 0x4000000 M) (h : Touch M s₀ s) :
    Touch M s₀ (inputLow s) := by
  unfold inputLow
  repeat' with_reducible first
    | assumption | refine State.withPanel_touch (m.bit rfl) ?_ | unfold x
    | (extract_lets +onlyGivenNames x; first | (refine Touch.cut (s := x) ?_ (fun _ => ?_); rotate_left; clear_value x) | clear_value x)

theorem testInput_touch {M : Nat} {s₀ s : State} {a0} (m : Sub 0x108000000304206210 M) (h : Touch M s₀ s) :
    Touch M s₀ (testInput a0 s) := by
  unfold testInput
  repeat' with_reducible first
    | assumption | refine inputAsk_touch (m.trans rfl) ?_ | refine State.withPanel_touch (m.bit rfl) ?_
    | refine inputLow_touch (m.trans rfl) ?_ | refine Touch.ite_else ?_ (fun _ => ?_) | unfold x
    | (extract_lets +onlyGivenNames x; first | (refine Touch.cut (s := x) ?_ (fun _ => ?_); rotate_left; clear_value x) | clear_value x)
    | split

theorem inputFollow_touch {M : Nat} {s₀ s : State} {a0} (m : Sub 0x108000000304206210 M) (h : Touch M s₀ s) :
    Touch M s₀ (inputFollow a0 s) := by
  unfold inputFollow
  repeat' with_reducible first
    | assumption | refine inputAsk_touch (m.trans rfl) ?_ | refine State.withPanel_touch (m.bit rfl) ?_
    | refine inputLow_touch (m.trans rfl) ?_ | refine Touch.ite_else ?_ (fun _ => ?_) | unfold x
    | (extract_lets +onlyGivenNames x; first | (refine Touch.cut (s := x) ?_ (fun _ => ?_); rotate_left; clear_value x) | clear_value x)
    | split

theorem actLanCtl_touch {M : Nat} {s₀ s : State} {a0 a1 a2} (m : Sub 0x21080000003042062f0 M) (h : Touch M s₀ s) :
    Touch M s₀ (actLanCtl a0 a1 a2 s) := by
  unfold actLanCtl
  repeat' with_reducible first
    | assumption
    | refine storeFields_touch (m.trans (by decide +kernel)) ?_ | refine storeFields_any_touch (m.trans (by decide +kernel)) ?_
    | refine inputFollow_touch (m.trans rfl) ?_ | refine Touch.ite_else ?_ (fun _ => ?_) | split

theorem execLamptestInput_touch {M : Nat} {s₀ s : State} {a0} (m : Sub 0x108000000304206210 M) (h : Touch M s₀ s) :
    OutTouch M s₀ (execLamptestInput a0 s) := by
  unfold execLamptestInput
  repeat' with_reducible first
    | assumption | apply OutTouch.next | refine testInput_touch (m.trans rfl) ?_

theorem panelOffAsk_touch {M : Nat} {s₀ s : State} (m : Sub 0x4000000 M) (h : Touch M s₀ s) :
    Touch M s₀ (panelOffAsk s) := by
  unfold panelOffAsk
  repeat' with_reducible first
    | assumption | refine State.withPanel_touch (m.bit rfl) ?_ | refine Touch.ite_else ?_ (fun _ => ?_) | unfold x
    | (extract_lets +onlyGivenNames x; first | (refine Touch.cut (s := x) ?_ (fun _ => ?_); rotate_left; clear_value x) | clear_value x)
    | split

theorem panelStart_touch {M : Nat} {s₀ s : State} (m : Sub 0x4000000 M) (h : Touch M s₀ s) :
    Touch M s₀ (panelStart s) := by
  unfold panelStart
  repeat' with_reducible first
    | assumption | refine State.withPanel_touch (m.bit rfl) ?_ | refine Touch.ite_else ?_ (fun _ => ?_) | unfold x
    | (extract_lets +onlyGivenNames x; first | (refine Touch.cut (s := x) ?_ (fun _ => ?_); rotate_left; clear_value x) | clear_value x)
    | split

theorem panelOff_touch {M : Nat} {s₀ s : State} (m : Sub 0x2000000000004000010 M) (h : Touch M s₀ s) :
    Touch M s₀ (panelOff s) := by
  unfold panelOff
  repeat' with_reducible first
    | assumption
    | refine put_page_touch (m.trans (by decide +kernel)) ?_ | refine put_ch_touch (m.trans (by decide +kernel)) ?_ | refine put_idx_touch (m.trans (by decide +kernel)) ?_ | refine put_host_touch (m.trans (by decide +kernel)) ?_ | refine put_pll_touch (m.trans (by decide +kernel)) ?_ | refine put_master_touch (m.trans (by decide +kernel)) ?_ | refine put_closed_touch (m.trans (by decide +kernel)) ?_ | refine State.put_touch (m.trans (by decide +kernel)) ?_ | refine put_any_touch (m.trans (by decide +kernel)) ?_
    | refine State.withPanel_touch (m.bit rfl) ?_ | unfold x
    | (extract_lets +onlyGivenNames x; first | (refine Touch.cut (s := x) ?_ (fun _ => ?_); rotate_left; clear_value x) | clear_value x)

theorem lanQuiet_touch {M : Nat} {s₀ s : State} (m : Sub 0x7ffffffffff04216290 M) (h : Touch M s₀ s) :
    Touch M s₀ (lanQuiet s) := by
  unfold lanQuiet
  repeat' with_reducible first
    | assumption | refine lanCommit_touch (m.trans rfl) ?_ | refine Touch.ite_else ?_ (fun _ => ?_) | split

theorem panelOn_touch {M : Nat} {s₀ s : State} (m : Sub 0x7ffffffffff04216290 M) (h : Touch M s₀ s) :
    Touch M s₀ (panelOn s) := by
  unfold panelOn
  repeat' with_reducible first
    | assumption | refine frameLatch_touch (m.trans rfl) ?_
    | refine put_page_touch (m.trans (by decide +kernel)) ?_ | refine put_ch_touch (m.trans (by decide +kernel)) ?_ | refine put_idx_touch (m.trans (by decide +kernel)) ?_ | refine put_host_touch (m.trans (by decide +kernel)) ?_ | refine put_pll_touch (m.trans (by decide +kernel)) ?_ | refine put_master_touch (m.trans (by decide +kernel)) ?_ | refine put_closed_touch (m.trans (by decide +kernel)) ?_ | refine State.put_touch (m.trans (by decide +kernel)) ?_ | refine put_any_touch (m.trans (by decide +kernel)) ?_
    | refine State.withPanel_touch (m.bit rfl) ?_ | refine Touch.ite_else ?_ (fun _ => ?_) | unfold x
    | (extract_lets +onlyGivenNames x; first | (refine Touch.cut (s := x) ?_ (fun _ => ?_); rotate_left; clear_value x) | clear_value x)
    | split

theorem execPanelPowerOnDone_touch {M : Nat} {s₀ s : State} (m : Sub 0x7ffffffffff04216290 M) (h : Touch M s₀ s) :
    OutTouch M s₀ (execPanelPowerOnDone s) := by
  unfold execPanelPowerOnDone
  repeat' with_reducible first
    | assumption | apply OutTouch.next | refine panelOn_touch (m.trans rfl) ?_

theorem panelFall_touch {M : Nat} {s₀ s : State} (m : Sub 0x4000000 M) (h : Touch M s₀ s) :
    Touch M s₀ (panelFall s) := by
  unfold panelFall
  repeat' with_reducible first
    | assumption | refine State.withPanel_touch (m.bit rfl) ?_ | refine Touch.ite_else ?_ (fun _ => ?_) | unfold x
    | (extract_lets +onlyGivenNames x; first | (refine Touch.cut (s := x) ?_ (fun _ => ?_); rotate_left; clear_value x) | clear_value x)
    | split

theorem execPanelPowerOff_touch {M : Nat} {s₀ s : State} (m : Sub 0x4000000 M) (h : Touch M s₀ s) :
    OutTouch M s₀ (execPanelPowerOff s) := by
  unfold execPanelPowerOff
  repeat' with_reducible first
    | assumption | apply OutTouch.next | refine panelFall_touch (m.trans rfl) ?_

theorem panelFallDone_touch {M : Nat} {s₀ s : State} (m : Sub 0x7ffffffffff04216290 M) (h : Touch M s₀ s) :
    Touch M s₀ (panelFallDone s) := by
  unfold panelFallDone
  repeat' with_reducible first
    | assumption | refine raise_touch (m.trans rfl) ?_ | refine panelOff_touch (m.trans rfl) ?_
    | refine panelStart_touch (m.trans rfl) ?_ | refine lanQuiet_touch (m.trans rfl) ?_
    | refine Touch.ite_else ?_ (fun _ => ?_) | split

theorem execPanelPowerOffDone_touch {M : Nat} {s₀ s : State} (m : Sub 0x7ffffffffff04216290 M) (h : Touch M s₀ s) :
    OutTouch M s₀ (execPanelPowerOffDone s) := by
  unfold execPanelPowerOffDone
  repeat' with_reducible first
    | assumption | apply OutTouch.next | refine panelFallDone_touch (m.trans rfl) ?_

theorem panelBeacon_touch {M : Nat} {s₀ s : State} (m : Sub 0x2000000000004000010 M) (h : Touch M s₀ s) :
    Touch M s₀ (panelBeacon s) := by
  unfold panelBeacon
  repeat' with_reducible first
    | assumption | refine panelOff_touch (m.trans rfl) ?_ | refine beaconFollow_touch (m.trans rfl) ?_

theorem panelReturn_touch {M : Nat} {s₀ s : State} (m : Sub 0x2000000000004000010 M) (h : Touch M s₀ s) :
    Touch M s₀ (panelReturn s) := by
  unfold panelReturn
  repeat' with_reducible first
    | assumption
    | refine put_page_touch (m.trans (by decide +kernel)) ?_ | refine put_ch_touch (m.trans (by decide +kernel)) ?_ | refine put_idx_touch (m.trans (by decide +kernel)) ?_ | refine put_host_touch (m.trans (by decide +kernel)) ?_ | refine put_pll_touch (m.trans (by decide +kernel)) ?_ | refine put_master_touch (m.trans (by decide +kernel)) ?_ | refine put_closed_touch (m.trans (by decide +kernel)) ?_ | refine State.put_touch (m.trans (by decide +kernel)) ?_ | refine put_any_touch (m.trans (by decide +kernel)) ?_
    | refine panelStart_touch (m.trans rfl) ?_

theorem beaconPulse_touch {M : Nat} {s₀ s : State} (m : Sub 0x40000 M) (h : Touch M s₀ s) :
    Touch M s₀ (beaconPulse s) := by
  unfold beaconPulse
  repeat' with_reducible first
    | assumption | refine State.withOut_touch (m.bit rfl) ?_ | refine Touch.ite_else ?_ (fun _ => ?_) | unfold x
    | (extract_lets +onlyGivenNames x; first | (refine Touch.cut (s := x) ?_ (fun _ => ?_); rotate_left; clear_value x) | clear_value x)
    | split

theorem execBeaconPulse_touch {M : Nat} {s₀ s : State} (m : Sub 0x40000 M) (h : Touch M s₀ s) :
    OutTouch M s₀ (execBeaconPulse s) := by
  unfold execBeaconPulse
  repeat' with_reducible first
    | assumption | apply OutTouch.next | refine beaconPulse_touch (m.trans rfl) ?_

theorem supplyRecord_touch {M : Nat} {s₀ s : State} {a0 a1} (m : Sub 0x108000000100206214 M) (h : Touch M s₀ s) :
    Touch M s₀ (supplyRecord a0 a1 s) := by
  unfold supplyRecord
  repeat' with_reducible first
    | assumption | refine mark_touch (m.trans rfl) ?_ | refine noteRecord_touch (m.trans rfl) ?_
    | refine Touch.ite_else ?_ (fun _ => ?_) | split

theorem execVledFail_touch {M : Nat} {s₀ s : State} (m : Sub 0x2108000001104206214 M) (h : Touch M s₀ s) :
    OutTouch M s₀ (execVledFail s) := by
  unfold execVledFail
  repeat' with_reducible first
    | assumption | apply OutTouch.next | refine supplyRecord_touch (m.trans rfl) ?_
    | refine panelOff_touch (m.trans rfl) ?_
    | refine put_page_touch (m.trans (by decide +kernel)) ?_ | refine put_ch_touch (m.trans (by decide +kernel)) ?_ | refine put_idx_touch (m.trans (by decide +kernel)) ?_ | refine put_host_touch (m.trans (by decide +kernel)) ?_ | refine put_pll_touch (m.trans (by decide +kernel)) ?_ | refine put_master_touch (m.trans (by decide +kernel)) ?_ | refine put_closed_touch (m.trans (by decide +kernel)) ?_ | refine State.put_touch (m.trans (by decide +kernel)) ?_ | refine put_any_touch (m.trans (by decide +kernel)) ?_
    | refine Touch.ite_else ?_ (fun _ => ?_) | split

theorem execVledRecover_touch {M : Nat} {s₀ s : State} (m : Sub 0x108000001104206214 M) (h : Touch M s₀ s) :
    OutTouch M s₀ (execVledRecover s) := by
  unfold execVledRecover
  repeat' with_reducible first
    | assumption | apply OutTouch.next | refine supplyRecord_touch (m.trans rfl) ?_
    | refine put_page_touch (m.trans (by decide +kernel)) ?_ | refine put_ch_touch (m.trans (by decide +kernel)) ?_ | refine put_idx_touch (m.trans (by decide +kernel)) ?_ | refine put_host_touch (m.trans (by decide +kernel)) ?_ | refine put_pll_touch (m.trans (by decide +kernel)) ?_ | refine put_master_touch (m.trans (by decide +kernel)) ?_ | refine put_closed_touch (m.trans (by decide +kernel)) ?_ | refine State.put_touch (m.trans (by decide +kernel)) ?_ | refine put_any_touch (m.trans (by decide +kernel)) ?_
    | refine panelStart_touch (m.trans rfl) ?_ | refine Touch.ite_else ?_ (fun _ => ?_) | split

theorem panelTick_touch {M : Nat} {s₀ s : State} (m : Sub 0x4000000 M) (h : Touch M s₀ s) :
    Touch M s₀ (panelTick s) := by
  unfold panelTick
  repeat' with_reducible first
    | assumption | refine State.withPanel_touch (m.bit rfl) ?_ | refine Touch.ite_else ?_ (fun _ => ?_) | unfold x
    | (extract_lets +onlyGivenNames x; first | (refine Touch.cut (s := x) ?_ (fun _ => ?_); rotate_left; clear_value x) | clear_value x)
    | split

end Sys2Proof.Machine
end

