-- ==== Sys2Proof/Laws/TouchRtc.lean ====
section
/-!
SUPPORT. What the definitions of Machine/Rtc.lean touch.
-/

set_option Elab.async false
set_option linter.all false

namespace Sys2Proof.Machine

theorem State.setCal_touch {M : Nat} {s₀ s : State} {a1} (m : Sub 0x800000000000000010 M) (h : Touch M s₀ s) :
    Touch M s₀ (State.setCal s a1) := by
  unfold State.setCal
  repeat' with_reducible first
    | assumption
    | refine put_page_touch (m.trans (by decide +kernel)) ?_ | refine put_ch_touch (m.trans (by decide +kernel)) ?_ | refine put_idx_touch (m.trans (by decide +kernel)) ?_ | refine put_host_touch (m.trans (by decide +kernel)) ?_ | refine put_pll_touch (m.trans (by decide +kernel)) ?_ | refine put_master_touch (m.trans (by decide +kernel)) ?_ | refine put_closed_touch (m.trans (by decide +kernel)) ?_ | refine State.put_touch (m.trans (by decide +kernel)) ?_ | refine put_any_touch (m.trans (by decide +kernel)) ?_
    | unfold x
    | (extract_lets +onlyGivenNames x; first | (refine Touch.cut (s := x) ?_ (fun _ => ?_); rotate_left; clear_value x) | clear_value x)

theorem secondCarry_touch {M : Nat} {s₀ s : State} (m : Sub 0x908000000100206210 M) (h : Touch M s₀ s) :
    Touch M s₀ (secondCarry s) := by
  unfold secondCarry
  repeat' with_reducible first
    | assumption | refine raise_touch (m.trans rfl) ?_ | refine State.setCal_touch (m.trans rfl) ?_
    | refine Touch.ite_else ?_ (fun _ => ?_) | unfold x
    | (extract_lets +onlyGivenNames x; first | (refine Touch.cut (s := x) ?_ (fun _ => ?_); rotate_left; clear_value x) | clear_value x)
    | refine Touch.snd ?_ (by assumption) | split

theorem secondCarries_touch {M : Nat} {s₀ s : State} {n} (m : Sub 0x908000000100206210 M) (h : Touch M s₀ s) : Touch M s₀ (secondCarries n s) := by
  induction n generalizing s with
  | zero => exact h
  | succ n ih => exact ih (secondCarry_touch (m.trans rfl) h)

theorem addTicks_touch {M : Nat} {s₀ s : State} {a0} (m : Sub 0x800000000008000010 M) (h : Touch M s₀ s) :
    Touch M s₀ (addTicks a0 s).2 := by
  unfold addTicks
  repeat' with_reducible first
    | assumption | refine State.withRtc_touch (m.bit rfl) ?_
    | refine put_page_touch (m.trans (by decide +kernel)) ?_ | refine put_ch_touch (m.trans (by decide +kernel)) ?_ | refine put_idx_touch (m.trans (by decide +kernel)) ?_ | refine put_host_touch (m.trans (by decide +kernel)) ?_ | refine put_pll_touch (m.trans (by decide +kernel)) ?_ | refine put_master_touch (m.trans (by decide +kernel)) ?_ | refine put_closed_touch (m.trans (by decide +kernel)) ?_ | refine State.put_touch (m.trans (by decide +kernel)) ?_ | refine put_any_touch (m.trans (by decide +kernel)) ?_
    | unfold x
    | (extract_lets +onlyGivenNames x; first | (refine Touch.cut (s := x) ?_ (fun _ => ?_); rotate_left; clear_value x) | clear_value x)

theorem requestWake_touch {M : Nat} {s₀ s : State} {a0 a1} (m : Sub 0x8 M) (h : Touch M s₀ s) :
    Touch M s₀ (requestWake a0 a1 s) := by
  unfold requestWake
  repeat' with_reducible first
    | assumption | refine State.withPwr_touch (m.bit rfl) ?_ | refine Touch.ite_else ?_ (fun _ => ?_) | unfold x
    | (extract_lets +onlyGivenNames x; first | (refine Touch.cut (s := x) ?_ (fun _ => ?_); rotate_left; clear_value x) | clear_value x)
    | split

theorem almFire_touch {M : Nat} {s₀ s : State} {a0} (m : Sub 0x90800000010020621c M) (h : Touch M s₀ s) :
    Touch M s₀ (almFire a0 s) := by
  unfold almFire
  repeat' with_reducible first
    | assumption | refine requestWake_touch (m.trans rfl) ?_
    | refine put_page_touch (m.trans (by decide +kernel)) ?_ | refine put_ch_touch (m.trans (by decide +kernel)) ?_ | refine put_idx_touch (m.trans (by decide +kernel)) ?_ | refine put_host_touch (m.trans (by decide +kernel)) ?_ | refine put_pll_touch (m.trans (by decide +kernel)) ?_ | refine put_master_touch (m.trans (by decide +kernel)) ?_ | refine put_closed_touch (m.trans (by decide +kernel)) ?_ | refine State.put_touch (m.trans (by decide +kernel)) ?_ | refine put_any_touch (m.trans (by decide +kernel)) ?_
    | refine note_touch (m.trans rfl) ?_ | refine Touch.ite_else ?_ (fun _ => ?_) | unfold x
    | (extract_lets +onlyGivenNames x; first | (refine Touch.cut (s := x) ?_ (fun _ => ?_); rotate_left; clear_value x) | clear_value x)
    | split

theorem almEval_touch {M : Nat} {s₀ s : State} {a1} (m : Sub 0x90800000010020621c M) (h : Touch M s₀ s) :
    Touch M s₀ (almEval s a1) := by
  unfold almEval
  repeat' with_reducible first
    | assumption | refine almFire_touch (m.trans rfl) ?_ | refine Touch.ite_else ?_ (fun _ => ?_) | unfold x
    | (extract_lets +onlyGivenNames x; first | (refine Touch.cut (s := x) ?_ (fun _ => ?_); rotate_left; clear_value x) | clear_value x)
    | split

theorem secondBoundary_touch {M : Nat} {s₀ s : State} (m : Sub 0x90800000010020621c M) (h : Touch M s₀ s) :
    Touch M s₀ (secondBoundary s) := by
  unfold secondBoundary
  repeat' with_reducible first
    | assumption | refine almEval_touch (m.trans rfl) ?_ | refine secondCarry_touch (m.trans rfl) ?_
    | refine foldl_touch (fun _ _ _ => ?_) ?_

theorem almCatchup_touch {M : Nat} {s₀ s : State} {a0 a2} (m : Sub 0x90800000010020621c M) (h : Touch M s₀ s) :
    Touch M s₀ (almCatchup a0 s a2) := by
  unfold almCatchup
  repeat' with_reducible first
    | assumption
    | refine put_page_touch (m.trans (by decide +kernel)) ?_ | refine put_ch_touch (m.trans (by decide +kernel)) ?_ | refine put_idx_touch (m.trans (by decide +kernel)) ?_ | refine put_host_touch (m.trans (by decide +kernel)) ?_ | refine put_pll_touch (m.trans (by decide +kernel)) ?_ | refine put_master_touch (m.trans (by decide +kernel)) ?_ | refine put_closed_touch (m.trans (by decide +kernel)) ?_ | refine State.put_touch (m.trans (by decide +kernel)) ?_ | refine put_any_touch (m.trans (by decide +kernel)) ?_
    | refine note_touch (m.trans rfl) ?_ | refine almFire_touch (m.trans rfl) ?_
    | refine Touch.ite_else ?_ (fun _ => ?_) | unfold x
    | (extract_lets +onlyGivenNames x; first | (refine Touch.cut (s := x) ?_ (fun _ => ?_); rotate_left; clear_value x) | clear_value x)
    | split

theorem trimAdvance_touch {M : Nat} {s₀ s : State} (m : Sub 0x800000000008000010 M) (h : Touch M s₀ s) :
    Touch M s₀ (trimAdvance s) := by
  unfold trimAdvance
  repeat' with_reducible first
    | assumption | refine State.withRtc_touch (m.bit rfl) ?_
    | refine put_page_touch (m.trans (by decide +kernel)) ?_ | refine put_ch_touch (m.trans (by decide +kernel)) ?_ | refine put_idx_touch (m.trans (by decide +kernel)) ?_ | refine put_host_touch (m.trans (by decide +kernel)) ?_ | refine put_pll_touch (m.trans (by decide +kernel)) ?_ | refine put_master_touch (m.trans (by decide +kernel)) ?_ | refine put_closed_touch (m.trans (by decide +kernel)) ?_ | refine State.put_touch (m.trans (by decide +kernel)) ?_ | refine put_any_touch (m.trans (by decide +kernel)) ?_
    | refine Touch.ite_else ?_ (fun _ => ?_) | unfold x
    | (extract_lets +onlyGivenNames x; first | (refine Touch.cut (s := x) ?_ (fun _ => ?_); rotate_left; clear_value x) | clear_value x)
    | split

theorem heldTick_touch {M : Nat} {s₀ s : State} (m : Sub 0x800000000000000010 M) (h : Touch M s₀ s) :
    Touch M s₀ (heldTick s) := by
  unfold heldTick
  repeat' with_reducible first
    | assumption
    | refine put_page_touch (m.trans (by decide +kernel)) ?_ | refine put_ch_touch (m.trans (by decide +kernel)) ?_ | refine put_idx_touch (m.trans (by decide +kernel)) ?_ | refine put_host_touch (m.trans (by decide +kernel)) ?_ | refine put_pll_touch (m.trans (by decide +kernel)) ?_ | refine put_master_touch (m.trans (by decide +kernel)) ?_ | refine put_closed_touch (m.trans (by decide +kernel)) ?_ | refine State.put_touch (m.trans (by decide +kernel)) ?_ | refine put_any_touch (m.trans (by decide +kernel)) ?_
    | refine State.bumpSat_touch ?_ | refine Touch.ite_else ?_ (fun _ => ?_) | unfold x
    | (extract_lets +onlyGivenNames x; first | (refine Touch.cut (s := x) ?_ (fun _ => ?_); rotate_left; clear_value x) | clear_value x)
    | split

theorem rtcTick_touch {M : Nat} {s₀ s : State} (m : Sub 0x90800000010820621c M) (h : Touch M s₀ s) :
    Touch M s₀ (rtcTick s) := by
  unfold rtcTick
  repeat' with_reducible first
    | assumption | refine heldTick_touch (m.trans rfl) ?_ | refine State.withRtc_touch (m.bit rfl) ?_
    | refine secondBoundary_touch (m.trans rfl) ?_ | refine trimAdvance_touch (m.trans rfl) ?_
    | refine addTicks_touch (m.trans rfl) ?_ | refine Touch.ite_else ?_ (fun _ => ?_) | unfold x
    | (extract_lets +onlyGivenNames x; first | (refine Touch.cut (s := x) ?_ (fun _ => ?_); rotate_left; clear_value x) | clear_value x)
    | refine Touch.snd ?_ (by assumption) | split

theorem execRtcTick_touch {M : Nat} {s₀ s : State} (m : Sub 0x90800000010820621c M) (h : Touch M s₀ s) :
    OutTouch M s₀ (execRtcTick s) := by
  unfold execRtcTick
  repeat' with_reducible first
    | assumption | apply OutTouch.next | refine rtcTick_touch (m.trans rfl) ?_

theorem State.setShadow_touch {M : Nat} {s₀ s : State} {a1 a2} (m : Sub 0x8000000 M) (h : Touch M s₀ s) :
    Touch M s₀ (State.setShadow s a1 a2) := by
  unfold State.setShadow
  repeat' with_reducible first
    | assumption | refine State.withRtc_touch (m.bit rfl) ?_ | unfold x
    | (extract_lets +onlyGivenNames x; first | (refine Touch.cut (s := x) ?_ (fun _ => ?_); rotate_left; clear_value x) | clear_value x)
    | split

theorem timeLoEffect_touch {M : Nat} {s₀ s : State} {a0} (m : Sub 0x8000000 M) (h : Touch M s₀ s) :
    Touch M s₀ (timeLoEffect a0 s) := by
  unfold timeLoEffect
  repeat' with_reducible first
    | assumption | refine State.setShadow_touch (m.trans rfl) ?_ | refine Touch.ite_else ?_ (fun _ => ?_) | split

theorem timeHiEffect_touch {M : Nat} {s₀ s : State} {a0} (m : Sub 0x8000000 M) (h : Touch M s₀ s) :
    Touch M s₀ (timeHiEffect a0 s) := by
  unfold timeHiEffect
  repeat' with_reducible first
    | assumption | refine State.setShadow_touch (m.trans rfl) ?_ | refine Touch.ite_else ?_ (fun _ => ?_) | split

theorem execShadowReleaseTimeout_touch {M : Nat} {s₀ s : State} {a0} (m : Sub 0x8000000 M) (h : Touch M s₀ s) :
    OutTouch M s₀ (execShadowReleaseTimeout a0 s) := by
  unfold execShadowReleaseTimeout
  repeat' with_reducible first
    | assumption | apply OutTouch.next | refine State.setShadow_touch (m.trans rfl) ?_

theorem rtcHalt_touch {M : Nat} {s₀ s : State} (m : Sub 0x800000000008000010 M) (h : Touch M s₀ s) :
    Touch M s₀ (rtcHalt s) := by
  unfold rtcHalt
  repeat' with_reducible first
    | assumption | refine State.withRtc_touch (m.bit rfl) ?_
    | refine put_page_touch (m.trans (by decide +kernel)) ?_ | refine put_ch_touch (m.trans (by decide +kernel)) ?_ | refine put_idx_touch (m.trans (by decide +kernel)) ?_ | refine put_host_touch (m.trans (by decide +kernel)) ?_ | refine put_pll_touch (m.trans (by decide +kernel)) ?_ | refine put_master_touch (m.trans (by decide +kernel)) ?_ | refine put_closed_touch (m.trans (by decide +kernel)) ?_ | refine State.put_touch (m.trans (by decide +kernel)) ?_ | refine put_any_touch (m.trans (by decide +kernel)) ?_
    | unfold x
    | (extract_lets +onlyGivenNames x; first | (refine Touch.cut (s := x) ?_ (fun _ => ?_); rotate_left; clear_value x) | clear_value x)

theorem rtcRelease_touch {M : Nat} {s₀ s : State} {a0} (m : Sub 0x90800000010820621c M) (h : Touch M s₀ s) :
    Touch M s₀ (rtcRelease a0 s) := by
  unfold rtcRelease
  repeat' with_reducible first
    | assumption | refine State.withRtc_touch (m.bit rfl) ?_
    | refine put_page_touch (m.trans (by decide +kernel)) ?_ | refine put_ch_touch (m.trans (by decide +kernel)) ?_ | refine put_idx_touch (m.trans (by decide +kernel)) ?_ | refine put_host_touch (m.trans (by decide +kernel)) ?_ | refine put_pll_touch (m.trans (by decide +kernel)) ?_ | refine put_master_touch (m.trans (by decide +kernel)) ?_ | refine put_closed_touch (m.trans (by decide +kernel)) ?_ | refine State.put_touch (m.trans (by decide +kernel)) ?_ | refine put_any_touch (m.trans (by decide +kernel)) ?_
    | refine secondCarries_touch (m.trans rfl) ?_ | refine almCatchup_touch (m.trans rfl) ?_
    | refine note_touch (m.trans rfl) ?_ | refine addTicks_touch (m.trans rfl) ?_
    | refine foldl_touch (fun _ _ _ => ?_) ?_ | refine Touch.ite_else ?_ (fun _ => ?_) | unfold x
    | (extract_lets +onlyGivenNames x; first | (refine Touch.cut (s := x) ?_ (fun _ => ?_); rotate_left; clear_value x) | clear_value x)
    | refine Touch.snd ?_ (by assumption) | split

theorem haltForced_touch {M : Nat} {s₀ s : State} (m : Sub 0x90800000010820621c M) (h : Touch M s₀ s) :
    Touch M s₀ (haltForced s) := by
  unfold haltForced
  repeat' with_reducible first
    | assumption | refine raise_touch (m.trans rfl) ?_ | refine rtcRelease_touch (m.trans rfl) ?_
    | refine Touch.ite_else ?_ (fun _ => ?_) | split

theorem actRtcCtl_touch {M : Nat} {s₀ s : State} {a0 a1 a2} (m : Sub 0x9080000001082062fc M) (h : Touch M s₀ s) :
    Touch M s₀ (actRtcCtl a0 a1 a2 s) := by
  unfold actRtcCtl
  repeat' with_reducible first
    | assumption | refine rtcHalt_touch (m.trans rfl) ?_ | refine rtcRelease_touch (m.trans rfl) ?_
    | refine storeFields_touch (m.trans (by decide +kernel)) ?_ | refine storeFields_any_touch (m.trans (by decide +kernel)) ?_
    | refine Touch.ite_else ?_ (fun _ => ?_) | unfold x
    | (extract_lets +onlyGivenNames x; first | (refine Touch.cut (s := x) ?_ (fun _ => ?_); rotate_left; clear_value x) | clear_value x)
    | split

theorem execRtcHalt_touch {M : Nat} {s₀ s : State} {a0} (m : Sub 0x9080000003082062fc M) (h : Touch M s₀ s) :
    OutTouch M s₀ (execRtcHalt a0 s) := by
  unfold execRtcHalt
  repeat' with_reducible first
    | assumption | apply OutTouch.next
    | refine hostWord_touch (m.trans (by decide +kernel)) (fun _ _ _ => ?_) ?_ | refine hostWord_any_touch (m.trans (by decide +kernel)) (fun _ _ _ => ?_) ?_
    | refine actRtcCtl_touch (m.trans rfl) ?_ | unfold x
    | (extract_lets +onlyGivenNames x; first | (refine Touch.cut (s := x) ?_ (fun _ => ?_); rotate_left; clear_value x) | clear_value x)

theorem execRtcRelease_touch {M : Nat} {s₀ s : State} {a0} (m : Sub 0x9080000003082062fc M) (h : Touch M s₀ s) :
    OutTouch M s₀ (execRtcRelease a0 s) := by
  unfold execRtcRelease
  repeat' with_reducible first
    | assumption | apply OutTouch.next
    | refine hostWord_touch (m.trans (by decide +kernel)) (fun _ _ _ => ?_) ?_ | refine hostWord_any_touch (m.trans (by decide +kernel)) (fun _ _ _ => ?_) ?_
    | refine actRtcCtl_touch (m.trans rfl) ?_ | unfold x
    | (extract_lets +onlyGivenNames x; first | (refine Touch.cut (s := x) ?_ (fun _ => ?_); rotate_left; clear_value x) | clear_value x)

theorem actRtcTime_touch {M : Nat} {s₀ s : State} {a0 a1 a2 a3} (m : Sub 0x7ffffffffff082062f0 M) (h : Touch M s₀ s) :
    Touch M s₀ (actRtcTime a0 a1 a2 a3 s) := by
  unfold actRtcTime
  repeat' with_reducible first
    | assumption | refine State.withRtc_touch (m.bit rfl) ?_
    | refine storeFields_touch (m.trans (by decide +kernel)) ?_ | refine storeFields_any_touch (m.trans (by decide +kernel)) ?_
    | refine accessFault_touch (m.trans rfl) ?_ | refine Touch.ite_else ?_ (fun _ => ?_) | unfold x
    | (extract_lets +onlyGivenNames x; first | (refine Touch.cut (s := x) ?_ (fun _ => ?_); rotate_left; clear_value x) | clear_value x)
    | split

theorem actRtcTrim_touch {M : Nat} {s₀ s : State} {a0 a1 a2} (m : Sub 0x9080000003002062f0 M) (h : Touch M s₀ s) :
    Touch M s₀ (actRtcTrim a0 a1 a2 s) := by
  unfold actRtcTrim
  repeat' with_reducible first
    | assumption
    | refine storeFields_touch (m.trans (by decide +kernel)) ?_ | refine storeFields_any_touch (m.trans (by decide +kernel)) ?_
    | refine accessFault_touch (m.trans rfl) ?_ | refine Touch.ite_else ?_ (fun _ => ?_) | split

theorem setOsf_touch {M : Nat} {s₀ s : State} (m : Sub 0x908000000100206214 M) (h : Touch M s₀ s) :
    Touch M s₀ (setOsf s) := by
  unfold setOsf
  repeat' with_reducible first
    | assumption
    | refine put_page_touch (m.trans (by decide +kernel)) ?_ | refine put_ch_touch (m.trans (by decide +kernel)) ?_ | refine put_idx_touch (m.trans (by decide +kernel)) ?_ | refine put_host_touch (m.trans (by decide +kernel)) ?_ | refine put_pll_touch (m.trans (by decide +kernel)) ?_ | refine put_master_touch (m.trans (by decide +kernel)) ?_ | refine put_closed_touch (m.trans (by decide +kernel)) ?_ | refine State.put_touch (m.trans (by decide +kernel)) ?_ | refine put_any_touch (m.trans (by decide +kernel)) ?_
    | refine note_touch (m.trans rfl) ?_ | unfold x
    | (extract_lets +onlyGivenNames x; first | (refine Touch.cut (s := x) ?_ (fun _ => ?_); rotate_left; clear_value x) | clear_value x)

theorem actRtcStat_touch {M : Nat} {s₀ s : State} {a0 a1} (m : Sub 0x908000000300206210 M) (h : Touch M s₀ s) :
    Touch M s₀ (actRtcStat a0 a1 s) := by
  unfold actRtcStat
  repeat' with_reducible first
    | assumption
    | refine put_page_touch (m.trans (by decide +kernel)) ?_ | refine put_ch_touch (m.trans (by decide +kernel)) ?_ | refine put_idx_touch (m.trans (by decide +kernel)) ?_ | refine put_host_touch (m.trans (by decide +kernel)) ?_ | refine put_pll_touch (m.trans (by decide +kernel)) ?_ | refine put_master_touch (m.trans (by decide +kernel)) ?_ | refine put_closed_touch (m.trans (by decide +kernel)) ?_ | refine State.put_touch (m.trans (by decide +kernel)) ?_ | refine put_any_touch (m.trans (by decide +kernel)) ?_
    | refine accessFault_touch (m.trans rfl) ?_
    | refine setReg_fld_touch (m.trans (by decide +kernel)) ?_ | refine State.setReg_touch (m.trans (by decide +kernel)) ?_ | refine setReg_any_touch (m.trans (by decide +kernel)) ?_
    | refine Touch.ite_else ?_ (fun _ => ?_) | unfold x
    | (extract_lets +onlyGivenNames x; first | (refine Touch.cut (s := x) ?_ (fun _ => ?_); rotate_left; clear_value x) | clear_value x)
    | split

theorem execOsfClear_touch {M : Nat} {s₀ s : State} {a0} (m : Sub 0x9080000003002062f0 M) (h : Touch M s₀ s) :
    OutTouch M s₀ (execOsfClear a0 s) := by
  unfold execOsfClear
  repeat' with_reducible first
    | assumption | apply OutTouch.next
    | refine hostWord_touch (m.trans (by decide +kernel)) (fun _ _ _ => ?_) ?_ | refine hostWord_any_touch (m.trans (by decide +kernel)) (fun _ _ _ => ?_) ?_
    | refine actRtcStat_touch (m.trans rfl) ?_

theorem rtcLock_touch {M : Nat} {s₀ s : State} (m : Sub 0x90800000010820621c M) (h : Touch M s₀ s) :
    Touch M s₀ (rtcLock s) := by
  unfold rtcLock
  repeat' with_reducible first
    | assumption | refine State.withPwr_touch (m.bit rfl) ?_ | refine haltForced_touch (m.trans rfl) ?_
    | refine Touch.ite_else ?_ (fun _ => ?_) | unfold x
    | (extract_lets +onlyGivenNames x; first | (refine Touch.cut (s := x) ?_ (fun _ => ?_); rotate_left; clear_value x) | clear_value x)
    | split

theorem rtcUnlock_touch {M : Nat} {s₀ s : State} (m : Sub 0x8 M) (h : Touch M s₀ s) :
    Touch M s₀ (rtcUnlock s) := by
  unfold rtcUnlock
  repeat' with_reducible first
    | assumption | refine State.withPwr_touch (m.bit rfl) ?_ | unfold x
    | (extract_lets +onlyGivenNames x; first | (refine Touch.cut (s := x) ?_ (fun _ => ?_); rotate_left; clear_value x) | clear_value x)

end Sys2Proof.Machine
end

