-- ==== Sys2Proof/Laws/TouchPorts.lean ====
section
/-!
SUPPORT. What the definitions of Machine/Ports.lean touch.
-/

set_option Elab.async false
set_option linter.all false

namespace Sys2Proof.Machine

theorem portTo_touch {M : Nat} {s₀ s : State} {a0 a1} (m : Sub 0x7ffe000000000080110 M) (h : Touch M s₀ s) :
    Touch M s₀ (portTo a0 a1 s) := by
  unfold portTo
  repeat' with_reducible first
    | assumption
    | refine put_page_touch (m.trans (by decide +kernel)) ?_ | refine put_ch_touch (m.trans (by decide +kernel)) ?_ | refine put_idx_touch (m.trans (by decide +kernel)) ?_ | refine put_host_touch (m.trans (by decide +kernel)) ?_ | refine put_pll_touch (m.trans (by decide +kernel)) ?_ | refine put_master_touch (m.trans (by decide +kernel)) ?_ | refine put_closed_touch (m.trans (by decide +kernel)) ?_ | refine State.put_touch (m.trans (by decide +kernel)) ?_ | refine put_any_touch (m.trans (by decide +kernel)) ?_
    | refine State.setLasting_touch (m.trans rfl) ?_ | refine State.setXport_touch (m.trans rfl) ?_
    | refine Touch.ite_else ?_ (fun _ => ?_) | unfold x
    | (extract_lets +onlyGivenNames x; first | (refine Touch.cut (s := x) ?_ (fun _ => ?_); rotate_left; clear_value x) | clear_value x)
    | split

theorem portDown_touch {M : Nat} {s₀ s : State} {a0} (m : Sub 0x7ffe000000100286310 M) (h : Touch M s₀ s) :
    Touch M s₀ (portDown a0 s) := by
  unfold portDown
  repeat' with_reducible first
    | assumption | refine raise_touch (m.trans rfl) ?_ | refine portTo_touch (m.trans rfl) ?_
    | refine Touch.ite_else ?_ (fun _ => ?_) | unfold x
    | (extract_lets +onlyGivenNames x; first | (refine Touch.cut (s := x) ?_ (fun _ => ?_); rotate_left; clear_value x) | clear_value x)
    | split

theorem portEnable_touch {M : Nat} {s₀ s : State} {a0} (m : Sub 0x7ffe000000000080110 M) (h : Touch M s₀ s) :
    Touch M s₀ (portEnable a0 s) := by
  unfold portEnable
  repeat' with_reducible first
    | assumption | refine portTo_touch (m.trans rfl) ?_ | refine Touch.ite_else ?_ (fun _ => ?_) | split

theorem portDisable_touch {M : Nat} {s₀ s : State} {a0} (m : Sub 0x7ffe000000100286310 M) (h : Touch M s₀ s) :
    Touch M s₀ (portDisable a0 s) := by
  unfold portDisable
  repeat' with_reducible first
    | assumption
    | refine put_page_touch (m.trans (by decide +kernel)) ?_ | refine put_ch_touch (m.trans (by decide +kernel)) ?_ | refine put_idx_touch (m.trans (by decide +kernel)) ?_ | refine put_host_touch (m.trans (by decide +kernel)) ?_ | refine put_pll_touch (m.trans (by decide +kernel)) ?_ | refine put_master_touch (m.trans (by decide +kernel)) ?_ | refine put_closed_touch (m.trans (by decide +kernel)) ?_ | refine State.put_touch (m.trans (by decide +kernel)) ?_ | refine put_any_touch (m.trans (by decide +kernel)) ?_
    | refine portTo_touch (m.trans rfl) ?_ | refine portDown_touch (m.trans rfl) ?_
    | refine Touch.ite_else ?_ (fun _ => ?_) | split

theorem portsEnable_touch {M : Nat} {s₀ s : State} (m : Sub 0x7ffe000000000080110 M) (h : Touch M s₀ s) :
    Touch M s₀ (portsEnable s) := by
  unfold portsEnable
  repeat' with_reducible first
    | assumption | refine portEnable_touch (m.trans rfl) ?_ | refine foldl_touch (fun _ _ _ => ?_) ?_

theorem portsDisable_touch {M : Nat} {s₀ s : State} (m : Sub 0x7ffe000000100286310 M) (h : Touch M s₀ s) :
    Touch M s₀ (portsDisable s) := by
  unfold portsDisable
  repeat' with_reducible first
    | assumption | refine portDisable_touch (m.trans rfl) ?_ | refine foldl_touch (fun _ _ _ => ?_) ?_

theorem portRestart_touch {M : Nat} {s₀ s : State} {a0} (m : Sub 0x7ffe000000100286310 M) (h : Touch M s₀ s) :
    Touch M s₀ (portRestart a0 s) := by
  unfold portRestart
  repeat' with_reducible first
    | assumption
    | refine put_page_touch (m.trans (by decide +kernel)) ?_ | refine put_ch_touch (m.trans (by decide +kernel)) ?_ | refine put_idx_touch (m.trans (by decide +kernel)) ?_ | refine put_host_touch (m.trans (by decide +kernel)) ?_ | refine put_pll_touch (m.trans (by decide +kernel)) ?_ | refine put_master_touch (m.trans (by decide +kernel)) ?_ | refine put_closed_touch (m.trans (by decide +kernel)) ?_ | refine State.put_touch (m.trans (by decide +kernel)) ?_ | refine put_any_touch (m.trans (by decide +kernel)) ?_
    | refine portTo_touch (m.trans rfl) ?_ | refine portDown_touch (m.trans rfl) ?_
    | refine State.setXport_touch (m.trans rfl) ?_ | refine portDisable_touch (m.trans rfl) ?_
    | refine Touch.ite_else ?_ (fun _ => ?_) | unfold x
    | (extract_lets +onlyGivenNames x; first | (refine Touch.cut (s := x) ?_ (fun _ => ?_); rotate_left; clear_value x) | clear_value x)
    | split

theorem phyReads_touch {M : Nat} {s₀ s : State} {a0} (m : Sub 0x40000 M) (h : Touch M s₀ s) :
    Touch M s₀ (phyReads a0 s) := by
  unfold phyReads
  repeat' with_reducible first
    | assumption | refine State.withOut_touch (m.bit rfl) ?_

theorem phyPoll_touch {M : Nat} {s₀ s : State} {a0 a1} (m : Sub 0x7ffe0000001002c6310 M) (h : Touch M s₀ s) :
    Touch M s₀ (phyPoll a0 a1 s) := by
  unfold phyPoll
  repeat' with_reducible first
    | assumption | refine raise_touch (m.trans rfl) ?_
    | refine put_page_touch (m.trans (by decide +kernel)) ?_ | refine put_ch_touch (m.trans (by decide +kernel)) ?_ | refine put_idx_touch (m.trans (by decide +kernel)) ?_ | refine put_host_touch (m.trans (by decide +kernel)) ?_ | refine put_pll_touch (m.trans (by decide +kernel)) ?_ | refine put_master_touch (m.trans (by decide +kernel)) ?_ | refine put_closed_touch (m.trans (by decide +kernel)) ?_ | refine State.put_touch (m.trans (by decide +kernel)) ?_ | refine put_any_touch (m.trans (by decide +kernel)) ?_
    | refine portTo_touch (m.trans rfl) ?_ | refine portDown_touch (m.trans rfl) ?_
    | refine State.setXport_touch (m.trans rfl) ?_ | refine phyReads_touch (m.trans rfl) ?_
    | refine Touch.ite_else ?_ (fun _ => ?_) | unfold x
    | (extract_lets +onlyGivenNames x; first | (refine Touch.cut (s := x) ?_ (fun _ => ?_); rotate_left; clear_value x) | clear_value x)
    | split

theorem execPhyPoll_touch {M : Nat} {s₀ s : State} {a0 a1} (m : Sub 0x7ffe0000001002c6310 M) (h : Touch M s₀ s) :
    OutTouch M s₀ (execPhyPoll a0 a1 s) := by
  unfold execPhyPoll
  repeat' with_reducible first
    | assumption | apply OutTouch.next | refine phyPoll_touch (m.trans rfl) ?_

theorem phyRelease_touch {M : Nat} {s₀ s : State} (m : Sub 0x7ffe000000000080118 M) (h : Touch M s₀ s) :
    Touch M s₀ (phyRelease s) := by
  unfold phyRelease
  repeat' with_reducible first
    | assumption | refine portsEnable_touch (m.trans rfl) ?_ | refine State.withPwr_touch (m.bit rfl) ?_
    | refine Touch.ite_else ?_ (fun _ => ?_) | unfold x
    | (extract_lets +onlyGivenNames x; first | (refine Touch.cut (s := x) ?_ (fun _ => ?_); rotate_left; clear_value x) | clear_value x)
    | split

theorem execPhyResetRelease_touch {M : Nat} {s₀ s : State} (m : Sub 0x7ffe000000000080118 M) (h : Touch M s₀ s) :
    OutTouch M s₀ (execPhyResetRelease s) := by
  unfold execPhyResetRelease
  repeat' with_reducible first
    | assumption | apply OutTouch.next | refine phyRelease_touch (m.trans rfl) ?_

theorem actXnetCtl_touch {M : Nat} {s₀ s : State} {a0 a1 a2} (m : Sub 0x40000000000000f8 M) (h : Touch M s₀ s) :
    Touch M s₀ (actXnetCtl a0 a1 a2 s) := by
  unfold actXnetCtl
  repeat' with_reducible first
    | assumption | refine State.withPwr_touch (m.bit rfl) ?_
    | refine storeFields_touch (m.trans (by decide +kernel)) ?_ | refine storeFields_any_touch (m.trans (by decide +kernel)) ?_
    | refine Touch.ite_else ?_ (fun _ => ?_) | unfold x
    | (extract_lets +onlyGivenNames x; first | (refine Touch.cut (s := x) ?_ (fun _ => ?_); rotate_left; clear_value x) | clear_value x)
    | split

theorem mdioDrive_touch {M : Nat} {s₀ s : State} (m : Sub 0x40000 M) (h : Touch M s₀ s) :
    Touch M s₀ (mdioDrive s) := by
  unfold mdioDrive
  repeat' with_reducible first
    | assumption | refine State.withOut_touch (m.bit rfl) ?_

theorem mdioResume_touch {M : Nat} {s₀ s : State} (m : Sub 0x40000 M) (h : Touch M s₀ s) :
    Touch M s₀ (mdioResume s) := by
  unfold mdioResume
  repeat' with_reducible first
    | assumption | refine mdioDrive_touch (m.trans rfl) ?_ | refine Touch.ite_else ?_ (fun _ => ?_) | split

theorem actMdio_touch {M : Nat} {s₀ s : State} {a0 a1 a2} (m : Sub 0x10c0000003002462f0 M) (h : Touch M s₀ s) :
    Touch M s₀ (actMdio a0 a1 a2 s) := by
  unfold actMdio
  repeat' with_reducible first
    | assumption | refine mdioResume_touch (m.trans rfl) ?_
    | refine put_page_touch (m.trans (by decide +kernel)) ?_ | refine put_ch_touch (m.trans (by decide +kernel)) ?_ | refine put_idx_touch (m.trans (by decide +kernel)) ?_ | refine put_host_touch (m.trans (by decide +kernel)) ?_ | refine put_pll_touch (m.trans (by decide +kernel)) ?_ | refine put_master_touch (m.trans (by decide +kernel)) ?_ | refine put_closed_touch (m.trans (by decide +kernel)) ?_ | refine State.put_touch (m.trans (by decide +kernel)) ?_ | refine put_any_touch (m.trans (by decide +kernel)) ?_
    | refine storeFields_touch (m.trans (by decide +kernel)) ?_ | refine storeFields_any_touch (m.trans (by decide +kernel)) ?_
    | refine accessFault_touch (m.trans rfl) ?_ | refine Touch.ite_else ?_ (fun _ => ?_) | unfold x
    | (extract_lets +onlyGivenNames x; first | (refine Touch.cut (s := x) ?_ (fun _ => ?_); rotate_left; clear_value x) | clear_value x)
    | split

theorem execMdioAccess_touch {M : Nat} {s₀ s : State} {a0 a1} (m : Sub 0x10c0000003002462f0 M) (h : Touch M s₀ s) :
    OutTouch M s₀ (execMdioAccess a0 a1 s) := by
  unfold execMdioAccess
  repeat' with_reducible first
    | assumption | apply OutTouch.next
    | refine hostWord_touch (m.trans (by decide +kernel)) (fun _ _ _ => ?_) ?_ | refine hostWord_any_touch (m.trans (by decide +kernel)) (fun _ _ _ => ?_) ?_
    | refine actMdio_touch (m.trans rfl) ?_

theorem mdioComplete_touch {M : Nat} {s₀ s : State} {a0} (m : Sub 0x10c000000100206210 M) (h : Touch M s₀ s) :
    Touch M s₀ (mdioComplete a0 s) := by
  unfold mdioComplete
  repeat' with_reducible first
    | assumption | refine raise_touch (m.trans rfl) ?_
    | refine put_page_touch (m.trans (by decide +kernel)) ?_ | refine put_ch_touch (m.trans (by decide +kernel)) ?_ | refine put_idx_touch (m.trans (by decide +kernel)) ?_ | refine put_host_touch (m.trans (by decide +kernel)) ?_ | refine put_pll_touch (m.trans (by decide +kernel)) ?_ | refine put_master_touch (m.trans (by decide +kernel)) ?_ | refine put_closed_touch (m.trans (by decide +kernel)) ?_ | refine State.put_touch (m.trans (by decide +kernel)) ?_ | refine put_any_touch (m.trans (by decide +kernel)) ?_
    | refine Touch.ite_else ?_ (fun _ => ?_) | unfold x
    | (extract_lets +onlyGivenNames x; first | (refine Touch.cut (s := x) ?_ (fun _ => ?_); rotate_left; clear_value x) | clear_value x)
    | split

theorem execMdioComplete_touch {M : Nat} {s₀ s : State} {a0} (m : Sub 0x10c000000100206210 M) (h : Touch M s₀ s) :
    OutTouch M s₀ (execMdioComplete a0 s) := by
  unfold execMdioComplete
  repeat' with_reducible first
    | assumption | apply OutTouch.next | refine mdioComplete_touch (m.trans rfl) ?_

theorem hopAck_touch {M : Nat} {s₀ s : State} {a0 a1 a2} (m : Sub 0x40000 M) (h : Touch M s₀ s) :
    Touch M s₀ (hopAck a0 a1 a2 s) := by
  unfold hopAck
  repeat' with_reducible first
    | assumption | refine State.withOut_touch (m.bit rfl) ?_ | unfold x
    | (extract_lets +onlyGivenNames x; first | (refine Touch.cut (s := x) ?_ (fun _ => ?_); rotate_left; clear_value x) | clear_value x)

theorem execSyncSend_touch {M : Nat} {s₀ s : State} {a0} (m : Sub 0x40000 M) (h : Touch M s₀ s) :
    OutTouch M s₀ (execSyncSend a0 s) := by
  unfold execSyncSend
  repeat' with_reducible first
    | assumption | apply OutTouch.next | refine hopAck_touch (m.trans rfl) ?_ | refine Touch.ite_else ?_ (fun _ => ?_)
    | split

theorem nidClash_touch {M : Nat} {s₀ s : State} (m : Sub 0x10c000000100306210 M) (h : Touch M s₀ s) :
    Touch M s₀ (nidClash s) := by
  unfold nidClash
  repeat' with_reducible first
    | assumption | refine raise_touch (m.trans rfl) ?_ | refine State.withXnet_touch (m.bit rfl) ?_
    | refine put_page_touch (m.trans (by decide +kernel)) ?_ | refine put_ch_touch (m.trans (by decide +kernel)) ?_ | refine put_idx_touch (m.trans (by decide +kernel)) ?_ | refine put_host_touch (m.trans (by decide +kernel)) ?_ | refine put_pll_touch (m.trans (by decide +kernel)) ?_ | refine put_master_touch (m.trans (by decide +kernel)) ?_ | refine put_closed_touch (m.trans (by decide +kernel)) ?_ | refine State.put_touch (m.trans (by decide +kernel)) ?_ | refine put_any_touch (m.trans (by decide +kernel)) ?_
    | refine Touch.ite_else ?_ (fun _ => ?_) | unfold x
    | (extract_lets +onlyGivenNames x; first | (refine Touch.cut (s := x) ?_ (fun _ => ?_); rotate_left; clear_value x) | clear_value x)
    | split

theorem portUpNow_touch {M : Nat} {s₀ s : State} {a0 a1 a2} (m : Sub 0x7ffe0000001002c6310 M) (h : Touch M s₀ s) :
    Touch M s₀ (portUpNow a0 a1 a2 s) := by
  unfold portUpNow
  repeat' with_reducible first
    | assumption | refine raise_touch (m.trans rfl) ?_ | refine xpump_touch (m.trans rfl) ?_
    | refine put_page_touch (m.trans (by decide +kernel)) ?_ | refine put_ch_touch (m.trans (by decide +kernel)) ?_ | refine put_idx_touch (m.trans (by decide +kernel)) ?_ | refine put_host_touch (m.trans (by decide +kernel)) ?_ | refine put_pll_touch (m.trans (by decide +kernel)) ?_ | refine put_master_touch (m.trans (by decide +kernel)) ?_ | refine put_closed_touch (m.trans (by decide +kernel)) ?_ | refine State.put_touch (m.trans (by decide +kernel)) ?_ | refine put_any_touch (m.trans (by decide +kernel)) ?_
    | refine portTo_touch (m.trans rfl) ?_ | refine Touch.ite_else ?_ (fun _ => ?_) | unfold x
    | (extract_lets +onlyGivenNames x; first | (refine Touch.cut (s := x) ?_ (fun _ => ?_); rotate_left; clear_value x) | clear_value x)
    | split

theorem syncCheck_touch {M : Nat} {s₀ s : State} {a0 a1 a2} (m : Sub 0x7ffe0000001002c6310 M) (h : Touch M s₀ s) :
    Touch M s₀ (syncCheck a0 a1 a2 s) := by
  unfold syncCheck
  repeat' with_reducible first
    | assumption | refine portUpNow_touch (m.trans rfl) ?_ | refine Touch.ite_else ?_ (fun _ => ?_) | split

theorem syncReceive_touch {M : Nat} {s₀ s : State} {a0 a1} (m : Sub 0x7ffe0000001003c6310 M) (h : Touch M s₀ s) :
    Touch M s₀ (syncReceive a0 a1 s) := by
  unfold syncReceive
  repeat' with_reducible first
    | assumption | refine raise_touch (m.trans rfl) ?_ | refine portTo_touch (m.trans rfl) ?_
    | refine syncCheck_touch (m.trans rfl) ?_ | refine State.setXport_touch (m.trans rfl) ?_
    | refine hopAck_touch (m.trans rfl) ?_ | refine nidClash_touch (m.trans rfl) ?_
    | refine Touch.ite_else ?_ (fun _ => ?_) | unfold x
    | (extract_lets +onlyGivenNames x; first | (refine Touch.cut (s := x) ?_ (fun _ => ?_); rotate_left; clear_value x) | clear_value x)
    | split

theorem epochTold_touch {M : Nat} {s₀ s : State} {a0} (m : Sub 0x108000000100206210 M) (h : Touch M s₀ s) :
    Touch M s₀ (epochTold a0 s) := by
  unfold epochTold
  repeat' with_reducible first
    | assumption | refine raise_touch (m.trans rfl) ?_ | refine Touch.ite_else ?_ (fun _ => ?_) | split

theorem setEpoch_touch {M : Nat} {s₀ s : State} {a0} (m : Sub 0x10c000000100206210 M) (h : Touch M s₀ s) :
    Touch M s₀ (setEpoch a0 s) := by
  unfold setEpoch
  repeat' with_reducible first
    | assumption
    | refine put_page_touch (m.trans (by decide +kernel)) ?_ | refine put_ch_touch (m.trans (by decide +kernel)) ?_ | refine put_idx_touch (m.trans (by decide +kernel)) ?_ | refine put_host_touch (m.trans (by decide +kernel)) ?_ | refine put_pll_touch (m.trans (by decide +kernel)) ?_ | refine put_master_touch (m.trans (by decide +kernel)) ?_ | refine put_closed_touch (m.trans (by decide +kernel)) ?_ | refine State.put_touch (m.trans (by decide +kernel)) ?_ | refine put_any_touch (m.trans (by decide +kernel)) ?_
    | refine epochTold_touch (m.trans rfl) ?_

theorem noteEpoch_touch {M : Nat} {s₀ s : State} {a0} (m : Sub 0x100000 M) (h : Touch M s₀ s) :
    Touch M s₀ (noteEpoch a0 s) := by
  unfold noteEpoch
  repeat' with_reducible first
    | assumption | refine State.withXnet_touch (m.bit rfl) ?_ | unfold x
    | (extract_lets +onlyGivenNames x; first | (refine Touch.cut (s := x) ?_ (fun _ => ?_); rotate_left; clear_value x) | clear_value x)

theorem heardEpoch_touch {M : Nat} {s₀ s : State} {a0 a1} (m : Sub 0x10c000000100306210 M) (h : Touch M s₀ s) :
    Touch M s₀ (heardEpoch a0 a1 s) := by
  unfold heardEpoch
  repeat' with_reducible first
    | assumption | refine noteEpoch_touch (m.trans rfl) ?_ | refine setEpoch_touch (m.trans rfl) ?_
    | refine Touch.ite_else ?_ (fun _ => ?_) | unfold x
    | (extract_lets +onlyGivenNames x; first | (refine Touch.cut (s := x) ?_ (fun _ => ?_); rotate_left; clear_value x) | clear_value x)
    | split

theorem badFrame_touch {M : Nat} {s₀ s : State} {a0} (m : Sub 0x7ffe000000000000010 M) (h : Touch M s₀ s) :
    Touch M s₀ (badFrame a0 s) := by
  unfold badFrame
  repeat' with_reducible first
    | assumption | refine State.bumpSat_touch ?_
    | refine put_page_touch (m.trans (by decide +kernel)) ?_ | refine put_ch_touch (m.trans (by decide +kernel)) ?_ | refine put_idx_touch (m.trans (by decide +kernel)) ?_ | refine put_host_touch (m.trans (by decide +kernel)) ?_ | refine put_pll_touch (m.trans (by decide +kernel)) ?_ | refine put_master_touch (m.trans (by decide +kernel)) ?_ | refine put_closed_touch (m.trans (by decide +kernel)) ?_ | refine State.put_touch (m.trans (by decide +kernel)) ?_ | refine put_any_touch (m.trans (by decide +kernel)) ?_

theorem badLength_touch {M : Nat} {s₀ s : State} {a0} (m : Sub 0x7ffe000000000000010 M) (h : Touch M s₀ s) :
    Touch M s₀ (badLength a0 s) := by
  unfold badLength
  repeat' with_reducible first
    | assumption | refine State.bumpSat_touch ?_
    | refine put_page_touch (m.trans (by decide +kernel)) ?_ | refine put_ch_touch (m.trans (by decide +kernel)) ?_ | refine put_idx_touch (m.trans (by decide +kernel)) ?_ | refine put_host_touch (m.trans (by decide +kernel)) ?_ | refine put_pll_touch (m.trans (by decide +kernel)) ?_ | refine put_master_touch (m.trans (by decide +kernel)) ?_ | refine put_closed_touch (m.trans (by decide +kernel)) ?_ | refine State.put_touch (m.trans (by decide +kernel)) ?_ | refine put_any_touch (m.trans (by decide +kernel)) ?_

theorem execFaultyRecovery_touch {M : Nat} {s₀ s : State} {a0} (m : Sub 0x7ffe000000000080110 M) (h : Touch M s₀ s) :
    OutTouch M s₀ (execFaultyRecovery a0 s) := by
  unfold execFaultyRecovery
  repeat' with_reducible first
    | assumption | apply OutTouch.next | exact OutTouch.fault | refine portTo_touch (m.trans rfl) ?_
    | refine Touch.ite_else ?_ (fun _ => ?_) | unfold x
    | (extract_lets +onlyGivenNames x; first | (refine Touch.cut (s := x) ?_ (fun _ => ?_); rotate_left; clear_value x) | clear_value x)
    | split

theorem hopAcked_touch {M : Nat} {s₀ s : State} {a0 a1} (m : Sub 0x7ffe0000005002c6310 M) (h : Touch M s₀ s) :
    Touch M s₀ (hopAcked a0 a1 s) := by
  unfold hopAcked
  repeat' with_reducible first
    | assumption | refine xpump_touch (m.trans rfl) ?_ | refine syncCheck_touch (m.trans rfl) ?_
    | refine State.setXport_touch (m.trans rfl) ?_ | refine transient_touch (m.trans rfl) ?_
    | refine Touch.ite_else ?_ (fun _ => ?_) | unfold x
    | (extract_lets +onlyGivenNames x; first | (refine Touch.cut (s := x) ?_ (fun _ => ?_); rotate_left; clear_value x) | clear_value x)
    | split

theorem hopBadLength_touch {M : Nat} {s₀ s : State} {a0} (m : Sub 0x7ffe000000000000010 M) (h : Touch M s₀ s) :
    Touch M s₀ (hopBadLength a0 s) := by
  unfold hopBadLength
  repeat' with_reducible first
    | assumption | refine badLength_touch (m.trans rfl) ?_ | refine Touch.ite_else ?_ (fun _ => ?_) | split

theorem syncRx_touch {M : Nat} {s₀ s : State} {a0 a1} (m : Sub 0x7ffe0000001003c6310 M) (h : Touch M s₀ s) :
    Touch M s₀ (syncRx a0 a1 s) := by
  unfold syncRx
  repeat' with_reducible first
    | assumption | refine heardEpoch_touch (m.trans rfl) ?_ | refine hopBadLength_touch (m.trans rfl) ?_
    | refine syncReceive_touch (m.trans rfl) ?_ | refine Touch.ite_else ?_ (fun _ => ?_) | split

theorem hopAckRx_touch {M : Nat} {s₀ s : State} {a0 a1} (m : Sub 0x7ffe0000005003c6310 M) (h : Touch M s₀ s) :
    Touch M s₀ (hopAckRx a0 a1 s) := by
  unfold hopAckRx
  repeat' with_reducible first
    | assumption | refine heardEpoch_touch (m.trans rfl) ?_ | refine hopAcked_touch (m.trans rfl) ?_
    | refine hopBadLength_touch (m.trans rfl) ?_ | refine Touch.ite_else ?_ (fun _ => ?_) | split

theorem execSyncReceive_touch {M : Nat} {s₀ s : State} {a0 a1} (m : Sub 0x7ffe0000001003c6310 M) (h : Touch M s₀ s) :
    OutTouch M s₀ (execSyncReceive a0 a1 s) := by
  unfold execSyncReceive
  repeat' with_reducible first
    | assumption | apply OutTouch.next | refine syncRx_touch (m.trans rfl) ?_ | refine badFrame_touch (m.trans rfl) ?_
    | refine Touch.ite_else ?_ (fun _ => ?_) | split

theorem execHopAckReceive_touch {M : Nat} {s₀ s : State} {a0 a1} (m : Sub 0x7ffe0000005003c6310 M) (h : Touch M s₀ s) :
    OutTouch M s₀ (execHopAckReceive a0 a1 s) := by
  unfold execHopAckReceive
  repeat' with_reducible first
    | assumption | apply OutTouch.next | refine hopAckRx_touch (m.trans rfl) ?_
    | refine badFrame_touch (m.trans rfl) ?_ | refine Touch.ite_else ?_ (fun _ => ?_) | split

theorem hopRetransmit_touch {M : Nat} {s₀ s : State} {a0} (m : Sub 0x7ffe0000000000c0010 M) (h : Touch M s₀ s) :
    Touch M s₀ (hopRetransmit a0 s) := by
  unfold hopRetransmit
  repeat' with_reducible first
    | assumption | refine State.bumpWrap_touch ?_ | refine State.withOut_touch (m.bit rfl) ?_
    | refine State.setXport_touch (m.trans rfl) ?_
    | refine put_page_touch (m.trans (by decide +kernel)) ?_ | refine put_ch_touch (m.trans (by decide +kernel)) ?_ | refine put_idx_touch (m.trans (by decide +kernel)) ?_ | refine put_host_touch (m.trans (by decide +kernel)) ?_ | refine put_pll_touch (m.trans (by decide +kernel)) ?_ | refine put_master_touch (m.trans (by decide +kernel)) ?_ | refine put_closed_touch (m.trans (by decide +kernel)) ?_ | refine State.put_touch (m.trans (by decide +kernel)) ?_ | refine put_any_touch (m.trans (by decide +kernel)) ?_
    | refine Touch.ite_else ?_ (fun _ => ?_) | unfold x
    | (extract_lets +onlyGivenNames x; first | (refine Touch.cut (s := x) ?_ (fun _ => ?_); rotate_left; clear_value x) | clear_value x)
    | split

theorem execHopRetransmit_touch {M : Nat} {s₀ s : State} {a0} (m : Sub 0x7ffe0000000000c0010 M) (h : Touch M s₀ s) :
    OutTouch M s₀ (execHopRetransmit a0 s) := by
  unfold execHopRetransmit
  repeat' with_reducible first
    | assumption | apply OutTouch.next | refine hopRetransmit_touch (m.trans rfl) ?_

theorem hopLasting_touch {M : Nat} {s₀ s : State} {a0} (m : Sub 0x7ffe0000005002c6310 M) (h : Touch M s₀ s) :
    Touch M s₀ (hopLasting a0 s) := by
  unfold hopLasting
  repeat' with_reducible first
    | assumption | refine lastingFault_touch (m.trans rfl) ?_ | refine raise_touch (m.trans rfl) ?_
    | refine xpump_touch (m.trans rfl) ?_ | refine portTo_touch (m.trans rfl) ?_
    | refine State.setXport_touch (m.trans rfl) ?_ | refine Touch.ite_else ?_ (fun _ => ?_) | unfold x
    | (extract_lets +onlyGivenNames x; first | (refine Touch.cut (s := x) ?_ (fun _ => ?_); rotate_left; clear_value x) | clear_value x)
    | split

theorem execHopLastingFault_touch {M : Nat} {s₀ s : State} {a0} (m : Sub 0x7ffe0000005002c6310 M) (h : Touch M s₀ s) :
    OutTouch M s₀ (execHopLastingFault a0 s) := by
  unfold execHopLastingFault
  repeat' with_reducible first
    | assumption | apply OutTouch.next | refine hopLasting_touch (m.trans rfl) ?_

theorem xpCommit_touch {M : Nat} {s₀ s : State} {a0} (m : Sub 0x7ffffffffff00296390 M) (h : Touch M s₀ s) :
    Touch M s₀ (xpCommit a0 s) := by
  unfold xpCommit
  repeat' with_reducible first
    | assumption | refine commitRefused_touch (m.trans rfl) ?_ | refine commitTaken_touch (m.trans rfl) ?_
    | refine portRestart_touch (m.trans rfl) ?_ | refine Touch.ite_else ?_ (fun _ => ?_) | unfold x
    | (extract_lets +onlyGivenNames x; first | (refine Touch.cut (s := x) ?_ (fun _ => ?_); rotate_left; clear_value x) | clear_value x)
    | split

end Sys2Proof.Machine
end

