-- ==== Sys2Proof/Laws/TouchCommit.lean ====
section
/-!
SUPPORT. What the definitions of Machine/Commit.lean touch.
-/

set_option Elab.async false
set_option linter.all false

namespace Sys2Proof.Machine

theorem pllsOff_touch {M : Nat} {s₀ s : State} (m : Sub 0x2000000010 M) (h : Touch M s₀ s) :
    Touch M s₀ (pllsOff s) := by
  unfold pllsOff
  repeat' with_reducible first
    | assumption
    | refine put_page_touch (m.trans (by decide +kernel)) ?_ | refine put_ch_touch (m.trans (by decide +kernel)) ?_ | refine put_idx_touch (m.trans (by decide +kernel)) ?_ | refine put_host_touch (m.trans (by decide +kernel)) ?_ | refine put_pll_touch (m.trans (by decide +kernel)) ?_ | refine put_master_touch (m.trans (by decide +kernel)) ?_ | refine put_closed_touch (m.trans (by decide +kernel)) ?_ | refine State.put_touch (m.trans (by decide +kernel)) ?_ | refine put_any_touch (m.trans (by decide +kernel)) ?_

theorem hfxoStop_touch {M : Nat} {s₀ s : State} (m : Sub 0x2108000002100206210 M) (h : Touch M s₀ s) :
    Touch M s₀ (hfxoStop s) := by
  unfold hfxoStop
  repeat' with_reducible first
    | assumption
    | refine put_page_touch (m.trans (by decide +kernel)) ?_ | refine put_ch_touch (m.trans (by decide +kernel)) ?_ | refine put_idx_touch (m.trans (by decide +kernel)) ?_ | refine put_host_touch (m.trans (by decide +kernel)) ?_ | refine put_pll_touch (m.trans (by decide +kernel)) ?_ | refine put_master_touch (m.trans (by decide +kernel)) ?_ | refine put_closed_touch (m.trans (by decide +kernel)) ?_ | refine State.put_touch (m.trans (by decide +kernel)) ?_ | refine put_any_touch (m.trans (by decide +kernel)) ?_
    | refine panelLf_touch (m.trans rfl) ?_ | refine pllsOff_touch (m.trans rfl) ?_

theorem clockFollow_touch {M : Nat} {s₀ s : State} (m : Sub 0x2108000002100206210 M) (h : Touch M s₀ s) :
    Touch M s₀ (clockFollow s) := by
  unfold clockFollow
  repeat' with_reducible first
    | assumption | refine hfxoStop_touch (m.trans rfl) ?_
    | refine put_page_touch (m.trans (by decide +kernel)) ?_ | refine put_ch_touch (m.trans (by decide +kernel)) ?_ | refine put_idx_touch (m.trans (by decide +kernel)) ?_ | refine put_host_touch (m.trans (by decide +kernel)) ?_ | refine put_pll_touch (m.trans (by decide +kernel)) ?_ | refine put_master_touch (m.trans (by decide +kernel)) ?_ | refine put_closed_touch (m.trans (by decide +kernel)) ?_ | refine State.put_touch (m.trans (by decide +kernel)) ?_ | refine put_any_touch (m.trans (by decide +kernel)) ?_
    | refine hfxoStart_touch (m.trans rfl) ?_ | refine Touch.ite_else ?_ (fun _ => ?_) | unfold x
    | (extract_lets +onlyGivenNames x; first | (refine Touch.cut (s := x) ?_ (fun _ => ?_); rotate_left; clear_value x) | clear_value x)
    | split

theorem scanLost_touch {M : Nat} {s₀ s : State} (m : Sub 0x7fffffff0270060e210 M) (h : Touch M s₀ s) :
    Touch M s₀ (scanLost s) := by
  unfold scanLost
  repeat' with_reducible first
    | assumption | refine abandonSlots_touch (m.trans rfl) ?_ | refine staleAll_touch (m.trans rfl) ?_

theorem fbCommitNow_touch {M : Nat} {s₀ s : State} {a0} (m : Sub 0x7ffffffffff0225e291 M) (h : Touch M s₀ s) :
    Touch M s₀ (fbCommitNow a0 s) := by
  unfold fbCommitNow
  repeat' with_reducible first
    | assumption | refine fbCommit_touch (m.trans rfl) ?_ | refine Touch.ite_else ?_ (fun _ => ?_) | split

theorem commitNow_touch {M : Nat} {s₀ s : State} {a0} (m : Sub 0x7ffffffffff06ede391 M) (h : Touch M s₀ s) :
    Touch M s₀ (commitNow a0 s) := by
  unfold commitNow
  repeat' with_reducible first
    | assumption | refine repCommitAt_touch (m.trans rfl) ?_ | refine commitTaken_touch (m.trans rfl) ?_
    | refine fbCommitNow_touch (m.trans rfl) ?_ | refine linCommit_touch (m.trans rfl) ?_
    | refine sailCommitAt_touch (m.trans rfl) ?_ | refine xpCommit_touch (m.trans rfl) ?_
    | refine lanQuiet_touch (m.trans rfl) ?_ | refine afgCommit_touch (m.trans rfl) ?_
    | refine Touch.ite_else ?_ (fun _ => ?_) | split

theorem passCommits_touch {M : Nat} {s₀ s : State} (m : Sub 0x7ffffffffff01ad6290 M) (h : Touch M s₀ s) :
    Touch M s₀ (passCommits s) := by
  unfold passCommits
  repeat' with_reducible first
    | assumption | refine callCommit_touch (m.trans rfl) ?_ | refine commitTaken_touch (m.trans rfl) ?_
    | refine dioCommit_touch (m.trans rfl) ?_ | refine foldl_touch (fun _ _ _ => ?_) ?_
    | refine Touch.ite_else ?_ (fun _ => ?_) | unfold x
    | (extract_lets +onlyGivenNames x; first | (refine Touch.cut (s := x) ?_ (fun _ => ?_); rotate_left; clear_value x) | clear_value x)
    | split

theorem startCommit_touch {M : Nat} {s₀ s : State} {a0} (m : Sub 0x7ffffffffff06ede391 M) (h : Touch M s₀ s) :
    Touch M s₀ (startCommit a0 s) := by
  unfold startCommit
  repeat' with_reducible first
    | assumption
    | refine put_page_touch (m.trans (by decide +kernel)) ?_ | refine put_ch_touch (m.trans (by decide +kernel)) ?_ | refine put_idx_touch (m.trans (by decide +kernel)) ?_ | refine put_host_touch (m.trans (by decide +kernel)) ?_ | refine put_pll_touch (m.trans (by decide +kernel)) ?_ | refine put_master_touch (m.trans (by decide +kernel)) ?_ | refine put_closed_touch (m.trans (by decide +kernel)) ?_ | refine State.put_touch (m.trans (by decide +kernel)) ?_ | refine put_any_touch (m.trans (by decide +kernel)) ?_
    | refine State.setSeg_touch (m.trans rfl) ?_ | refine commitNow_touch (m.trans rfl) ?_
    | refine Touch.ite_else ?_ (fun _ => ?_) | unfold x
    | (extract_lets +onlyGivenNames x; first | (refine Touch.cut (s := x) ?_ (fun _ => ?_); rotate_left; clear_value x) | clear_value x)
    | split

end Sys2Proof.Machine
end

