-- ==== Sys2Proof/Laws/TouchImages.lean ====
section
/-!
SUPPORT. What the definitions of Machine/Images.lean touch.
-/

set_option Elab.async false
set_option linter.all false

namespace Sys2Proof.Machine

theorem norErase_touch {M : Nat} {s₀ s : State} {a n} (m : Sub 0x10020000 M) (h : Touch M s₀ s) : Touch M s₀ (norErase a n s) :=
  State.withNor_touch (Sparse.wf_filter _) (m.bit rfl) (State.withTt_touch (m.bit rfl) h)

theorem resetRegs_wf (sel : FieldRow → Bool) (m : List (Nat × Word)) : Sparse.wf regDefault (resetRegs sel m) = true :=
  Sparse.wf_foldl (fun _ _ hm => Sparse.wf_set _ _ hm) _ Sparse.wf_nil

theorem norDo_touch {M : Nat} {s₀ s : State} {a0} (m : Sub 0x10020000 M) (h : Touch M s₀ s) :
    Touch M s₀ (norDo a0 s) := by
  unfold norDo
  repeat' with_reducible first
    | assumption | refine norErase_touch (m.trans rfl) ?_ | refine State.setNorBytes_touch (m.trans rfl) ?_ | split

theorem norQueue_touch {M : Nat} {s₀ s : State} {a0} (m : Sub 0x10020000 M) (h : Touch M s₀ s) :
    Touch M s₀ (norQueue a0 s) := by
  unfold norQueue
  repeat' with_reducible first
    | assumption | refine State.withTt_touch (m.bit rfl) ?_ | refine norDo_touch (m.trans rfl) ?_
    | refine Touch.ite_else ?_ (fun _ => ?_) | unfold x
    | (extract_lets +onlyGivenNames x; first | (refine Touch.cut (s := x) ?_ (fun _ => ?_); rotate_left; clear_value x) | clear_value x)
    | split

theorem norWrite_touch {M : Nat} {s₀ s : State} {a0 a1} (m : Sub 0x10020000 M) (h : Touch M s₀ s) :
    Touch M s₀ (norWrite a0 a1 s) := by
  unfold norWrite
  repeat' with_reducible first
    | assumption | refine norQueue_touch (m.trans rfl) ?_

theorem norFlush_touch {M : Nat} {s₀ s : State} (m : Sub 0x10020000 M) (h : Touch M s₀ s) :
    Touch M s₀ (norFlush s) := by
  unfold norFlush
  repeat' with_reducible first
    | assumption | refine State.withTt_touch (m.bit rfl) ?_ | refine norDo_touch (m.trans rfl) ?_
    | refine foldl_touch (fun _ _ _ => ?_) ?_ | unfold x
    | (extract_lets +onlyGivenNames x; first | (refine Touch.cut (s := x) ?_ (fun _ => ?_); rotate_left; clear_value x) | clear_value x)

theorem noteNorBad_touch {M : Nat} {s₀ s : State} {a0} (m : Sub 0x410000010 M) (h : Touch M s₀ s) :
    Touch M s₀ (noteNorBad a0 s) := by
  unfold noteNorBad
  repeat' with_reducible first
    | assumption | refine lastingFault_touch (m.trans rfl) ?_ | refine State.withTt_touch (m.bit rfl) ?_
    | refine foldl_touch (fun _ _ _ => ?_) ?_ | refine Touch.ite_else ?_ (fun _ => ?_) | unfold x
    | (extract_lets +onlyGivenNames x; first | (refine Touch.cut (s := x) ?_ (fun _ => ?_); rotate_left; clear_value x) | clear_value x)
    | split

theorem norRead_touch {M : Nat} {s₀ s : State} {a0 a1} (m : Sub 0x410000010 M) (h : Touch M s₀ s) :
    Touch M s₀ (norRead a0 a1 s) := by
  unfold norRead
  repeat' with_reducible first
    | assumption | refine noteNorBad_touch (m.trans rfl) ?_ | refine transient_touch (m.trans rfl) ?_ | split

theorem clearConfig_touch {M : Nat} {s₀ s : State} (m : Sub 0x7ffffffffff10418010 M) (h : Touch M s₀ s) : Touch M s₀ (clearConfig s) := by
  unfold clearConfig
  extract_lets +onlyGivenNames x
  have h1 : Touch M s₀ x := withRegs_any_touch (fun _ => resetRegs_wf _ _) (m.trans rfl) h
  clear_value x
  extract_lets +onlyGivenNames y
  have h2 : Touch M s₀ y := State.withWin_touch (Sparse.wf_filter _) (m.bit rfl) h1
  clear_value y
  exact State.withTt_touch (m.bit rfl) (State.withAfe_touch (m.bit rfl) (State.withEng_touch (m.bit rfl) h2))

theorem applyCrossing_touch {M : Nat} {s₀ s : State} {a0} (m : Sub 0x7ffe000000400000010 M) (h : Touch M s₀ s) :
    Touch M s₀ (applyCrossing a0 s) := by
  unfold applyCrossing
  repeat' with_reducible first
    | assumption
    | refine put_page_touch (m.trans (by decide +kernel)) ?_ | refine put_ch_touch (m.trans (by decide +kernel)) ?_ | refine put_idx_touch (m.trans (by decide +kernel)) ?_ | refine put_host_touch (m.trans (by decide +kernel)) ?_ | refine put_pll_touch (m.trans (by decide +kernel)) ?_ | refine put_master_touch (m.trans (by decide +kernel)) ?_ | refine put_closed_touch (m.trans (by decide +kernel)) ?_ | refine State.put_touch (m.trans (by decide +kernel)) ?_ | refine put_any_touch (m.trans (by decide +kernel)) ?_
    | refine State.putFlag_touch ?_ | refine foldl_touch (fun _ _ _ => ?_) ?_ | unfold x
    | (extract_lets +onlyGivenNames x; first | (refine Touch.cut (s := x) ?_ (fun _ => ?_); rotate_left; clear_value x) | clear_value x)

theorem applyCurve_touch {M : Nat} {s₀ s : State} {a0} (m : Sub 0x410000 M) (h : Touch M s₀ s) :
    Touch M s₀ (applyCurve a0 s) := by
  unfold applyCurve
  repeat' with_reducible first
    | assumption | refine State.withAfe_touch (m.bit rfl) ?_ | refine State.setWinBytes_touch (m.trans rfl) ?_
    | refine Touch.ite_else ?_ (fun _ => ?_) | unfold x
    | (extract_lets +onlyGivenNames x; first | (refine Touch.cut (s := x) ?_ (fun _ => ?_); rotate_left; clear_value x) | clear_value x)
    | split

theorem callDefaults_touch {M : Nat} {s₀ s : State} (m : Sub 0x7ffffe0000700000010 M) (h : Touch M s₀ s) :
    Touch M s₀ (callDefaults s) := by
  unfold callDefaults
  repeat' with_reducible first
    | assumption
    | refine put_page_touch (m.trans (by decide +kernel)) ?_ | refine put_ch_touch (m.trans (by decide +kernel)) ?_ | refine put_idx_touch (m.trans (by decide +kernel)) ?_ | refine put_host_touch (m.trans (by decide +kernel)) ?_ | refine put_pll_touch (m.trans (by decide +kernel)) ?_ | refine put_master_touch (m.trans (by decide +kernel)) ?_ | refine put_closed_touch (m.trans (by decide +kernel)) ?_ | refine State.put_touch (m.trans (by decide +kernel)) ?_ | refine put_any_touch (m.trans (by decide +kernel)) ?_
    | refine foldl_touch (fun _ _ _ => ?_) ?_ | unfold x
    | (extract_lets +onlyGivenNames x; first | (refine Touch.cut (s := x) ?_ (fun _ => ?_); rotate_left; clear_value x) | clear_value x)

theorem applyImage_touch {M : Nat} {s₀ s : State} {a0} (m : Sub 0x7ffffffffff10418010 M) (h : Touch M s₀ s) :
    Touch M s₀ (applyImage a0 s) := by
  unfold applyImage
  repeat' with_reducible first
    | assumption | refine State.withTt_touch (m.bit rfl) ?_ | refine callDefaults_touch (m.trans rfl) ?_
    | refine State.setWinBytes_touch (m.trans rfl) ?_ | refine applyCurve_touch (m.trans rfl) ?_
    | refine State.withEng_touch (m.bit rfl) ?_ | refine applyCrossing_touch (m.trans rfl) ?_
    | refine setReg_fld_touch (m.trans (by decide +kernel)) ?_ | refine State.setReg_touch (m.trans (by decide +kernel)) ?_ | refine setReg_any_touch (m.trans (by decide +kernel)) ?_
    | refine foldl_touch (fun _ _ _ => ?_) ?_ | refine Touch.ite_else ?_ (fun _ => ?_) | unfold x
    | (extract_lets +onlyGivenNames x; first | (refine Touch.cut (s := x) ?_ (fun _ => ?_); rotate_left; clear_value x) | clear_value x)
    | split

theorem noteAuth_touch {M : Nat} {s₀ s : State} {a0 a1} (m : Sub 0x108000040100206210 M) (h : Touch M s₀ s) :
    Touch M s₀ (noteAuth a0 a1 s) := by
  unfold noteAuth
  repeat' with_reducible first
    | assumption | refine raise_touch (m.trans rfl) ?_
    | refine put_page_touch (m.trans (by decide +kernel)) ?_ | refine put_ch_touch (m.trans (by decide +kernel)) ?_ | refine put_idx_touch (m.trans (by decide +kernel)) ?_ | refine put_host_touch (m.trans (by decide +kernel)) ?_ | refine put_pll_touch (m.trans (by decide +kernel)) ?_ | refine put_master_touch (m.trans (by decide +kernel)) ?_ | refine put_closed_touch (m.trans (by decide +kernel)) ?_ | refine State.put_touch (m.trans (by decide +kernel)) ?_ | refine put_any_touch (m.trans (by decide +kernel)) ?_
    | refine Touch.ite_else ?_ (fun _ => ?_) | unfold x
    | (extract_lets +onlyGivenNames x; first | (refine Touch.cut (s := x) ?_ (fun _ => ?_); rotate_left; clear_value x) | clear_value x)
    | split

theorem noteVerdict_touch {M : Nat} {s₀ s : State} {a0} (m : Sub 0x108000040100206210 M) (h : Touch M s₀ s) :
    Touch M s₀ (noteVerdict a0 s) := by
  unfold noteVerdict
  repeat' with_reducible first
    | assumption | refine noteAuth_touch (m.trans rfl) ?_ | split

theorem State.baseState_touch {M : Nat} {s₀ s : State} (m : Sub 0x7ffffffffff10418090 M) (h : Touch M s₀ s) :
    Touch M s₀ (State.baseState s) := by
  unfold State.baseState
  repeat' with_reducible first
    | assumption | refine applyImage_touch (m.trans rfl) ?_ | refine State.withStaged_touch (m.bit rfl) ?_
    | refine clearConfig_touch (m.trans rfl) ?_

theorem patchTarget_touch {M : Nat} {s₀ s : State} {a1} (m : Sub 0x7ffffffffff00018090 M) (h : Touch M s₀ s) :
    Touch M s₀ (patchTarget s a1) := by
  unfold patchTarget
  repeat' with_reducible first
    | assumption | refine State.setWinWord_touch (m.trans rfl) ?_ | refine State.withEng_touch (m.bit rfl) ?_
    | refine State.stage_touch (m.trans rfl) ?_
    | refine setReg_fld_touch (m.trans (by decide +kernel)) ?_ | refine State.setReg_touch (m.trans (by decide +kernel)) ?_ | refine setReg_any_touch (m.trans (by decide +kernel)) ?_
    | refine foldl_touch (fun _ _ _ => ?_) ?_ | refine Touch.ite_else ?_ (fun _ => ?_) | unfold x
    | (extract_lets +onlyGivenNames x; first | (refine Touch.cut (s := x) ?_ (fun _ => ?_); rotate_left; clear_value x) | clear_value x)
    | refine Touch.snd ?_ (by assumption) | split

end Sys2Proof.Machine
end

