-- ==== Sys2Proof/Laws/TouchTimetables.lean ====
section
/-!
SUPPORT. What the definitions of Machine/Timetables.lean touch.
-/

set_option Elab.async false
set_option linter.all false

namespace Sys2Proof.Machine

theorem State.setSlotTt_touch {M : Nat} {s₀ s : State} {a1 a2} (m : Sub 0x10000000 M) (h : Touch M s₀ s) :
    Touch M s₀ (State.setSlotTt s a1 a2) := by
  unfold State.setSlotTt
  repeat' with_reducible first
    | assumption | refine State.withTt_touch (m.bit rfl) ?_ | unfold x
    | (extract_lets +onlyGivenNames x; first | (refine Touch.cut (s := x) ?_ (fun _ => ?_); rotate_left; clear_value x) | clear_value x)
    | split

theorem putSwstat_touch {M : Nat} {s₀ s : State} {a0 a1 a2} (m : Sub 0x100000000000010 M) (h : Touch M s₀ s) :
    Touch M s₀ (putSwstat a0 a1 a2 s) := by
  unfold putSwstat
  repeat' with_reducible first
    | assumption
    | refine put_page_touch (m.trans (by decide +kernel)) ?_ | refine put_ch_touch (m.trans (by decide +kernel)) ?_ | refine put_idx_touch (m.trans (by decide +kernel)) ?_ | refine put_host_touch (m.trans (by decide +kernel)) ?_ | refine put_pll_touch (m.trans (by decide +kernel)) ?_ | refine put_master_touch (m.trans (by decide +kernel)) ?_ | refine put_closed_touch (m.trans (by decide +kernel)) ?_ | refine State.put_touch (m.trans (by decide +kernel)) ?_ | refine put_any_touch (m.trans (by decide +kernel)) ?_

theorem putQueued_touch {M : Nat} {s₀ s : State} {a0} (m : Sub 0x100000010000010 M) (h : Touch M s₀ s) :
    Touch M s₀ (putQueued a0 s) := by
  unfold putQueued
  repeat' with_reducible first
    | assumption | refine State.withTt_touch (m.bit rfl) ?_
    | refine put_page_touch (m.trans (by decide +kernel)) ?_ | refine put_ch_touch (m.trans (by decide +kernel)) ?_ | refine put_idx_touch (m.trans (by decide +kernel)) ?_ | refine put_host_touch (m.trans (by decide +kernel)) ?_ | refine put_pll_touch (m.trans (by decide +kernel)) ?_ | refine put_master_touch (m.trans (by decide +kernel)) ?_ | refine put_closed_touch (m.trans (by decide +kernel)) ?_ | refine State.put_touch (m.trans (by decide +kernel)) ?_ | refine put_any_touch (m.trans (by decide +kernel)) ?_
    | unfold x
    | (extract_lets +onlyGivenNames x; first | (refine Touch.cut (s := x) ?_ (fun _ => ?_); rotate_left; clear_value x) | clear_value x)
    | split

theorem switchStart_touch {M : Nat} {s₀ s : State} {a0} (m : Sub 0x108100000110206210 M) (h : Touch M s₀ s) :
    Touch M s₀ (switchStart a0 s) := by
  unfold switchStart
  repeat' with_reducible first
    | assumption | refine raise_touch (m.trans rfl) ?_ | refine State.withTt_touch (m.bit rfl) ?_
    | refine put_page_touch (m.trans (by decide +kernel)) ?_ | refine put_ch_touch (m.trans (by decide +kernel)) ?_ | refine put_idx_touch (m.trans (by decide +kernel)) ?_ | refine put_host_touch (m.trans (by decide +kernel)) ?_ | refine put_pll_touch (m.trans (by decide +kernel)) ?_ | refine put_master_touch (m.trans (by decide +kernel)) ?_ | refine put_closed_touch (m.trans (by decide +kernel)) ?_ | refine State.put_touch (m.trans (by decide +kernel)) ?_ | refine put_any_touch (m.trans (by decide +kernel)) ?_
    | refine putSwstat_touch (m.trans rfl) ?_ | unfold x
    | (extract_lets +onlyGivenNames x; first | (refine Touch.cut (s := x) ?_ (fun _ => ?_); rotate_left; clear_value x) | clear_value x)
    | split

theorem switchAccept_touch {M : Nat} {s₀ s : State} {a0} (m : Sub 0x108100000110206210 M) (h : Touch M s₀ s) :
    Touch M s₀ (switchAccept a0 s) := by
  unfold switchAccept
  repeat' with_reducible first
    | assumption | refine switchStart_touch (m.trans rfl) ?_ | refine State.withTt_touch (m.bit rfl) ?_
    | refine put_page_touch (m.trans (by decide +kernel)) ?_ | refine put_ch_touch (m.trans (by decide +kernel)) ?_ | refine put_idx_touch (m.trans (by decide +kernel)) ?_ | refine put_host_touch (m.trans (by decide +kernel)) ?_ | refine put_pll_touch (m.trans (by decide +kernel)) ?_ | refine put_master_touch (m.trans (by decide +kernel)) ?_ | refine put_closed_touch (m.trans (by decide +kernel)) ?_ | refine State.put_touch (m.trans (by decide +kernel)) ?_ | refine put_any_touch (m.trans (by decide +kernel)) ?_
    | refine Touch.ite_else ?_ (fun _ => ?_) | unfold x
    | (extract_lets +onlyGivenNames x; first | (refine Touch.cut (s := x) ?_ (fun _ => ?_); rotate_left; clear_value x) | clear_value x)
    | split

theorem switchResume_touch {M : Nat} {s₀ s : State} (m : Sub 0x108100000110206210 M) (h : Touch M s₀ s) :
    Touch M s₀ (switchResume s) := by
  unfold switchResume
  repeat' with_reducible first
    | assumption | refine switchStart_touch (m.trans rfl) ?_ | refine State.withTt_touch (m.bit rfl) ?_
    | refine put_page_touch (m.trans (by decide +kernel)) ?_ | refine put_ch_touch (m.trans (by decide +kernel)) ?_ | refine put_idx_touch (m.trans (by decide +kernel)) ?_ | refine put_host_touch (m.trans (by decide +kernel)) ?_ | refine put_pll_touch (m.trans (by decide +kernel)) ?_ | refine put_master_touch (m.trans (by decide +kernel)) ?_ | refine put_closed_touch (m.trans (by decide +kernel)) ?_ | refine State.put_touch (m.trans (by decide +kernel)) ?_ | refine put_any_touch (m.trans (by decide +kernel)) ?_
    | unfold x
    | (extract_lets +onlyGivenNames x; first | (refine Touch.cut (s := x) ?_ (fun _ => ?_); rotate_left; clear_value x) | clear_value x)
    | split

theorem ttRequest_touch {M : Nat} {s₀ s : State} {a0} (m : Sub 0x108100000110206210 M) (h : Touch M s₀ s) :
    Touch M s₀ (ttRequest a0 s) := by
  unfold ttRequest
  repeat' with_reducible first
    | assumption | refine raise_touch (m.trans rfl) ?_ | refine switchAccept_touch (m.trans rfl) ?_
    | refine record_touch (m.trans rfl) ?_
    | refine put_page_touch (m.trans (by decide +kernel)) ?_ | refine put_ch_touch (m.trans (by decide +kernel)) ?_ | refine put_idx_touch (m.trans (by decide +kernel)) ?_ | refine put_host_touch (m.trans (by decide +kernel)) ?_ | refine put_pll_touch (m.trans (by decide +kernel)) ?_ | refine put_master_touch (m.trans (by decide +kernel)) ?_ | refine put_closed_touch (m.trans (by decide +kernel)) ?_ | refine State.put_touch (m.trans (by decide +kernel)) ?_ | refine put_any_touch (m.trans (by decide +kernel)) ?_
    | refine putSwstat_touch (m.trans rfl) ?_ | refine putQueued_touch (m.trans rfl) ?_
    | refine Touch.ite_else ?_ (fun _ => ?_) | unfold x
    | (extract_lets +onlyGivenNames x; first | (refine Touch.cut (s := x) ?_ (fun _ => ?_); rotate_left; clear_value x) | clear_value x)
    | split

theorem switchNext_touch {M : Nat} {s₀ s : State} (m : Sub 0x108100000110206210 M) (h : Touch M s₀ s) :
    Touch M s₀ (switchNext s) := by
  unfold switchNext
  repeat' with_reducible first
    | assumption | refine switchAccept_touch (m.trans rfl) ?_ | refine putQueued_touch (m.trans rfl) ?_
    | refine Touch.ite_else ?_ (fun _ => ?_) | unfold x
    | (extract_lets +onlyGivenNames x; first | (refine Touch.cut (s := x) ?_ (fun _ => ?_); rotate_left; clear_value x) | clear_value x)
    | split

theorem discardSwitches_touch {M : Nat} {s₀ s : State} (m : Sub 0x108100000110206210 M) (h : Touch M s₀ s) :
    Touch M s₀ (discardSwitches s) := by
  unfold discardSwitches
  repeat' with_reducible first
    | assumption | refine State.withTt_touch (m.bit rfl) ?_ | refine record_touch (m.trans rfl) ?_
    | refine put_page_touch (m.trans (by decide +kernel)) ?_ | refine put_ch_touch (m.trans (by decide +kernel)) ?_ | refine put_idx_touch (m.trans (by decide +kernel)) ?_ | refine put_host_touch (m.trans (by decide +kernel)) ?_ | refine put_pll_touch (m.trans (by decide +kernel)) ?_ | refine put_master_touch (m.trans (by decide +kernel)) ?_ | refine put_closed_touch (m.trans (by decide +kernel)) ?_ | refine State.put_touch (m.trans (by decide +kernel)) ?_ | refine put_any_touch (m.trans (by decide +kernel)) ?_
    | refine putQueued_touch (m.trans rfl) ?_ | refine foldl_touch (fun _ _ _ => ?_) ?_ | unfold x
    | (extract_lets +onlyGivenNames x; first | (refine Touch.cut (s := x) ?_ (fun _ => ?_); rotate_left; clear_value x) | clear_value x)

theorem modeBroadcast_touch {M : Nat} {s₀ s : State} (m : Sub 0x7ffe0000001002c6210 M) (h : Touch M s₀ s) :
    Touch M s₀ (modeBroadcast s) := by
  unfold modeBroadcast
  repeat' with_reducible first
    | assumption | refine originateNew_touch (m.trans rfl) ?_ | refine Touch.ite_else ?_ (fun _ => ?_) | split

theorem dropLevels_touch {M : Nat} {s₀ s : State} {a0} (m : Sub 0x10000000 M) (h : Touch M s₀ s) :
    Touch M s₀ (dropLevels a0 s) := by
  unfold dropLevels
  repeat' with_reducible first
    | assumption | refine State.withTt_touch (m.bit rfl) ?_ | unfold x
    | (extract_lets +onlyGivenNames x; first | (refine Touch.cut (s := x) ?_ (fun _ => ?_); rotate_left; clear_value x) | clear_value x)

theorem enableFollow_touch {M : Nat} {s₀ s : State} {a0} (m : Sub 0x7fffffff03706e8e310 M) (h : Touch M s₀ s) :
    Touch M s₀ (enableFollow a0 s) := by
  unfold enableFollow
  repeat' with_reducible first
    | assumption | refine fbJoin_touch (m.trans rfl) ?_ | refine repOff_touch (m.trans rfl) ?_
    | refine scanLost_touch (m.trans rfl) ?_ | refine scanWritten_touch (m.trans rfl) ?_
    | refine panelStart_touch (m.trans rfl) ?_ | refine portEnable_touch (m.trans rfl) ?_
    | refine repDriveAll_touch (m.trans rfl) ?_ | refine portDisable_touch (m.trans rfl) ?_
    | refine fbStop_touch (m.trans rfl) ?_ | refine updateDo_touch (m.trans rfl) ?_
    | refine panelOffAsk_touch (m.trans rfl) ?_ | refine Touch.ite_else ?_ (fun _ => ?_) | unfold x
    | (extract_lets +onlyGivenNames x; first | (refine Touch.cut (s := x) ?_ (fun _ => ?_); rotate_left; clear_value x) | clear_value x)
    | split

theorem patchFollow_touch {M : Nat} {s₀ s : State} {a0 a1} (m : Sub 0x7fffffff03706e8e310 M) (h : Touch M s₀ s) :
    Touch M s₀ (patchFollow a0 a1 s) := by
  unfold patchFollow
  repeat' with_reducible first
    | assumption | refine clockFollow_touch (m.trans rfl) ?_ | refine scanWritten_touch (m.trans rfl) ?_
    | refine enableFollow_touch (m.trans rfl) ?_ | refine regionRequest_touch (m.trans rfl) ?_
    | refine inputFollow_touch (m.trans rfl) ?_ | refine foldl_touch (fun _ _ _ => ?_) ?_
    | refine Touch.ite_else ?_ (fun _ => ?_) | unfold x
    | (extract_lets +onlyGivenNames x; first | (refine Touch.cut (s := x) ?_ (fun _ => ?_); rotate_left; clear_value x) | clear_value x)
    | split

theorem switchWrite_touch {M : Nat} {s₀ s : State} {a0 a1 a2} (m : Sub 0x7ffffffffff17ede391 M) (h : Touch M s₀ s) :
    Touch M s₀ (switchWrite a0 a1 a2 s) := by
  unfold switchWrite
  repeat' with_reducible first
    | assumption | refine patchTarget_touch (m.trans rfl) ?_ | refine patchFollow_touch (m.trans rfl) ?_
    | refine State.bumpWrap_touch ?_ | refine raise_touch (m.trans rfl) ?_ | refine State.withTt_touch (m.bit rfl) ?_
    | refine put_page_touch (m.trans (by decide +kernel)) ?_ | refine put_ch_touch (m.trans (by decide +kernel)) ?_ | refine put_idx_touch (m.trans (by decide +kernel)) ?_ | refine put_host_touch (m.trans (by decide +kernel)) ?_ | refine put_pll_touch (m.trans (by decide +kernel)) ?_ | refine put_master_touch (m.trans (by decide +kernel)) ?_ | refine put_closed_touch (m.trans (by decide +kernel)) ?_ | refine State.put_touch (m.trans (by decide +kernel)) ?_ | refine put_any_touch (m.trans (by decide +kernel)) ?_
    | refine State.putFlag_touch ?_ | refine passCommits_touch (m.trans rfl) ?_
    | refine dropLevels_touch (m.trans rfl) ?_ | refine putSwstat_touch (m.trans rfl) ?_
    | refine renewPt_touch (m.trans rfl) ?_ | refine forceAll_touch (m.trans rfl) ?_
    | refine startCommit_touch (m.trans rfl) ?_ | refine notifyRebuilt_touch (m.trans rfl) ?_
    | refine State.setPt_touch (m.trans rfl) ?_ | refine recountGroups_touch (m.trans rfl) ?_
    | refine foldl_touch (fun _ _ _ => ?_) ?_ | refine Touch.ite_else ?_ (fun _ => ?_) | unfold x
    | (extract_lets +onlyGivenNames x; first | (refine Touch.cut (s := x) ?_ (fun _ => ?_); rotate_left; clear_value x) | clear_value x)
    | split

theorem switchApply_touch {M : Nat} {s₀ s : State} (m : Sub 0x7ffffffffff17ede391 M) (h : Touch M s₀ s) :
    Touch M s₀ (switchApply s) := by
  unfold switchApply
  repeat' with_reducible first
    | assumption | refine switchWrite_touch (m.trans rfl) ?_ | refine modeBroadcast_touch (m.trans rfl) ?_
    | refine switchNext_touch (m.trans rfl) ?_ | refine Touch.ite_else ?_ (fun _ => ?_) | unfold x
    | (extract_lets +onlyGivenNames x; first | (refine Touch.cut (s := x) ?_ (fun _ => ?_); rotate_left; clear_value x) | clear_value x)
    | split

theorem execTtSwitchApply_touch {M : Nat} {s₀ s : State} (m : Sub 0x7ffffffffff17ede391 M) (h : Touch M s₀ s) :
    OutTouch M s₀ (execTtSwitchApply s) := by
  unfold execTtSwitchApply
  repeat' with_reducible first
    | assumption | apply OutTouch.next | refine switchApply_touch (m.trans rfl) ?_

theorem actTtReq_touch {M : Nat} {s₀ s : State} {a0 a1 a2} (m : Sub 0x1081000001102062f0 M) (h : Touch M s₀ s) :
    Touch M s₀ (actTtReq a0 a1 a2 s) := by
  unfold actTtReq
  repeat' with_reducible first
    | assumption
    | refine storeFields_touch (m.trans (by decide +kernel)) ?_ | refine storeFields_any_touch (m.trans (by decide +kernel)) ?_
    | refine ttRequest_touch (m.trans rfl) ?_ | refine Touch.ite_else ?_ (fun _ => ?_) | unfold x
    | (extract_lets +onlyGivenNames x; first | (refine Touch.cut (s := x) ?_ (fun _ => ?_); rotate_left; clear_value x) | clear_value x)
    | split

theorem execTtRequest_touch {M : Nat} {s₀ s : State} {a0 a1} (m : Sub 0x1081000003102062f0 M) (h : Touch M s₀ s) :
    OutTouch M s₀ (execTtRequest a0 a1 s) := by
  unfold execTtRequest
  repeat' with_reducible first
    | assumption | apply OutTouch.next
    | refine hostWord_touch (m.trans (by decide +kernel)) (fun _ _ _ => ?_) ?_ | refine hostWord_any_touch (m.trans (by decide +kernel)) (fun _ _ _ => ?_) ?_
    | refine actTtReq_touch (m.trans rfl) ?_

theorem bindings_touch {M : Nat} {s₀ s : State} {a0} (m : Sub 0x108100000110206210 M) (h : Touch M s₀ s) :
    Touch M s₀ (bindings a0 s) := by
  unfold bindings
  repeat' with_reducible first
    | assumption | refine State.withTt_touch (m.bit rfl) ?_ | refine ttRequest_touch (m.trans rfl) ?_
    | refine foldl_touch (fun _ _ _ => ?_) ?_ | refine Touch.ite_else ?_ (fun _ => ?_) | unfold x
    | (extract_lets +onlyGivenNames x; first | (refine Touch.cut (s := x) ?_ (fun _ => ?_); rotate_left; clear_value x) | clear_value x)
    | split

theorem modeRx_touch {M : Nat} {s₀ s : State} {a0} (m : Sub 0x108100000110206210 M) (h : Touch M s₀ s) :
    Touch M s₀ (modeRx a0 s) := by
  unfold modeRx
  repeat' with_reducible first
    | assumption | refine raise_touch (m.trans rfl) ?_ | refine ttRequest_touch (m.trans rfl) ?_
    | refine Touch.ite_else ?_ (fun _ => ?_) | split

theorem installEnd_touch {M : Nat} {s₀ s : State} {a0 a1} (m : Sub 0x108100000100206210 M) (h : Touch M s₀ s) :
    Touch M s₀ (installEnd a0 a1 s) := by
  unfold installEnd
  repeat' with_reducible first
    | assumption | refine raise_touch (m.trans rfl) ?_
    | refine put_page_touch (m.trans (by decide +kernel)) ?_ | refine put_ch_touch (m.trans (by decide +kernel)) ?_ | refine put_idx_touch (m.trans (by decide +kernel)) ?_ | refine put_host_touch (m.trans (by decide +kernel)) ?_ | refine put_pll_touch (m.trans (by decide +kernel)) ?_ | refine put_master_touch (m.trans (by decide +kernel)) ?_ | refine put_closed_touch (m.trans (by decide +kernel)) ?_ | refine State.put_touch (m.trans (by decide +kernel)) ?_ | refine put_any_touch (m.trans (by decide +kernel)) ?_
    | refine Touch.ite_else ?_ (fun _ => ?_) | unfold x
    | (extract_lets +onlyGivenNames x; first | (refine Touch.cut (s := x) ?_ (fun _ => ?_); rotate_left; clear_value x) | clear_value x)
    | split

theorem installStart_touch {M : Nat} {s₀ s : State} {a0} (m : Sub 0x108000040310206210 M) (h : Touch M s₀ s) :
    Touch M s₀ (installStart a0 s).2 := by
  unfold installStart
  repeat' with_reducible first
    | assumption | refine State.withTt_touch (m.bit rfl) ?_ | refine accessFault_touch (m.trans rfl) ?_
    | refine noteVerdict_touch (m.trans rfl) ?_ | refine Touch.ite_else ?_ (fun _ => ?_) | unfold x
    | (extract_lets +onlyGivenNames x; first | (refine Touch.cut (s := x) ?_ (fun _ => ?_); rotate_left; clear_value x) | clear_value x)
    | split

theorem actInstCmd_touch {M : Nat} {s₀ s : State} {a0 a1 a2} (m : Sub 0x1081000403102062f0 M) (h : Touch M s₀ s) :
    Touch M s₀ (actInstCmd a0 a1 a2 s) := by
  unfold actInstCmd
  repeat' with_reducible first
    | assumption | refine installEnd_touch (m.trans rfl) ?_
    | refine put_page_touch (m.trans (by decide +kernel)) ?_ | refine put_ch_touch (m.trans (by decide +kernel)) ?_ | refine put_idx_touch (m.trans (by decide +kernel)) ?_ | refine put_host_touch (m.trans (by decide +kernel)) ?_ | refine put_pll_touch (m.trans (by decide +kernel)) ?_ | refine put_master_touch (m.trans (by decide +kernel)) ?_ | refine put_closed_touch (m.trans (by decide +kernel)) ?_ | refine State.put_touch (m.trans (by decide +kernel)) ?_ | refine put_any_touch (m.trans (by decide +kernel)) ?_
    | refine storeFields_touch (m.trans (by decide +kernel)) ?_ | refine storeFields_any_touch (m.trans (by decide +kernel)) ?_
    | refine accessFault_touch (m.trans rfl) ?_ | refine installStart_touch (m.trans rfl) ?_
    | refine Touch.ite_else ?_ (fun _ => ?_) | unfold x
    | (extract_lets +onlyGivenNames x; first | (refine Touch.cut (s := x) ?_ (fun _ => ?_); rotate_left; clear_value x) | clear_value x)
    | refine Touch.snd ?_ (by assumption) | split

theorem execTtInstall_touch {M : Nat} {s₀ s : State} {a0 a1} (m : Sub 0x1081000403102062f0 M) (h : Touch M s₀ s) :
    OutTouch M s₀ (execTtInstall a0 a1 s) := by
  unfold execTtInstall
  repeat' with_reducible first
    | assumption | apply OutTouch.next
    | refine hostWord_touch (m.trans (by decide +kernel)) (fun _ _ _ => ?_) ?_ | refine hostWord_any_touch (m.trans (by decide +kernel)) (fun _ _ _ => ?_) ?_
    | refine actInstCmd_touch (m.trans rfl) ?_ | unfold x
    | (extract_lets +onlyGivenNames x; first | (refine Touch.cut (s := x) ?_ (fun _ => ?_); rotate_left; clear_value x) | clear_value x)

theorem installDone_touch {M : Nat} {s₀ s : State} (m : Sub 0x108100000110226210 M) (h : Touch M s₀ s) :
    Touch M s₀ (installDone s) := by
  unfold installDone
  repeat' with_reducible first
    | assumption | refine installEnd_touch (m.trans rfl) ?_ | refine norErase_touch (m.trans rfl) ?_
    | refine State.setNorBytes_touch (m.trans rfl) ?_ | refine State.withTt_touch (m.bit rfl) ?_
    | refine State.setSlotTt_touch (m.trans rfl) ?_ | refine ttRequest_touch (m.trans rfl) ?_
    | refine Touch.ite_else ?_ (fun _ => ?_) | unfold x
    | (extract_lets +onlyGivenNames x; first | (refine Touch.cut (s := x) ?_ (fun _ => ?_); rotate_left; clear_value x) | clear_value x)
    | split

theorem loadBegin_touch {M : Nat} {s₀ s : State} {a0} (m : Sub 0x100000010000010 M) (h : Touch M s₀ s) :
    Touch M s₀ (loadBegin a0 s) := by
  unfold loadBegin
  repeat' with_reducible first
    | assumption | refine State.withTt_touch (m.bit rfl) ?_
    | refine put_page_touch (m.trans (by decide +kernel)) ?_ | refine put_ch_touch (m.trans (by decide +kernel)) ?_ | refine put_idx_touch (m.trans (by decide +kernel)) ?_ | refine put_host_touch (m.trans (by decide +kernel)) ?_ | refine put_pll_touch (m.trans (by decide +kernel)) ?_ | refine put_master_touch (m.trans (by decide +kernel)) ?_ | refine put_closed_touch (m.trans (by decide +kernel)) ?_ | refine State.put_touch (m.trans (by decide +kernel)) ?_ | refine put_any_touch (m.trans (by decide +kernel)) ?_
    | unfold x
    | (extract_lets +onlyGivenNames x; first | (refine Touch.cut (s := x) ?_ (fun _ => ?_); rotate_left; clear_value x) | clear_value x)

theorem loadEnd_touch {M : Nat} {s₀ s : State} {a0 a1} (m : Sub 0x108100000110206210 M) (h : Touch M s₀ s) :
    Touch M s₀ (loadEnd a0 a1 s) := by
  unfold loadEnd
  repeat' with_reducible first
    | assumption | refine raise_touch (m.trans rfl) ?_ | refine State.withTt_touch (m.bit rfl) ?_
    | refine put_page_touch (m.trans (by decide +kernel)) ?_ | refine put_ch_touch (m.trans (by decide +kernel)) ?_ | refine put_idx_touch (m.trans (by decide +kernel)) ?_ | refine put_host_touch (m.trans (by decide +kernel)) ?_ | refine put_pll_touch (m.trans (by decide +kernel)) ?_ | refine put_master_touch (m.trans (by decide +kernel)) ?_ | refine put_closed_touch (m.trans (by decide +kernel)) ?_ | refine State.put_touch (m.trans (by decide +kernel)) ?_ | refine put_any_touch (m.trans (by decide +kernel)) ?_
    | unfold x
    | (extract_lets +onlyGivenNames x; first | (refine Touch.cut (s := x) ?_ (fun _ => ?_); rotate_left; clear_value x) | clear_value x)

theorem norFollow_touch {M : Nat} {s₀ s : State} (m : Sub 0x100000010000010 M) (h : Touch M s₀ s) :
    Touch M s₀ (norFollow s) := by
  unfold norFollow
  repeat' with_reducible first
    | assumption | refine State.withTt_touch (m.bit rfl) ?_
    | refine put_page_touch (m.trans (by decide +kernel)) ?_ | refine put_ch_touch (m.trans (by decide +kernel)) ?_ | refine put_idx_touch (m.trans (by decide +kernel)) ?_ | refine put_host_touch (m.trans (by decide +kernel)) ?_ | refine put_pll_touch (m.trans (by decide +kernel)) ?_ | refine put_master_touch (m.trans (by decide +kernel)) ?_ | refine put_closed_touch (m.trans (by decide +kernel)) ?_ | refine State.put_touch (m.trans (by decide +kernel)) ?_ | refine put_any_touch (m.trans (by decide +kernel)) ?_
    | refine State.putFlag_touch ?_ | unfold x
    | (extract_lets +onlyGivenNames x; first | (refine Touch.cut (s := x) ?_ (fun _ => ?_); rotate_left; clear_value x) | clear_value x)
    | split

theorem loadAbandon_touch {M : Nat} {s₀ s : State} (m : Sub 0x108100000110206210 M) (h : Touch M s₀ s) :
    Touch M s₀ (loadAbandon s) := by
  unfold loadAbandon
  repeat' with_reducible first
    | assumption | refine norFollow_touch (m.trans rfl) ?_ | refine loadEnd_touch (m.trans rfl) ?_
    | refine Touch.ite_else ?_ (fun _ => ?_) | split

theorem eraseDone_touch {M : Nat} {s₀ s : State} {a0} (m : Sub 0x108100000510226210 M) (h : Touch M s₀ s) :
    Touch M s₀ (eraseDone a0 s) := by
  unfold eraseDone
  repeat' with_reducible first
    | assumption | refine lastingFault_touch (m.trans rfl) ?_ | refine norErase_touch (m.trans rfl) ?_
    | refine State.withTt_touch (m.bit rfl) ?_ | refine norFollow_touch (m.trans rfl) ?_
    | refine put_page_touch (m.trans (by decide +kernel)) ?_ | refine put_ch_touch (m.trans (by decide +kernel)) ?_ | refine put_idx_touch (m.trans (by decide +kernel)) ?_ | refine put_host_touch (m.trans (by decide +kernel)) ?_ | refine put_pll_touch (m.trans (by decide +kernel)) ?_ | refine put_master_touch (m.trans (by decide +kernel)) ?_ | refine put_closed_touch (m.trans (by decide +kernel)) ?_ | refine State.put_touch (m.trans (by decide +kernel)) ?_ | refine put_any_touch (m.trans (by decide +kernel)) ?_
    | refine loadEnd_touch (m.trans rfl) ?_ | refine Touch.ite_else ?_ (fun _ => ?_) | unfold x
    | (extract_lets +onlyGivenNames x; first | (refine Touch.cut (s := x) ?_ (fun _ => ?_); rotate_left; clear_value x) | clear_value x)
    | split

theorem loadFlush_touch {M : Nat} {s₀ s : State} (m : Sub 0x10020000 M) (h : Touch M s₀ s) :
    Touch M s₀ (loadFlush s) := by
  unfold loadFlush
  repeat' with_reducible first
    | assumption | refine norWrite_touch (m.trans rfl) ?_ | refine State.withTt_touch (m.bit rfl) ?_
    | refine Touch.ite_else ?_ (fun _ => ?_) | unfold x
    | (extract_lets +onlyGivenNames x; first | (refine Touch.cut (s := x) ?_ (fun _ => ?_); rotate_left; clear_value x) | clear_value x)
    | split

theorem loadWord_touch {M : Nat} {s₀ s : State} {a0} (m : Sub 0x100000010020010 M) (h : Touch M s₀ s) :
    Touch M s₀ (loadWord a0 s) := by
  unfold loadWord
  repeat' with_reducible first
    | assumption | refine State.withTt_touch (m.bit rfl) ?_
    | refine put_page_touch (m.trans (by decide +kernel)) ?_ | refine put_ch_touch (m.trans (by decide +kernel)) ?_ | refine put_idx_touch (m.trans (by decide +kernel)) ?_ | refine put_host_touch (m.trans (by decide +kernel)) ?_ | refine put_pll_touch (m.trans (by decide +kernel)) ?_ | refine put_master_touch (m.trans (by decide +kernel)) ?_ | refine put_closed_touch (m.trans (by decide +kernel)) ?_ | refine State.put_touch (m.trans (by decide +kernel)) ?_ | refine put_any_touch (m.trans (by decide +kernel)) ?_
    | refine loadFlush_touch (m.trans rfl) ?_ | refine State.bumpSat_touch ?_ | refine Touch.ite_else ?_ (fun _ => ?_)
    | unfold x
    | (extract_lets +onlyGivenNames x; first | (refine Touch.cut (s := x) ?_ (fun _ => ?_); rotate_left; clear_value x) | clear_value x)
    | split

theorem actImgData_touch {M : Nat} {s₀ s : State} {a0 a1} (m : Sub 0x108100000310226210 M) (h : Touch M s₀ s) :
    Touch M s₀ (actImgData a0 a1 s) := by
  unfold actImgData
  repeat' with_reducible first
    | assumption | refine loadWord_touch (m.trans rfl) ?_ | refine accessFault_touch (m.trans rfl) ?_
    | refine Touch.ite_else ?_ (fun _ => ?_) | split

theorem execImgData_touch {M : Nat} {s₀ s : State} {a0 a1} (m : Sub 0x1081000003102262f0 M) (h : Touch M s₀ s) :
    OutTouch M s₀ (execImgData a0 a1 s) := by
  unfold execImgData
  repeat' with_reducible first
    | assumption | apply OutTouch.next
    | refine hostWord_touch (m.trans (by decide +kernel)) (fun _ _ _ => ?_) ?_ | refine hostWord_any_touch (m.trans (by decide +kernel)) (fun _ _ _ => ?_) ?_
    | refine actImgData_touch (m.trans rfl) ?_

theorem noteEndRead_touch {M : Nat} {s₀ s : State} {a0} (m : Sub 0x10000000 M) (h : Touch M s₀ s) :
    Touch M s₀ (noteEndRead a0 s) := by
  unfold noteEndRead
  repeat' with_reducible first
    | assumption | refine State.withTt_touch (m.bit rfl) ?_ | refine Touch.ite_else ?_ (fun _ => ?_) | unfold x
    | (extract_lets +onlyGivenNames x; first | (refine Touch.cut (s := x) ?_ (fun _ => ?_); rotate_left; clear_value x) | clear_value x)
    | split

theorem loadFinish_touch {M : Nat} {s₀ s : State} (m : Sub 0x108100040510226210 M) (h : Touch M s₀ s) :
    Touch M s₀ (loadFinish s) := by
  unfold loadFinish
  repeat' with_reducible first
    | assumption | refine State.withTt_touch (m.bit rfl) ?_
    | refine put_page_touch (m.trans (by decide +kernel)) ?_ | refine put_ch_touch (m.trans (by decide +kernel)) ?_ | refine put_idx_touch (m.trans (by decide +kernel)) ?_ | refine put_host_touch (m.trans (by decide +kernel)) ?_ | refine put_pll_touch (m.trans (by decide +kernel)) ?_ | refine put_master_touch (m.trans (by decide +kernel)) ?_ | refine put_closed_touch (m.trans (by decide +kernel)) ?_ | refine State.put_touch (m.trans (by decide +kernel)) ?_ | refine put_any_touch (m.trans (by decide +kernel)) ?_
    | refine norFlush_touch (m.trans rfl) ?_ | refine norRead_touch (m.trans rfl) ?_
    | refine loadFlush_touch (m.trans rfl) ?_ | refine noteVerdict_touch (m.trans rfl) ?_
    | refine loadEnd_touch (m.trans rfl) ?_ | refine Touch.ite_else ?_ (fun _ => ?_) | unfold x
    | (extract_lets +onlyGivenNames x; first | (refine Touch.cut (s := x) ?_ (fun _ => ?_); rotate_left; clear_value x) | clear_value x)
    | split

theorem actImgCtl_touch {M : Nat} {s₀ s : State} {a0 a1} (m : Sub 0x108100040710226210 M) (h : Touch M s₀ s) :
    Touch M s₀ (actImgCtl a0 a1 s) := by
  unfold actImgCtl
  repeat' with_reducible first
    | assumption | refine loadFinish_touch (m.trans rfl) ?_ | refine accessFault_touch (m.trans rfl) ?_
    | refine loadAbandon_touch (m.trans rfl) ?_ | refine loadBegin_touch (m.trans rfl) ?_
    | refine Touch.ite_else ?_ (fun _ => ?_) | unfold x
    | (extract_lets +onlyGivenNames x; first | (refine Touch.cut (s := x) ?_ (fun _ => ?_); rotate_left; clear_value x) | clear_value x)
    | split

theorem execImgBegin_touch {M : Nat} {s₀ s : State} {a0} (m : Sub 0x1081000407102262f0 M) (h : Touch M s₀ s) :
    OutTouch M s₀ (execImgBegin a0 s) := by
  unfold execImgBegin
  repeat' with_reducible first
    | assumption | apply OutTouch.next
    | refine hostWord_touch (m.trans (by decide +kernel)) (fun _ _ _ => ?_) ?_ | refine hostWord_any_touch (m.trans (by decide +kernel)) (fun _ _ _ => ?_) ?_
    | refine actImgCtl_touch (m.trans rfl) ?_

theorem execImgEnd_touch {M : Nat} {s₀ s : State} {a0 a2 a3} (m : Sub 0x1081000407102262f0 M) (h : Touch M s₀ s) :
    OutTouch M s₀ (execImgEnd a0 s a2 a3) := by
  unfold execImgEnd
  repeat' with_reducible first
    | assumption | apply OutTouch.next
    | refine hostWord_touch (m.trans (by decide +kernel)) (fun _ _ _ => ?_) ?_ | refine hostWord_any_touch (m.trans (by decide +kernel)) (fun _ _ _ => ?_) ?_
    | refine actImgCtl_touch (m.trans rfl) ?_ | refine noteEndRead_touch (m.trans rfl) ?_
    | refine Touch.ite_else ?_ (fun _ => ?_) | unfold x
    | (extract_lets +onlyGivenNames x; first | (refine Touch.cut (s := x) ?_ (fun _ => ?_); rotate_left; clear_value x) | clear_value x)
    | split

theorem execImgAbort_touch {M : Nat} {s₀ s : State} {a0} (m : Sub 0x1081000407102262f0 M) (h : Touch M s₀ s) :
    OutTouch M s₀ (execImgAbort a0 s) := by
  unfold execImgAbort
  repeat' with_reducible first
    | assumption | apply OutTouch.next
    | refine hostWord_touch (m.trans (by decide +kernel)) (fun _ _ _ => ?_) ?_ | refine hostWord_any_touch (m.trans (by decide +kernel)) (fun _ _ _ => ?_) ?_
    | refine actImgCtl_touch (m.trans rfl) ?_

theorem copyWritten_touch {M : Nat} {s₀ s : State} (m : Sub 0x108100000110226210 M) (h : Touch M s₀ s) :
    Touch M s₀ (copyWritten s) := by
  unfold copyWritten
  repeat' with_reducible first
    | assumption | refine norErase_touch (m.trans rfl) ?_ | refine State.setNorBytes_touch (m.trans rfl) ?_
    | refine State.withTt_touch (m.bit rfl) ?_
    | refine put_page_touch (m.trans (by decide +kernel)) ?_ | refine put_ch_touch (m.trans (by decide +kernel)) ?_ | refine put_idx_touch (m.trans (by decide +kernel)) ?_ | refine put_host_touch (m.trans (by decide +kernel)) ?_ | refine put_pll_touch (m.trans (by decide +kernel)) ?_ | refine put_master_touch (m.trans (by decide +kernel)) ?_ | refine put_closed_touch (m.trans (by decide +kernel)) ?_ | refine State.put_touch (m.trans (by decide +kernel)) ?_ | refine put_any_touch (m.trans (by decide +kernel)) ?_
    | refine loadEnd_touch (m.trans rfl) ?_ | unfold x
    | (extract_lets +onlyGivenNames x; first | (refine Touch.cut (s := x) ?_ (fun _ => ?_); rotate_left; clear_value x) | clear_value x)

theorem bootRepair_touch {M : Nat} {s₀ s : State} (m : Sub 0x10020000 M) (h : Touch M s₀ s) :
    Touch M s₀ (bootRepair s) := by
  unfold bootRepair
  repeat' with_reducible first
    | assumption | refine norErase_touch (m.trans rfl) ?_ | refine State.setNorBytes_touch (m.trans rfl) ?_
    | refine State.withTt_touch (m.bit rfl) ?_ | refine Touch.ite_else ?_ (fun _ => ?_) | unfold x
    | (extract_lets +onlyGivenNames x; first | (refine Touch.cut (s := x) ?_ (fun _ => ?_); rotate_left; clear_value x) | clear_value x)
    | split

theorem execBootRepair_touch {M : Nat} {s₀ s : State} (m : Sub 0x10020000 M) (h : Touch M s₀ s) :
    OutTouch M s₀ (execBootRepair s) := by
  unfold execBootRepair
  repeat' with_reducible first
    | assumption | apply OutTouch.next | refine bootRepair_touch (m.trans rfl) ?_

theorem clearKeyData_touch {M : Nat} {s₀ s : State} (m : Sub 0x7ffffffffff00000010 M) (h : Touch M s₀ s) :
    Touch M s₀ (clearKeyData s) := by
  unfold clearKeyData
  repeat' with_reducible first
    | assumption
    | refine setReg_fld_touch (m.trans (by decide +kernel)) ?_ | refine State.setReg_touch (m.trans (by decide +kernel)) ?_ | refine setReg_any_touch (m.trans (by decide +kernel)) ?_
    | refine foldl_touch (fun _ _ _ => ?_) ?_

theorem actKeyData_touch {M : Nat} {s₀ s : State} {a0 a1 a2} (m : Sub 0x7ffffffffff00000010 M) (h : Touch M s₀ s) :
    Touch M s₀ (actKeyData a0 a1 a2 s) := by
  unfold actKeyData
  repeat' with_reducible first
    | assumption
    | refine setReg_fld_touch (m.trans (by decide +kernel)) ?_ | refine State.setReg_touch (m.trans (by decide +kernel)) ?_ | refine setReg_any_touch (m.trans (by decide +kernel)) ?_
    | refine Touch.ite_else ?_ (fun _ => ?_) | split

theorem actKeyCmd_touch {M : Nat} {s₀ s : State} {a0 a1} (m : Sub 0x7ffffffffff10206210 M) (h : Touch M s₀ s) :
    Touch M s₀ (actKeyCmd a0 a1 s) := by
  unfold actKeyCmd
  repeat' with_reducible first
    | assumption | refine raise_touch (m.trans rfl) ?_ | refine State.withTt_touch (m.bit rfl) ?_
    | refine clearKeyData_touch (m.trans rfl) ?_ | refine accessFault_touch (m.trans rfl) ?_
    | refine Touch.ite_else ?_ (fun _ => ?_) | unfold x
    | (extract_lets +onlyGivenNames x; first | (refine Touch.cut (s := x) ?_ (fun _ => ?_); rotate_left; clear_value x) | clear_value x)
    | split

theorem execKeyProgram_touch {M : Nat} {s₀ s : State} {a0 a1} (m : Sub 0x7ffffffffff102062f0 M) (h : Touch M s₀ s) :
    OutTouch M s₀ (execKeyProgram a0 a1 s) := by
  unfold execKeyProgram
  repeat' with_reducible first
    | assumption | apply OutTouch.next | refine actKeyCmd_touch (m.trans rfl) ?_
    | refine hostWord_touch (m.trans (by decide +kernel)) (fun _ _ _ => ?_) ?_ | refine hostWord_any_touch (m.trans (by decide +kernel)) (fun _ _ _ => ?_) ?_

theorem execKeyRevoke_touch {M : Nat} {s₀ s : State} {a0 a1} (m : Sub 0x7ffffffffff102062f0 M) (h : Touch M s₀ s) :
    OutTouch M s₀ (execKeyRevoke a0 a1 s) := by
  unfold execKeyRevoke
  repeat' with_reducible first
    | assumption | apply OutTouch.next | refine actKeyCmd_touch (m.trans rfl) ?_
    | refine hostWord_touch (m.trans (by decide +kernel)) (fun _ _ _ => ?_) ?_ | refine hostWord_any_touch (m.trans (by decide +kernel)) (fun _ _ _ => ?_) ?_

theorem execAuthReqSet_touch {M : Nat} {s₀ s : State} {a0 a1} (m : Sub 0x7ffffffffff102062f0 M) (h : Touch M s₀ s) :
    OutTouch M s₀ (execAuthReqSet a0 a1 s) := by
  unfold execAuthReqSet
  repeat' with_reducible first
    | assumption | apply OutTouch.next | refine actKeyCmd_touch (m.trans rfl) ?_
    | refine hostWord_touch (m.trans (by decide +kernel)) (fun _ _ _ => ?_) ?_ | refine hostWord_any_touch (m.trans (by decide +kernel)) (fun _ _ _ => ?_) ?_

theorem keyDone_touch {M : Nat} {s₀ s : State} (m : Sub 0x7ffffffffff10206210 M) (h : Touch M s₀ s) :
    Touch M s₀ (keyDone s) := by
  unfold keyDone
  repeat' with_reducible first
    | assumption | refine raise_touch (m.trans rfl) ?_ | refine State.withTt_touch (m.bit rfl) ?_
    | refine clearKeyData_touch (m.trans rfl) ?_ | unfold x
    | (extract_lets +onlyGivenNames x; first | (refine Touch.cut (s := x) ?_ (fun _ => ?_); rotate_left; clear_value x) | clear_value x)
    | split

theorem execKeyProgramDone_touch {M : Nat} {s₀ s : State} (m : Sub 0x7ffffffffff10206210 M) (h : Touch M s₀ s) :
    OutTouch M s₀ (execKeyProgramDone s) := by
  unfold execKeyProgramDone
  repeat' with_reducible first
    | assumption | apply OutTouch.next | refine keyDone_touch (m.trans rfl) ?_

theorem chooseCopy_touch {M : Nat} {s₀ s : State} (m : Sub 0x108000040100206210 M) (h : Touch M s₀ s) :
    Touch M s₀ (chooseCopy s).2.2.2 := by
  unfold chooseCopy
  repeat' with_reducible first
    | assumption | refine noteVerdict_touch (m.trans rfl) ?_ | refine Touch.ite_else ?_ (fun _ => ?_) | unfold x
    | (extract_lets +onlyGivenNames x; first | (refine Touch.cut (s := x) ?_ (fun _ => ?_); rotate_left; clear_value x) | clear_value x)
    | split

theorem addRepair_touch {M : Nat} {s₀ s : State} {a0 a1 a2} (m : Sub 0x10000000 M) (h : Touch M s₀ s) :
    Touch M s₀ (addRepair a0 a1 a2 s) := by
  unfold addRepair
  repeat' with_reducible first
    | assumption | refine State.withTt_touch (m.bit rfl) ?_ | refine Touch.ite_else ?_ (fun _ => ?_) | unfold x
    | (extract_lets +onlyGivenNames x; first | (refine Touch.cut (s := x) ?_ (fun _ => ?_); rotate_left; clear_value x) | clear_value x)
    | split

theorem loadSlot_touch {M : Nat} {s₀ s : State} {a1} (m : Sub 0x108000040110206210 M) (h : Touch M s₀ s) :
    Touch M s₀ (loadSlot s a1) := by
  unfold loadSlot
  repeat' with_reducible first
    | assumption | refine addRepair_touch (m.trans rfl) ?_ | refine raise_touch (m.trans rfl) ?_
    | refine noteVerdict_touch (m.trans rfl) ?_ | refine State.setSlotTt_touch (m.trans rfl) ?_
    | refine Touch.ite_else ?_ (fun _ => ?_) | unfold x
    | (extract_lets +onlyGivenNames x; first | (refine Touch.cut (s := x) ?_ (fun _ => ?_); rotate_left; clear_value x) | clear_value x)
    | split

theorem powerupSwitch_touch {M : Nat} {s₀ s : State} (m : Sub 0x7ffffffffff17ede391 M) (h : Touch M s₀ s) :
    Touch M s₀ (powerupSwitch s) := by
  unfold powerupSwitch
  repeat' with_reducible first
    | assumption | refine record_touch (m.trans rfl) ?_ | refine switchWrite_touch (m.trans rfl) ?_
    | refine Touch.ite_else ?_ (fun _ => ?_) | unfold x
    | (extract_lets +onlyGivenNames x; first | (refine Touch.cut (s := x) ?_ (fun _ => ?_); rotate_left; clear_value x) | clear_value x)
    | split

theorem takeImage_touch {M : Nat} {s₀ s : State} {a0} (m : Sub 0x7ffffffffff1061e210 M) (h : Touch M s₀ s) :
    Touch M s₀ (takeImage a0 s) := by
  unfold takeImage
  repeat' with_reducible first
    | assumption | refine applyImage_touch (m.trans rfl) ?_ | refine State.withTt_touch (m.bit rfl) ?_
    | refine record_touch (m.trans rfl) ?_
    | refine put_page_touch (m.trans (by decide +kernel)) ?_ | refine put_ch_touch (m.trans (by decide +kernel)) ?_ | refine put_idx_touch (m.trans (by decide +kernel)) ?_ | refine put_host_touch (m.trans (by decide +kernel)) ?_ | refine put_pll_touch (m.trans (by decide +kernel)) ?_ | refine put_master_touch (m.trans (by decide +kernel)) ?_ | refine put_closed_touch (m.trans (by decide +kernel)) ?_ | refine State.put_touch (m.trans (by decide +kernel)) ?_ | refine put_any_touch (m.trans (by decide +kernel)) ?_
    | refine clearConfig_touch (m.trans rfl) ?_ | refine Touch.ite_else ?_ (fun _ => ?_) | unfold x
    | (extract_lets +onlyGivenNames x; first | (refine Touch.cut (s := x) ?_ (fun _ => ?_); rotate_left; clear_value x) | clear_value x)
    | split

end Sys2Proof.Machine
end

