-- ==== Sys2Proof/Laws/TouchEngineCmds.lean ====
section
/-!
SUPPORT. What the definitions of Machine/EngineCmds.lean touch.
-/

set_option Elab.async false
set_option linter.all false

namespace Sys2Proof.Machine

theorem callSettle_touch {M : Nat} {s₀ s : State} (m : Sub 0x7ffe001000101ac6210 M) (h : Touch M s₀ s) :
    Touch M s₀ (callSettle s) := by
  unfold callSettle
  repeat' with_reducible first
    | assumption | refine State.withCallIn_touch (m.bit rfl) ?_ | refine trackPoint_touch (m.trans rfl) ?_
    | refine foldl_touch (fun _ _ _ => ?_) ?_ | refine Touch.ite_else ?_ (fun _ => ?_) | unfold x
    | (extract_lets +onlyGivenNames x; first | (refine Touch.cut (s := x) ?_ (fun _ => ?_); rotate_left; clear_value x) | clear_value x)
    | split

theorem loadFigures_touch {M : Nat} {s₀ s : State} (m : Sub 0x10800400010020e210 M) (h : Touch M s₀ s) :
    Touch M s₀ (loadFigures s) := by
  unfold loadFigures
  repeat' with_reducible first
    | assumption | refine raise_touch (m.trans rfl) ?_
    | refine put_page_touch (m.trans (by decide +kernel)) ?_ | refine put_ch_touch (m.trans (by decide +kernel)) ?_ | refine put_idx_touch (m.trans (by decide +kernel)) ?_ | refine put_host_touch (m.trans (by decide +kernel)) ?_ | refine put_pll_touch (m.trans (by decide +kernel)) ?_ | refine put_master_touch (m.trans (by decide +kernel)) ?_ | refine put_closed_touch (m.trans (by decide +kernel)) ?_ | refine State.put_touch (m.trans (by decide +kernel)) ?_ | refine put_any_touch (m.trans (by decide +kernel)) ?_
    | refine State.withEng_touch (m.bit rfl) ?_ | refine Touch.ite_else ?_ (fun _ => ?_) | unfold x
    | (extract_lets +onlyGivenNames x; first | (refine Touch.cut (s := x) ?_ (fun _ => ?_); rotate_left; clear_value x) | clear_value x)
    | split

theorem commitsAndRequest_touch {M : Nat} {s₀ s : State} (m : Sub 0x7ffffffffff11ad6290 M) (h : Touch M s₀ s) :
    Touch M s₀ (commitsAndRequest s) := by
  unfold commitsAndRequest
  repeat' with_reducible first
    | assumption | refine passCommits_touch (m.trans rfl) ?_ | refine ttRequest_touch (m.trans rfl) ?_
    | refine Touch.ite_else ?_ (fun _ => ?_) | unfold x
    | (extract_lets +onlyGivenNames x; first | (refine Touch.cut (s := x) ?_ (fun _ => ?_); rotate_left; clear_value x) | clear_value x)
    | split

theorem endPass_touch {M : Nat} {s₀ s : State} {a0} (m : Sub 0x7ffffffffff15ade290 M) (h : Touch M s₀ s) :
    Touch M s₀ (endPass a0 s) := by
  unfold endPass
  repeat' with_reducible first
    | assumption | refine bindings_touch (m.trans rfl) ?_ | refine loadFigures_touch (m.trans rfl) ?_
    | refine updatePanel_touch (m.trans rfl) ?_ | refine callSettle_touch (m.trans rfl) ?_
    | refine commitsAndRequest_touch (m.trans rfl) ?_ | refine updateDo_touch (m.trans rfl) ?_

theorem enginePass_touch {M : Nat} {s₀ s : State} (m : Sub 0x7ffffffffff15ade290 M) (h : Touch M s₀ s) :
    Touch M s₀ (enginePass s) := by
  unfold enginePass
  repeat' with_reducible first
    | assumption | refine evalTrig_touch (m.trans rfl) ?_ | refine endPass_touch (m.trans rfl) ?_
    | refine State.withEng_touch (m.bit rfl) ?_ | refine expirePt_touch (m.trans rfl) ?_
    | refine foldl_touch (fun _ _ _ => ?_) ?_ | refine Touch.ite_else ?_ (fun _ => ?_) | unfold x
    | (extract_lets +onlyGivenNames x; first | (refine Touch.cut (s := x) ?_ (fun _ => ?_); rotate_left; clear_value x) | clear_value x)
    | split

theorem execEnginePass_touch {M : Nat} {s₀ s : State} (m : Sub 0x7ffffffffff15ade290 M) (h : Touch M s₀ s) :
    OutTouch M s₀ (execEnginePass s) := by
  unfold execEnginePass
  repeat' with_reducible first
    | assumption | apply OutTouch.next | refine enginePass_touch (m.trans rfl) ?_

theorem settle_touch {M : Nat} {s₀ s : State} (m : Sub 0x7ffffffffff15ade290 M) (h : Touch M s₀ s) :
    Touch M s₀ (settle s) := by
  unfold settle
  repeat' with_reducible first
    | assumption | refine enginePass_touch (m.trans rfl) ?_ | refine Touch.ite_else ?_ (fun _ => ?_) | split

theorem expiryPass_touch {M : Nat} {s₀ s : State} {i} {f : State → State} (m : Sub 0x7ffffffffff15ade290 M) (hf : ∀ s, Touch M s₀ s → Touch M s₀ (f s))
    (h : Touch M s₀ s) : Touch M s₀ (expiryPass i f s) := by
  unfold expiryPass
  split
  · exact endPass_touch (m.trans rfl) (hf _ (by split <;> first | exact h | exact enginePass_touch (m.trans rfl) h))
  · exact h

theorem execStalenessExpiry_touch {M : Nat} {s₀ s : State} {a0} (m : Sub 0x7ffffffffff15ade290 M) (h : Touch M s₀ s) :
    OutTouch M s₀ (execStalenessExpiry a0 s) := by
  unfold execStalenessExpiry
  repeat' with_reducible first
    | assumption | apply OutTouch.next | refine expireStale_touch (m.trans rfl) ?_
    | refine expiryPass_touch (m.trans rfl) (fun _ _ => ?_) ?_

theorem execDelayExpiry_touch {M : Nat} {s₀ s : State} {a0} (m : Sub 0x7ffffffffff15ade290 M) (h : Touch M s₀ s) :
    OutTouch M s₀ (execDelayExpiry a0 s) := by
  unfold execDelayExpiry
  repeat' with_reducible first
    | assumption | apply OutTouch.next | refine expiryPass_touch (m.trans rfl) (fun _ _ => ?_) ?_
    | refine expireDly_touch (m.trans rfl) ?_

theorem execRunupExpiry_touch {M : Nat} {s₀ s : State} {a0} (m : Sub 0x7ffffffffff15ade290 M) (h : Touch M s₀ s) :
    OutTouch M s₀ (execRunupExpiry a0 s) := by
  unfold execRunupExpiry
  repeat' with_reducible first
    | assumption | apply OutTouch.next | refine expireRunup_touch (m.trans rfl) ?_
    | refine expiryPass_touch (m.trans rfl) (fun _ _ => ?_) ?_

theorem execShelveExpiry_touch {M : Nat} {s₀ s : State} {a0} (m : Sub 0x7ffffffffff15ade290 M) (h : Touch M s₀ s) :
    OutTouch M s₀ (execShelveExpiry a0 s) := by
  unfold execShelveExpiry
  repeat' with_reducible first
    | assumption | apply OutTouch.next | refine expireShelve_touch (m.trans rfl) ?_
    | refine expiryPass_touch (m.trans rfl) (fun _ _ => ?_) ?_

theorem execEscalationExpiry_touch {M : Nat} {s₀ s : State} {a0} (m : Sub 0x7ffffffffff15ade290 M) (h : Touch M s₀ s) :
    OutTouch M s₀ (execEscalationExpiry a0 s) := by
  unfold execEscalationExpiry
  repeat' with_reducible first
    | assumption | apply OutTouch.next | refine expireEsc_touch (m.trans rfl) ?_
    | refine expiryPass_touch (m.trans rfl) (fun _ _ => ?_) ?_

theorem runhrs_touch {M : Nat} {s₀ s : State} {a0} (m : Sub 0x7ffe0040001002ce210 M) (h : Touch M s₀ s) :
    Touch M s₀ (runhrs a0 s) := by
  unfold runhrs
  repeat' with_reducible first
    | assumption | refine evalDerived_touch (m.trans rfl) ?_ | refine Touch.ite_else ?_ (fun _ => ?_) | unfold x
    | (extract_lets +onlyGivenNames x; first | (refine Touch.cut (s := x) ?_ (fun _ => ?_); rotate_left; clear_value x) | clear_value x)
    | split

theorem execRunhrsTimer_touch {M : Nat} {s₀ s : State} {a0} (m : Sub 0x7ffffffffff15ade290 M) (h : Touch M s₀ s) :
    OutTouch M s₀ (execRunhrsTimer a0 s) := by
  unfold execRunhrsTimer
  repeat' with_reducible first
    | assumption | apply OutTouch.next | refine runhrs_touch (m.trans rfl) ?_
    | refine expiryPass_touch (m.trans rfl) (fun _ _ => ?_) ?_

theorem engineTick_touch {M : Nat} {s₀ s : State} (m : Sub 0x7ffe0080001002ce210 M) (h : Touch M s₀ s) :
    Touch M s₀ (engineTick s) := by
  unfold engineTick
  repeat' with_reducible first
    | assumption | refine raise_touch (m.trans rfl) ?_
    | refine put_page_touch (m.trans (by decide +kernel)) ?_ | refine put_ch_touch (m.trans (by decide +kernel)) ?_ | refine put_idx_touch (m.trans (by decide +kernel)) ?_ | refine put_host_touch (m.trans (by decide +kernel)) ?_ | refine put_pll_touch (m.trans (by decide +kernel)) ?_ | refine put_master_touch (m.trans (by decide +kernel)) ?_ | refine put_closed_touch (m.trans (by decide +kernel)) ?_ | refine State.put_touch (m.trans (by decide +kernel)) ?_ | refine put_any_touch (m.trans (by decide +kernel)) ?_
    | refine valueFrame_touch (m.trans rfl) ?_ | refine foldl_touch (fun _ _ _ => ?_) ?_
    | refine Touch.ite_else ?_ (fun _ => ?_) | unfold x
    | (extract_lets +onlyGivenNames x; first | (refine Touch.cut (s := x) ?_ (fun _ => ?_); rotate_left; clear_value x) | clear_value x)
    | split

theorem holdWheel_touch {M : Nat} {s₀ s : State} (m : Sub 0x8000 M) (h : Touch M s₀ s) :
    Touch M s₀ (holdWheel s) := by
  unfold holdWheel
  repeat' with_reducible first
    | assumption | refine State.withEng_touch (m.bit rfl) ?_ | unfold x
    | (extract_lets +onlyGivenNames x; first | (refine Touch.cut (s := x) ?_ (fun _ => ?_); rotate_left; clear_value x) | clear_value x)

theorem resumeWheel_touch {M : Nat} {s₀ s : State} (m : Sub 0x7ffe0040001002ce210 M) (h : Touch M s₀ s) :
    Touch M s₀ (resumeWheel s) := by
  unfold resumeWheel
  repeat' with_reducible first
    | assumption | refine commitPt_touch (m.trans rfl) ?_ | refine State.withEng_touch (m.bit rfl) ?_
    | refine State.trigger_touch (m.trans rfl) ?_ | refine countEval_touch (m.trans rfl) ?_
    | refine State.setPt_touch (m.trans rfl) ?_ | refine foldl_touch (fun _ _ _ => ?_) ?_
    | refine Touch.ite_else ?_ (fun _ => ?_) | unfold x
    | (extract_lets +onlyGivenNames x; first | (refine Touch.cut (s := x) ?_ (fun _ => ?_); rotate_left; clear_value x) | clear_value x)
    | split

theorem resetWheel_touch {M : Nat} {s₀ s : State} (m : Sub 0x7ffffffffff15ade290 M) (h : Touch M s₀ s) :
    Touch M s₀ (resetWheel s) := by
  unfold resetWheel
  repeat' with_reducible first
    | assumption | refine commitPt_touch (m.trans rfl) ?_ | refine evalForce_touch (m.trans rfl) ?_
    | refine mark_touch (m.trans rfl) ?_ | refine endPass_touch (m.trans rfl) ?_
    | refine settle_touch (m.trans rfl) ?_ | refine countEval_touch (m.trans rfl) ?_
    | refine State.setPt_touch (m.trans rfl) ?_ | refine foldl_touch (fun _ _ _ => ?_) ?_
    | refine Touch.ite_else ?_ (fun _ => ?_) | unfold x
    | (extract_lets +onlyGivenNames x; first | (refine Touch.cut (s := x) ?_ (fun _ => ?_); rotate_left; clear_value x) | clear_value x)
    | split

theorem resetGroups_touch {M : Nat} {s₀ s : State} (m : Sub 0x7ffe0000001002ce210 M) (h : Touch M s₀ s) :
    Touch M s₀ (resetGroups s) := by
  unfold resetGroups
  repeat' with_reducible first
    | assumption | refine firstLost_touch (m.trans rfl) ?_ | refine foldl_touch (fun _ _ _ => ?_) ?_

theorem forcePass_touch {M : Nat} {s₀ s : State} (m : Sub 0x7ffffffffff15ade290 M) (h : Touch M s₀ s) :
    Touch M s₀ (forcePass s) := by
  unfold forcePass
  repeat' with_reducible first
    | assumption | refine evalForce_touch (m.trans rfl) ?_ | refine endPass_touch (m.trans rfl) ?_
    | refine forceAll_touch (m.trans rfl) ?_ | refine settle_touch (m.trans rfl) ?_
    | refine foldl_touch (fun _ _ _ => ?_) ?_ | refine Touch.ite_else ?_ (fun _ => ?_) | unfold x
    | (extract_lets +onlyGivenNames x; first | (refine Touch.cut (s := x) ?_ (fun _ => ?_); rotate_left; clear_value x) | clear_value x)
    | split

theorem actPteCtl_touch {M : Nat} {s₀ s : State} {a0} (m : Sub 0x7ffffffffff15ade290 M) (h : Touch M s₀ s) :
    Touch M s₀ (actPteCtl a0 s) := by
  unfold actPteCtl
  repeat' with_reducible first
    | assumption
    | refine put_page_touch (m.trans (by decide +kernel)) ?_ | refine put_ch_touch (m.trans (by decide +kernel)) ?_ | refine put_idx_touch (m.trans (by decide +kernel)) ?_ | refine put_host_touch (m.trans (by decide +kernel)) ?_ | refine put_pll_touch (m.trans (by decide +kernel)) ?_ | refine put_master_touch (m.trans (by decide +kernel)) ?_ | refine put_closed_touch (m.trans (by decide +kernel)) ?_ | refine State.put_touch (m.trans (by decide +kernel)) ?_ | refine put_any_touch (m.trans (by decide +kernel)) ?_
    | refine forcePass_touch (m.trans rfl) ?_ | refine Touch.ite_else ?_ (fun _ => ?_) | unfold x
    | (extract_lets +onlyGivenNames x; first | (refine Touch.cut (s := x) ?_ (fun _ => ?_); rotate_left; clear_value x) | clear_value x)
    | split

theorem execForceAll_touch {M : Nat} {s₀ s : State} {a0} (m : Sub 0x7ffffffffff15ade2f0 M) (h : Touch M s₀ s) :
    OutTouch M s₀ (execForceAll a0 s) := by
  unfold execForceAll
  repeat' with_reducible first
    | assumption | apply OutTouch.next
    | refine hostWord_touch (m.trans (by decide +kernel)) (fun _ _ _ => ?_) ?_ | refine hostWord_any_touch (m.trans (by decide +kernel)) (fun _ _ _ => ?_) ?_
    | refine actPteCtl_touch (m.trans rfl) ?_

theorem execPeakClr_touch {M : Nat} {s₀ s : State} {a0} (m : Sub 0x7ffffffffff15ade2f0 M) (h : Touch M s₀ s) :
    OutTouch M s₀ (execPeakClr a0 s) := by
  unfold execPeakClr
  repeat' with_reducible first
    | assumption | apply OutTouch.next
    | refine hostWord_touch (m.trans (by decide +kernel)) (fun _ _ _ => ?_) ?_ | refine hostWord_any_touch (m.trans (by decide +kernel)) (fun _ _ _ => ?_) ?_
    | refine actPteCtl_touch (m.trans rfl) ?_

theorem actTideCtl_touch {M : Nat} {s₀ s : State} {a0} (m : Sub 0x8000000000010 M) (h : Touch M s₀ s) :
    Touch M s₀ (actTideCtl a0 s) := by
  unfold actTideCtl
  repeat' with_reducible first
    | assumption
    | refine put_page_touch (m.trans (by decide +kernel)) ?_ | refine put_ch_touch (m.trans (by decide +kernel)) ?_ | refine put_idx_touch (m.trans (by decide +kernel)) ?_ | refine put_host_touch (m.trans (by decide +kernel)) ?_ | refine put_pll_touch (m.trans (by decide +kernel)) ?_ | refine put_master_touch (m.trans (by decide +kernel)) ?_ | refine put_closed_touch (m.trans (by decide +kernel)) ?_ | refine State.put_touch (m.trans (by decide +kernel)) ?_ | refine put_any_touch (m.trans (by decide +kernel)) ?_
    | refine Touch.ite_else ?_ (fun _ => ?_) | split

theorem execMaxexpClr_touch {M : Nat} {s₀ s : State} {a0} (m : Sub 0x1080080003002062f0 M) (h : Touch M s₀ s) :
    OutTouch M s₀ (execMaxexpClr a0 s) := by
  unfold execMaxexpClr
  repeat' with_reducible first
    | assumption | apply OutTouch.next
    | refine hostWord_touch (m.trans (by decide +kernel)) (fun _ _ _ => ?_) ?_ | refine hostWord_any_touch (m.trans (by decide +kernel)) (fun _ _ _ => ?_) ?_
    | refine actTideCtl_touch (m.trans rfl) ?_

theorem actGrpCmd_touch {M : Nat} {s₀ s : State} {a0 a1} (m : Sub 0x8000 M) (h : Touch M s₀ s) :
    Touch M s₀ (actGrpCmd a0 a1 s) := by
  unfold actGrpCmd
  repeat' with_reducible first
    | assumption | refine State.setFirst_touch (m.trans rfl) ?_ | refine Touch.ite_else ?_ (fun _ => ?_) | split

theorem execGroupRearm_touch {M : Nat} {s₀ s : State} {a0} (m : Sub 0x10801000030020e2f0 M) (h : Touch M s₀ s) :
    OutTouch M s₀ (execGroupRearm a0 s) := by
  unfold execGroupRearm
  repeat' with_reducible first
    | assumption | apply OutTouch.next | refine actGrpCmd_touch (m.trans rfl) ?_
    | refine hostWord_touch (m.trans (by decide +kernel)) (fun _ _ _ => ?_) ?_ | refine hostWord_any_touch (m.trans (by decide +kernel)) (fun _ _ _ => ?_) ?_

theorem quietRefusal_touch {M : Nat} {s₀ s : State} {a0 a1} (m : Sub 0x300000010 M) (h : Touch M s₀ s) :
    Touch M s₀ (quietRefusal a0 a1 s) := by
  unfold quietRefusal
  repeat' with_reducible first
    | assumption
    | refine put_page_touch (m.trans (by decide +kernel)) ?_ | refine put_ch_touch (m.trans (by decide +kernel)) ?_ | refine put_idx_touch (m.trans (by decide +kernel)) ?_ | refine put_host_touch (m.trans (by decide +kernel)) ?_ | refine put_pll_touch (m.trans (by decide +kernel)) ?_ | refine put_master_touch (m.trans (by decide +kernel)) ?_ | refine put_closed_touch (m.trans (by decide +kernel)) ?_ | refine State.put_touch (m.trans (by decide +kernel)) ?_ | refine put_any_touch (m.trans (by decide +kernel)) ?_
    | refine mark_touch (m.trans rfl) ?_ | refine Touch.ite_else ?_ (fun _ => ?_) | split

theorem cntLoad_touch {M : Nat} {s₀ s : State} (m : Sub 0x10800000030020e218 M) (h : Touch M s₀ s) :
    Touch M s₀ (cntLoad s) := by
  unfold cntLoad
  repeat' with_reducible first
    | assumption | refine raise_touch (m.trans rfl) ?_ | refine writeSlot_touch (m.trans rfl) ?_
    | refine accessFault_touch (m.trans rfl) ?_ | refine State.setPt_touch (m.trans rfl) ?_
    | refine foldl_touch (fun _ _ _ => ?_) ?_ | refine Touch.ite_else ?_ (fun _ => ?_) | unfold x
    | (extract_lets +onlyGivenNames x; first | (refine Touch.cut (s := x) ?_ (fun _ => ?_); rotate_left; clear_value x) | clear_value x)
    | split

theorem editOpen_touch {M : Nat} {s₀ s : State} {a0} (m : Sub 0x40000300008010 M) (h : Touch M s₀ s) :
    Touch M s₀ (editOpen a0 s) := by
  unfold editOpen
  repeat' with_reducible first
    | assumption
    | refine put_page_touch (m.trans (by decide +kernel)) ?_ | refine put_ch_touch (m.trans (by decide +kernel)) ?_ | refine put_idx_touch (m.trans (by decide +kernel)) ?_ | refine put_host_touch (m.trans (by decide +kernel)) ?_ | refine put_pll_touch (m.trans (by decide +kernel)) ?_ | refine put_master_touch (m.trans (by decide +kernel)) ?_ | refine put_closed_touch (m.trans (by decide +kernel)) ?_ | refine State.put_touch (m.trans (by decide +kernel)) ?_ | refine put_any_touch (m.trans (by decide +kernel)) ?_
    | refine State.withEng_touch (m.bit rfl) ?_ | refine quietRefusal_touch (m.trans rfl) ?_
    | refine Touch.ite_else ?_ (fun _ => ?_) | unfold x
    | (extract_lets +onlyGivenNames x; first | (refine Touch.cut (s := x) ?_ (fun _ => ?_); rotate_left; clear_value x) | clear_value x)
    | refine Touch.snd ?_ (by assumption) | split

theorem editClose_touch {M : Nat} {s₀ s : State} (m : Sub 0x108040000300206210 M) (h : Touch M s₀ s) :
    Touch M s₀ (editClose s) := by
  unfold editClose
  repeat' with_reducible first
    | assumption
    | refine put_page_touch (m.trans (by decide +kernel)) ?_ | refine put_ch_touch (m.trans (by decide +kernel)) ?_ | refine put_idx_touch (m.trans (by decide +kernel)) ?_ | refine put_host_touch (m.trans (by decide +kernel)) ?_ | refine put_pll_touch (m.trans (by decide +kernel)) ?_ | refine put_master_touch (m.trans (by decide +kernel)) ?_ | refine put_closed_touch (m.trans (by decide +kernel)) ?_ | refine State.put_touch (m.trans (by decide +kernel)) ?_ | refine put_any_touch (m.trans (by decide +kernel)) ?_
    | refine accessFault_touch (m.trans rfl) ?_ | refine Touch.ite_else ?_ (fun _ => ?_) | split

theorem actManCmd_touch {M : Nat} {s₀ s : State} {a0 a1} (m : Sub 0x10804000030020e218 M) (h : Touch M s₀ s) :
    Touch M s₀ (actManCmd a0 a1 s) := by
  unfold actManCmd
  repeat' with_reducible first
    | assumption | refine cntLoad_touch (m.trans rfl) ?_ | refine editClose_touch (m.trans rfl) ?_
    | refine editOpen_touch (m.trans rfl) ?_ | refine Touch.ite_else ?_ (fun _ => ?_) | unfold x
    | (extract_lets +onlyGivenNames x; first | (refine Touch.cut (s := x) ?_ (fun _ => ?_); rotate_left; clear_value x) | clear_value x)
    | split

theorem execManOpen_touch {M : Nat} {s₀ s : State} {a0} (m : Sub 0x10804000030020e2f8 M) (h : Touch M s₀ s) :
    OutTouch M s₀ (execManOpen a0 s) := by
  unfold execManOpen
  repeat' with_reducible first
    | assumption | apply OutTouch.next
    | refine hostWord_touch (m.trans (by decide +kernel)) (fun _ _ _ => ?_) ?_ | refine hostWord_any_touch (m.trans (by decide +kernel)) (fun _ _ _ => ?_) ?_
    | refine actManCmd_touch (m.trans rfl) ?_

theorem execManClose_touch {M : Nat} {s₀ s : State} {a0} (m : Sub 0x10804000030020e2f8 M) (h : Touch M s₀ s) :
    OutTouch M s₀ (execManClose a0 s) := by
  unfold execManClose
  repeat' with_reducible first
    | assumption | apply OutTouch.next
    | refine hostWord_touch (m.trans (by decide +kernel)) (fun _ _ _ => ?_) ?_ | refine hostWord_any_touch (m.trans (by decide +kernel)) (fun _ _ _ => ?_) ?_
    | refine actManCmd_touch (m.trans rfl) ?_

theorem execCntLoad_touch {M : Nat} {s₀ s : State} {a0} (m : Sub 0x10804000030020e2f8 M) (h : Touch M s₀ s) :
    OutTouch M s₀ (execCntLoad a0 s) := by
  unfold execCntLoad
  repeat' with_reducible first
    | assumption | apply OutTouch.next
    | refine hostWord_touch (m.trans (by decide +kernel)) (fun _ _ _ => ?_) ?_ | refine hostWord_any_touch (m.trans (by decide +kernel)) (fun _ _ _ => ?_) ?_
    | refine actManCmd_touch (m.trans rfl) ?_

theorem settleHours_touch {M : Nat} {s₀ s : State} {a0 a1} (m : Sub 0x8000 M) (h : Touch M s₀ s) :
    Touch M s₀ (settleHours a0 a1 s) := by
  unfold settleHours
  repeat' with_reducible first
    | assumption | refine State.setPt_touch (m.trans rfl) ?_ | refine foldl_touch (fun _ _ _ => ?_) ?_
    | refine Touch.ite_else ?_ (fun _ => ?_) | unfold x
    | (extract_lets +onlyGivenNames x; first | (refine Touch.cut (s := x) ?_ (fun _ => ?_); rotate_left; clear_value x) | clear_value x)
    | split

theorem editOpenApply_touch {M : Nat} {s₀ s : State} (m : Sub 0x10804000030020e210 M) (h : Touch M s₀ s) :
    Touch M s₀ (editOpenApply s) := by
  unfold editOpenApply
  repeat' with_reducible first
    | assumption | refine settleHours_touch (m.trans rfl) ?_ | refine raise_touch (m.trans rfl) ?_
    | refine put_page_touch (m.trans (by decide +kernel)) ?_ | refine put_ch_touch (m.trans (by decide +kernel)) ?_ | refine put_idx_touch (m.trans (by decide +kernel)) ?_ | refine put_host_touch (m.trans (by decide +kernel)) ?_ | refine put_pll_touch (m.trans (by decide +kernel)) ?_ | refine put_master_touch (m.trans (by decide +kernel)) ?_ | refine put_closed_touch (m.trans (by decide +kernel)) ?_ | refine State.put_touch (m.trans (by decide +kernel)) ?_ | refine put_any_touch (m.trans (by decide +kernel)) ?_
    | refine State.withEng_touch (m.bit rfl) ?_ | refine quietRefusal_touch (m.trans rfl) ?_
    | refine Touch.ite_else ?_ (fun _ => ?_) | unfold x
    | (extract_lets +onlyGivenNames x; first | (refine Touch.cut (s := x) ?_ (fun _ => ?_); rotate_left; clear_value x) | clear_value x)
    | split

theorem execManOpenApply_touch {M : Nat} {s₀ s : State} (m : Sub 0x10804000030020e210 M) (h : Touch M s₀ s) :
    OutTouch M s₀ (execManOpenApply s) := by
  unfold execManOpenApply
  repeat' with_reducible first
    | assumption | apply OutTouch.next | refine editOpenApply_touch (m.trans rfl) ?_

theorem closeRange_touch {M : Nat} {s₀ s : State} {a0} (m : Sub 0x7ffffffffff15ade290 M) (h : Touch M s₀ s) :
    Touch M s₀ (closeRange a0 s) := by
  unfold closeRange
  repeat' with_reducible first
    | assumption | refine rebuildSome_touch (m.trans rfl) ?_ | refine raise_touch (m.trans rfl) ?_
    | refine evalForce_touch (m.trans rfl) ?_
    | refine put_page_touch (m.trans (by decide +kernel)) ?_ | refine put_ch_touch (m.trans (by decide +kernel)) ?_ | refine put_idx_touch (m.trans (by decide +kernel)) ?_ | refine put_host_touch (m.trans (by decide +kernel)) ?_ | refine put_pll_touch (m.trans (by decide +kernel)) ?_ | refine put_master_touch (m.trans (by decide +kernel)) ?_ | refine put_closed_touch (m.trans (by decide +kernel)) ?_ | refine State.put_touch (m.trans (by decide +kernel)) ?_ | refine put_any_touch (m.trans (by decide +kernel)) ?_
    | refine State.putFlag_touch ?_ | refine endPass_touch (m.trans rfl) ?_ | refine callSettle_touch (m.trans rfl) ?_
    | refine dropLevels_touch (m.trans rfl) ?_ | refine State.withEng_touch (m.bit rfl) ?_
    | refine settle_touch (m.trans rfl) ?_ | refine switchResume_touch (m.trans rfl) ?_
    | refine switchNext_touch (m.trans rfl) ?_ | refine foldl_touch (fun _ _ _ => ?_) ?_
    | refine Touch.ite_else ?_ (fun _ => ?_) | unfold x
    | (extract_lets +onlyGivenNames x; first | (refine Touch.cut (s := x) ?_ (fun _ => ?_); rotate_left; clear_value x) | clear_value x)
    | split

theorem editCloseApply_touch {M : Nat} {s₀ s : State} (m : Sub 0x7ffffffffff15ade290 M) (h : Touch M s₀ s) :
    Touch M s₀ (editCloseApply s) := by
  unfold editCloseApply
  repeat' with_reducible first
    | assumption | refine closeRange_touch (m.trans rfl) ?_ | refine Touch.ite_else ?_ (fun _ => ?_) | split

theorem execEditCloseApply_touch {M : Nat} {s₀ s : State} (m : Sub 0x7ffffffffff15ade290 M) (h : Touch M s₀ s) :
    OutTouch M s₀ (execEditCloseApply s) := by
  unfold execEditCloseApply
  repeat' with_reducible first
    | assumption | apply OutTouch.next | refine editCloseApply_touch (m.trans rfl) ?_

theorem editAutoClose_touch {M : Nat} {s₀ s : State} (m : Sub 0x7ffffffffff15ade290 M) (h : Touch M s₀ s) :
    Touch M s₀ (editAutoClose s) := by
  unfold editAutoClose
  repeat' with_reducible first
    | assumption | refine closeRange_touch (m.trans rfl) ?_ | refine Touch.ite_else ?_ (fun _ => ?_) | split

theorem execEditAutoClose_touch {M : Nat} {s₀ s : State} (m : Sub 0x7ffffffffff15ade290 M) (h : Touch M s₀ s) :
    OutTouch M s₀ (execEditAutoClose s) := by
  unfold execEditAutoClose
  repeat' with_reducible first
    | assumption | apply OutTouch.next | refine editAutoClose_touch (m.trans rfl) ?_

theorem holdAck_touch {M : Nat} {s₀ s : State} {a0} (m : Sub 0x10c000000100306210 M) (h : Touch M s₀ s) :
    Touch M s₀ (holdAck a0 s) := by
  unfold holdAck
  repeat' with_reducible first
    | assumption | refine raise_touch (m.trans rfl) ?_ | refine State.withXnet_touch (m.bit rfl) ?_
    | refine State.bumpSat_touch ?_
    | refine put_page_touch (m.trans (by decide +kernel)) ?_ | refine put_ch_touch (m.trans (by decide +kernel)) ?_ | refine put_idx_touch (m.trans (by decide +kernel)) ?_ | refine put_host_touch (m.trans (by decide +kernel)) ?_ | refine put_pll_touch (m.trans (by decide +kernel)) ?_ | refine put_master_touch (m.trans (by decide +kernel)) ?_ | refine put_closed_touch (m.trans (by decide +kernel)) ?_ | refine State.put_touch (m.trans (by decide +kernel)) ?_ | refine put_any_touch (m.trans (by decide +kernel)) ?_
    | refine Touch.ite_else ?_ (fun _ => ?_) | unfold x
    | (extract_lets +onlyGivenNames x; first | (refine Touch.cut (s := x) ?_ (fun _ => ?_); rotate_left; clear_value x) | clear_value x)
    | split

theorem expandAcks_touch {M : Nat} {s₀ s : State} {a0 a1 a2} (m : Sub 0x10c000000100306210 M) (h : Touch M s₀ s) :
    Touch M s₀ (expandAcks a0 a1 a2 s) := by
  unfold expandAcks
  repeat' with_reducible first
    | assumption | refine holdAck_touch (m.trans rfl) ?_ | refine foldl_touch (fun _ _ _ => ?_) ?_ | unfold x
    | (extract_lets +onlyGivenNames x; first | (refine Touch.cut (s := x) ?_ (fun _ => ?_); rotate_left; clear_value x) | clear_value x)
    | split

theorem opRun_touch {M : Nat} {s₀ s : State} {a0 a1 a2 a3} (m : Sub 0x7ffffffffff15bde290 M) (h : Touch M s₀ s) :
    Touch M s₀ (opRun a0 a1 a2 a3 s).2 := by
  unfold opRun
  repeat' with_reducible first
    | assumption | refine ackScope_touch (m.trans rfl) ?_ | refine expandAcks_touch (m.trans rfl) ?_
    | refine ackOne_touch (m.trans rfl) ?_ | refine endPass_touch (m.trans rfl) ?_
    | refine silenceScope_touch (m.trans rfl) ?_ | refine silenceOne_touch (m.trans rfl) ?_ | unfold x
    | (extract_lets +onlyGivenNames x; first | (refine Touch.cut (s := x) ?_ (fun _ => ?_); rotate_left; clear_value x) | clear_value x)
    | refine Touch.snd ?_ (by assumption) | split

theorem opCommand_touch {M : Nat} {s₀ s : State} {a0 a1 a2} (m : Sub 0x7ffffffffff15bde2f0 M) (h : Touch M s₀ s) :
    Touch M s₀ (opCommand a0 a1 a2 s) := by
  unfold opCommand
  repeat' with_reducible first
    | assumption | refine State.setRegH_touch (m.trans rfl) ?_ | refine opRun_touch (m.trans rfl) ?_
    | refine raise_touch (m.trans rfl) ?_ | refine settle_touch (m.trans rfl) ?_ | unfold x
    | (extract_lets +onlyGivenNames x; first | (refine Touch.cut (s := x) ?_ (fun _ => ?_); rotate_left; clear_value x) | clear_value x)
    | refine Touch.snd ?_ (by assumption) | split

theorem opStart_touch {M : Nat} {s₀ s : State} {a0 a1 a2} (m : Sub 0x7ffffffffff15bde2f0 M) (h : Touch M s₀ s) :
    Touch M s₀ (opStart a0 a1 a2 s) := by
  unfold opStart
  repeat' with_reducible first
    | assumption | refine State.setRegH_touch (m.trans rfl) ?_ | refine opCommand_touch (m.trans rfl) ?_
    | refine State.withEng_touch (m.bit rfl) ?_ | refine Touch.ite_else ?_ (fun _ => ?_) | unfold x
    | (extract_lets +onlyGivenNames x; first | (refine Touch.cut (s := x) ?_ (fun _ => ?_); rotate_left; clear_value x) | clear_value x)
    | split

theorem actOpcmd_touch {M : Nat} {s₀ s : State} {a0 a1 a2} (m : Sub 0x7ffffffffff15bde2f0 M) (h : Touch M s₀ s) :
    Touch M s₀ (actOpcmd a0 a1 a2 s) := by
  unfold actOpcmd
  repeat' with_reducible first
    | assumption | refine accessFault_touch (m.trans rfl) ?_ | refine opStart_touch (m.trans rfl) ?_
    | refine Touch.ite_else ?_ (fun _ => ?_) | split

theorem hostOpcmd_touch {M : Nat} {s₀ s : State} {a0 a1} (m : Sub 0x7ffffffffff15bde2f0 M) (h : Touch M s₀ s) :
    Touch M s₀ (hostOpcmd a0 a1 s) := by
  unfold hostOpcmd
  repeat' with_reducible first
    | assumption
    | refine hostWord_touch (m.trans (by decide +kernel)) (fun _ _ _ => ?_) ?_ | refine hostWord_any_touch (m.trans (by decide +kernel)) (fun _ _ _ => ?_) ?_
    | refine actOpcmd_touch (m.trans rfl) ?_

theorem execAckPoint_touch {M : Nat} {s₀ s : State} {a0 a1} (m : Sub 0x7ffffffffff15bde2f0 M) (h : Touch M s₀ s) :
    OutTouch M s₀ (execAckPoint a0 a1 s) := by
  unfold execAckPoint
  repeat' with_reducible first
    | assumption | apply OutTouch.next | refine hostOpcmd_touch (m.trans rfl) ?_

theorem execSilencePoint_touch {M : Nat} {s₀ s : State} {a0 a1} (m : Sub 0x7ffffffffff15bde2f0 M) (h : Touch M s₀ s) :
    OutTouch M s₀ (execSilencePoint a0 a1 s) := by
  unfold execSilencePoint
  repeat' with_reducible first
    | assumption | apply OutTouch.next | refine hostOpcmd_touch (m.trans rfl) ?_

theorem execAckGroup_touch {M : Nat} {s₀ s : State} {a0 a1} (m : Sub 0x7ffffffffff15bde2f0 M) (h : Touch M s₀ s) :
    OutTouch M s₀ (execAckGroup a0 a1 s) := by
  unfold execAckGroup
  repeat' with_reducible first
    | assumption | apply OutTouch.next | refine hostOpcmd_touch (m.trans rfl) ?_

theorem execSilenceAll_touch {M : Nat} {s₀ s : State} {a0} (m : Sub 0x7ffffffffff15bde2f0 M) (h : Touch M s₀ s) :
    OutTouch M s₀ (execSilenceAll a0 s) := by
  unfold execSilenceAll
  repeat' with_reducible first
    | assumption | apply OutTouch.next | refine hostOpcmd_touch (m.trans rfl) ?_

theorem execAckAll_touch {M : Nat} {s₀ s : State} {a0} (m : Sub 0x7ffffffffff15bde2f0 M) (h : Touch M s₀ s) :
    OutTouch M s₀ (execAckAll a0 s) := by
  unfold execAckAll
  repeat' with_reducible first
    | assumption | apply OutTouch.next | refine hostOpcmd_touch (m.trans rfl) ?_

theorem oosOn_touch {M : Nat} {s₀ s : State} {a0} (m : Sub 0x7ffe0040001002ce218 M) (h : Touch M s₀ s) :
    Touch M s₀ (oosOn a0 s) := by
  unfold oosOn
  repeat' with_reducible first
    | assumption | refine commitPt_touch (m.trans rfl) ?_ | refine writeSlot_touch (m.trans rfl) ?_
    | refine countEval_touch (m.trans rfl) ?_ | refine Touch.ite_else ?_ (fun _ => ?_) | unfold x
    | (extract_lets +onlyGivenNames x; first | (refine Touch.cut (s := x) ?_ (fun _ => ?_); rotate_left; clear_value x) | clear_value x)
    | split

theorem shelvePt_touch {M : Nat} {s₀ s : State} {a0 a1} (m : Sub 0x7ffe0040001002ce210 M) (h : Touch M s₀ s) :
    Touch M s₀ (shelvePt a0 a1 s) := by
  unfold shelvePt
  repeat' with_reducible first
    | assumption | refine commitPt_touch (m.trans rfl) ?_ | refine countEval_touch (m.trans rfl) ?_ | unfold x
    | (extract_lets +onlyGivenNames x; first | (refine Touch.cut (s := x) ?_ (fun _ => ?_); rotate_left; clear_value x) | clear_value x)
    | split

theorem unshelvePt_touch {M : Nat} {s₀ s : State} {a0} (m : Sub 0x7ffe0040001002ce210 M) (h : Touch M s₀ s) :
    Touch M s₀ (unshelvePt a0 s) := by
  unfold unshelvePt
  repeat' with_reducible first
    | assumption | refine commitPt_touch (m.trans rfl) ?_ | refine countEval_touch (m.trans rfl) ?_ | unfold x
    | (extract_lets +onlyGivenNames x; first | (refine Touch.cut (s := x) ?_ (fun _ => ?_); rotate_left; clear_value x) | clear_value x)
    | split

theorem admCommand_touch {M : Nat} {s₀ s : State} {a0 a1} (m : Sub 0x7ffffffffff15ade298 M) (h : Touch M s₀ s) :
    Touch M s₀ (admCommand a0 a1 s) := by
  unfold admCommand
  repeat' with_reducible first
    | assumption | refine unshelvePt_touch (m.trans rfl) ?_ | refine rebuildSome_touch (m.trans rfl) ?_
    | refine raise_touch (m.trans rfl) ?_ | refine endPass_touch (m.trans rfl) ?_
    | refine shelvePt_touch (m.trans rfl) ?_ | refine dropLevels_touch (m.trans rfl) ?_
    | refine settle_touch (m.trans rfl) ?_ | refine oosOn_touch (m.trans rfl) ?_
    | refine setReg_fld_touch (m.trans (by decide +kernel)) ?_ | refine State.setReg_touch (m.trans (by decide +kernel)) ?_ | refine setReg_any_touch (m.trans (by decide +kernel)) ?_
    | refine Touch.ite_else ?_ (fun _ => ?_) | unfold x
    | (extract_lets +onlyGivenNames x; first | (refine Touch.cut (s := x) ?_ (fun _ => ?_); rotate_left; clear_value x) | clear_value x)
    | split

theorem admStart_touch {M : Nat} {s₀ s : State} {a0 a1} (m : Sub 0x7ffffffffff15ade298 M) (h : Touch M s₀ s) :
    Touch M s₀ (admStart a0 a1 s) := by
  unfold admStart
  repeat' with_reducible first
    | assumption | refine State.withEng_touch (m.bit rfl) ?_ | refine admCommand_touch (m.trans rfl) ?_
    | refine setReg_fld_touch (m.trans (by decide +kernel)) ?_ | refine State.setReg_touch (m.trans (by decide +kernel)) ?_ | refine setReg_any_touch (m.trans (by decide +kernel)) ?_
    | refine Touch.ite_else ?_ (fun _ => ?_) | unfold x
    | (extract_lets +onlyGivenNames x; first | (refine Touch.cut (s := x) ?_ (fun _ => ?_); rotate_left; clear_value x) | clear_value x)
    | split

theorem actAdmcmd_touch {M : Nat} {s₀ s : State} {a0 a1} (m : Sub 0x7ffffffffff15ade298 M) (h : Touch M s₀ s) :
    Touch M s₀ (actAdmcmd a0 a1 s) := by
  unfold actAdmcmd
  repeat' with_reducible first
    | assumption | refine admStart_touch (m.trans rfl) ?_ | refine accessFault_touch (m.trans rfl) ?_
    | refine Touch.ite_else ?_ (fun _ => ?_) | split

theorem hostAdmcmd_touch {M : Nat} {s₀ s : State} {a0 a1} (m : Sub 0x7ffffffffff15ade2f8 M) (h : Touch M s₀ s) :
    Touch M s₀ (hostAdmcmd a0 a1 s) := by
  unfold hostAdmcmd
  repeat' with_reducible first
    | assumption
    | refine hostWord_touch (m.trans (by decide +kernel)) (fun _ _ _ => ?_) ?_ | refine hostWord_any_touch (m.trans (by decide +kernel)) (fun _ _ _ => ?_) ?_
    | refine actAdmcmd_touch (m.trans rfl) ?_

theorem execShelve_touch {M : Nat} {s₀ s : State} {a0 a1} (m : Sub 0x7ffffffffff15ade2f8 M) (h : Touch M s₀ s) :
    OutTouch M s₀ (execShelve a0 a1 s) := by
  unfold execShelve
  repeat' with_reducible first
    | assumption | apply OutTouch.next | refine hostAdmcmd_touch (m.trans rfl) ?_

theorem execUnshelve_touch {M : Nat} {s₀ s : State} {a0 a1} (m : Sub 0x7ffffffffff15ade2f8 M) (h : Touch M s₀ s) :
    OutTouch M s₀ (execUnshelve a0 a1 s) := by
  unfold execUnshelve
  repeat' with_reducible first
    | assumption | apply OutTouch.next | refine hostAdmcmd_touch (m.trans rfl) ?_

theorem execOosOn_touch {M : Nat} {s₀ s : State} {a0 a1} (m : Sub 0x7ffffffffff15ade2f8 M) (h : Touch M s₀ s) :
    OutTouch M s₀ (execOosOn a0 a1 s) := by
  unfold execOosOn
  repeat' with_reducible first
    | assumption | apply OutTouch.next | refine hostAdmcmd_touch (m.trans rfl) ?_

theorem execOosOff_touch {M : Nat} {s₀ s : State} {a0 a1} (m : Sub 0x7ffffffffff15ade2f8 M) (h : Touch M s₀ s) :
    OutTouch M s₀ (execOosOff a0 a1 s) := by
  unfold execOosOff
  repeat' with_reducible first
    | assumption | apply OutTouch.next | refine hostAdmcmd_touch (m.trans rfl) ?_

theorem execOpcmdUndefined_touch {M : Nat} {s₀ s : State} {a0 a1 a2} (m : Sub 0x7ffffffffff15bde2f8 M) (h : Touch M s₀ s) :
    OutTouch M s₀ (execOpcmdUndefined a0 a1 a2 s) := by
  unfold execOpcmdUndefined
  repeat' with_reducible first
    | assumption | apply OutTouch.next | refine hostAdmcmd_touch (m.trans rfl) ?_
    | refine hostOpcmd_touch (m.trans rfl) ?_ | refine Touch.ite_else ?_ (fun _ => ?_) | split

theorem runWaiting_touch {M : Nat} {s₀ s : State} (m : Sub 0x7ffffffffff15bde2f8 M) (h : Touch M s₀ s) :
    Touch M s₀ (runWaiting s) := by
  unfold runWaiting
  repeat' with_reducible first
    | assumption | refine admStart_touch (m.trans rfl) ?_ | refine State.withEng_touch (m.bit rfl) ?_
    | refine opStart_touch (m.trans rfl) ?_ | refine foldl_touch (fun _ _ _ => ?_) ?_ | unfold x
    | (extract_lets +onlyGivenNames x; first | (refine Touch.cut (s := x) ?_ (fun _ => ?_); rotate_left; clear_value x) | clear_value x)
    | split

theorem ackInput_touch {M : Nat} {s₀ s : State} (m : Sub 0x7ffffffffff15ade290 M) (h : Touch M s₀ s) :
    Touch M s₀ (ackInput s) := by
  unfold ackInput
  repeat' with_reducible first
    | assumption | refine ackScope_touch (m.trans rfl) ?_ | refine endPass_touch (m.trans rfl) ?_
    | refine settle_touch (m.trans rfl) ?_ | refine Touch.ite_else ?_ (fun _ => ?_) | unfold x
    | (extract_lets +onlyGivenNames x; first | (refine Touch.cut (s := x) ?_ (fun _ => ?_); rotate_left; clear_value x) | clear_value x)
    | split

theorem execAckInput_touch {M : Nat} {s₀ s : State} (m : Sub 0x7ffffffffff15ade290 M) (h : Touch M s₀ s) :
    OutTouch M s₀ (execAckInput s) := by
  unfold execAckInput
  repeat' with_reducible first
    | assumption | apply OutTouch.next | refine ackInput_touch (m.trans rfl) ?_

theorem silenceInput_touch {M : Nat} {s₀ s : State} (m : Sub 0x7ffffffffff15ade290 M) (h : Touch M s₀ s) :
    Touch M s₀ (silenceInput s) := by
  unfold silenceInput
  repeat' with_reducible first
    | assumption | refine endPass_touch (m.trans rfl) ?_ | refine silenceScope_touch (m.trans rfl) ?_
    | refine settle_touch (m.trans rfl) ?_ | refine Touch.ite_else ?_ (fun _ => ?_) | unfold x
    | (extract_lets +onlyGivenNames x; first | (refine Touch.cut (s := x) ?_ (fun _ => ?_); rotate_left; clear_value x) | clear_value x)
    | split

theorem execSilenceInput_touch {M : Nat} {s₀ s : State} (m : Sub 0x7ffffffffff15ade290 M) (h : Touch M s₀ s) :
    OutTouch M s₀ (execSilenceInput s) := by
  unfold execSilenceInput
  repeat' with_reducible first
    | assumption | apply OutTouch.next | refine silenceInput_touch (m.trans rfl) ?_

theorem eccScrub_touch {M : Nat} {s₀ s : State} {a0} (m : Sub 0x108004000100206210 M) (h : Touch M s₀ s) :
    Touch M s₀ (eccScrub a0 s) := by
  unfold eccScrub
  repeat' with_reducible first
    | assumption | refine raise_touch (m.trans rfl) ?_ | refine State.bumpSat_touch ?_
    | refine put_page_touch (m.trans (by decide +kernel)) ?_ | refine put_ch_touch (m.trans (by decide +kernel)) ?_ | refine put_idx_touch (m.trans (by decide +kernel)) ?_ | refine put_host_touch (m.trans (by decide +kernel)) ?_ | refine put_pll_touch (m.trans (by decide +kernel)) ?_ | refine put_master_touch (m.trans (by decide +kernel)) ?_ | refine put_closed_touch (m.trans (by decide +kernel)) ?_ | refine State.put_touch (m.trans (by decide +kernel)) ?_ | refine put_any_touch (m.trans (by decide +kernel)) ?_
    | refine Touch.ite_else ?_ (fun _ => ?_) | split

theorem execEccScrub_touch {M : Nat} {s₀ s : State} {a0} (m : Sub 0x108004000100206210 M) (h : Touch M s₀ s) :
    OutTouch M s₀ (execEccScrub a0 s) := by
  unfold execEccScrub
  repeat' with_reducible first
    | assumption | apply OutTouch.next | refine eccScrub_touch (m.trans rfl) ?_

theorem deadPt_touch {M : Nat} {s₀ s : State} {a0} (m : Sub 0x7ffe0040001002ce210 M) (h : Touch M s₀ s) :
    Touch M s₀ (deadPt a0 s) := by
  unfold deadPt
  repeat' with_reducible first
    | assumption | refine commitPt_touch (m.trans rfl) ?_ | refine State.withEng_touch (m.bit rfl) ?_
    | refine countEval_touch (m.trans rfl) ?_ | refine State.setPt_touch (m.trans rfl) ?_
    | refine recountGroups_touch (m.trans rfl) ?_ | refine Touch.ite_else ?_ (fun _ => ?_) | unfold x
    | (extract_lets +onlyGivenNames x; first | (refine Touch.cut (s := x) ?_ (fun _ => ?_); rotate_left; clear_value x) | clear_value x)
    | split

theorem groupLost_touch {M : Nat} {s₀ s : State} {a0} (m : Sub 0x7ffe0000001002ce210 M) (h : Touch M s₀ s) :
    Touch M s₀ (groupLost a0 s) := by
  unfold groupLost
  repeat' with_reducible first
    | assumption | refine firstLost_touch (m.trans rfl) ?_ | refine Touch.ite_else ?_ (fun _ => ?_) | split

theorem deadGrp_touch {M : Nat} {s₀ s : State} {a0} (m : Sub 0x7ffe0000001002ce210 M) (h : Touch M s₀ s) :
    Touch M s₀ (deadGrp a0 s) := by
  unfold deadGrp
  repeat' with_reducible first
    | assumption | refine groupLost_touch (m.trans rfl) ?_ | refine State.withEng_touch (m.bit rfl) ?_
    | refine Touch.ite_else ?_ (fun _ => ?_) | unfold x
    | (extract_lets +onlyGivenNames x; first | (refine Touch.cut (s := x) ?_ (fun _ => ?_); rotate_left; clear_value x) | clear_value x)
    | split

theorem rowLost_touch {M : Nat} {s₀ s : State} {a0 a1 a2 a3} (m : Sub 0x7ffffffffff15ade390 M) (h : Touch M s₀ s) :
    Touch M s₀ (rowLost a0 a1 a2 a3 s) := by
  unfold rowLost
  repeat' with_reducible first
    | assumption | refine deadPt_touch (m.trans rfl) ?_ | refine lastingFault_touch (m.trans rfl) ?_
    | refine raise_touch (m.trans rfl) ?_
    | refine put_page_touch (m.trans (by decide +kernel)) ?_ | refine put_ch_touch (m.trans (by decide +kernel)) ?_ | refine put_idx_touch (m.trans (by decide +kernel)) ?_ | refine put_host_touch (m.trans (by decide +kernel)) ?_ | refine put_pll_touch (m.trans (by decide +kernel)) ?_ | refine put_master_touch (m.trans (by decide +kernel)) ?_ | refine put_closed_touch (m.trans (by decide +kernel)) ?_ | refine State.put_touch (m.trans (by decide +kernel)) ?_ | refine put_any_touch (m.trans (by decide +kernel)) ?_
    | refine State.setLasting_touch (m.trans rfl) ?_ | refine deadGrp_touch (m.trans rfl) ?_
    | refine endPass_touch (m.trans rfl) ?_ | refine State.bumpSat_touch ?_
    | refine State.withEng_touch (m.bit rfl) ?_ | refine foldl_touch (fun _ _ _ => ?_) ?_
    | refine Touch.ite_else ?_ (fun _ => ?_) | unfold x
    | (extract_lets +onlyGivenNames x; first | (refine Touch.cut (s := x) ?_ (fun _ => ?_); rotate_left; clear_value x) | clear_value x)
    | split

theorem eccUncorrectable_touch {M : Nat} {s₀ s : State} {a0 a1 a2 a3 a4} (m : Sub 0x7ffffffffff15ade390 M) (h : Touch M s₀ s) :
    Touch M s₀ (eccUncorrectable a0 a1 a2 a3 a4 s) := by
  unfold eccUncorrectable
  repeat' with_reducible first
    | assumption | refine rowLost_touch (m.trans rfl) ?_ | refine raise_touch (m.trans rfl) ?_
    | refine State.setPt_touch (m.trans rfl) ?_ | refine transient_touch (m.trans rfl) ?_
    | refine foldl_touch (fun _ _ _ => ?_) ?_ | refine Touch.ite_else ?_ (fun _ => ?_) | unfold x
    | (extract_lets +onlyGivenNames x; first | (refine Touch.cut (s := x) ?_ (fun _ => ?_); rotate_left; clear_value x) | clear_value x)
    | split

theorem execEccUncorrectable_touch {M : Nat} {s₀ s : State} {a0 a1 a3 a4 a5} (m : Sub 0x7ffffffffff15ade390 M) (h : Touch M s₀ s) :
    OutTouch M s₀ (execEccUncorrectable a0 a1 s a3 a4 a5) := by
  unfold execEccUncorrectable
  repeat' with_reducible first
    | assumption | apply OutTouch.next | refine eccUncorrectable_touch (m.trans rfl) ?_

theorem noteEgress_touch {M : Nat} {s₀ s : State} {a0} (m : Sub 0x8000000000000010 M) (h : Touch M s₀ s) :
    Touch M s₀ (noteEgress a0 s) := by
  unfold noteEgress
  repeat' with_reducible first
    | assumption
    | refine put_page_touch (m.trans (by decide +kernel)) ?_ | refine put_ch_touch (m.trans (by decide +kernel)) ?_ | refine put_idx_touch (m.trans (by decide +kernel)) ?_ | refine put_host_touch (m.trans (by decide +kernel)) ?_ | refine put_pll_touch (m.trans (by decide +kernel)) ?_ | refine put_master_touch (m.trans (by decide +kernel)) ?_ | refine put_closed_touch (m.trans (by decide +kernel)) ?_ | refine State.put_touch (m.trans (by decide +kernel)) ?_ | refine put_any_touch (m.trans (by decide +kernel)) ?_

theorem deriveRecord_touch {M : Nat} {s₀ s : State} {a0} (m : Sub 0x7ffffffffff10418090 M) (h : Touch M s₀ s) :
    Touch M s₀ (deriveRecord a0 s) := by
  unfold deriveRecord
  repeat' with_reducible first
    | assumption | refine State.baseState_touch (m.trans rfl) ?_ | refine State.setWinWord_touch (m.trans rfl) ?_
    | refine foldl_touch (fun _ _ _ => ?_) ?_ | unfold x
    | (extract_lets +onlyGivenNames x; first | (refine Touch.cut (s := x) ?_ (fun _ => ?_); rotate_left; clear_value x) | clear_value x)

theorem rebuildForced_touch {M : Nat} {s₀ s : State} {a0} (m : Sub 0x7ffffffffff15ade290 M) (h : Touch M s₀ s) :
    Touch M s₀ (rebuildForced a0 s) := by
  unfold rebuildForced
  repeat' with_reducible first
    | assumption | refine rebuildSome_touch (m.trans rfl) ?_ | refine evalForce_touch (m.trans rfl) ?_
    | refine endPass_touch (m.trans rfl) ?_ | refine egressGap_touch (m.trans rfl) ?_
    | refine dropLevels_touch (m.trans rfl) ?_ | refine settle_touch (m.trans rfl) ?_
    | refine foldl_touch (fun _ _ _ => ?_) ?_ | unfold x
    | (extract_lets +onlyGivenNames x; first | (refine Touch.cut (s := x) ?_ (fun _ => ?_); rotate_left; clear_value x) | clear_value x)

theorem rowRestored_touch {M : Nat} {s₀ s : State} (m : Sub 0x7ffffffffff15fde2f9 M) (h : Touch M s₀ s) :
    Touch M s₀ (rowRestored s) := by
  unfold rowRestored
  repeat' with_reducible first
    | assumption | refine groupLost_touch (m.trans rfl) ?_ | refine rebuildForced_touch (m.trans rfl) ?_
    | refine endPass_touch (m.trans rfl) ?_ | refine noteEgress_touch (m.trans rfl) ?_
    | refine runWaiting_touch (m.trans rfl) ?_ | refine State.withEng_touch (m.bit rfl) ?_
    | refine deriveRecord_touch (m.trans rfl) ?_ | refine State.draw_touch (m.trans rfl) ?_
    | refine foldl_touch (fun _ _ _ => ?_) ?_ | refine Touch.ite_else ?_ (fun _ => ?_) | unfold x
    | (extract_lets +onlyGivenNames x; first | (refine Touch.cut (s := x) ?_ (fun _ => ?_); rotate_left; clear_value x) | clear_value x)
    | refine Touch.snd ?_ (by assumption) | split

theorem egressExpiry_touch {M : Nat} {s₀ s : State} (m : Sub 0x7ffffffffff15ade290 M) (h : Touch M s₀ s) :
    Touch M s₀ (egressExpiry s) := by
  unfold egressExpiry
  repeat' with_reducible first
    | assumption | refine rebuildForced_touch (m.trans rfl) ?_ | refine noteEgress_touch (m.trans rfl) ?_
    | refine Touch.ite_else ?_ (fun _ => ?_) | unfold x
    | (extract_lets +onlyGivenNames x; first | (refine Touch.cut (s := x) ?_ (fun _ => ?_); rotate_left; clear_value x) | clear_value x)
    | split

theorem execEgressHoldExpiry_touch {M : Nat} {s₀ s : State} (m : Sub 0x7ffffffffff15ade290 M) (h : Touch M s₀ s) :
    OutTouch M s₀ (execEgressHoldExpiry s) := by
  unfold execEgressHoldExpiry
  repeat' with_reducible first
    | assumption | apply OutTouch.next | refine egressExpiry_touch (m.trans rfl) ?_

end Sys2Proof.Machine
end

