-- ==== Sys2Proof/Laws/TouchLogbook.lean ====
section
/-!
SUPPORT. What the definitions of Machine/Logbook.lean touch.
-/

set_option Elab.async false
set_option linter.all false

namespace Sys2Proof.Machine

theorem putKey_touch {M : Nat} {s₀ s : State} {a0 a1} (m : Sub 0x60 M) (h : Touch M s₀ s) :
    Touch M s₀ (putKey a0 a1 s) := by
  unfold putKey
  repeat' with_reducible first
    | assumption | refine State.putH_touch (m.trans rfl) ?_

theorem gwyLoad_touch {M : Nat} {s₀ s : State} {a0 a1} (m : Sub 0x60 M) (h : Touch M s₀ s) :
    Touch M s₀ (gwyLoad a0 a1 s) := by
  unfold gwyLoad
  repeat' with_reducible first
    | assumption | refine State.setRegH_touch (m.trans rfl) ?_ | refine State.putH_touch (m.trans rfl) ?_
    | refine putKey_touch (m.trans rfl) ?_ | refine foldl_touch (fun _ _ _ => ?_) ?_ | unfold x
    | (extract_lets +onlyGivenNames x; first | (refine Touch.cut (s := x) ?_ (fun _ => ?_); rotate_left; clear_value x) | clear_value x)

theorem gwyEnd_touch {M : Nat} {s₀ s : State} {a0} (m : Sub 0x60 M) (h : Touch M s₀ s) :
    Touch M s₀ (gwyEnd a0 s) := by
  unfold gwyEnd
  repeat' with_reducible first
    | assumption | refine State.putH_touch (m.trans rfl) ?_

theorem gwySeek_touch {M : Nat} {s₀ s : State} {a0 a1} (m : Sub 0x60 M) (h : Touch M s₀ s) :
    Touch M s₀ (gwySeek a0 a1 s) := by
  unfold gwySeek
  repeat' with_reducible first
    | assumption | refine gwyEnd_touch (m.trans rfl) ?_ | refine putKey_touch (m.trans rfl) ?_
    | refine gwyLoad_touch (m.trans rfl) ?_ | split

theorem gwyReset_touch {M : Nat} {s₀ s : State} {a0} (m : Sub 0x60 M) (h : Touch M s₀ s) :
    Touch M s₀ (gwyReset a0 s) := by
  unfold gwyReset
  repeat' with_reducible first
    | assumption | refine State.setRegH_touch (m.trans rfl) ?_ | refine State.putH_touch (m.trans rfl) ?_
    | refine foldl_touch (fun _ _ _ => ?_) ?_ | unfold x
    | (extract_lets +onlyGivenNames x; first | (refine Touch.cut (s := x) ?_ (fun _ => ?_); rotate_left; clear_value x) | clear_value x)

theorem gwyNotice_touch {M : Nat} {s₀ s : State} {a0 a2} (m : Sub 0x100000070 M) (h : Touch M s₀ s) :
    Touch M s₀ (gwyNotice a0 s a2) := by
  unfold gwyNotice
  repeat' with_reducible first
    | assumption | refine State.putH_touch (m.trans rfl) ?_ | refine gwyLoad_touch (m.trans rfl) ?_
    | refine State.setRaw_touch (m.trans rfl) ?_ | refine Touch.ite_else ?_ (fun _ => ?_) | split

theorem gwyNotices_touch {M : Nat} {s₀ s : State} {a0} (m : Sub 0x100000070 M) (h : Touch M s₀ s) :
    Touch M s₀ (gwyNotices a0 s) := by
  unfold gwyNotices
  repeat' with_reducible first
    | assumption | refine gwyNotice_touch (m.trans rfl) ?_ | refine foldl_touch (fun _ _ _ => ?_) ?_

theorem gwyAdvance_touch {M : Nat} {s₀ s : State} {a0} (m : Sub 0x60 M) (h : Touch M s₀ s) :
    Touch M s₀ (gwyAdvance a0 s) := by
  unfold gwyAdvance
  repeat' with_reducible first
    | assumption | refine gwySeek_touch (m.trans rfl) ?_ | refine Touch.ite_else ?_ (fun _ => ?_) | split

theorem execGwyAdvance_touch {M : Nat} {s₀ s : State} {a0} (m : Sub 0x60 M) (h : Touch M s₀ s) :
    OutTouch M s₀ (execGwyAdvance a0 s) := by
  unfold execGwyAdvance
  repeat' with_reducible first
    | assumption | apply OutTouch.next | refine gwyAdvance_touch (m.trans rfl) ?_
    | refine Touch.ite_else ?_ (fun _ => ?_) | split

theorem actGwyCmd_touch {M : Nat} {s₀ s : State} {a0 a1 a2} (m : Sub 0x108000000300206270 M) (h : Touch M s₀ s) :
    Touch M s₀ (actGwyCmd a0 a1 a2 s) := by
  unfold actGwyCmd
  repeat' with_reducible first
    | assumption | refine State.setRegH_touch (m.trans rfl) ?_ | refine State.putH_touch (m.trans rfl) ?_
    | refine accessFault_touch (m.trans rfl) ?_ | refine Touch.ite_else ?_ (fun _ => ?_) | unfold x
    | (extract_lets +onlyGivenNames x; first | (refine Touch.cut (s := x) ?_ (fun _ => ?_); rotate_left; clear_value x) | clear_value x)
    | split

theorem hostGwy_touch {M : Nat} {s₀ s : State} {a0 a1} (m : Sub 0x3080000003002062f0 M) (h : Touch M s₀ s) :
    Touch M s₀ (hostGwy a0 a1 s) := by
  unfold hostGwy
  repeat' with_reducible first
    | assumption
    | refine hostWord_touch (m.trans (by decide +kernel)) (fun _ _ _ => ?_) ?_ | refine hostWord_any_touch (m.trans (by decide +kernel)) (fun _ _ _ => ?_) ?_
    | refine actGwyCmd_touch (m.trans rfl) ?_

theorem execSeekKey_touch {M : Nat} {s₀ s : State} {a0} (m : Sub 0x3080000003002062f0 M) (h : Touch M s₀ s) :
    OutTouch M s₀ (execSeekKey a0 s) := by
  unfold execSeekKey
  repeat' with_reducible first
    | assumption | apply OutTouch.next | refine hostGwy_touch (m.trans rfl) ?_

theorem execSeekFirst_touch {M : Nat} {s₀ s : State} {a0} (m : Sub 0x3080000003002062f0 M) (h : Touch M s₀ s) :
    OutTouch M s₀ (execSeekFirst a0 s) := by
  unfold execSeekFirst
  repeat' with_reducible first
    | assumption | apply OutTouch.next | refine hostGwy_touch (m.trans rfl) ?_

theorem execSeekLast_touch {M : Nat} {s₀ s : State} {a0} (m : Sub 0x3080000003002062f0 M) (h : Touch M s₀ s) :
    OutTouch M s₀ (execSeekLast a0 s) := by
  unfold execSeekLast
  repeat' with_reducible first
    | assumption | apply OutTouch.next | refine hostGwy_touch (m.trans rfl) ?_

theorem gwySeekDone_touch {M : Nat} {s₀ s : State} {a0} (m : Sub 0x60 M) (h : Touch M s₀ s) :
    Touch M s₀ (gwySeekDone a0 s) := by
  unfold gwySeekDone
  repeat' with_reducible first
    | assumption | refine gwySeek_touch (m.trans rfl) ?_ | refine gwyEnd_touch (m.trans rfl) ?_
    | refine State.putH_touch (m.trans rfl) ?_ | refine gwyLoad_touch (m.trans rfl) ?_
    | refine Touch.ite_else ?_ (fun _ => ?_) | unfold x
    | (extract_lets +onlyGivenNames x; first | (refine Touch.cut (s := x) ?_ (fun _ => ?_); rotate_left; clear_value x) | clear_value x)
    | split

theorem execGwySeekDone_touch {M : Nat} {s₀ s : State} {a0} (m : Sub 0x60 M) (h : Touch M s₀ s) :
    OutTouch M s₀ (execGwySeekDone a0 s) := by
  unfold execGwySeekDone
  repeat' with_reducible first
    | assumption | apply OutTouch.next | refine gwySeekDone_touch (m.trans rfl) ?_

theorem dropRec_touch {M : Nat} {s₀ s : State} {a0} (m : Sub 0x100000000100004010 M) (h : Touch M s₀ s) :
    Touch M s₀ (dropRec a0 s) := by
  unfold dropRec
  repeat' with_reducible first
    | assumption | refine State.withLg_touch (m.bit rfl) ?_ | refine State.bumpSat_touch ?_
    | refine State.setRaw_touch (m.trans rfl) ?_
    | refine put_page_touch (m.trans (by decide +kernel)) ?_ | refine put_ch_touch (m.trans (by decide +kernel)) ?_ | refine put_idx_touch (m.trans (by decide +kernel)) ?_ | refine put_host_touch (m.trans (by decide +kernel)) ?_ | refine put_pll_touch (m.trans (by decide +kernel)) ?_ | refine put_master_touch (m.trans (by decide +kernel)) ?_ | refine put_closed_touch (m.trans (by decide +kernel)) ?_ | refine State.put_touch (m.trans (by decide +kernel)) ?_ | refine put_any_touch (m.trans (by decide +kernel)) ?_

theorem fullCheck_touch {M : Nat} {s₀ s : State} (m : Sub 0x100004010 M) (h : Touch M s₀ s) :
    Touch M s₀ (fullCheck s) := by
  unfold fullCheck
  repeat' with_reducible first
    | assumption | refine State.withLg_touch (m.bit rfl) ?_ | refine State.setRaw_touch (m.trans rfl) ?_
    | refine Touch.ite_else ?_ (fun _ => ?_) | unfold x
    | (extract_lets +onlyGivenNames x; first | (refine Touch.cut (s := x) ?_ (fun _ => ?_); rotate_left; clear_value x) | clear_value x)
    | split

theorem overwrite_touch {M : Nat} {s₀ s : State} {a0} (m : Sub 0x100000000100004010 M) (h : Touch M s₀ s) :
    Touch M s₀ (overwrite a0 s) := by
  unfold overwrite
  repeat' with_reducible first
    | assumption | refine State.withLg_touch (m.bit rfl) ?_ | refine State.bumpSat_touch ?_
    | refine State.setRaw_touch (m.trans rfl) ?_
    | refine put_page_touch (m.trans (by decide +kernel)) ?_ | refine put_ch_touch (m.trans (by decide +kernel)) ?_ | refine put_idx_touch (m.trans (by decide +kernel)) ?_ | refine put_host_touch (m.trans (by decide +kernel)) ?_ | refine put_pll_touch (m.trans (by decide +kernel)) ?_ | refine put_master_touch (m.trans (by decide +kernel)) ?_ | refine put_closed_touch (m.trans (by decide +kernel)) ?_ | refine State.put_touch (m.trans (by decide +kernel)) ?_ | refine put_any_touch (m.trans (by decide +kernel)) ?_
    | unfold x
    | (extract_lets +onlyGivenNames x; first | (refine Touch.cut (s := x) ?_ (fun _ => ?_); rotate_left; clear_value x) | clear_value x)

theorem mainWritten_touch {M : Nat} {s₀ s : State} {a0} (m : Sub 0x100004270 M) (h : Touch M s₀ s) :
    Touch M s₀ (mainWritten a0 s) := by
  unfold mainWritten
  repeat' with_reducible first
    | assumption | refine gwyNotices_touch (m.trans rfl) ?_ | refine State.setLastTally_touch (m.trans rfl) ?_
    | refine fullCheck_touch (m.trans rfl) ?_ | refine Touch.ite_else ?_ (fun _ => ?_) | unfold x
    | (extract_lets +onlyGivenNames x; first | (refine Touch.cut (s := x) ?_ (fun _ => ?_); rotate_left; clear_value x) | clear_value x)
    | split

theorem mainStore_touch {M : Nat} {s₀ s : State} {a0} (m : Sub 0x100004270 M) (h : Touch M s₀ s) :
    Touch M s₀ (mainStore a0 s) := by
  unfold mainStore
  repeat' with_reducible first
    | assumption | refine State.withLg_touch (m.bit rfl) ?_ | refine mainWritten_touch (m.trans rfl) ?_ | unfold x
    | (extract_lets +onlyGivenNames x; first | (refine Touch.cut (s := x) ?_ (fun _ => ?_); rotate_left; clear_value x) | clear_value x)

theorem mainWrite_touch {M : Nat} {s₀ s : State} {a0} (m : Sub 0x100000000100004270 M) (h : Touch M s₀ s) :
    Touch M s₀ (mainWrite a0 s).2 := by
  unfold mainWrite
  repeat' with_reducible first
    | assumption | refine mainStore_touch (m.trans rfl) ?_ | refine dropRec_touch (m.trans rfl) ?_
    | refine overwrite_touch (m.trans rfl) ?_ | refine Touch.ite_else ?_ (fun _ => ?_) | split

theorem ringWrite_touch {M : Nat} {s₀ s : State} {a0} (m : Sub 0x100000000100004010 M) (h : Touch M s₀ s) :
    Touch M s₀ (ringWrite a0 s).2 := by
  unfold ringWrite
  repeat' with_reducible first
    | assumption | refine State.withLg_touch (m.bit rfl) ?_ | refine dropRec_touch (m.trans rfl) ?_
    | refine State.setRaw_touch (m.trans rfl) ?_ | refine Touch.ite_else ?_ (fun _ => ?_) | unfold x
    | (extract_lets +onlyGivenNames x; first | (refine Touch.cut (s := x) ?_ (fun _ => ?_); rotate_left; clear_value x) | clear_value x)
    | split

theorem proxySend_touch {M : Nat} {s₀ s : State} {a0} (m : Sub 0x7ffe0000001002c6210 M) (h : Touch M s₀ s) :
    Touch M s₀ (proxySend a0 s) := by
  unfold proxySend
  repeat' with_reducible first
    | assumption | refine originate_touch (m.trans rfl) ?_ | refine State.bumpSat_touch ?_
    | refine State.setRaw_touch (m.trans rfl) ?_
    | refine put_page_touch (m.trans (by decide +kernel)) ?_ | refine put_ch_touch (m.trans (by decide +kernel)) ?_ | refine put_idx_touch (m.trans (by decide +kernel)) ?_ | refine put_host_touch (m.trans (by decide +kernel)) ?_ | refine put_pll_touch (m.trans (by decide +kernel)) ?_ | refine put_master_touch (m.trans (by decide +kernel)) ?_ | refine put_closed_touch (m.trans (by decide +kernel)) ?_ | refine State.put_touch (m.trans (by decide +kernel)) ?_ | refine put_any_touch (m.trans (by decide +kernel)) ?_
    | split

theorem gaspPush_touch {M : Nat} {s₀ s : State} {a0} (m : Sub 0x4000 M) (h : Touch M s₀ s) :
    Touch M s₀ (gaspPush a0 s) := by
  unfold gaspPush
  repeat' with_reducible first
    | assumption | refine State.withLg_touch (m.bit rfl) ?_ | unfold x
    | (extract_lets +onlyGivenNames x; first | (refine Touch.cut (s := x) ?_ (fun _ => ?_); rotate_left; clear_value x) | clear_value x)

theorem failoverWrite_touch {M : Nat} {s₀ s : State} {a0} (m : Sub 0x7ffe0000001002c6270 M) (h : Touch M s₀ s) :
    Touch M s₀ (failoverWrite a0 s).2 := by
  unfold failoverWrite
  repeat' with_reducible first
    | assumption | refine State.withLg_touch (m.bit rfl) ?_ | refine dropRec_touch (m.trans rfl) ?_
    | refine proxySend_touch (m.trans rfl) ?_ | refine gaspPush_touch (m.trans rfl) ?_
    | refine gwyNotices_touch (m.trans rfl) ?_ | unfold x
    | (extract_lets +onlyGivenNames x; first | (refine Touch.cut (s := x) ?_ (fun _ => ?_); rotate_left; clear_value x) | clear_value x)
    | split

theorem lossReport_touch {M : Nat} {s₀ s : State} (m : Sub 0x108000000100206210 M) (h : Touch M s₀ s) :
    Touch M s₀ (lossReport s) := by
  unfold lossReport
  repeat' with_reducible first
    | assumption | refine State.withLg_touch (m.bit rfl) ?_ | refine emitLocal_touch (m.trans rfl) ?_ | unfold x
    | (extract_lets +onlyGivenNames x; first | (refine Touch.cut (s := x) ?_ (fun _ => ?_); rotate_left; clear_value x) | clear_value x)
    | split

theorem writeRec_touch {M : Nat} {s₀ s : State} {a0} (m : Sub 0x7ffe0000001002c6270 M) (h : Touch M s₀ s) :
    Touch M s₀ (writeRec a0 s).2 := by
  unfold writeRec
  repeat' with_reducible first
    | assumption | refine ringWrite_touch (m.trans rfl) ?_ | refine failoverWrite_touch (m.trans rfl) ?_
    | refine mainWrite_touch (m.trans rfl) ?_ | refine Touch.ite_else ?_ (fun _ => ?_) | split

theorem logFail_touch {M : Nat} {s₀ s : State} (m : Sub 0x108000000100206310 M) (h : Touch M s₀ s) :
    Touch M s₀ (logFail s) := by
  unfold logFail
  repeat' with_reducible first
    | assumption | refine record_touch (m.trans rfl) ?_
    | refine put_page_touch (m.trans (by decide +kernel)) ?_ | refine put_ch_touch (m.trans (by decide +kernel)) ?_ | refine put_idx_touch (m.trans (by decide +kernel)) ?_ | refine put_host_touch (m.trans (by decide +kernel)) ?_ | refine put_pll_touch (m.trans (by decide +kernel)) ?_ | refine put_master_touch (m.trans (by decide +kernel)) ?_ | refine put_closed_touch (m.trans (by decide +kernel)) ?_ | refine State.put_touch (m.trans (by decide +kernel)) ?_ | refine put_any_touch (m.trans (by decide +kernel)) ?_
    | refine State.setLasting_touch (m.trans rfl) ?_ | refine State.setRaw_touch (m.trans rfl) ?_ | unfold x
    | (extract_lets +onlyGivenNames x; first | (refine Touch.cut (s := x) ?_ (fun _ => ?_); rotate_left; clear_value x) | clear_value x)

theorem slotLost_touch {M : Nat} {s₀ s : State} {a0 a1} (m : Sub 0x108000000500206310 M) (h : Touch M s₀ s) :
    Touch M s₀ (slotLost a0 a1 s) := by
  unfold slotLost
  repeat' with_reducible first
    | assumption | refine State.withLg_touch (m.bit rfl) ?_ | refine lastingFault_touch (m.trans rfl) ?_
    | refine record_touch (m.trans rfl) ?_ | refine overwrite_touch (m.trans rfl) ?_
    | refine logFail_touch (m.trans rfl) ?_ | refine fullCheck_touch (m.trans rfl) ?_
    | refine State.setRaw_touch (m.trans rfl) ?_ | refine Touch.ite_else ?_ (fun _ => ?_) | unfold x
    | (extract_lets +onlyGivenNames x; first | (refine Touch.cut (s := x) ?_ (fun _ => ?_); rotate_left; clear_value x) | clear_value x)
    | split

theorem writeFront_touch {M : Nat} {s₀ s : State} {a0 a1} (m : Sub 0x7ffe0000001002c6270 M) (h : Touch M s₀ s) :
    Touch M s₀ (writeFront a0 a1 s) := by
  unfold writeFront
  repeat' with_reducible first
    | assumption | refine State.withLg_touch (m.bit rfl) ?_ | refine writeRec_touch (m.trans rfl) ?_
    | refine lossReport_touch (m.trans rfl) ?_ | refine Touch.ite_else ?_ (fun _ => ?_) | unfold x
    | (extract_lets +onlyGivenNames x; first | (refine Touch.cut (s := x) ?_ (fun _ => ?_); rotate_left; clear_value x) | clear_value x)
    | refine Touch.snd ?_ (by assumption) | split

theorem logWriteHead_touch {M : Nat} {s₀ s : State} {a0} (m : Sub 0x7ffe0000005002c6370 M) (h : Touch M s₀ s) :
    Touch M s₀ (logWriteHead a0 s) := by
  unfold logWriteHead
  repeat' with_reducible first
    | assumption | refine State.withLg_touch (m.bit rfl) ?_ | refine slotLost_touch (m.trans rfl) ?_
    | refine lastingFault_touch (m.trans rfl) ?_ | refine writeFront_touch (m.trans rfl) ?_
    | refine transient_touch (m.trans rfl) ?_ | refine Touch.ite_else ?_ (fun _ => ?_) | unfold x
    | (extract_lets +onlyGivenNames x; first | (refine Touch.cut (s := x) ?_ (fun _ => ?_); rotate_left; clear_value x) | clear_value x)
    | split

theorem logWriteNext_touch {M : Nat} {s₀ s : State} {a0} (m : Sub 0x7ffe0000005002c6370 M) (h : Touch M s₀ s) :
    Touch M s₀ (logWriteNext a0 s) := by
  unfold logWriteNext
  repeat' with_reducible first
    | assumption | refine logWriteHead_touch (m.trans rfl) ?_ | refine Touch.ite_else ?_ (fun _ => ?_) | split

theorem execLogRecordWrite_touch {M : Nat} {s₀ s : State} {a0} (m : Sub 0x7ffe0000005002c6370 M) (h : Touch M s₀ s) :
    OutTouch M s₀ (execLogRecordWrite a0 s) := by
  unfold execLogRecordWrite
  repeat' with_reducible first
    | assumption | apply OutTouch.next | refine logWriteNext_touch (m.trans rfl) ?_

theorem logRemote_touch {M : Nat} {s₀ s : State} {a0} (m : Sub 0x100000000100004010 M) (h : Touch M s₀ s) :
    Touch M s₀ (logRemote a0 s) := by
  unfold logRemote
  repeat' with_reducible first
    | assumption | refine logPush_touch (m.trans rfl) ?_ | refine Touch.ite_else ?_ (fun _ => ?_) | unfold x
    | (extract_lets +onlyGivenNames x; first | (refine Touch.cut (s := x) ?_ (fun _ => ?_); rotate_left; clear_value x) | clear_value x)
    | split

theorem mergeOne_touch {M : Nat} {s₀ s : State} {a0 a1} (m : Sub 0x7ffe0000005002c6370 M) (h : Touch M s₀ s) :
    Touch M s₀ (mergeOne a0 a1 s) := by
  unfold mergeOne
  repeat' with_reducible first
    | assumption | refine State.withLg_touch (m.bit rfl) ?_ | refine slotLost_touch (m.trans rfl) ?_
    | refine failoverWrite_touch (m.trans rfl) ?_ | refine lossReport_touch (m.trans rfl) ?_
    | refine mainWrite_touch (m.trans rfl) ?_ | refine foldl_touch (fun _ _ _ => ?_) ?_
    | refine Touch.ite_else ?_ (fun _ => ?_) | unfold x
    | (extract_lets +onlyGivenNames x; first | (refine Touch.cut (s := x) ?_ (fun _ => ?_); rotate_left; clear_value x) | clear_value x)
    | refine Touch.snd ?_ (by assumption) | split

theorem mergeInto_touch {M : Nat} {s₀ s : State} {a0 a1} (m : Sub 0x7ffe0000005002c6370 M) (h : Touch M s₀ s) :
    Touch M s₀ (mergeInto a0 a1 s) := by
  unfold mergeInto
  repeat' with_reducible first
    | assumption | refine mergeOne_touch (m.trans rfl) ?_ | refine foldl_touch (fun _ _ _ => ?_) ?_

theorem freezeOn_touch {M : Nat} {s₀ s : State} (m : Sub 0x108000000300206210 M) (h : Touch M s₀ s) :
    Touch M s₀ (freezeOn s) := by
  unfold freezeOn
  repeat' with_reducible first
    | assumption | refine State.withLg_touch (m.bit rfl) ?_ | refine record_touch (m.trans rfl) ?_
    | refine put_page_touch (m.trans (by decide +kernel)) ?_ | refine put_ch_touch (m.trans (by decide +kernel)) ?_ | refine put_idx_touch (m.trans (by decide +kernel)) ?_ | refine put_host_touch (m.trans (by decide +kernel)) ?_ | refine put_pll_touch (m.trans (by decide +kernel)) ?_ | refine put_master_touch (m.trans (by decide +kernel)) ?_ | refine put_closed_touch (m.trans (by decide +kernel)) ?_ | refine State.put_touch (m.trans (by decide +kernel)) ?_ | refine put_any_touch (m.trans (by decide +kernel)) ?_
    | refine accessFault_touch (m.trans rfl) ?_ | refine State.setRaw_touch (m.trans rfl) ?_
    | refine Touch.ite_else ?_ (fun _ => ?_) | unfold x
    | (extract_lets +onlyGivenNames x; first | (refine Touch.cut (s := x) ?_ (fun _ => ?_); rotate_left; clear_value x) | clear_value x)
    | split

theorem freezeOff_touch {M : Nat} {s₀ s : State} {a0} (m : Sub 0x108000000100206210 M) (h : Touch M s₀ s) :
    Touch M s₀ (freezeOff a0 s) := by
  unfold freezeOff
  repeat' with_reducible first
    | assumption | refine State.withLg_touch (m.bit rfl) ?_ | refine record_touch (m.trans rfl) ?_
    | refine put_page_touch (m.trans (by decide +kernel)) ?_ | refine put_ch_touch (m.trans (by decide +kernel)) ?_ | refine put_idx_touch (m.trans (by decide +kernel)) ?_ | refine put_host_touch (m.trans (by decide +kernel)) ?_ | refine put_pll_touch (m.trans (by decide +kernel)) ?_ | refine put_master_touch (m.trans (by decide +kernel)) ?_ | refine put_closed_touch (m.trans (by decide +kernel)) ?_ | refine State.put_touch (m.trans (by decide +kernel)) ?_ | refine put_any_touch (m.trans (by decide +kernel)) ?_
    | refine State.putFlag_touch ?_ | refine State.setRaw_touch (m.trans rfl) ?_
    | refine Touch.ite_else ?_ (fun _ => ?_) | unfold x
    | (extract_lets +onlyGivenNames x; first | (refine Touch.cut (s := x) ?_ (fun _ => ?_); rotate_left; clear_value x) | clear_value x)
    | split

theorem actLogCtl_touch {M : Nat} {s₀ s : State} {a0 a1 a2} (m : Sub 0x1080000003002062f0 M) (h : Touch M s₀ s) :
    Touch M s₀ (actLogCtl a0 a1 a2 s) := by
  unfold actLogCtl
  repeat' with_reducible first
    | assumption
    | refine storeFields_touch (m.trans (by decide +kernel)) ?_ | refine storeFields_any_touch (m.trans (by decide +kernel)) ?_
    | refine freezeOn_touch (m.trans rfl) ?_ | refine freezeOff_touch (m.trans rfl) ?_
    | refine Touch.ite_else ?_ (fun _ => ?_) | unfold x
    | (extract_lets +onlyGivenNames x; first | (refine Touch.cut (s := x) ?_ (fun _ => ?_); rotate_left; clear_value x) | clear_value x)
    | split

theorem hostFreeze_touch {M : Nat} {s₀ s : State} {a0 a1} (m : Sub 0x1080000003002062f0 M) (h : Touch M s₀ s) :
    Touch M s₀ (hostFreeze a0 a1 s) := by
  unfold hostFreeze
  repeat' with_reducible first
    | assumption
    | refine hostWord_touch (m.trans (by decide +kernel)) (fun _ _ _ => ?_) ?_ | refine hostWord_any_touch (m.trans (by decide +kernel)) (fun _ _ _ => ?_) ?_
    | refine actLogCtl_touch (m.trans rfl) ?_ | unfold x
    | (extract_lets +onlyGivenNames x; first | (refine Touch.cut (s := x) ?_ (fun _ => ?_); rotate_left; clear_value x) | clear_value x)

theorem execLogFreeze_touch {M : Nat} {s₀ s : State} {a0} (m : Sub 0x1080000003002062f0 M) (h : Touch M s₀ s) :
    OutTouch M s₀ (execLogFreeze a0 s) := by
  unfold execLogFreeze
  repeat' with_reducible first
    | assumption | apply OutTouch.next | refine hostFreeze_touch (m.trans rfl) ?_

theorem execLogUnfreeze_touch {M : Nat} {s₀ s : State} {a0} (m : Sub 0x1080000003002062f0 M) (h : Touch M s₀ s) :
    OutTouch M s₀ (execLogUnfreeze a0 s) := by
  unfold execLogUnfreeze
  repeat' with_reducible first
    | assumption | apply OutTouch.next | refine hostFreeze_touch (m.trans rfl) ?_

theorem freezeExpiry_touch {M : Nat} {s₀ s : State} (m : Sub 0x108000000100206210 M) (h : Touch M s₀ s) :
    Touch M s₀ (freezeExpiry s) := by
  unfold freezeExpiry
  repeat' with_reducible first
    | assumption | refine freezeOff_touch (m.trans rfl) ?_ | refine Touch.ite_else ?_ (fun _ => ?_) | split

theorem execFreezeExpiry_touch {M : Nat} {s₀ s : State} (m : Sub 0x108000000100206210 M) (h : Touch M s₀ s) :
    OutTouch M s₀ (execFreezeExpiry s) := by
  unfold execFreezeExpiry
  repeat' with_reducible first
    | assumption | apply OutTouch.next | refine freezeExpiry_touch (m.trans rfl) ?_

theorem mergeRing_touch {M : Nat} {s₀ s : State} {a0} (m : Sub 0x7ffe0000005002c6370 M) (h : Touch M s₀ s) :
    Touch M s₀ (mergeRing a0 s) := by
  unfold mergeRing
  repeat' with_reducible first
    | assumption | refine State.withLg_touch (m.bit rfl) ?_
    | refine put_page_touch (m.trans (by decide +kernel)) ?_ | refine put_ch_touch (m.trans (by decide +kernel)) ?_ | refine put_idx_touch (m.trans (by decide +kernel)) ?_ | refine put_host_touch (m.trans (by decide +kernel)) ?_ | refine put_pll_touch (m.trans (by decide +kernel)) ?_ | refine put_master_touch (m.trans (by decide +kernel)) ?_ | refine put_closed_touch (m.trans (by decide +kernel)) ?_ | refine State.put_touch (m.trans (by decide +kernel)) ?_ | refine put_any_touch (m.trans (by decide +kernel)) ?_
    | refine mergeInto_touch (m.trans rfl) ?_ | refine State.setRaw_touch (m.trans rfl) ?_ | unfold x
    | (extract_lets +onlyGivenNames x; first | (refine Touch.cut (s := x) ?_ (fun _ => ?_); rotate_left; clear_value x) | clear_value x)

theorem closeKey_touch {M : Nat} {s₀ s : State} (m : Sub 0x100000000000004010 M) (h : Touch M s₀ s) :
    Touch M s₀ (closeKey s) := by
  unfold closeKey
  repeat' with_reducible first
    | assumption | refine State.withLg_touch (m.bit rfl) ?_
    | refine setReg_fld_touch (m.trans (by decide +kernel)) ?_ | refine State.setReg_touch (m.trans (by decide +kernel)) ?_ | refine setReg_any_touch (m.trans (by decide +kernel)) ?_
    | unfold x
    | (extract_lets +onlyGivenNames x; first | (refine Touch.cut (s := x) ?_ (fun _ => ?_); rotate_left; clear_value x) | clear_value x)

theorem actClrReq_touch {M : Nat} {s₀ s : State} {a0 a1} (m : Sub 0x108000000300206211 M) (h : Touch M s₀ s) :
    Touch M s₀ (actClrReq a0 a1 s) := by
  unfold actClrReq
  repeat' with_reducible first
    | assumption | refine State.withLg_touch (m.bit rfl) ?_
    | refine put_page_touch (m.trans (by decide +kernel)) ?_ | refine put_ch_touch (m.trans (by decide +kernel)) ?_ | refine put_idx_touch (m.trans (by decide +kernel)) ?_ | refine put_host_touch (m.trans (by decide +kernel)) ?_ | refine put_pll_touch (m.trans (by decide +kernel)) ?_ | refine put_master_touch (m.trans (by decide +kernel)) ?_ | refine put_closed_touch (m.trans (by decide +kernel)) ?_ | refine State.put_touch (m.trans (by decide +kernel)) ?_ | refine put_any_touch (m.trans (by decide +kernel)) ?_
    | refine accessFault_touch (m.trans rfl) ?_ | refine State.setRaw_touch (m.trans rfl) ?_
    | refine State.drawKey_touch (m.trans rfl) ?_ | refine Touch.ite_else ?_ (fun _ => ?_) | unfold x
    | (extract_lets +onlyGivenNames x; first | (refine Touch.cut (s := x) ?_ (fun _ => ?_); rotate_left; clear_value x) | clear_value x)
    | refine Touch.snd ?_ (by assumption) | split

theorem execClrReq_touch {M : Nat} {s₀ s : State} {a0} (m : Sub 0x1080000003002062f1 M) (h : Touch M s₀ s) :
    OutTouch M s₀ (execClrReq a0 s) := by
  unfold execClrReq
  repeat' with_reducible first
    | assumption | apply OutTouch.next | refine actClrReq_touch (m.trans rfl) ?_
    | refine hostWord_touch (m.trans (by decide +kernel)) (fun _ _ _ => ?_) ?_ | refine hostWord_any_touch (m.trans (by decide +kernel)) (fun _ _ _ => ?_) ?_

theorem clearStart_touch {M : Nat} {s₀ s : State} {a0} (m : Sub 0x100000000000004010 M) (h : Touch M s₀ s) :
    Touch M s₀ (clearStart a0 s) := by
  unfold clearStart
  repeat' with_reducible first
    | assumption | refine State.withLg_touch (m.bit rfl) ?_
    | refine put_page_touch (m.trans (by decide +kernel)) ?_ | refine put_ch_touch (m.trans (by decide +kernel)) ?_ | refine put_idx_touch (m.trans (by decide +kernel)) ?_ | refine put_host_touch (m.trans (by decide +kernel)) ?_ | refine put_pll_touch (m.trans (by decide +kernel)) ?_ | refine put_master_touch (m.trans (by decide +kernel)) ?_ | refine put_closed_touch (m.trans (by decide +kernel)) ?_ | refine State.put_touch (m.trans (by decide +kernel)) ?_ | refine put_any_touch (m.trans (by decide +kernel)) ?_
    | refine closeKey_touch (m.trans rfl) ?_ | unfold x
    | (extract_lets +onlyGivenNames x; first | (refine Touch.cut (s := x) ?_ (fun _ => ?_); rotate_left; clear_value x) | clear_value x)

theorem actClrCmd_touch {M : Nat} {s₀ s : State} {a0 a1 a2} (m : Sub 0x108000000300206210 M) (h : Touch M s₀ s) :
    Touch M s₀ (actClrCmd a0 a1 a2 s) := by
  unfold actClrCmd
  repeat' with_reducible first
    | assumption | refine State.withLg_touch (m.bit rfl) ?_ | refine clearStart_touch (m.trans rfl) ?_
    | refine closeKey_touch (m.trans rfl) ?_ | refine accessFault_touch (m.trans rfl) ?_
    | refine Touch.ite_else ?_ (fun _ => ?_) | unfold x
    | (extract_lets +onlyGivenNames x; first | (refine Touch.cut (s := x) ?_ (fun _ => ?_); rotate_left; clear_value x) | clear_value x)
    | split

theorem execClrCmd_touch {M : Nat} {s₀ s : State} {a0 a1} (m : Sub 0x1080000003002062f0 M) (h : Touch M s₀ s) :
    OutTouch M s₀ (execClrCmd a0 a1 s) := by
  unfold execClrCmd
  repeat' with_reducible first
    | assumption | apply OutTouch.next | refine actClrCmd_touch (m.trans rfl) ?_
    | refine hostWord_touch (m.trans (by decide +kernel)) (fun _ _ _ => ?_) ?_ | refine hostWord_any_touch (m.trans (by decide +kernel)) (fun _ _ _ => ?_) ?_

theorem clrExpiry_touch {M : Nat} {s₀ s : State} (m : Sub 0x100000000000004010 M) (h : Touch M s₀ s) :
    Touch M s₀ (clrExpiry s) := by
  unfold clrExpiry
  repeat' with_reducible first
    | assumption | refine closeKey_touch (m.trans rfl) ?_ | refine Touch.ite_else ?_ (fun _ => ?_) | split

theorem execClrKeyExpiry_touch {M : Nat} {s₀ s : State} (m : Sub 0x100000000000004010 M) (h : Touch M s₀ s) :
    OutTouch M s₀ (execClrKeyExpiry s) := by
  unfold execClrKeyExpiry
  repeat' with_reducible first
    | assumption | apply OutTouch.next | refine clrExpiry_touch (m.trans rfl) ?_

theorem clearFinish_touch {M : Nat} {s₀ s : State} (m : Sub 0x108000000100206270 M) (h : Touch M s₀ s) :
    Touch M s₀ (clearFinish s) := by
  unfold clearFinish
  repeat' with_reducible first
    | assumption | refine State.withLg_touch (m.bit rfl) ?_ | refine emitLocal_touch (m.trans rfl) ?_
    | refine put_page_touch (m.trans (by decide +kernel)) ?_ | refine put_ch_touch (m.trans (by decide +kernel)) ?_ | refine put_idx_touch (m.trans (by decide +kernel)) ?_ | refine put_host_touch (m.trans (by decide +kernel)) ?_ | refine put_pll_touch (m.trans (by decide +kernel)) ?_ | refine put_master_touch (m.trans (by decide +kernel)) ?_ | refine put_closed_touch (m.trans (by decide +kernel)) ?_ | refine State.put_touch (m.trans (by decide +kernel)) ?_ | refine put_any_touch (m.trans (by decide +kernel)) ?_
    | refine State.putFlag_touch ?_ | refine gwyReset_touch (m.trans rfl) ?_ | refine fullCheck_touch (m.trans rfl) ?_
    | refine State.setRaw_touch (m.trans rfl) ?_
    | refine setReg_fld_touch (m.trans (by decide +kernel)) ?_ | refine State.setReg_touch (m.trans (by decide +kernel)) ?_ | refine setReg_any_touch (m.trans (by decide +kernel)) ?_
    | refine Touch.ite_else ?_ (fun _ => ?_) | unfold x
    | (extract_lets +onlyGivenNames x; first | (refine Touch.cut (s := x) ?_ (fun _ => ?_); rotate_left; clear_value x) | clear_value x)
    | split

theorem clearComplete_touch {M : Nat} {s₀ s : State} (m : Sub 0x108000000100206270 M) (h : Touch M s₀ s) :
    Touch M s₀ (clearComplete s) := by
  unfold clearComplete
  repeat' with_reducible first
    | assumption | refine clearFinish_touch (m.trans rfl) ?_ | refine Touch.ite_else ?_ (fun _ => ?_) | split

theorem execClearComplete_touch {M : Nat} {s₀ s : State} (m : Sub 0x108000000100206270 M) (h : Touch M s₀ s) :
    OutTouch M s₀ (execClearComplete s) := by
  unfold execClearComplete
  repeat' with_reducible first
    | assumption | apply OutTouch.next | refine clearComplete_touch (m.trans rfl) ?_

theorem bucketsTick_touch {M : Nat} {s₀ s : State} (m : Sub 0x4000 M) (h : Touch M s₀ s) :
    Touch M s₀ (bucketsTick s) := by
  unfold bucketsTick
  repeat' with_reducible first
    | assumption | refine State.withLg_touch (m.bit rfl) ?_ | unfold x
    | (extract_lets +onlyGivenNames x; first | (refine Touch.cut (s := x) ?_ (fun _ => ?_); rotate_left; clear_value x) | clear_value x)

theorem summaryEmit_touch {M : Nat} {s₀ s : State} {a0} (m : Sub 0x108000000100206210 M) (h : Touch M s₀ s) :
    Touch M s₀ (summaryEmit a0 s) := by
  unfold summaryEmit
  repeat' with_reducible first
    | assumption | refine State.withLg_touch (m.bit rfl) ?_ | refine emitLocal_touch (m.trans rfl) ?_
    | refine State.setRaw_touch (m.trans rfl) ?_ | refine Touch.ite_else ?_ (fun _ => ?_) | unfold x
    | (extract_lets +onlyGivenNames x; first | (refine Touch.cut (s := x) ?_ (fun _ => ?_); rotate_left; clear_value x) | clear_value x)
    | split

theorem execSummaryEmit_touch {M : Nat} {s₀ s : State} {a0} (m : Sub 0x108000000100206210 M) (h : Touch M s₀ s) :
    OutTouch M s₀ (execSummaryEmit a0 s) := by
  unfold execSummaryEmit
  repeat' with_reducible first
    | assumption | apply OutTouch.next | refine summaryEmit_touch (m.trans rfl) ?_

theorem actRate_touch {M : Nat} {s₀ s : State} {a0 a1 a2 a3 a4} (m : Sub 0x7ffffffffff002062f0 M) (h : Touch M s₀ s) :
    Touch M s₀ (actRate a0 a1 a2 a3 a4 s) := by
  unfold actRate
  repeat' with_reducible first
    | assumption
    | refine storeFields_touch (m.trans (by decide +kernel)) ?_ | refine storeFields_any_touch (m.trans (by decide +kernel)) ?_
    | refine accessFault_touch (m.trans rfl) ?_ | refine Touch.ite_else ?_ (fun _ => ?_) | split

theorem gaspWrite_touch {M : Nat} {s₀ s : State} {a0 a1} (m : Sub 0x4000 M) (h : Touch M s₀ s) :
    Touch M s₀ (gaspWrite a0 a1 s) := by
  unfold gaspWrite
  repeat' with_reducible first
    | assumption | refine State.withLg_touch (m.bit rfl) ?_ | refine Touch.ite_else ?_ (fun _ => ?_) | unfold x
    | (extract_lets +onlyGivenNames x; first | (refine Touch.cut (s := x) ?_ (fun _ => ?_); rotate_left; clear_value x) | clear_value x)
    | split

theorem gaspStamp_touch {M : Nat} {s₀ s : State} {a0} (m : Sub 0x108000000100006010 M) (h : Touch M s₀ s) :
    Touch M s₀ (gaspStamp a0 s) := by
  unfold gaspStamp
  repeat' with_reducible first
    | assumption | refine refreshCeil_touch (m.trans rfl) ?_ | refine logOwn_touch (m.trans rfl) ?_
    | refine State.withOrd_touch (m.bit rfl) ?_ | unfold x
    | (extract_lets +onlyGivenNames x; first | (refine Touch.cut (s := x) ?_ (fun _ => ?_); rotate_left; clear_value x) | clear_value x)

theorem gaspEmit_touch {M : Nat} {s₀ s : State} {a0} (m : Sub 0x108000000100006010 M) (h : Touch M s₀ s) :
    Touch M s₀ (gaspEmit a0 s) := by
  unfold gaspEmit
  repeat' with_reducible first
    | assumption | refine holdEvt_touch (m.trans rfl) ?_ | refine gaspStamp_touch (m.trans rfl) ?_
    | refine Touch.ite_else ?_ (fun _ => ?_) | split

theorem gaspRecord_touch {M : Nat} {s₀ s : State} (m : Sub 0x108000000100006010 M) (h : Touch M s₀ s) :
    Touch M s₀ (gaspRecord s) := by
  unfold gaspRecord
  repeat' with_reducible first
    | assumption | refine gaspEmit_touch (m.trans rfl) ?_ | refine Touch.ite_else ?_ (fun _ => ?_) | unfold x
    | (extract_lets +onlyGivenNames x; first | (refine Touch.cut (s := x) ?_ (fun _ => ?_); rotate_left; clear_value x) | clear_value x)
    | split

theorem logArray_touch {M : Nat} {s₀ s : State} (m : Sub 0x100000000000004110 M) (h : Touch M s₀ s) :
    Touch M s₀ (logArray s) := by
  unfold logArray
  repeat' with_reducible first
    | assumption | refine State.withLg_touch (m.bit rfl) ?_
    | refine put_page_touch (m.trans (by decide +kernel)) ?_ | refine put_ch_touch (m.trans (by decide +kernel)) ?_ | refine put_idx_touch (m.trans (by decide +kernel)) ?_ | refine put_host_touch (m.trans (by decide +kernel)) ?_ | refine put_pll_touch (m.trans (by decide +kernel)) ?_ | refine put_master_touch (m.trans (by decide +kernel)) ?_ | refine put_closed_touch (m.trans (by decide +kernel)) ?_ | refine State.put_touch (m.trans (by decide +kernel)) ?_ | refine put_any_touch (m.trans (by decide +kernel)) ?_
    | refine State.setLasting_touch (m.trans rfl) ?_ | refine Touch.ite_else ?_ (fun _ => ?_) | unfold x
    | (extract_lets +onlyGivenNames x; first | (refine Touch.cut (s := x) ?_ (fun _ => ?_); rotate_left; clear_value x) | clear_value x)
    | split

theorem arrayFound_touch {M : Nat} {s₀ s : State} {a0} (m : Sub 0x108000000100206310 M) (h : Touch M s₀ s) :
    Touch M s₀ (arrayFound a0 s) := by
  unfold arrayFound
  repeat' with_reducible first
    | assumption | refine State.withLg_touch (m.bit rfl) ?_ | refine record_touch (m.trans rfl) ?_
    | refine logFail_touch (m.trans rfl) ?_ | refine State.setRaw_touch (m.trans rfl) ?_
    | refine foldl_touch (fun _ _ _ => ?_) ?_ | refine Touch.ite_else ?_ (fun _ => ?_) | unfold x
    | (extract_lets +onlyGivenNames x; first | (refine Touch.cut (s := x) ?_ (fun _ => ?_); rotate_left; clear_value x) | clear_value x)
    | split

theorem tornReport_touch {M : Nat} {s₀ s : State} (m : Sub 0x108000000100206210 M) (h : Touch M s₀ s) :
    Touch M s₀ (tornReport s) := by
  unfold tornReport
  repeat' with_reducible first
    | assumption | refine State.withLg_touch (m.bit rfl) ?_ | refine record_touch (m.trans rfl) ?_
    | refine State.setRaw_touch (m.trans rfl) ?_ | refine Touch.ite_else ?_ (fun _ => ?_) | unfold x
    | (extract_lets +onlyGivenNames x; first | (refine Touch.cut (s := x) ?_ (fun _ => ?_); rotate_left; clear_value x) | clear_value x)
    | split

theorem indexRestored_touch {M : Nat} {s₀ s : State} {a0} (m : Sub 0x108000000100206310 M) (h : Touch M s₀ s) :
    Touch M s₀ (indexRestored a0 s) := by
  unfold indexRestored
  repeat' with_reducible first
    | assumption
    | refine put_page_touch (m.trans (by decide +kernel)) ?_ | refine put_ch_touch (m.trans (by decide +kernel)) ?_ | refine put_idx_touch (m.trans (by decide +kernel)) ?_ | refine put_host_touch (m.trans (by decide +kernel)) ?_ | refine put_pll_touch (m.trans (by decide +kernel)) ?_ | refine put_master_touch (m.trans (by decide +kernel)) ?_ | refine put_closed_touch (m.trans (by decide +kernel)) ?_ | refine State.put_touch (m.trans (by decide +kernel)) ?_ | refine put_any_touch (m.trans (by decide +kernel)) ?_
    | refine tornReport_touch (m.trans rfl) ?_ | refine arrayFound_touch (m.trans rfl) ?_
    | refine Touch.ite_else ?_ (fun _ => ?_) | split

theorem execRowRestored_touch {M : Nat} {s₀ s : State} {a1} (m : Sub 0x7ffffffffff15fde3f9 M) (h : Touch M s₀ s) :
    OutTouch M s₀ (execRowRestored s a1) := by
  unfold execRowRestored
  repeat' with_reducible first
    | assumption | apply OutTouch.next | refine indexRestored_touch (m.trans rfl) ?_
    | refine rowRestored_touch (m.trans rfl) ?_

theorem clearRestart_touch {M : Nat} {s₀ s : State} (m : Sub 0x108000000100206270 M) (h : Touch M s₀ s) :
    Touch M s₀ (clearRestart s) := by
  unfold clearRestart
  repeat' with_reducible first
    | assumption | refine clearFinish_touch (m.trans rfl) ?_ | refine State.putFlag_touch ?_
    | refine put_page_touch (m.trans (by decide +kernel)) ?_ | refine put_ch_touch (m.trans (by decide +kernel)) ?_ | refine put_idx_touch (m.trans (by decide +kernel)) ?_ | refine put_host_touch (m.trans (by decide +kernel)) ?_ | refine put_pll_touch (m.trans (by decide +kernel)) ?_ | refine put_master_touch (m.trans (by decide +kernel)) ?_ | refine put_closed_touch (m.trans (by decide +kernel)) ?_ | refine State.put_touch (m.trans (by decide +kernel)) ?_ | refine put_any_touch (m.trans (by decide +kernel)) ?_
    | refine Touch.ite_else ?_ (fun _ => ?_) | split

theorem mergeResume_touch {M : Nat} {s₀ s : State} (m : Sub 0x100000000000000010 M) (h : Touch M s₀ s) :
    Touch M s₀ (mergeResume s) := by
  unfold mergeResume
  repeat' with_reducible first
    | assumption | refine State.putFlag_touch ?_
    | refine put_page_touch (m.trans (by decide +kernel)) ?_ | refine put_ch_touch (m.trans (by decide +kernel)) ?_ | refine put_idx_touch (m.trans (by decide +kernel)) ?_ | refine put_host_touch (m.trans (by decide +kernel)) ?_ | refine put_pll_touch (m.trans (by decide +kernel)) ?_ | refine put_master_touch (m.trans (by decide +kernel)) ?_ | refine put_closed_touch (m.trans (by decide +kernel)) ?_ | refine State.put_touch (m.trans (by decide +kernel)) ?_ | refine put_any_touch (m.trans (by decide +kernel)) ?_
    | refine Touch.ite_else ?_ (fun _ => ?_) | split

theorem logRestart_touch {M : Nat} {s₀ s : State} {a0} (m : Sub 0x7ffe0000005002c6370 M) (h : Touch M s₀ s) :
    Touch M s₀ (logRestart a0 s) := by
  unfold logRestart
  repeat' with_reducible first
    | assumption | refine State.withLg_touch (m.bit rfl) ?_ | refine clearFinish_touch (m.trans rfl) ?_
    | refine put_page_touch (m.trans (by decide +kernel)) ?_ | refine put_ch_touch (m.trans (by decide +kernel)) ?_ | refine put_idx_touch (m.trans (by decide +kernel)) ?_ | refine put_host_touch (m.trans (by decide +kernel)) ?_ | refine put_pll_touch (m.trans (by decide +kernel)) ?_ | refine put_master_touch (m.trans (by decide +kernel)) ?_ | refine put_closed_touch (m.trans (by decide +kernel)) ?_ | refine State.put_touch (m.trans (by decide +kernel)) ?_ | refine put_any_touch (m.trans (by decide +kernel)) ?_
    | refine gaspRecord_touch (m.trans rfl) ?_ | refine mergeInto_touch (m.trans rfl) ?_
    | refine State.setRaw_touch (m.trans rfl) ?_ | refine tornReport_touch (m.trans rfl) ?_
    | refine Touch.ite_else ?_ (fun _ => ?_) | unfold x
    | (extract_lets +onlyGivenNames x; first | (refine Touch.cut (s := x) ?_ (fun _ => ?_); rotate_left; clear_value x) | clear_value x)
    | split

theorem mergeDone_touch {M : Nat} {s₀ s : State} {a0} (m : Sub 0x7ffe0000005002c6370 M) (h : Touch M s₀ s) :
    Touch M s₀ (mergeDone a0 s) := by
  unfold mergeDone
  repeat' with_reducible first
    | assumption | refine mergeRing_touch (m.trans rfl) ?_ | refine logRestart_touch (m.trans rfl) ?_
    | refine Touch.ite_else ?_ (fun _ => ?_) | split

theorem execLogMergeDone_touch {M : Nat} {s₀ s : State} {a1} (m : Sub 0x7ffe0000005002c6370 M) (h : Touch M s₀ s) :
    OutTouch M s₀ (execLogMergeDone s a1) := by
  unfold execLogMergeDone
  repeat' with_reducible first
    | assumption | apply OutTouch.next | refine mergeDone_touch (m.trans rfl) ?_

end Sys2Proof.Machine
end

