-- ==== Sys2Proof/Laws/TouchSafetyOps.lean ====
section
/-!
SUPPORT. What the definitions of Machine/SafetyOps.lean touch.
-/

set_option Elab.async false
set_option linter.all false

namespace Sys2Proof.Machine

theorem State.setCh_touch {M : Nat} {s₀ s : State} {a1 a2} (m : Sub 0x20000000 M) (h : Touch M s₀ s) :
    Touch M s₀ (State.setCh s a1 a2) := by
  unfold State.setCh
  repeat' with_reducible first
    | assumption | refine State.withSafe_touch (m.bit rfl) ?_ | unfold x
    | (extract_lets +onlyGivenNames x; first | (refine Touch.cut (s := x) ?_ (fun _ => ?_); rotate_left; clear_value x) | clear_value x)
    | split

theorem mapCh_touch {M : Nat} {s₀ s : State} {f0} (m : Sub 0x20000000 M) (h : Touch M s₀ s) :
    Touch M s₀ (mapCh f0 s) := by
  unfold mapCh
  repeat' with_reducible first
    | assumption | refine State.withSafe_touch (m.bit rfl) ?_ | unfold x
    | (extract_lets +onlyGivenNames x; first | (refine Touch.cut (s := x) ?_ (fun _ => ?_); rotate_left; clear_value x) | clear_value x)

theorem safeFaultCode_touch {M : Nat} {s₀ s : State} (m : Sub 0x100 M) (h : Touch M s₀ s) :
    Touch M s₀ (safeFaultCode s) := by
  unfold safeFaultCode
  repeat' with_reducible first
    | assumption | refine State.setLasting_touch (m.trans rfl) ?_ | refine Touch.ite_else ?_ (fun _ => ?_) | split

theorem sealFaultCode_touch {M : Nat} {s₀ s : State} (m : Sub 0x100 M) (h : Touch M s₀ s) :
    Touch M s₀ (sealFaultCode s) := by
  unfold sealFaultCode
  repeat' with_reducible first
    | assumption | refine State.setLasting_touch (m.trans rfl) ?_ | refine Touch.ite_else ?_ (fun _ => ?_) | split

theorem setConnReg_touch {M : Nat} {s₀ s : State} {a0 a1} (m : Sub 0x20000000 M) (h : Touch M s₀ s) :
    Touch M s₀ (setConnReg a0 a1 s) := by
  unfold setConnReg
  repeat' with_reducible first
    | assumption | refine State.withSafe_touch (m.bit rfl) ?_ | unfold x
    | (extract_lets +onlyGivenNames x; first | (refine Touch.cut (s := x) ?_ (fun _ => ?_); rotate_left; clear_value x) | clear_value x)

theorem safeDeliver_touch {M : Nat} {s₀ s : State} {a0 a1} (m : Sub 0x8000 M) (h : Touch M s₀ s) :
    Touch M s₀ (safeDeliver a0 a1 s) := by
  unfold safeDeliver
  repeat' with_reducible first
    | assumption | refine State.trigger_touch (m.trans rfl) ?_ | refine Touch.ite_else ?_ (fun _ => ?_) | split

theorem safePointsTick_touch {M : Nat} {s₀ s : State} (m : Sub 0x8000 M) (h : Touch M s₀ s) :
    Touch M s₀ (safePointsTick s) := by
  unfold safePointsTick
  repeat' with_reducible first
    | assumption | refine safeDeliver_touch (m.trans rfl) ?_ | refine foldl_touch (fun _ _ _ => ?_) ?_

theorem safeNotify_touch {M : Nat} {s₀ s : State} {a0} (m : Sub 0x8000 M) (h : Touch M s₀ s) :
    Touch M s₀ (safeNotify a0 s) := by
  unfold safeNotify
  repeat' with_reducible first
    | assumption | refine safeDeliver_touch (m.trans rfl) ?_ | refine foldl_touch (fun _ _ _ => ?_) ?_

theorem hushChanged_touch {M : Nat} {s₀ s : State} {a0} (m : Sub 0x20000000 M) (h : Touch M s₀ s) :
    Touch M s₀ (hushChanged a0 s) := by
  unfold hushChanged
  repeat' with_reducible first
    | assumption | refine mapCh_touch (m.trans rfl) ?_ | refine Touch.ite_else ?_ (fun _ => ?_) | unfold x
    | (extract_lets +onlyGivenNames x; first | (refine Touch.cut (s := x) ?_ (fun _ => ?_); rotate_left; clear_value x) | clear_value x)
    | split

theorem safeDone_touch {M : Nat} {s₀ s : State} {a0} (m : Sub 0x20008000 M) (h : Touch M s₀ s) :
    Touch M s₀ (safeDone a0 s) := by
  unfold safeDone
  repeat' with_reducible first
    | assumption | refine safeNotify_touch (m.trans rfl) ?_ | refine hushChanged_touch (m.trans rfl) ?_

theorem safeAllOff_touch {M : Nat} {s₀ s : State} (m : Sub 0x20000000 M) (h : Touch M s₀ s) :
    Touch M s₀ (safeAllOff s) := by
  unfold safeAllOff
  repeat' with_reducible first
    | assumption | refine mapCh_touch (m.trans rfl) ?_

theorem lastFault_touch {M : Nat} {s₀ s : State} {a0 a1} (m : Sub 0x20000000000000010 M) (h : Touch M s₀ s) :
    Touch M s₀ (lastFault a0 a1 s) := by
  unfold lastFault
  repeat' with_reducible first
    | assumption
    | refine put_page_touch (m.trans (by decide +kernel)) ?_ | refine put_ch_touch (m.trans (by decide +kernel)) ?_ | refine put_idx_touch (m.trans (by decide +kernel)) ?_ | refine put_host_touch (m.trans (by decide +kernel)) ?_ | refine put_pll_touch (m.trans (by decide +kernel)) ?_ | refine put_master_touch (m.trans (by decide +kernel)) ?_ | refine put_closed_touch (m.trans (by decide +kernel)) ?_ | refine State.put_touch (m.trans (by decide +kernel)) ?_ | refine put_any_touch (m.trans (by decide +kernel)) ?_

theorem channelFault_touch {M : Nat} {s₀ s : State} {a0} (m : Sub 0x128000000120206310 M) (h : Touch M s₀ s) :
    Touch M s₀ (channelFault a0 s) := by
  unfold channelFault
  repeat' with_reducible first
    | assumption | refine lastFault_touch (m.trans rfl) ?_ | refine raise_touch (m.trans rfl) ?_
    | refine put_page_touch (m.trans (by decide +kernel)) ?_ | refine put_ch_touch (m.trans (by decide +kernel)) ?_ | refine put_idx_touch (m.trans (by decide +kernel)) ?_ | refine put_host_touch (m.trans (by decide +kernel)) ?_ | refine put_pll_touch (m.trans (by decide +kernel)) ?_ | refine put_master_touch (m.trans (by decide +kernel)) ?_ | refine put_closed_touch (m.trans (by decide +kernel)) ?_ | refine State.put_touch (m.trans (by decide +kernel)) ?_ | refine put_any_touch (m.trans (by decide +kernel)) ?_
    | refine safeFaultCode_touch (m.trans rfl) ?_ | refine safeAllOff_touch (m.trans rfl) ?_
    | refine Touch.ite_else ?_ (fun _ => ?_) | split

theorem adoptOther_touch {M : Nat} {s₀ s : State} {a0 a1} (m : Sub 0x20000000 M) (h : Touch M s₀ s) :
    Touch M s₀ (adoptOther a0 a1 s) := by
  unfold adoptOther
  repeat' with_reducible first
    | assumption | refine State.setCh_touch (m.trans rfl) ?_

theorem applyNote_touch {M : Nat} {s₀ s : State} {a0 a2} (m : Sub 0x128000000120206210 M) (h : Touch M s₀ s) :
    Touch M s₀ (applyNote a0 s a2) := by
  unfold applyNote
  repeat' with_reducible first
    | assumption | refine lastFault_touch (m.trans rfl) ?_ | refine raise_touch (m.trans rfl) ?_
    | refine adoptOther_touch (m.trans rfl) ?_ | refine record_touch (m.trans rfl) ?_
    | refine setConnReg_touch (m.trans rfl) ?_ | refine Touch.ite_else ?_ (fun _ => ?_) | unfold x
    | (extract_lets +onlyGivenNames x; first | (refine Touch.cut (s := x) ?_ (fun _ => ?_); rotate_left; clear_value x) | clear_value x)
    | split

theorem cfgResult_touch {M : Nat} {s₀ s : State} {a0} (m : Sub 0x40000000020000010 M) (h : Touch M s₀ s) :
    Touch M s₀ (cfgResult a0 s) := by
  unfold cfgResult
  repeat' with_reducible first
    | assumption | refine State.withSafe_touch (m.bit rfl) ?_
    | refine put_page_touch (m.trans (by decide +kernel)) ?_ | refine put_ch_touch (m.trans (by decide +kernel)) ?_ | refine put_idx_touch (m.trans (by decide +kernel)) ?_ | refine put_host_touch (m.trans (by decide +kernel)) ?_ | refine put_pll_touch (m.trans (by decide +kernel)) ?_ | refine put_master_touch (m.trans (by decide +kernel)) ?_ | refine put_closed_touch (m.trans (by decide +kernel)) ?_ | refine State.put_touch (m.trans (by decide +kernel)) ?_ | refine put_any_touch (m.trans (by decide +kernel)) ?_
    | unfold x
    | (extract_lets +onlyGivenNames x; first | (refine Touch.cut (s := x) ?_ (fun _ => ?_); rotate_left; clear_value x) | clear_value x)

theorem cfgAbandon_touch {M : Nat} {s₀ s : State} (m : Sub 0x40000000020000010 M) (h : Touch M s₀ s) :
    Touch M s₀ (cfgAbandon s) := by
  unfold cfgAbandon
  repeat' with_reducible first
    | assumption | refine cfgResult_touch (m.trans rfl) ?_ | refine Touch.ite_else ?_ (fun _ => ?_) | split

theorem acceptSeal_touch {M : Nat} {s₀ s : State} (m : Sub 0x20000000 M) (h : Touch M s₀ s) :
    Touch M s₀ (acceptSeal s) := by
  unfold acceptSeal
  repeat' with_reducible first
    | assumption | refine State.withSafe_touch (m.bit rfl) ?_ | unfold x
    | (extract_lets +onlyGivenNames x; first | (refine Touch.cut (s := x) ?_ (fun _ => ?_); rotate_left; clear_value x) | clear_value x)

theorem sealSafe_touch {M : Nat} {s₀ s : State} (m : Sub 0x168000000120206210 M) (h : Touch M s₀ s) :
    Touch M s₀ (sealSafe s) := by
  unfold sealSafe
  repeat' with_reducible first
    | assumption | refine raise_touch (m.trans rfl) ?_ | refine acceptSeal_touch (m.trans rfl) ?_
    | refine cfgAbandon_touch (m.trans rfl) ?_
    | refine put_page_touch (m.trans (by decide +kernel)) ?_ | refine put_ch_touch (m.trans (by decide +kernel)) ?_ | refine put_idx_touch (m.trans (by decide +kernel)) ?_ | refine put_host_touch (m.trans (by decide +kernel)) ?_ | refine put_pll_touch (m.trans (by decide +kernel)) ?_ | refine put_master_touch (m.trans (by decide +kernel)) ?_ | refine put_closed_touch (m.trans (by decide +kernel)) ?_ | refine State.put_touch (m.trans (by decide +kernel)) ?_ | refine put_any_touch (m.trans (by decide +kernel)) ?_
    | refine State.bumpSat_touch ?_ | refine safeAllOff_touch (m.trans rfl) ?_
    | refine Touch.ite_else ?_ (fun _ => ?_) | unfold x
    | (extract_lets +onlyGivenNames x; first | (refine Touch.cut (s := x) ?_ (fun _ => ?_); rotate_left; clear_value x) | clear_value x)
    | split

theorem sealChange_touch {M : Nat} {s₀ s : State} {a0 a1 a2} (m : Sub 0x16800000012020e210 M) (h : Touch M s₀ s) :
    Touch M s₀ (sealChange a0 a1 a2 s) := by
  unfold sealChange
  repeat' with_reducible first
    | assumption | refine State.withSafe_touch (m.bit rfl) ?_
    | refine put_page_touch (m.trans (by decide +kernel)) ?_ | refine put_ch_touch (m.trans (by decide +kernel)) ?_ | refine put_idx_touch (m.trans (by decide +kernel)) ?_ | refine put_host_touch (m.trans (by decide +kernel)) ?_ | refine put_pll_touch (m.trans (by decide +kernel)) ?_ | refine put_master_touch (m.trans (by decide +kernel)) ?_ | refine put_closed_touch (m.trans (by decide +kernel)) ?_ | refine State.put_touch (m.trans (by decide +kernel)) ?_ | refine put_any_touch (m.trans (by decide +kernel)) ?_
    | refine sealSafe_touch (m.trans rfl) ?_ | refine safeDone_touch (m.trans rfl) ?_
    | refine Touch.ite_else ?_ (fun _ => ?_) | unfold x
    | (extract_lets +onlyGivenNames x; first | (refine Touch.cut (s := x) ?_ (fun _ => ?_); rotate_left; clear_value x) | clear_value x)
    | split

theorem execSealChange_touch {M : Nat} {s₀ s : State} {a0 a1 a3} (m : Sub 0x16800000012020e210 M) (h : Touch M s₀ s) :
    OutTouch M s₀ (execSealChange a0 a1 s a3) := by
  unfold execSealChange
  repeat' with_reducible first
    | assumption | apply OutTouch.next | refine sealChange_touch (m.trans rfl) ?_
    | refine Touch.ite_else ?_ (fun _ => ?_) | split

theorem sealStable_touch {M : Nat} {s₀ s : State} (m : Sub 0x40000000000000010 M) (h : Touch M s₀ s) :
    Touch M s₀ (sealStable s) := by
  unfold sealStable
  repeat' with_reducible first
    | assumption
    | refine put_page_touch (m.trans (by decide +kernel)) ?_ | refine put_ch_touch (m.trans (by decide +kernel)) ?_ | refine put_idx_touch (m.trans (by decide +kernel)) ?_ | refine put_host_touch (m.trans (by decide +kernel)) ?_ | refine put_pll_touch (m.trans (by decide +kernel)) ?_ | refine put_master_touch (m.trans (by decide +kernel)) ?_ | refine put_closed_touch (m.trans (by decide +kernel)) ?_ | refine State.put_touch (m.trans (by decide +kernel)) ?_ | refine put_any_touch (m.trans (by decide +kernel)) ?_
    | refine Touch.ite_else ?_ (fun _ => ?_) | split

theorem diffSample_touch {M : Nat} {s₀ s : State} (m : Sub 0x128000000120206310 M) (h : Touch M s₀ s) :
    Touch M s₀ (diffSample s) := by
  unfold diffSample
  repeat' with_reducible first
    | assumption | refine State.withSafe_touch (m.bit rfl) ?_ | refine channelFault_touch (m.trans rfl) ?_
    | refine Touch.ite_else ?_ (fun _ => ?_) | unfold x
    | (extract_lets +onlyGivenNames x; first | (refine Touch.cut (s := x) ?_ (fun _ => ?_); rotate_left; clear_value x) | clear_value x)
    | split

theorem unstick_touch {M : Nat} {s₀ s : State} {a0} (m : Sub 0x20000000 M) (h : Touch M s₀ s) :
    Touch M s₀ (unstick a0 s) := by
  unfold unstick
  repeat' with_reducible first
    | assumption | refine State.withSafe_touch (m.bit rfl) ?_ | refine foldl_touch (fun _ _ _ => ?_) ?_ | unfold x
    | (extract_lets +onlyGivenNames x; first | (refine Touch.cut (s := x) ?_ (fun _ => ?_); rotate_left; clear_value x) | clear_value x)

theorem safetySample_touch {M : Nat} {s₀ s : State} {a0 a1} (m : Sub 0x16800000012020e310 M) (h : Touch M s₀ s) :
    Touch M s₀ (safetySample a0 a1 s) := by
  unfold safetySample
  repeat' with_reducible first
    | assumption | refine State.setCh_touch (m.trans rfl) ?_ | refine unstick_touch (m.trans rfl) ?_
    | refine diffSample_touch (m.trans rfl) ?_ | refine sealStable_touch (m.trans rfl) ?_
    | refine safeDone_touch (m.trans rfl) ?_ | refine Touch.ite_else ?_ (fun _ => ?_) | unfold x
    | (extract_lets +onlyGivenNames x; first | (refine Touch.cut (s := x) ?_ (fun _ => ?_); rotate_left; clear_value x) | clear_value x)
    | split

theorem execSafetyInputSample_touch {M : Nat} {s₀ s : State} {a0 a1} (m : Sub 0x16800000012020e310 M) (h : Touch M s₀ s) :
    OutTouch M s₀ (execSafetyInputSample a0 a1 s) := by
  unfold execSafetyInputSample
  repeat' with_reducible first
    | assumption | apply OutTouch.next | refine safetySample_touch (m.trans rfl) ?_

theorem sendParcel_touch {M : Nat} {s₀ s : State} {a0 a1} (m : Sub 0x7ffe0000000000c0010 M) (h : Touch M s₀ s) :
    Touch M s₀ (sendParcel a0 a1 s) := by
  unfold sendParcel
  repeat' with_reducible first
    | assumption | refine portsSend_touch (m.trans rfl) ?_

theorem parcelSend_touch {M : Nat} {s₀ s : State} {a1} (m : Sub 0x7ffe0000001202c6310 M) (h : Touch M s₀ s) :
    Touch M s₀ (parcelSend s a1) := by
  unfold parcelSend
  repeat' with_reducible first
    | assumption | refine setConnReg_touch (m.trans rfl) ?_ | refine mapCh_touch (m.trans rfl) ?_
    | refine sendParcel_touch (m.trans rfl) ?_ | refine channelFault_touch (m.trans rfl) ?_
    | refine Touch.ite_else ?_ (fun _ => ?_) | unfold x
    | (extract_lets +onlyGivenNames x; first | (refine Touch.cut (s := x) ?_ (fun _ => ?_); rotate_left; clear_value x) | clear_value x)
    | split

theorem parcelsDue_touch {M : Nat} {s₀ s : State} (m : Sub 0x7ffe0000001202c6310 M) (h : Touch M s₀ s) :
    Touch M s₀ (parcelsDue s) := by
  unfold parcelsDue
  repeat' with_reducible first
    | assumption | refine parcelSend_touch (m.trans rfl) ?_ | refine foldl_touch (fun _ _ _ => ?_) ?_

theorem exchange_touch {M : Nat} {s₀ s : State} {a0} (m : Sub 0x128000000120206310 M) (h : Touch M s₀ s) :
    Touch M s₀ (exchange a0 s) := by
  unfold exchange
  repeat' with_reducible first
    | assumption | refine State.setCh_touch (m.trans rfl) ?_ | refine channelFault_touch (m.trans rfl) ?_
    | refine Touch.ite_else ?_ (fun _ => ?_) | unfold x
    | (extract_lets +onlyGivenNames x; first | (refine Touch.cut (s := x) ?_ (fun _ => ?_); rotate_left; clear_value x) | clear_value x)
    | split

theorem measureLoop_touch {M : Nat} {s₀ s : State} (m : Sub 0x20000000000000011 M) (h : Touch M s₀ s) :
    Touch M s₀ (measureLoop s) := by
  unfold measureLoop
  repeat' with_reducible first
    | assumption
    | refine put_page_touch (m.trans (by decide +kernel)) ?_ | refine put_ch_touch (m.trans (by decide +kernel)) ?_ | refine put_idx_touch (m.trans (by decide +kernel)) ?_ | refine put_host_touch (m.trans (by decide +kernel)) ?_ | refine put_pll_touch (m.trans (by decide +kernel)) ?_ | refine put_master_touch (m.trans (by decide +kernel)) ?_ | refine put_closed_touch (m.trans (by decide +kernel)) ?_ | refine State.put_touch (m.trans (by decide +kernel)) ?_ | refine put_any_touch (m.trans (by decide +kernel)) ?_
    | refine State.draw_touch (m.trans rfl) ?_ | unfold x
    | (extract_lets +onlyGivenNames x; first | (refine Touch.cut (s := x) ?_ (fun _ => ?_); rotate_left; clear_value x) | clear_value x)
    | refine Touch.snd ?_ (by assumption) | split

theorem chainSettle_touch {M : Nat} {s₀ s : State} (m : Sub 0x20000000020000011 M) (h : Touch M s₀ s) :
    Touch M s₀ (chainSettle s) := by
  unfold chainSettle
  repeat' with_reducible first
    | assumption | refine mapCh_touch (m.trans rfl) ?_ | refine measureLoop_touch (m.trans rfl) ?_
    | refine Touch.ite_else ?_ (fun _ => ?_) | split

theorem safetyCycle_touch {M : Nat} {s₀ s : State} {a0} (m : Sub 0x7ffe0000001202ce311 M) (h : Touch M s₀ s) :
    Touch M s₀ (safetyCycle a0 s) := by
  unfold safetyCycle
  repeat' with_reducible first
    | assumption | refine State.setCh_touch (m.trans rfl) ?_ | refine parcelsDue_touch (m.trans rfl) ?_
    | refine sealSafe_touch (m.trans rfl) ?_ | refine exchange_touch (m.trans rfl) ?_
    | refine applyNote_touch (m.trans rfl) ?_ | refine chainSettle_touch (m.trans rfl) ?_
    | refine safeDone_touch (m.trans rfl) ?_ | refine foldl_touch (fun _ _ _ => ?_) ?_
    | refine Touch.ite_else ?_ (fun _ => ?_) | unfold x
    | (extract_lets +onlyGivenNames x; first | (refine Touch.cut (s := x) ?_ (fun _ => ?_); rotate_left; clear_value x) | clear_value x)
    | refine Touch.snd ?_ (by assumption) | split

theorem execSafetyCycle_touch {M : Nat} {s₀ s : State} {a0} (m : Sub 0x7ffe0000001202ce311 M) (h : Touch M s₀ s) :
    OutTouch M s₀ (execSafetyCycle a0 s) := by
  unfold execSafetyCycle
  repeat' with_reducible first
    | assumption | apply OutTouch.next | refine safetyCycle_touch (m.trans rfl) ?_

theorem pulseInput_touch {M : Nat} {s₀ s : State} {a0 a1 a3} (m : Sub 0x108000000120206210 M) (h : Touch M s₀ s) :
    Touch M s₀ (pulseInput a0 a1 s a3) := by
  unfold pulseInput
  repeat' with_reducible first
    | assumption | refine State.setCh_touch (m.trans rfl) ?_ | refine record_touch (m.trans rfl) ?_
    | refine mapCh_touch (m.trans rfl) ?_ | refine Touch.ite_else ?_ (fun _ => ?_) | unfold x
    | (extract_lets +onlyGivenNames x; first | (refine Touch.cut (s := x) ?_ (fun _ => ?_); rotate_left; clear_value x) | clear_value x)
    | split

theorem pulseCheck_touch {M : Nat} {s₀ s : State} {a0 a1 a2} (m : Sub 0x108000000120206210 M) (h : Touch M s₀ s) :
    Touch M s₀ (pulseCheck a0 a1 a2 s) := by
  unfold pulseCheck
  repeat' with_reducible first
    | assumption | refine pulseInput_touch (m.trans rfl) ?_ | refine foldl_touch (fun _ _ _ => ?_) ?_
    | refine Touch.ite_else ?_ (fun _ => ?_) | split

theorem execTestPulseCheck_touch {M : Nat} {s₀ s : State} {a0 a1 a2} (m : Sub 0x108000000120206210 M) (h : Touch M s₀ s) :
    OutTouch M s₀ (execTestPulseCheck a0 a1 a2 s) := by
  unfold execTestPulseCheck
  repeat' with_reducible first
    | assumption | apply OutTouch.next | refine pulseCheck_touch (m.trans rfl) ?_

theorem darkTest_touch {M : Nat} {s₀ s : State} {a0 a1 a2} (m : Sub 0x20000000 M) (h : Touch M s₀ s) :
    Touch M s₀ (darkTest a0 a1 a2 s) := by
  unfold darkTest
  repeat' with_reducible first
    | assumption | refine State.setCh_touch (m.trans rfl) ?_ | refine mapCh_touch (m.trans rfl) ?_
    | refine Touch.ite_else ?_ (fun _ => ?_) | unfold x
    | (extract_lets +onlyGivenNames x; first | (refine Touch.cut (s := x) ?_ (fun _ => ?_); rotate_left; clear_value x) | clear_value x)
    | split

theorem execOutputDarkTest_touch {M : Nat} {s₀ s : State} {a0 a1 a2} (m : Sub 0x20000000 M) (h : Touch M s₀ s) :
    OutTouch M s₀ (execOutputDarkTest a0 a1 a2 s) := by
  unfold execOutputDarkTest
  repeat' with_reducible first
    | assumption | apply OutTouch.next | refine darkTest_touch (m.trans rfl) ?_

theorem sackStuck_touch {M : Nat} {s₀ s : State} {a0} (m : Sub 0x108000000120206210 M) (h : Touch M s₀ s) :
    Touch M s₀ (sackStuck a0 s) := by
  unfold sackStuck
  repeat' with_reducible first
    | assumption | refine raise_touch (m.trans rfl) ?_ | refine State.withSafe_touch (m.bit rfl) ?_
    | refine Touch.ite_else ?_ (fun _ => ?_) | unfold x
    | (extract_lets +onlyGivenNames x; first | (refine Touch.cut (s := x) ?_ (fun _ => ?_); rotate_left; clear_value x) | clear_value x)
    | split

theorem execSackStuck_touch {M : Nat} {s₀ s : State} {a0} (m : Sub 0x108000000120206210 M) (h : Touch M s₀ s) :
    OutTouch M s₀ (execSackStuck a0 s) := by
  unfold execSackStuck
  repeat' with_reducible first
    | assumption | apply OutTouch.next | refine sackStuck_touch (m.trans rfl) ?_

theorem connError_touch {M : Nat} {s₀ s : State} {a0} (m : Sub 0x108000000120206210 M) (h : Touch M s₀ s) :
    Touch M s₀ (connError a0 s) := by
  unfold connError
  repeat' with_reducible first
    | assumption | refine raise_touch (m.trans rfl) ?_ | refine setConnReg_touch (m.trans rfl) ?_
    | refine Touch.ite_else ?_ (fun _ => ?_) | unfold x
    | (extract_lets +onlyGivenNames x; first | (refine Touch.cut (s := x) ?_ (fun _ => ?_); rotate_left; clear_value x) | clear_value x)
    | split

theorem parcelIn_touch {M : Nat} {s₀ s : State} {a0} (m : Sub 0x108000000120206210 M) (h : Touch M s₀ s) :
    Touch M s₀ (parcelIn a0 s) := by
  unfold parcelIn
  repeat' with_reducible first
    | assumption | refine connError_touch (m.trans rfl) ?_ | refine record_touch (m.trans rfl) ?_
    | refine setConnReg_touch (m.trans rfl) ?_ | refine mapCh_touch (m.trans rfl) ?_
    | refine Touch.ite_else ?_ (fun _ => ?_) | unfold x
    | (extract_lets +onlyGivenNames x; first | (refine Touch.cut (s := x) ?_ (fun _ => ?_); rotate_left; clear_value x) | clear_value x)
    | split

theorem execParcelReceive_touch {M : Nat} {s₀ s : State} {a0} (m : Sub 0x108000000120206210 M) (h : Touch M s₀ s) :
    OutTouch M s₀ (execParcelReceive a0 s) := by
  unfold execParcelReceive
  repeat' with_reducible first
    | assumption | apply OutTouch.next | refine parcelIn_touch (m.trans rfl) ?_

theorem chainInput_touch {M : Nat} {s₀ s : State} {a0 a1} (m : Sub 0x20000000020008011 M) (h : Touch M s₀ s) :
    Touch M s₀ (chainInput a0 a1 s) := by
  unfold chainInput
  repeat' with_reducible first
    | assumption | refine State.withSafe_touch (m.bit rfl) ?_ | refine chainSettle_touch (m.trans rfl) ?_
    | refine safeDone_touch (m.trans rfl) ?_ | refine Touch.ite_else ?_ (fun _ => ?_) | unfold x
    | (extract_lets +onlyGivenNames x; first | (refine Touch.cut (s := x) ?_ (fun _ => ?_); rotate_left; clear_value x) | clear_value x)
    | split

theorem execChainInputChange_touch {M : Nat} {s₀ s : State} {a0 a1} (m : Sub 0x20000000020008011 M) (h : Touch M s₀ s) :
    OutTouch M s₀ (execChainInputChange a0 a1 s) := by
  unfold execChainInputChange
  repeat' with_reducible first
    | assumption | apply OutTouch.next | refine chainInput_touch (m.trans rfl) ?_

theorem chainPulse_touch {M : Nat} {s₀ s : State} {a0 a1} (m : Sub 0x12800000012020e211 M) (h : Touch M s₀ s) :
    Touch M s₀ (chainPulse a0 a1 s) := by
  unfold chainPulse
  repeat' with_reducible first
    | assumption | refine State.setCh_touch (m.trans rfl) ?_ | refine lastFault_touch (m.trans rfl) ?_
    | refine raise_touch (m.trans rfl) ?_ | refine mapCh_touch (m.trans rfl) ?_
    | refine measureLoop_touch (m.trans rfl) ?_ | refine safeDone_touch (m.trans rfl) ?_
    | refine Touch.ite_else ?_ (fun _ => ?_) | unfold x
    | (extract_lets +onlyGivenNames x; first | (refine Touch.cut (s := x) ?_ (fun _ => ?_); rotate_left; clear_value x) | clear_value x)
    | split

theorem execChainDarkPulse_touch {M : Nat} {s₀ s : State} {a0 a1} (m : Sub 0x12800000012020e211 M) (h : Touch M s₀ s) :
    OutTouch M s₀ (execChainDarkPulse a0 a1 s) := by
  unfold execChainDarkPulse
  repeat' with_reducible first
    | assumption | apply OutTouch.next | refine chainPulse_touch (m.trans rfl) ?_

theorem chainLate_touch {M : Nat} {s₀ s : State} (m : Sub 0x10800000012020e210 M) (h : Touch M s₀ s) :
    Touch M s₀ (chainLate s) := by
  unfold chainLate
  repeat' with_reducible first
    | assumption | refine record_touch (m.trans rfl) ?_ | refine mapCh_touch (m.trans rfl) ?_
    | refine safeDone_touch (m.trans rfl) ?_ | refine Touch.ite_else ?_ (fun _ => ?_) | unfold x
    | (extract_lets +onlyGivenNames x; first | (refine Touch.cut (s := x) ?_ (fun _ => ?_); rotate_left; clear_value x) | clear_value x)
    | split

theorem execChainEstablishTimeout_touch {M : Nat} {s₀ s : State} (m : Sub 0x10800000012020e210 M) (h : Touch M s₀ s) :
    OutTouch M s₀ (execChainEstablishTimeout s) := by
  unfold execChainEstablishTimeout
  repeat' with_reducible first
    | assumption | apply OutTouch.next | refine chainLate_touch (m.trans rfl) ?_

theorem refreshSlots_touch {M : Nat} {s₀ s : State} (m : Sub 0x40000000000000010 M) (h : Touch M s₀ s) :
    Touch M s₀ (refreshSlots s) := by
  unfold refreshSlots
  repeat' with_reducible first
    | assumption
    | refine put_page_touch (m.trans (by decide +kernel)) ?_ | refine put_ch_touch (m.trans (by decide +kernel)) ?_ | refine put_idx_touch (m.trans (by decide +kernel)) ?_ | refine put_host_touch (m.trans (by decide +kernel)) ?_ | refine put_pll_touch (m.trans (by decide +kernel)) ?_ | refine put_master_touch (m.trans (by decide +kernel)) ?_ | refine put_closed_touch (m.trans (by decide +kernel)) ?_ | refine State.put_touch (m.trans (by decide +kernel)) ?_ | refine put_any_touch (m.trans (by decide +kernel)) ?_
    | refine foldl_touch (fun _ _ _ => ?_) ?_ | refine Touch.ite_else ?_ (fun _ => ?_) | unfold x
    | (extract_lets +onlyGivenNames x; first | (refine Touch.cut (s := x) ?_ (fun _ => ?_); rotate_left; clear_value x) | clear_value x)
    | split

theorem cfgBegin_touch {M : Nat} {s₀ s : State} (m : Sub 0x148000000320206210 M) (h : Touch M s₀ s) :
    Touch M s₀ (cfgBegin s) := by
  unfold cfgBegin
  repeat' with_reducible first
    | assumption | refine State.withSafe_touch (m.bit rfl) ?_
    | refine put_page_touch (m.trans (by decide +kernel)) ?_ | refine put_ch_touch (m.trans (by decide +kernel)) ?_ | refine put_idx_touch (m.trans (by decide +kernel)) ?_ | refine put_host_touch (m.trans (by decide +kernel)) ?_ | refine put_pll_touch (m.trans (by decide +kernel)) ?_ | refine put_master_touch (m.trans (by decide +kernel)) ?_ | refine put_closed_touch (m.trans (by decide +kernel)) ?_ | refine State.put_touch (m.trans (by decide +kernel)) ?_ | refine put_any_touch (m.trans (by decide +kernel)) ?_
    | refine accessFault_touch (m.trans rfl) ?_ | refine Touch.ite_else ?_ (fun _ => ?_) | unfold x
    | (extract_lets +onlyGivenNames x; first | (refine Touch.cut (s := x) ?_ (fun _ => ?_); rotate_left; clear_value x) | clear_value x)
    | split

theorem readByB_touch {M : Nat} {s₀ s : State} {a0} (m : Sub 0x400000010 M) (h : Touch M s₀ s) :
    Touch M s₀ (readByB a0 s) := by
  unfold readByB
  repeat' with_reducible first
    | assumption | refine lastingFault_touch (m.trans rfl) ?_ | refine transient_touch (m.trans rfl) ?_ | split

theorem cfgEnd_touch {M : Nat} {s₀ s : State} {a0} (m : Sub 0x148000000730226210 M) (h : Touch M s₀ s) :
    Touch M s₀ (cfgEnd a0 s) := by
  unfold cfgEnd
  repeat' with_reducible first
    | assumption | refine norQueue_touch (m.trans rfl) ?_ | refine raise_touch (m.trans rfl) ?_
    | refine cfgAbandon_touch (m.trans rfl) ?_ | refine State.withSafe_touch (m.bit rfl) ?_
    | refine put_page_touch (m.trans (by decide +kernel)) ?_ | refine put_ch_touch (m.trans (by decide +kernel)) ?_ | refine put_idx_touch (m.trans (by decide +kernel)) ?_ | refine put_host_touch (m.trans (by decide +kernel)) ?_ | refine put_pll_touch (m.trans (by decide +kernel)) ?_ | refine put_master_touch (m.trans (by decide +kernel)) ?_ | refine put_closed_touch (m.trans (by decide +kernel)) ?_ | refine State.put_touch (m.trans (by decide +kernel)) ?_ | refine put_any_touch (m.trans (by decide +kernel)) ?_
    | refine cfgResult_touch (m.trans rfl) ?_ | refine norFlush_touch (m.trans rfl) ?_
    | refine readByB_touch (m.trans rfl) ?_ | refine accessFault_touch (m.trans rfl) ?_
    | refine refreshSlots_touch (m.trans rfl) ?_ | refine Touch.ite_else ?_ (fun _ => ?_) | unfold x
    | (extract_lets +onlyGivenNames x; first | (refine Touch.cut (s := x) ?_ (fun _ => ?_); rotate_left; clear_value x) | clear_value x)
    | split

theorem actCfgCtl_touch {M : Nat} {s₀ s : State} {a0 a1 a2 a3} (m : Sub 0x1480000007302262f0 M) (h : Touch M s₀ s) :
    Touch M s₀ (actCfgCtl a0 a1 a2 a3 s) := by
  unfold actCfgCtl
  repeat' with_reducible first
    | assumption | refine cfgAbandon_touch (m.trans rfl) ?_
    | refine storeFields_touch (m.trans (by decide +kernel)) ?_ | refine storeFields_any_touch (m.trans (by decide +kernel)) ?_
    | refine cfgEnd_touch (m.trans rfl) ?_ | refine cfgBegin_touch (m.trans rfl) ?_
    | refine Touch.ite_else ?_ (fun _ => ?_) | unfold x
    | (extract_lets +onlyGivenNames x; first | (refine Touch.cut (s := x) ?_ (fun _ => ?_); rotate_left; clear_value x) | clear_value x)
    | split

theorem execSafetyCfgBegin_touch {M : Nat} {s₀ s : State} {a0 a1} (m : Sub 0x1480000007302262f0 M) (h : Touch M s₀ s) :
    OutTouch M s₀ (execSafetyCfgBegin a0 a1 s) := by
  unfold execSafetyCfgBegin
  repeat' with_reducible first
    | assumption | apply OutTouch.next
    | refine hostWord_touch (m.trans (by decide +kernel)) (fun _ _ _ => ?_) ?_ | refine hostWord_any_touch (m.trans (by decide +kernel)) (fun _ _ _ => ?_) ?_
    | refine actCfgCtl_touch (m.trans rfl) ?_ | unfold x
    | (extract_lets +onlyGivenNames x; first | (refine Touch.cut (s := x) ?_ (fun _ => ?_); rotate_left; clear_value x) | clear_value x)

theorem execSafetyCfgEnd_touch {M : Nat} {s₀ s : State} {a0 a2} (m : Sub 0x1480000007302262f0 M) (h : Touch M s₀ s) :
    OutTouch M s₀ (execSafetyCfgEnd a0 s a2) := by
  unfold execSafetyCfgEnd
  repeat' with_reducible first
    | assumption | apply OutTouch.next
    | refine hostWord_touch (m.trans (by decide +kernel)) (fun _ _ _ => ?_) ?_ | refine hostWord_any_touch (m.trans (by decide +kernel)) (fun _ _ _ => ?_) ?_
    | refine actCfgCtl_touch (m.trans rfl) ?_

theorem execSafetyCfgAbort_touch {M : Nat} {s₀ s : State} {a0} (m : Sub 0x1480000007302262f0 M) (h : Touch M s₀ s) :
    OutTouch M s₀ (execSafetyCfgAbort a0 s) := by
  unfold execSafetyCfgAbort
  repeat' with_reducible first
    | assumption | apply OutTouch.next
    | refine hostWord_touch (m.trans (by decide +kernel)) (fun _ _ _ => ?_) ?_ | refine hostWord_any_touch (m.trans (by decide +kernel)) (fun _ _ _ => ?_) ?_
    | refine actCfgCtl_touch (m.trans rfl) ?_

theorem cfgErased_touch {M : Nat} {s₀ s : State} {a0} (m : Sub 0x40000000430020010 M) (h : Touch M s₀ s) :
    Touch M s₀ (cfgErased a0 s) := by
  unfold cfgErased
  repeat' with_reducible first
    | assumption | refine lastingFault_touch (m.trans rfl) ?_ | refine norErase_touch (m.trans rfl) ?_
    | refine State.withSafe_touch (m.bit rfl) ?_
    | refine put_page_touch (m.trans (by decide +kernel)) ?_ | refine put_ch_touch (m.trans (by decide +kernel)) ?_ | refine put_idx_touch (m.trans (by decide +kernel)) ?_ | refine put_host_touch (m.trans (by decide +kernel)) ?_ | refine put_pll_touch (m.trans (by decide +kernel)) ?_ | refine put_master_touch (m.trans (by decide +kernel)) ?_ | refine put_closed_touch (m.trans (by decide +kernel)) ?_ | refine State.put_touch (m.trans (by decide +kernel)) ?_ | refine put_any_touch (m.trans (by decide +kernel)) ?_
    | refine cfgResult_touch (m.trans rfl) ?_ | refine refreshSlots_touch (m.trans rfl) ?_
    | refine Touch.ite_else ?_ (fun _ => ?_) | unfold x
    | (extract_lets +onlyGivenNames x; first | (refine Touch.cut (s := x) ?_ (fun _ => ?_); rotate_left; clear_value x) | clear_value x)
    | split

theorem execSafetyCfgEraseDone_touch {M : Nat} {s₀ s : State} {a0} (m : Sub 0x40000000430020010 M) (h : Touch M s₀ s) :
    OutTouch M s₀ (execSafetyCfgEraseDone a0 s) := by
  unfold execSafetyCfgEraseDone
  repeat' with_reducible first
    | assumption | apply OutTouch.next | refine cfgErased_touch (m.trans rfl) ?_

theorem actCfgData_touch {M : Nat} {s₀ s : State} {a0 a1} (m : Sub 0x148000000330226210 M) (h : Touch M s₀ s) :
    Touch M s₀ (actCfgData a0 a1 s) := by
  unfold actCfgData
  repeat' with_reducible first
    | assumption | refine norWrite_touch (m.trans rfl) ?_ | refine State.withSafe_touch (m.bit rfl) ?_
    | refine put_page_touch (m.trans (by decide +kernel)) ?_ | refine put_ch_touch (m.trans (by decide +kernel)) ?_ | refine put_idx_touch (m.trans (by decide +kernel)) ?_ | refine put_host_touch (m.trans (by decide +kernel)) ?_ | refine put_pll_touch (m.trans (by decide +kernel)) ?_ | refine put_master_touch (m.trans (by decide +kernel)) ?_ | refine put_closed_touch (m.trans (by decide +kernel)) ?_ | refine State.put_touch (m.trans (by decide +kernel)) ?_ | refine put_any_touch (m.trans (by decide +kernel)) ?_
    | refine accessFault_touch (m.trans rfl) ?_ | refine Touch.ite_else ?_ (fun _ => ?_) | unfold x
    | (extract_lets +onlyGivenNames x; first | (refine Touch.cut (s := x) ?_ (fun _ => ?_); rotate_left; clear_value x) | clear_value x)
    | split

theorem execSafetyCfgData_touch {M : Nat} {s₀ s : State} {a0 a1} (m : Sub 0x1480000003302262f0 M) (h : Touch M s₀ s) :
    OutTouch M s₀ (execSafetyCfgData a0 a1 s) := by
  unfold execSafetyCfgData
  repeat' with_reducible first
    | assumption | apply OutTouch.next
    | refine hostWord_touch (m.trans (by decide +kernel)) (fun _ _ _ => ?_) ?_ | refine hostWord_any_touch (m.trans (by decide +kernel)) (fun _ _ _ => ?_) ?_
    | refine actCfgData_touch (m.trans rfl) ?_

theorem copyAWritten_touch {M : Nat} {s₀ s : State} (m : Sub 0x148000000130226210 M) (h : Touch M s₀ s) :
    Touch M s₀ (copyAWritten s) := by
  unfold copyAWritten
  repeat' with_reducible first
    | assumption | refine norWrite_touch (m.trans rfl) ?_ | refine raise_touch (m.trans rfl) ?_
    | refine State.withSafe_touch (m.bit rfl) ?_ | refine cfgResult_touch (m.trans rfl) ?_
    | refine refreshSlots_touch (m.trans rfl) ?_ | refine Touch.ite_else ?_ (fun _ => ?_) | unfold x
    | (extract_lets +onlyGivenNames x; first | (refine Touch.cut (s := x) ?_ (fun _ => ?_); rotate_left; clear_value x) | clear_value x)
    | split

theorem execSafetyCfgCopyAWritten_touch {M : Nat} {s₀ s : State} (m : Sub 0x148000000130226210 M) (h : Touch M s₀ s) :
    OutTouch M s₀ (execSafetyCfgCopyAWritten s) := by
  unfold execSafetyCfgCopyAWritten
  repeat' with_reducible first
    | assumption | apply OutTouch.next | refine copyAWritten_touch (m.trans rfl) ?_

theorem noteSelection_touch {M : Nat} {s₀ s : State} {a0 a1 a2 a3} (m : Sub 0x40000000000000010 M) (h : Touch M s₀ s) :
    Touch M s₀ (noteSelection a0 a1 a2 a3 s) := by
  unfold noteSelection
  repeat' with_reducible first
    | assumption
    | refine put_page_touch (m.trans (by decide +kernel)) ?_ | refine put_ch_touch (m.trans (by decide +kernel)) ?_ | refine put_idx_touch (m.trans (by decide +kernel)) ?_ | refine put_host_touch (m.trans (by decide +kernel)) ?_ | refine put_pll_touch (m.trans (by decide +kernel)) ?_ | refine put_master_touch (m.trans (by decide +kernel)) ?_ | refine put_closed_touch (m.trans (by decide +kernel)) ?_ | refine State.put_touch (m.trans (by decide +kernel)) ?_ | refine put_any_touch (m.trans (by decide +kernel)) ?_

theorem safeInstall_touch {M : Nat} {s₀ s : State} {a0} (m : Sub 0x20000000 M) (h : Touch M s₀ s) :
    Touch M s₀ (safeInstall a0 s) := by
  unfold safeInstall
  repeat' with_reducible first
    | assumption | refine State.withSafe_touch (m.bit rfl) ?_ | refine mapCh_touch (m.trans rfl) ?_ | unfold x
    | (extract_lets +onlyGivenNames x; first | (refine Touch.cut (s := x) ?_ (fun _ => ?_); rotate_left; clear_value x) | clear_value x)

theorem selectCfg_touch {M : Nat} {s₀ s : State} {a0} (m : Sub 0x168000000530226310 M) (h : Touch M s₀ s) :
    Touch M s₀ (selectCfg a0 s) := by
  unfold selectCfg
  repeat' with_reducible first
    | assumption | refine norWrite_touch (m.trans rfl) ?_ | refine raise_touch (m.trans rfl) ?_
    | refine State.withSafe_touch (m.bit rfl) ?_ | refine noteSelection_touch (m.trans rfl) ?_
    | refine put_page_touch (m.trans (by decide +kernel)) ?_ | refine put_ch_touch (m.trans (by decide +kernel)) ?_ | refine put_idx_touch (m.trans (by decide +kernel)) ?_ | refine put_host_touch (m.trans (by decide +kernel)) ?_ | refine put_pll_touch (m.trans (by decide +kernel)) ?_ | refine put_master_touch (m.trans (by decide +kernel)) ?_ | refine put_closed_touch (m.trans (by decide +kernel)) ?_ | refine State.put_touch (m.trans (by decide +kernel)) ?_ | refine put_any_touch (m.trans (by decide +kernel)) ?_
    | refine safeFaultCode_touch (m.trans rfl) ?_ | refine readByB_touch (m.trans rfl) ?_
    | refine sealFaultCode_touch (m.trans rfl) ?_ | refine safeInstall_touch (m.trans rfl) ?_
    | refine refreshSlots_touch (m.trans rfl) ?_ | refine safeAllOff_touch (m.trans rfl) ?_
    | refine Touch.ite_else ?_ (fun _ => ?_) | unfold x
    | (extract_lets +onlyGivenNames x; first | (refine Touch.cut (s := x) ?_ (fun _ => ?_); rotate_left; clear_value x) | clear_value x)
    | split

theorem configSelection_touch {M : Nat} {s₀ s : State} {a0} (m : Sub 0x16800000053022e310 M) (h : Touch M s₀ s) :
    Touch M s₀ (configSelection a0 s) := by
  unfold configSelection
  repeat' with_reducible first
    | assumption
    | refine put_page_touch (m.trans (by decide +kernel)) ?_ | refine put_ch_touch (m.trans (by decide +kernel)) ?_ | refine put_idx_touch (m.trans (by decide +kernel)) ?_ | refine put_host_touch (m.trans (by decide +kernel)) ?_ | refine put_pll_touch (m.trans (by decide +kernel)) ?_ | refine put_master_touch (m.trans (by decide +kernel)) ?_ | refine put_closed_touch (m.trans (by decide +kernel)) ?_ | refine State.put_touch (m.trans (by decide +kernel)) ?_ | refine put_any_touch (m.trans (by decide +kernel)) ?_
    | refine selectCfg_touch (m.trans rfl) ?_ | refine safeDone_touch (m.trans rfl) ?_
    | refine Touch.ite_else ?_ (fun _ => ?_) | split

theorem execConfigSelection_touch {M : Nat} {s₀ s : State} {a1} (m : Sub 0x16800000053022e310 M) (h : Touch M s₀ s) :
    OutTouch M s₀ (execConfigSelection s a1) := by
  unfold execConfigSelection
  repeat' with_reducible first
    | assumption | apply OutTouch.next | refine configSelection_touch (m.trans rfl) ?_

theorem safeVfield_touch {M : Nat} {s₀ s : State} (m : Sub 0x10800000012020e310 M) (h : Touch M s₀ s) :
    Touch M s₀ (safeVfield s) := by
  unfold safeVfield
  repeat' with_reducible first
    | assumption | refine raise_touch (m.trans rfl) ?_ | refine safeFaultCode_touch (m.trans rfl) ?_
    | refine safeAllOff_touch (m.trans rfl) ?_ | refine safeDone_touch (m.trans rfl) ?_
    | refine Touch.ite_else ?_ (fun _ => ?_) | split

theorem safeRestart_touch {M : Nat} {s₀ s : State} {a0} (m : Sub 0x20000000 M) (h : Touch M s₀ s) :
    Touch M s₀ (safeRestart a0 s) := by
  unfold safeRestart
  repeat' with_reducible first
    | assumption | refine State.withSafe_touch (m.bit rfl) ?_ | refine mapCh_touch (m.trans rfl) ?_
    | refine hushChanged_touch (m.trans rfl) ?_ | refine Touch.ite_else ?_ (fun _ => ?_) | unfold x
    | (extract_lets +onlyGivenNames x; first | (refine Touch.cut (s := x) ?_ (fun _ => ?_); rotate_left; clear_value x) | clear_value x)
    | split

end Sys2Proof.Machine
end

