-- ==== Sys2Proof/Laws/TouchNet.lean ====
section
/-!
SUPPORT. What the definitions of Machine/Net.lean touch.
-/

set_option Elab.async false
set_option linter.all false

namespace Sys2Proof.Machine

theorem valueEntry_touch {M : Nat} {s₀ s : State} {a0 a1 a3} (m : Sub 0x8000 M) (h : Touch M s₀ s) :
    Touch M s₀ (valueEntry a0 a1 s a3) := by
  unfold valueEntry
  repeat' with_reducible first
    | assumption | refine State.trigger_touch (m.trans rfl) ?_ | refine foldl_touch (fun _ _ _ => ?_) ?_
    | refine Touch.ite_else ?_ (fun _ => ?_) | unfold x
    | (extract_lets +onlyGivenNames x; first | (refine Touch.cut (s := x) ?_ (fun _ => ?_); rotate_left; clear_value x) | clear_value x)
    | split

theorem valueRx_touch {M : Nat} {s₀ s : State} {a0} (m : Sub 0x8000 M) (h : Touch M s₀ s) :
    Touch M s₀ (valueRx a0 s) := by
  unfold valueRx
  repeat' with_reducible first
    | assumption | refine valueEntry_touch (m.trans rfl) ?_ | refine foldl_touch (fun _ _ _ => ?_) ?_

theorem noteRemote_touch {M : Nat} {s₀ s : State} {a0 a1} (m : Sub 0x100000 M) (h : Touch M s₀ s) :
    Touch M s₀ (noteRemote a0 a1 s) := by
  unfold noteRemote
  repeat' with_reducible first
    | assumption | refine State.withXnet_touch (m.bit rfl) ?_ | unfold x
    | (extract_lets +onlyGivenNames x; first | (refine Touch.cut (s := x) ?_ (fun _ => ?_); rotate_left; clear_value x) | clear_value x)

theorem eventRx_touch {M : Nat} {s₀ s : State} {a0} (m : Sub 0x7ffe001000101bc6210 M) (h : Touch M s₀ s) :
    Touch M s₀ (eventRx a0 s) := by
  unfold eventRx
  repeat' with_reducible first
    | assumption | refine logRemote_touch (m.trans rfl) ?_ | refine logPush_touch (m.trans rfl) ?_
    | refine noteRemote_touch (m.trans rfl) ?_ | refine trackPoint_touch (m.trans rfl) ?_
    | refine Touch.ite_else ?_ (fun _ => ?_) | unfold x
    | (extract_lets +onlyGivenNames x; first | (refine Touch.cut (s := x) ?_ (fun _ => ?_); rotate_left; clear_value x) | clear_value x)
    | split

theorem ackApply_touch {M : Nat} {s₀ s : State} {a0 a1 a2 a3} (m : Sub 0x7ffffffffff15ade290 M) (h : Touch M s₀ s) :
    Touch M s₀ (ackApply a0 a1 a2 a3 s) := by
  unfold ackApply
  repeat' with_reducible first
    | assumption | refine remoteOne_touch (m.trans rfl) ?_ | refine ackScope_touch (m.trans rfl) ?_
    | refine endPass_touch (m.trans rfl) ?_ | refine State.trigger_touch (m.trans rfl) ?_
    | refine silenceScope_touch (m.trans rfl) ?_ | refine settle_touch (m.trans rfl) ?_
    | refine Touch.ite_else ?_ (fun _ => ?_) | unfold x
    | (extract_lets +onlyGivenNames x; first | (refine Touch.cut (s := x) ?_ (fun _ => ?_); rotate_left; clear_value x) | clear_value x)
    | split

theorem ackRx_touch {M : Nat} {s₀ s : State} {a0} (m : Sub 0x7ffffffffff15ade290 M) (h : Touch M s₀ s) :
    Touch M s₀ (ackRx a0 s) := by
  unfold ackRx
  repeat' with_reducible first
    | assumption | refine ackApply_touch (m.trans rfl) ?_

theorem xferReply_touch {M : Nat} {s₀ s : State} {a0 a1 a2 a3 a4 a5} (m : Sub 0x7ffe0000001002c6210 M) (h : Touch M s₀ s) :
    Touch M s₀ (xferReply a0 a1 a2 a3 a4 a5 s) := by
  unfold xferReply
  repeat' with_reducible first
    | assumption | refine originateNew_touch (m.trans rfl) ?_

theorem xferLog_touch {M : Nat} {s₀ s : State} {a0 a1 a2} (m : Sub 0x108000000100206210 M) (h : Touch M s₀ s) :
    Touch M s₀ (xferLog a0 a1 a2 s) := by
  unfold xferLog
  repeat' with_reducible first
    | assumption | refine record_touch (m.trans rfl) ?_

theorem setXferIn_touch {M : Nat} {s₀ s : State} {a0} (m : Sub 0x100000 M) (h : Touch M s₀ s) :
    Touch M s₀ (setXferIn a0 s) := by
  unfold setXferIn
  repeat' with_reducible first
    | assumption | refine State.withXnet_touch (m.bit rfl) ?_ | unfold x
    | (extract_lets +onlyGivenNames x; first | (refine Touch.cut (s := x) ?_ (fun _ => ?_); rotate_left; clear_value x) | clear_value x)

theorem xferRefuse_touch {M : Nat} {s₀ s : State} {a0 a1 a2} (m : Sub 0x7ffe1000001103c6210 M) (h : Touch M s₀ s) :
    Touch M s₀ (xferRefuse a0 a1 a2 s) := by
  unfold xferRefuse
  repeat' with_reducible first
    | assumption | refine xferLog_touch (m.trans rfl) ?_ | refine setXferIn_touch (m.trans rfl) ?_
    | refine loadAbandon_touch (m.trans rfl) ?_ | refine xferReply_touch (m.trans rfl) ?_
    | refine Touch.ite_else ?_ (fun _ => ?_) | unfold x
    | (extract_lets +onlyGivenNames x; first | (refine Touch.cut (s := x) ?_ (fun _ => ?_); rotate_left; clear_value x) | clear_value x)
    | split

theorem xferData_touch {M : Nat} {s₀ s : State} {a0 a1} (m : Sub 0x7ffe1000001103f6210 M) (h : Touch M s₀ s) :
    Touch M s₀ (xferData a0 a1 s) := by
  unfold xferData
  repeat' with_reducible first
    | assumption | refine xferRefuse_touch (m.trans rfl) ?_ | refine State.setWinBytes_touch (m.trans rfl) ?_
    | refine loadWord_touch (m.trans rfl) ?_ | refine setXferIn_touch (m.trans rfl) ?_
    | refine xferReply_touch (m.trans rfl) ?_ | refine foldl_touch (fun _ _ _ => ?_) ?_
    | refine Touch.ite_else ?_ (fun _ => ?_) | unfold x
    | (extract_lets +onlyGivenNames x; first | (refine Touch.cut (s := x) ?_ (fun _ => ?_); rotate_left; clear_value x) | clear_value x)
    | split

theorem xferControl_touch {M : Nat} {s₀ s : State} {a0} (m : Sub 0x7ffe1000407103e6210 M) (h : Touch M s₀ s) :
    Touch M s₀ (xferControl a0 s) := by
  unfold xferControl
  repeat' with_reducible first
    | assumption | refine installEnd_touch (m.trans rfl) ?_ | refine loadFinish_touch (m.trans rfl) ?_
    | refine xferLog_touch (m.trans rfl) ?_ | refine xferRefuse_touch (m.trans rfl) ?_
    | refine put_page_touch (m.trans (by decide +kernel)) ?_ | refine put_ch_touch (m.trans (by decide +kernel)) ?_ | refine put_idx_touch (m.trans (by decide +kernel)) ?_ | refine put_host_touch (m.trans (by decide +kernel)) ?_ | refine put_pll_touch (m.trans (by decide +kernel)) ?_ | refine put_master_touch (m.trans (by decide +kernel)) ?_ | refine put_closed_touch (m.trans (by decide +kernel)) ?_ | refine State.put_touch (m.trans (by decide +kernel)) ?_ | refine put_any_touch (m.trans (by decide +kernel)) ?_
    | refine setXferIn_touch (m.trans rfl) ?_ | refine loadAbandon_touch (m.trans rfl) ?_
    | refine loadBegin_touch (m.trans rfl) ?_ | refine xferReply_touch (m.trans rfl) ?_
    | refine installStart_touch (m.trans rfl) ?_ | refine Touch.ite_else ?_ (fun _ => ?_) | unfold x
    | (extract_lets +onlyGivenNames x; first | (refine Touch.cut (s := x) ?_ (fun _ => ?_); rotate_left; clear_value x) | clear_value x)
    | refine Touch.snd ?_ (by assumption) | split

theorem configRx_touch {M : Nat} {s₀ s : State} {a0} (m : Sub 0x7ffe1000407103f6210 M) (h : Touch M s₀ s) :
    Touch M s₀ (configRx a0 s) := by
  unfold configRx
  repeat' with_reducible first
    | assumption | refine xferRefuse_touch (m.trans rfl) ?_ | refine xferControl_touch (m.trans rfl) ?_
    | refine xferData_touch (m.trans rfl) ?_ | refine Touch.ite_else ?_ (fun _ => ?_) | unfold x
    | (extract_lets +onlyGivenNames x; first | (refine Touch.cut (s := x) ?_ (fun _ => ?_); rotate_left; clear_value x) | clear_value x)
    | split

theorem xferDone_touch {M : Nat} {s₀ s : State} {a0} (m : Sub 0x10c000000100306210 M) (h : Touch M s₀ s) :
    Touch M s₀ (xferDone a0 s) := by
  unfold xferDone
  repeat' with_reducible first
    | assumption | refine raise_touch (m.trans rfl) ?_ | refine State.withXnet_touch (m.bit rfl) ?_
    | refine put_page_touch (m.trans (by decide +kernel)) ?_ | refine put_ch_touch (m.trans (by decide +kernel)) ?_ | refine put_idx_touch (m.trans (by decide +kernel)) ?_ | refine put_host_touch (m.trans (by decide +kernel)) ?_ | refine put_pll_touch (m.trans (by decide +kernel)) ?_ | refine put_master_touch (m.trans (by decide +kernel)) ?_ | refine put_closed_touch (m.trans (by decide +kernel)) ?_ | refine State.put_touch (m.trans (by decide +kernel)) ?_ | refine put_any_touch (m.trans (by decide +kernel)) ?_
    | unfold x
    | (extract_lets +onlyGivenNames x; first | (refine Touch.cut (s := x) ?_ (fun _ => ?_); rotate_left; clear_value x) | clear_value x)

theorem resultRx_touch {M : Nat} {s₀ s : State} {a0} (m : Sub 0x10c000000100306210 M) (h : Touch M s₀ s) :
    Touch M s₀ (resultRx a0 s) := by
  unfold resultRx
  repeat' with_reducible first
    | assumption | refine State.withXnet_touch (m.bit rfl) ?_
    | refine put_page_touch (m.trans (by decide +kernel)) ?_ | refine put_ch_touch (m.trans (by decide +kernel)) ?_ | refine put_idx_touch (m.trans (by decide +kernel)) ?_ | refine put_host_touch (m.trans (by decide +kernel)) ?_ | refine put_pll_touch (m.trans (by decide +kernel)) ?_ | refine put_master_touch (m.trans (by decide +kernel)) ?_ | refine put_closed_touch (m.trans (by decide +kernel)) ?_ | refine State.put_touch (m.trans (by decide +kernel)) ?_ | refine put_any_touch (m.trans (by decide +kernel)) ?_
    | refine xferDone_touch (m.trans rfl) ?_ | refine Touch.ite_else ?_ (fun _ => ?_) | unfold x
    | (extract_lets +onlyGivenNames x; first | (refine Touch.cut (s := x) ?_ (fun _ => ?_); rotate_left; clear_value x) | clear_value x)
    | split

theorem consume_touch {M : Nat} {s₀ s : State} {a0} (m : Sub 0x7ffffffffff35bfe290 M) (h : Touch M s₀ s) :
    Touch M s₀ (consume a0 s) := by
  unfold consume
  repeat' with_reducible first
    | assumption | refine resultRx_touch (m.trans rfl) ?_ | refine parcelIn_touch (m.trans rfl) ?_
    | refine eventRx_touch (m.trans rfl) ?_ | refine valueRx_touch (m.trans rfl) ?_
    | refine ackRx_touch (m.trans rfl) ?_ | refine modeRx_touch (m.trans rfl) ?_
    | refine configRx_touch (m.trans rfl) ?_ | refine callRx_touch (m.trans rfl) ?_
    | refine Touch.ite_else ?_ (fun _ => ?_) | split

theorem deliverFrame_touch {M : Nat} {s₀ s : State} {a0} (m : Sub 0x7ffffffffff35bfe290 M) (h : Touch M s₀ s) :
    Touch M s₀ (deliverFrame a0 s) := by
  unfold deliverFrame
  repeat' with_reducible first
    | assumption | refine consume_touch (m.trans rfl) ?_ | refine refreshCeil_touch (m.trans rfl) ?_
    | refine callSettle_touch (m.trans rfl) ?_ | refine State.withOrd_touch (m.bit rfl) ?_
    | refine holdUntil_touch (m.trans rfl) ?_ | refine Touch.ite_else ?_ (fun _ => ?_) | unfold x
    | (extract_lets +onlyGivenNames x; first | (refine Touch.cut (s := x) ?_ (fun _ => ?_); rotate_left; clear_value x) | clear_value x)
    | split

theorem drainHeld_touch {M : Nat} {s₀ s : State} (m : Sub 0x7ffffffffff35bfe290 M) (h : Touch M s₀ s) :
    Touch M s₀ (drainHeld s) := by
  unfold drainHeld
  repeat' with_reducible first
    | assumption | refine originateNew_touch (m.trans rfl) ?_ | refine gaspEmit_touch (m.trans rfl) ?_
    | refine xpump_touch (m.trans rfl) ?_
    | refine put_page_touch (m.trans (by decide +kernel)) ?_ | refine put_ch_touch (m.trans (by decide +kernel)) ?_ | refine put_idx_touch (m.trans (by decide +kernel)) ?_ | refine put_host_touch (m.trans (by decide +kernel)) ?_ | refine put_pll_touch (m.trans (by decide +kernel)) ?_ | refine put_master_touch (m.trans (by decide +kernel)) ?_ | refine put_closed_touch (m.trans (by decide +kernel)) ?_ | refine State.put_touch (m.trans (by decide +kernel)) ?_ | refine put_any_touch (m.trans (by decide +kernel)) ?_
    | refine emit_touch (m.trans rfl) ?_ | refine State.withOrd_touch (m.bit rfl) ?_
    | refine deliverFrame_touch (m.trans rfl) ?_ | refine foldl_touch (fun _ _ _ => ?_) ?_ | unfold x
    | (extract_lets +onlyGivenNames x; first | (refine Touch.cut (s := x) ?_ (fun _ => ?_); rotate_left; clear_value x) | clear_value x)
    | split

theorem ceilKick_touch {M : Nat} {s₀ s : State} (m : Sub 0x2000 M) (h : Touch M s₀ s) :
    Touch M s₀ (ceilKick s) := by
  unfold ceilKick
  repeat' with_reducible first
    | assumption | refine State.withOrd_touch (m.bit rfl) ?_ | refine Touch.ite_else ?_ (fun _ => ?_) | unfold x
    | (extract_lets +onlyGivenNames x; first | (refine Touch.cut (s := x) ?_ (fun _ => ?_); rotate_left; clear_value x) | clear_value x)
    | split

theorem ordFaultCode_touch {M : Nat} {s₀ s : State} (m : Sub 0x100 M) (h : Touch M s₀ s) :
    Touch M s₀ (ordFaultCode s) := by
  unfold ordFaultCode
  repeat' with_reducible first
    | assumption | refine State.setLasting_touch (m.trans rfl) ?_ | refine Touch.ite_else ?_ (fun _ => ?_) | split

theorem ceilCopyLost_touch {M : Nat} {s₀ s : State} {a0} (m : Sub 0x400002111 M) (h : Touch M s₀ s) :
    Touch M s₀ (ceilCopyLost a0 s) := by
  unfold ceilCopyLost
  repeat' with_reducible first
    | assumption | refine lastingFault_touch (m.trans rfl) ?_ | refine ordFaultCode_touch (m.trans rfl) ?_
    | refine State.withOrd_touch (m.bit rfl) ?_ | refine State.draw_touch (m.trans rfl) ?_
    | refine Touch.ite_else ?_ (fun _ => ?_) | unfold x
    | (extract_lets +onlyGivenNames x; first | (refine Touch.cut (s := x) ?_ (fun _ => ?_); rotate_left; clear_value x) | clear_value x)
    | refine Touch.snd ?_ (by assumption) | split

theorem ceilWritten_touch {M : Nat} {s₀ s : State} {a0 a1 a2 a3 a4} (m : Sub 0x8000000400002111 M) (h : Touch M s₀ s) :
    Touch M s₀ (ceilWritten a0 a1 a2 a3 a4 s).2.2 := by
  unfold ceilWritten
  repeat' with_reducible first
    | assumption | refine ceilCopyLost_touch (m.trans rfl) ?_
    | refine put_page_touch (m.trans (by decide +kernel)) ?_ | refine put_ch_touch (m.trans (by decide +kernel)) ?_ | refine put_idx_touch (m.trans (by decide +kernel)) ?_ | refine put_host_touch (m.trans (by decide +kernel)) ?_ | refine put_pll_touch (m.trans (by decide +kernel)) ?_ | refine put_master_touch (m.trans (by decide +kernel)) ?_ | refine put_closed_touch (m.trans (by decide +kernel)) ?_ | refine State.put_touch (m.trans (by decide +kernel)) ?_ | refine put_any_touch (m.trans (by decide +kernel)) ?_
    | refine State.withOrd_touch (m.bit rfl) ?_ | refine State.bumpSat_touch ?_
    | refine Touch.ite_else ?_ (fun _ => ?_) | unfold x
    | (extract_lets +onlyGivenNames x; first | (refine Touch.cut (s := x) ?_ (fun _ => ?_); rotate_left; clear_value x) | clear_value x)
    | split

theorem ceilDone_touch {M : Nat} {s₀ s : State} {a0 a1 a2 a3} (m : Sub 0x7ffffffffff35bfe391 M) (h : Touch M s₀ s) :
    Touch M s₀ (ceilDone a0 a1 a2 a3 s) := by
  unfold ceilDone
  repeat' with_reducible first
    | assumption | refine drainHeld_touch (m.trans rfl) ?_ | refine raise_touch (m.trans rfl) ?_
    | refine ceilWritten_touch (m.trans rfl) ?_ | refine State.withOrd_touch (m.bit rfl) ?_
    | refine Touch.ite_else ?_ (fun _ => ?_) | unfold x
    | (extract_lets +onlyGivenNames x; first | (refine Touch.cut (s := x) ?_ (fun _ => ?_); rotate_left; clear_value x) | clear_value x)
    | refine Touch.snd ?_ (by assumption) | split

theorem execCeilWriteDone_touch {M : Nat} {s₀ s : State} {a0 a1 a3 a4} (m : Sub 0x7ffffffffff35bfe391 M) (h : Touch M s₀ s) :
    OutTouch M s₀ (execCeilWriteDone a0 a1 s a3 a4) := by
  unfold execCeilWriteDone
  repeat' with_reducible first
    | assumption | apply OutTouch.next | refine ceilDone_touch (m.trans rfl) ?_

theorem setOrig_touch {M : Nat} {s₀ s : State} {a0} (m : Sub 0x100000 M) (h : Touch M s₀ s) :
    Touch M s₀ (setOrig a0 s) := by
  unfold setOrig
  repeat' with_reducible first
    | assumption | refine State.withXnet_touch (m.bit rfl) ?_ | unfold x
    | (extract_lets +onlyGivenNames x; first | (refine Touch.cut (s := x) ?_ (fun _ => ?_); rotate_left; clear_value x) | clear_value x)

theorem dropOrig_touch {M : Nat} {s₀ s : State} {a0} (m : Sub 0x100000 M) (h : Touch M s₀ s) :
    Touch M s₀ (dropOrig a0 s) := by
  unfold dropOrig
  repeat' with_reducible first
    | assumption | refine State.withXnet_touch (m.bit rfl) ?_ | unfold x
    | (extract_lets +onlyGivenNames x; first | (refine Touch.cut (s := x) ?_ (fun _ => ?_); rotate_left; clear_value x) | clear_value x)

theorem streamGap_touch {M : Nat} {s₀ s : State} {a0 a1 a2} (m : Sub 0x7ffe0000001002c6210 M) (h : Touch M s₀ s) :
    Touch M s₀ (streamGap a0 a1 a2 s) := by
  unfold streamGap
  repeat' with_reducible first
    | assumption | refine noteGap_touch (m.trans rfl) ?_ | refine emit_touch (m.trans rfl) ?_
    | refine State.bumpSat_touch ?_ | refine State.setRaw_touch (m.trans rfl) ?_
    | refine put_page_touch (m.trans (by decide +kernel)) ?_ | refine put_ch_touch (m.trans (by decide +kernel)) ?_ | refine put_idx_touch (m.trans (by decide +kernel)) ?_ | refine put_host_touch (m.trans (by decide +kernel)) ?_ | refine put_pll_touch (m.trans (by decide +kernel)) ?_ | refine put_master_touch (m.trans (by decide +kernel)) ?_ | refine put_closed_touch (m.trans (by decide +kernel)) ?_ | refine State.put_touch (m.trans (by decide +kernel)) ?_ | refine put_any_touch (m.trans (by decide +kernel)) ?_
    | unfold x
    | (extract_lets +onlyGivenNames x; first | (refine Touch.cut (s := x) ?_ (fun _ => ?_); rotate_left; clear_value x) | clear_value x)
    | split

theorem streamDeliver_touch {M : Nat} {s₀ s : State} {a0} (m : Sub 0x7ffffffffff35bfe290 M) (h : Touch M s₀ s) :
    Touch M s₀ (streamDeliver a0 s) := by
  unfold streamDeliver
  repeat' with_reducible first
    | assumption | refine deliverFrame_touch (m.trans rfl) ?_ | refine Touch.ite_else ?_ (fun _ => ?_) | split

theorem releaseRun_touch {M : Nat} {s₀ s : State} {xs o} (m : Sub 0x7ffffffffff35bfe290 M) (h : Touch M s₀ s) : Touch M s₀ (releaseRun xs o s).2 := by
  induction xs generalizing o s with
  | nil => exact h
  | cons x xs ih =>
    unfold releaseRun
    split
    · dsimp only
      split
      · exact ih (streamDeliver_touch (m.trans rfl) h)
      · exact ih (streamGap_touch (m.trans rfl) h)
    · exact h

theorem closeOldest_touch {M : Nat} {s₀ s : State} {a0} (m : Sub 0x7ffffffffff35bfe290 M) (h : Touch M s₀ s) :
    Touch M s₀ (closeOldest a0 s).2 := by
  unfold closeOldest
  repeat' with_reducible first
    | assumption | refine streamGap_touch (m.trans rfl) ?_ | refine releaseRun_touch (m.trans rfl) ?_
    | refine Touch.ite_else ?_ (fun _ => ?_) | unfold x
    | (extract_lets +onlyGivenNames x; first | (refine Touch.cut (s := x) ?_ (fun _ => ?_); rotate_left; clear_value x) | clear_value x)
    | split

theorem noteHold_touch {M : Nat} {s₀ s : State} {a0} (m : Sub 0x8000000000000011 M) (h : Touch M s₀ s) :
    Touch M s₀ (noteHold a0 s) := by
  unfold noteHold
  repeat' with_reducible first
    | assumption
    | refine put_page_touch (m.trans (by decide +kernel)) ?_ | refine put_ch_touch (m.trans (by decide +kernel)) ?_ | refine put_idx_touch (m.trans (by decide +kernel)) ?_ | refine put_host_touch (m.trans (by decide +kernel)) ?_ | refine put_pll_touch (m.trans (by decide +kernel)) ?_ | refine put_master_touch (m.trans (by decide +kernel)) ?_ | refine put_closed_touch (m.trans (by decide +kernel)) ?_ | refine State.put_touch (m.trans (by decide +kernel)) ?_ | refine put_any_touch (m.trans (by decide +kernel)) ?_
    | refine State.draw_touch (m.trans rfl) ?_ | unfold x
    | (extract_lets +onlyGivenNames x; first | (refine Touch.cut (s := x) ?_ (fun _ => ?_); rotate_left; clear_value x) | clear_value x)
    | refine Touch.snd ?_ (by assumption) | split

theorem makeRoom_touch {M : Nat} {s₀ s : State} {q n o} (m : Sub 0x7ffffffffff35bfe291 M) (h : Touch M s₀ s) : Touch M s₀ (makeRoom q n o s).2 := by
  induction n generalizing o s with
  | zero => exact h
  | succ n ih =>
    unfold makeRoom
    split
    · exact ih (closeOldest_touch (m.trans rfl) (noteHold_touch (m.trans rfl) h))
    · exact h

theorem tallyReject_touch {M : Nat} {s₀ s : State} {a0} (m : Sub 0x108000000100206210 M) (h : Touch M s₀ s) :
    Touch M s₀ (tallyReject a0 s) := by
  unfold tallyReject
  repeat' with_reducible first
    | assumption | refine raise_touch (m.trans rfl) ?_
    | refine put_page_touch (m.trans (by decide +kernel)) ?_ | refine put_ch_touch (m.trans (by decide +kernel)) ?_ | refine put_idx_touch (m.trans (by decide +kernel)) ?_ | refine put_host_touch (m.trans (by decide +kernel)) ?_ | refine put_pll_touch (m.trans (by decide +kernel)) ?_ | refine put_master_touch (m.trans (by decide +kernel)) ?_ | refine put_closed_touch (m.trans (by decide +kernel)) ?_ | refine State.put_touch (m.trans (by decide +kernel)) ?_ | refine put_any_touch (m.trans (by decide +kernel)) ?_
    | refine State.bumpSat_touch ?_

theorem rejectFrame_touch {M : Nat} {s₀ s : State} {a0} (m : Sub 0x7ffe0000001002c6210 M) (h : Touch M s₀ s) :
    Touch M s₀ (rejectFrame a0 s) := by
  unfold rejectFrame
  repeat' with_reducible first
    | assumption | refine streamGap_touch (m.trans rfl) ?_ | refine tallyReject_touch (m.trans rfl) ?_ | unfold x
    | (extract_lets +onlyGivenNames x; first | (refine Touch.cut (s := x) ?_ (fun _ => ?_); rotate_left; clear_value x) | clear_value x)

theorem handDown_touch {M : Nat} {s₀ s : State} {a0} (m : Sub 0x7ffffffffff35bfe290 M) (h : Touch M s₀ s) :
    Touch M s₀ (handDown a0 s) := by
  unfold handDown
  repeat' with_reducible first
    | assumption | refine rejectFrame_touch (m.trans rfl) ?_ | refine deliverFrame_touch (m.trans rfl) ?_
    | refine Touch.ite_else ?_ (fun _ => ?_) | split

theorem streamOpen_touch {M : Nat} {s₀ s : State} {a0 a1} (m : Sub 0x7ffffffffff35bfe290 M) (h : Touch M s₀ s) :
    Touch M s₀ (streamOpen a0 a1 s) := by
  unfold streamOpen
  repeat' with_reducible first
    | assumption | refine streamGap_touch (m.trans rfl) ?_ | refine streamDeliver_touch (m.trans rfl) ?_
    | refine setOrig_touch (m.trans rfl) ?_ | refine tallyReject_touch (m.trans rfl) ?_
    | refine Touch.ite_else ?_ (fun _ => ?_) | unfold x
    | (extract_lets +onlyGivenNames x; first | (refine Touch.cut (s := x) ?_ (fun _ => ?_); rotate_left; clear_value x) | clear_value x)
    | split

theorem streamLate_touch {M : Nat} {s₀ s : State} {a0 a1} (m : Sub 0x108000000100206210 M) (h : Touch M s₀ s) :
    Touch M s₀ (streamLate a0 a1 s) := by
  unfold streamLate
  repeat' with_reducible first
    | assumption | refine raise_touch (m.trans rfl) ?_ | refine State.bumpSat_touch ?_
    | refine put_page_touch (m.trans (by decide +kernel)) ?_ | refine put_ch_touch (m.trans (by decide +kernel)) ?_ | refine put_idx_touch (m.trans (by decide +kernel)) ?_ | refine put_host_touch (m.trans (by decide +kernel)) ?_ | refine put_pll_touch (m.trans (by decide +kernel)) ?_ | refine put_master_touch (m.trans (by decide +kernel)) ?_ | refine put_closed_touch (m.trans (by decide +kernel)) ?_ | refine State.put_touch (m.trans (by decide +kernel)) ?_ | refine put_any_touch (m.trans (by decide +kernel)) ?_
    | refine Touch.ite_else ?_ (fun _ => ?_) | split

theorem streamRun_touch {M : Nat} {s₀ s : State} {a0 a1} (m : Sub 0x7ffffffffff35bfe291 M) (h : Touch M s₀ s) :
    Touch M s₀ (streamRun a0 a1 s) := by
  unfold streamRun
  repeat' with_reducible first
    | assumption | refine releaseRun_touch (m.trans rfl) ?_ | refine setOrig_touch (m.trans rfl) ?_
    | refine noteHold_touch (m.trans rfl) ?_ | refine Touch.ite_else ?_ (fun _ => ?_) | unfold x
    | (extract_lets +onlyGivenNames x; first | (refine Touch.cut (s := x) ?_ (fun _ => ?_); rotate_left; clear_value x) | clear_value x)
    | refine Touch.snd ?_ (by assumption) | split

theorem streamHold_touch {M : Nat} {s₀ s : State} {x o} (m : Sub 0x7ffffffffff35bfe291 M) (h : Touch M s₀ s) : Touch M s₀ (streamHold x o s) :=
  setOrig_touch (m.trans rfl) (makeRoom_touch (m.trans rfl) h)

theorem streamTake_touch {M : Nat} {s₀ s : State} {n f} (m : Sub 0x7ffffffffff35bfe291 M) (h : Touch M s₀ s) : Touch M s₀ (streamTake n f s).2 := by
  unfold streamTake
  split
  · exact h
  · split
    · exact streamOpen_touch (m.trans rfl) h
    · split
      · exact streamLate_touch (m.trans rfl) h
      · split
        · exact h
        · split
          · exact streamRun_touch (m.trans rfl) (Touch.ite_else h (tallyReject_touch (m.trans rfl)))
          · exact streamHold_touch (m.trans rfl) (Touch.ite_else h (tallyReject_touch (m.trans rfl)))

theorem holdExpiry_touch {M : Nat} {s₀ s : State} {a0} (m : Sub 0x7ffffffffff35bfe290 M) (h : Touch M s₀ s) :
    Touch M s₀ (holdExpiry a0 s) := by
  unfold holdExpiry
  repeat' with_reducible first
    | assumption | refine closeOldest_touch (m.trans rfl) ?_
    | refine put_page_touch (m.trans (by decide +kernel)) ?_ | refine put_ch_touch (m.trans (by decide +kernel)) ?_ | refine put_idx_touch (m.trans (by decide +kernel)) ?_ | refine put_host_touch (m.trans (by decide +kernel)) ?_ | refine put_pll_touch (m.trans (by decide +kernel)) ?_ | refine put_master_touch (m.trans (by decide +kernel)) ?_ | refine put_closed_touch (m.trans (by decide +kernel)) ?_ | refine State.put_touch (m.trans (by decide +kernel)) ?_ | refine put_any_touch (m.trans (by decide +kernel)) ?_
    | refine setOrig_touch (m.trans rfl) ?_ | unfold x
    | (extract_lets +onlyGivenNames x; first | (refine Touch.cut (s := x) ?_ (fun _ => ?_); rotate_left; clear_value x) | clear_value x)
    | refine Touch.snd ?_ (by assumption) | split

theorem execStreamHoldExpiry_touch {M : Nat} {s₀ s : State} {a0} (m : Sub 0x7ffffffffff35bfe290 M) (h : Touch M s₀ s) :
    OutTouch M s₀ (execStreamHoldExpiry a0 s) := by
  unfold execStreamHoldExpiry
  repeat' with_reducible first
    | assumption | apply OutTouch.next | refine holdExpiry_touch (m.trans rfl) ?_

theorem forward_touch {M : Nat} {s₀ s : State} {a0 a1} (m : Sub 0x7ffe0000000000c0010 M) (h : Touch M s₀ s) :
    Touch M s₀ (forward a0 a1 s) := by
  unfold forward
  repeat' with_reducible first
    | assumption | refine portsSend_touch (m.trans rfl) ?_ | unfold x
    | (extract_lets +onlyGivenNames x; first | (refine Touch.cut (s := x) ?_ (fun _ => ?_); rotate_left; clear_value x) | clear_value x)

theorem streamRx_touch {M : Nat} {s₀ s : State} {a0 a1} (m : Sub 0x7ffffffffff35bfe291 M) (h : Touch M s₀ s) :
    Touch M s₀ (streamRx a0 a1 s) := by
  unfold streamRx
  repeat' with_reducible first
    | assumption | refine portsSend_touch (m.trans rfl) ?_ | refine streamTake_touch (m.trans rfl) ?_
    | refine Touch.ite_else ?_ (fun _ => ?_) | unfold x
    | (extract_lets +onlyGivenNames x; first | (refine Touch.cut (s := x) ?_ (fun _ => ?_); rotate_left; clear_value x) | clear_value x)
    | refine Touch.snd ?_ (by assumption) | split

theorem parcelRx_touch {M : Nat} {s₀ s : State} {a0 a1} (m : Sub 0x7ffffffffff35bfe290 M) (h : Touch M s₀ s) :
    Touch M s₀ (parcelRx a0 a1 s) := by
  unfold parcelRx
  repeat' with_reducible first
    | assumption | refine forward_touch (m.trans rfl) ?_ | refine State.withSafe_touch (m.bit rfl) ?_
    | refine handDown_touch (m.trans rfl) ?_ | refine Touch.ite_else ?_ (fun _ => ?_) | unfold x
    | (extract_lets +onlyGivenNames x; first | (refine Touch.cut (s := x) ?_ (fun _ => ?_); rotate_left; clear_value x) | clear_value x)
    | split

theorem State.setRing_touch {M : Nat} {s₀ s : State} {a1 a2} (m : Sub 0x100000 M) (h : Touch M s₀ s) :
    Touch M s₀ (State.setRing s a1 a2) := by
  unfold State.setRing
  repeat' with_reducible first
    | assumption | refine State.withXnet_touch (m.bit rfl) ?_ | unfold x
    | (extract_lets +onlyGivenNames x; first | (refine Touch.cut (s := x) ?_ (fun _ => ?_); rotate_left; clear_value x) | clear_value x)
    | split

theorem roundStart_touch {M : Nat} {s₀ s : State} {a0} (m : Sub 0x7ffe0000000001c0010 M) (h : Touch M s₀ s) :
    Touch M s₀ (roundStart a0 s) := by
  unfold roundStart
  repeat' with_reducible first
    | assumption | refine portsSend_touch (m.trans rfl) ?_ | refine State.setRing_touch (m.trans rfl) ?_
    | refine foldl_touch (fun _ _ _ => ?_) ?_ | refine Touch.ite_else ?_ (fun _ => ?_) | unfold x
    | (extract_lets +onlyGivenNames x; first | (refine Touch.cut (s := x) ?_ (fun _ => ?_); rotate_left; clear_value x) | clear_value x)
    | split

theorem execCensusRoundStart_touch {M : Nat} {s₀ s : State} {a0} (m : Sub 0x7ffe0000000001c0010 M) (h : Touch M s₀ s) :
    OutTouch M s₀ (execCensusRoundStart a0 s) := by
  unfold execCensusRoundStart
  repeat' with_reducible first
    | assumption | apply OutTouch.next | refine roundStart_touch (m.trans rfl) ?_

theorem masterTakeover_touch {M : Nat} {s₀ s : State} {a0} (m : Sub 0x7ffe0000000001c0010 M) (h : Touch M s₀ s) :
    Touch M s₀ (masterTakeover a0 s) := by
  unfold masterTakeover
  repeat' with_reducible first
    | assumption
    | refine put_page_touch (m.trans (by decide +kernel)) ?_ | refine put_ch_touch (m.trans (by decide +kernel)) ?_ | refine put_idx_touch (m.trans (by decide +kernel)) ?_ | refine put_host_touch (m.trans (by decide +kernel)) ?_ | refine put_pll_touch (m.trans (by decide +kernel)) ?_ | refine put_master_touch (m.trans (by decide +kernel)) ?_ | refine put_closed_touch (m.trans (by decide +kernel)) ?_ | refine State.put_touch (m.trans (by decide +kernel)) ?_ | refine put_any_touch (m.trans (by decide +kernel)) ?_
    | refine roundStart_touch (m.trans rfl) ?_ | refine Touch.ite_else ?_ (fun _ => ?_) | split

theorem execCensusMasterTakeover_touch {M : Nat} {s₀ s : State} {a0} (m : Sub 0x7ffe0000000001c0010 M) (h : Touch M s₀ s) :
    OutTouch M s₀ (execCensusMasterTakeover a0 s) := by
  unfold execCensusMasterTakeover
  repeat' with_reducible first
    | assumption | apply OutTouch.next | refine masterTakeover_touch (m.trans rfl) ?_

theorem sectionBack_touch {M : Nat} {s₀ s : State} {a0 a1} (m : Sub 0x100000 M) (h : Touch M s₀ s) :
    Touch M s₀ (sectionBack a0 a1 s) := by
  unfold sectionBack
  repeat' with_reducible first
    | assumption | refine State.setRing_touch (m.trans rfl) ?_ | refine Touch.ite_else ?_ (fun _ => ?_) | unfold x
    | (extract_lets +onlyGivenNames x; first | (refine Touch.cut (s := x) ?_ (fun _ => ?_); rotate_left; clear_value x) | clear_value x)
    | split

theorem sectionRx_touch {M : Nat} {s₀ s : State} {a0 a1 a2} (m : Sub 0x7ffe0000001003c6210 M) (h : Touch M s₀ s) :
    Touch M s₀ (sectionRx a0 a1 a2 s) := by
  unfold sectionRx
  repeat' with_reducible first
    | assumption | refine portSend_touch (m.trans rfl) ?_ | refine sectionBack_touch (m.trans rfl) ?_
    | refine State.setRing_touch (m.trans rfl) ?_
    | refine put_page_touch (m.trans (by decide +kernel)) ?_ | refine put_ch_touch (m.trans (by decide +kernel)) ?_ | refine put_idx_touch (m.trans (by decide +kernel)) ?_ | refine put_host_touch (m.trans (by decide +kernel)) ?_ | refine put_pll_touch (m.trans (by decide +kernel)) ?_ | refine put_master_touch (m.trans (by decide +kernel)) ?_ | refine put_closed_touch (m.trans (by decide +kernel)) ?_ | refine State.put_touch (m.trans (by decide +kernel)) ?_ | refine put_any_touch (m.trans (by decide +kernel)) ?_
    | refine nidClash_touch (m.trans rfl) ?_ | refine Touch.ite_else ?_ (fun _ => ?_) | unfold x
    | (extract_lets +onlyGivenNames x; first | (refine Touch.cut (s := x) ?_ (fun _ => ?_); rotate_left; clear_value x) | clear_value x)
    | split

theorem enterSplit_touch {M : Nat} {s₀ s : State} (m : Sub 0x7ffffffffff00004210 M) (h : Touch M s₀ s) :
    Touch M s₀ (enterSplit s) := by
  unfold enterSplit
  repeat' with_reducible first
    | assumption | refine State.withLg_touch (m.bit rfl) ?_
    | refine put_page_touch (m.trans (by decide +kernel)) ?_ | refine put_ch_touch (m.trans (by decide +kernel)) ?_ | refine put_idx_touch (m.trans (by decide +kernel)) ?_ | refine put_host_touch (m.trans (by decide +kernel)) ?_ | refine put_pll_touch (m.trans (by decide +kernel)) ?_ | refine put_master_touch (m.trans (by decide +kernel)) ?_ | refine put_closed_touch (m.trans (by decide +kernel)) ?_ | refine State.put_touch (m.trans (by decide +kernel)) ?_ | refine put_any_touch (m.trans (by decide +kernel)) ?_
    | refine State.withLastHi_touch (m.bit rfl) ?_
    | refine setReg_fld_touch (m.trans (by decide +kernel)) ?_ | refine State.setReg_touch (m.trans (by decide +kernel)) ?_ | refine setReg_any_touch (m.trans (by decide +kernel)) ?_
    | unfold x
    | (extract_lets +onlyGivenNames x; first | (refine Touch.cut (s := x) ?_ (fun _ => ?_); rotate_left; clear_value x) | clear_value x)

theorem stateMove_touch {M : Nat} {s₀ s : State} (m : Sub 0x7ffffffffff00004210 M) (h : Touch M s₀ s) :
    Touch M s₀ (stateMove s) := by
  unfold stateMove
  repeat' with_reducible first
    | assumption | refine enterSplit_touch (m.trans rfl) ?_
    | refine put_page_touch (m.trans (by decide +kernel)) ?_ | refine put_ch_touch (m.trans (by decide +kernel)) ?_ | refine put_idx_touch (m.trans (by decide +kernel)) ?_ | refine put_host_touch (m.trans (by decide +kernel)) ?_ | refine put_pll_touch (m.trans (by decide +kernel)) ?_ | refine put_master_touch (m.trans (by decide +kernel)) ?_ | refine put_closed_touch (m.trans (by decide +kernel)) ?_ | refine State.put_touch (m.trans (by decide +kernel)) ?_ | refine put_any_touch (m.trans (by decide +kernel)) ?_
    | refine Touch.ite_else ?_ (fun _ => ?_) | unfold x
    | (extract_lets +onlyGivenNames x; first | (refine Touch.cut (s := x) ?_ (fun _ => ?_); rotate_left; clear_value x) | clear_value x)
    | split

theorem stateTold_touch {M : Nat} {s₀ s : State} {a0} (m : Sub 0x108000000100206210 M) (h : Touch M s₀ s) :
    Touch M s₀ (stateTold a0 s) := by
  unfold stateTold
  repeat' with_reducible first
    | assumption | refine raise_touch (m.trans rfl) ?_ | refine Touch.ite_else ?_ (fun _ => ?_) | split

theorem stateFollow_touch {M : Nat} {s₀ s : State} (m : Sub 0x7ffffffffff00206210 M) (h : Touch M s₀ s) :
    Touch M s₀ (stateFollow s) := by
  unfold stateFollow
  repeat' with_reducible first
    | assumption | refine stateMove_touch (m.trans rfl) ?_ | refine stateTold_touch (m.trans rfl) ?_

theorem summaryApply_touch {M : Nat} {s₀ s : State} {a0 a1 a2 a3 a4} (m : Sub 0x7ffffffffff00306210 M) (h : Touch M s₀ s) :
    Touch M s₀ (summaryApply a0 a1 a2 a3 a4 s) := by
  unfold summaryApply
  repeat' with_reducible first
    | assumption | refine State.withXnet_touch (m.bit rfl) ?_
    | refine put_page_touch (m.trans (by decide +kernel)) ?_ | refine put_ch_touch (m.trans (by decide +kernel)) ?_ | refine put_idx_touch (m.trans (by decide +kernel)) ?_ | refine put_host_touch (m.trans (by decide +kernel)) ?_ | refine put_pll_touch (m.trans (by decide +kernel)) ?_ | refine put_master_touch (m.trans (by decide +kernel)) ?_ | refine put_closed_touch (m.trans (by decide +kernel)) ?_ | refine State.put_touch (m.trans (by decide +kernel)) ?_ | refine put_any_touch (m.trans (by decide +kernel)) ?_
    | refine stateFollow_touch (m.trans rfl) ?_ | refine Touch.ite_else ?_ (fun _ => ?_) | unfold x
    | (extract_lets +onlyGivenNames x; first | (refine Touch.cut (s := x) ?_ (fun _ => ?_); rotate_left; clear_value x) | clear_value x)
    | split

theorem summaryRx_touch {M : Nat} {s₀ s : State} {a0 a1 a2} (m : Sub 0x7ffffffffff003c6210 M) (h : Touch M s₀ s) :
    Touch M s₀ (summaryRx a0 a1 a2 s) := by
  unfold summaryRx
  repeat' with_reducible first
    | assumption | refine heardEpoch_touch (m.trans rfl) ?_ | refine forward_touch (m.trans rfl) ?_
    | refine summaryApply_touch (m.trans rfl) ?_ | refine State.setRing_touch (m.trans rfl) ?_
    | refine Touch.ite_else ?_ (fun _ => ?_) | unfold x
    | (extract_lets +onlyGivenNames x; first | (refine Touch.cut (s := x) ?_ (fun _ => ?_); rotate_left; clear_value x) | clear_value x)
    | split

theorem leaveRx_touch {M : Nat} {s₀ s : State} {a0 a1} (m : Sub 0x7ffe0000000001c0010 M) (h : Touch M s₀ s) :
    Touch M s₀ (leaveRx a0 a1 s) := by
  unfold leaveRx
  repeat' with_reducible first
    | assumption | refine State.withXnet_touch (m.bit rfl) ?_ | refine forward_touch (m.trans rfl) ?_
    | refine Touch.ite_else ?_ (fun _ => ?_) | unfold x
    | (extract_lets +onlyGivenNames x; first | (refine Touch.cut (s := x) ?_ (fun _ => ?_); rotate_left; clear_value x) | clear_value x)
    | split

theorem censusRx_touch {M : Nat} {s₀ s : State} {a0 a1} (m : Sub 0x7ffffffffff003c6210 M) (h : Touch M s₀ s) :
    Touch M s₀ (censusRx a0 a1 s) := by
  unfold censusRx
  repeat' with_reducible first
    | assumption | refine summaryRx_touch (m.trans rfl) ?_ | refine noteEpoch_touch (m.trans rfl) ?_
    | refine heardEpoch_touch (m.trans rfl) ?_ | refine sectionRx_touch (m.trans rfl) ?_
    | refine leaveRx_touch (m.trans rfl) ?_ | refine Touch.ite_else ?_ (fun _ => ?_) | unfold x
    | (extract_lets +onlyGivenNames x; first | (refine Touch.cut (s := x) ?_ (fun _ => ?_); rotate_left; clear_value x) | clear_value x)
    | split

theorem execCensusFrameReceive_touch {M : Nat} {s₀ s : State} {a0 a1} (m : Sub 0x7ffffffffff003c6210 M) (h : Touch M s₀ s) :
    OutTouch M s₀ (execCensusFrameReceive a0 a1 s) := by
  unfold execCensusFrameReceive
  repeat' with_reducible first
    | assumption | apply OutTouch.next | refine heardEpoch_touch (m.trans rfl) ?_
    | refine censusRx_touch (m.trans rfl) ?_ | refine Touch.ite_else ?_ (fun _ => ?_) | split

theorem roundComplete_touch {M : Nat} {s₀ s : State} {a0} (m : Sub 0x7ffffffffff003c6210 M) (h : Touch M s₀ s) :
    Touch M s₀ (roundComplete a0 s) := by
  unfold roundComplete
  repeat' with_reducible first
    | assumption | refine portsSend_touch (m.trans rfl) ?_ | refine State.withXnet_touch (m.bit rfl) ?_
    | refine State.setRing_touch (m.trans rfl) ?_
    | refine put_page_touch (m.trans (by decide +kernel)) ?_ | refine put_ch_touch (m.trans (by decide +kernel)) ?_ | refine put_idx_touch (m.trans (by decide +kernel)) ?_ | refine put_host_touch (m.trans (by decide +kernel)) ?_ | refine put_pll_touch (m.trans (by decide +kernel)) ?_ | refine put_master_touch (m.trans (by decide +kernel)) ?_ | refine put_closed_touch (m.trans (by decide +kernel)) ?_ | refine State.put_touch (m.trans (by decide +kernel)) ?_ | refine put_any_touch (m.trans (by decide +kernel)) ?_
    | refine stateFollow_touch (m.trans rfl) ?_ | refine foldl_touch (fun _ _ _ => ?_) ?_
    | refine Touch.ite_else ?_ (fun _ => ?_) | unfold x
    | (extract_lets +onlyGivenNames x; first | (refine Touch.cut (s := x) ?_ (fun _ => ?_); rotate_left; clear_value x) | clear_value x)
    | split

theorem execCensusRoundComplete_touch {M : Nat} {s₀ s : State} {a0} (m : Sub 0x7ffffffffff003c6210 M) (h : Touch M s₀ s) :
    OutTouch M s₀ (execCensusRoundComplete a0 s) := by
  unfold execCensusRoundComplete
  repeat' with_reducible first
    | assumption | apply OutTouch.next | refine roundComplete_touch (m.trans rfl) ?_

theorem sendLeave_touch {M : Nat} {s₀ s : State} (m : Sub 0x7ffe0000000000c0010 M) (h : Touch M s₀ s) :
    Touch M s₀ (sendLeave s) := by
  unfold sendLeave
  repeat' with_reducible first
    | assumption | refine portsSend_touch (m.trans rfl) ?_ | refine Touch.ite_else ?_ (fun _ => ?_) | split

theorem classRx_touch {M : Nat} {s₀ s : State} {a0 a1} (m : Sub 0x7ffffffffff35bfe291 M) (h : Touch M s₀ s) :
    Touch M s₀ (classRx a0 a1 s) := by
  unfold classRx
  repeat' with_reducible first
    | assumption | refine heardEpoch_touch (m.trans rfl) ?_ | refine badLength_touch (m.trans rfl) ?_
    | refine censusRx_touch (m.trans rfl) ?_ | refine streamRx_touch (m.trans rfl) ?_
    | refine parcelRx_touch (m.trans rfl) ?_ | refine Touch.ite_else ?_ (fun _ => ?_) | unfold x
    | (extract_lets +onlyGivenNames x; first | (refine Touch.cut (s := x) ?_ (fun _ => ?_); rotate_left; clear_value x) | clear_value x)
    | split

theorem dataRx_touch {M : Nat} {s₀ s : State} {a0 a1} (m : Sub 0x7ffffffffff35bfe291 M) (h : Touch M s₀ s) :
    Touch M s₀ (dataRx a0 a1 s) := by
  unfold dataRx
  repeat' with_reducible first
    | assumption | refine State.bumpWrap_touch ?_
    | refine put_page_touch (m.trans (by decide +kernel)) ?_ | refine put_ch_touch (m.trans (by decide +kernel)) ?_ | refine put_idx_touch (m.trans (by decide +kernel)) ?_ | refine put_host_touch (m.trans (by decide +kernel)) ?_ | refine put_pll_touch (m.trans (by decide +kernel)) ?_ | refine put_master_touch (m.trans (by decide +kernel)) ?_ | refine put_closed_touch (m.trans (by decide +kernel)) ?_ | refine State.put_touch (m.trans (by decide +kernel)) ?_ | refine put_any_touch (m.trans (by decide +kernel)) ?_
    | refine State.bumpSat_touch ?_ | refine classRx_touch (m.trans rfl) ?_ | refine hopAck_touch (m.trans rfl) ?_
    | refine Touch.ite_else ?_ (fun _ => ?_) | unfold x
    | (extract_lets +onlyGivenNames x; first | (refine Touch.cut (s := x) ?_ (fun _ => ?_); rotate_left; clear_value x) | clear_value x)
    | split

theorem cutShort_touch {M : Nat} {s₀ s : State} {a0 a1} (m : Sub 0x7ffffffffff35bfe291 M) (h : Touch M s₀ s) :
    Touch M s₀ (cutShort a0 a1 s) := by
  unfold cutShort
  repeat' with_reducible first
    | assumption | refine State.withOut_touch (m.bit rfl) ?_ | refine streamTake_touch (m.trans rfl) ?_
    | refine Touch.ite_else ?_ (fun _ => ?_) | unfold x
    | (extract_lets +onlyGivenNames x; first | (refine Touch.cut (s := x) ?_ (fun _ => ?_); rotate_left; clear_value x) | clear_value x)
    | split

theorem frameRx_touch {M : Nat} {s₀ s : State} {a0 a1 a2} (m : Sub 0x7ffffffffff35bfe391 M) (h : Touch M s₀ s) :
    Touch M s₀ (frameRx a0 a1 a2 s) := by
  unfold frameRx
  repeat' with_reducible first
    | assumption | refine hopAckRx_touch (m.trans rfl) ?_ | refine cutShort_touch (m.trans rfl) ?_
    | refine syncRx_touch (m.trans rfl) ?_ | refine badFrame_touch (m.trans rfl) ?_
    | refine dataRx_touch (m.trans rfl) ?_ | refine Touch.ite_else ?_ (fun _ => ?_) | unfold x
    | (extract_lets +onlyGivenNames x; first | (refine Touch.cut (s := x) ?_ (fun _ => ?_); rotate_left; clear_value x) | clear_value x)
    | split

theorem execFrameReceive_touch {M : Nat} {s₀ s : State} {a0 a1 a2 a4} (m : Sub 0x7ffffffffff35bfe391 M) (h : Touch M s₀ s) :
    OutTouch M s₀ (execFrameReceive a0 a1 a2 s a4) := by
  unfold execFrameReceive
  repeat' with_reducible first
    | assumption | apply OutTouch.next | refine noteEndRead_touch (m.trans rfl) ?_
    | refine frameRx_touch (m.trans rfl) ?_

theorem splitKept_touch {M : Nat} {s₀ s : State} (m : Sub 0x4000000000000010 M) (h : Touch M s₀ s) :
    Touch M s₀ (splitKept s) := by
  unfold splitKept
  repeat' with_reducible first
    | assumption
    | refine put_page_touch (m.trans (by decide +kernel)) ?_ | refine put_ch_touch (m.trans (by decide +kernel)) ?_ | refine put_idx_touch (m.trans (by decide +kernel)) ?_ | refine put_host_touch (m.trans (by decide +kernel)) ?_ | refine put_pll_touch (m.trans (by decide +kernel)) ?_ | refine put_master_touch (m.trans (by decide +kernel)) ?_ | refine put_closed_touch (m.trans (by decide +kernel)) ?_ | refine State.put_touch (m.trans (by decide +kernel)) ?_ | refine put_any_touch (m.trans (by decide +kernel)) ?_
    | refine Touch.ite_else ?_ (fun _ => ?_) | split

theorem sendPending_touch {M : Nat} {s₀ s : State} (m : Sub 0x7ffe0000001003c6210 M) (h : Touch M s₀ s) :
    Touch M s₀ (sendPending s) := by
  unfold sendPending
  repeat' with_reducible first
    | assumption | refine originateNew_touch (m.trans rfl) ?_ | refine State.withXnet_touch (m.bit rfl) ?_
    | refine foldl_touch (fun _ _ _ => ?_) ?_ | unfold x
    | (extract_lets +onlyGivenNames x; first | (refine Touch.cut (s := x) ?_ (fun _ => ?_); rotate_left; clear_value x) | clear_value x)

theorem rejoinStart_touch {M : Nat} {s₀ s : State} (m : Sub 0x7ffe0000001013c6210 M) (h : Touch M s₀ s) :
    Touch M s₀ (rejoinStart s) := by
  unfold rejoinStart
  repeat' with_reducible first
    | assumption | refine State.withLg_touch (m.bit rfl) ?_ | refine sendPending_touch (m.trans rfl) ?_
    | refine raise_touch (m.trans rfl) ?_ | refine State.withXnet_touch (m.bit rfl) ?_
    | refine put_page_touch (m.trans (by decide +kernel)) ?_ | refine put_ch_touch (m.trans (by decide +kernel)) ?_ | refine put_idx_touch (m.trans (by decide +kernel)) ?_ | refine put_host_touch (m.trans (by decide +kernel)) ?_ | refine put_pll_touch (m.trans (by decide +kernel)) ?_ | refine put_master_touch (m.trans (by decide +kernel)) ?_ | refine put_closed_touch (m.trans (by decide +kernel)) ?_ | refine State.put_touch (m.trans (by decide +kernel)) ?_ | refine put_any_touch (m.trans (by decide +kernel)) ?_
    | refine State.withCall_touch (m.bit rfl) ?_ | unfold x
    | (extract_lets +onlyGivenNames x; first | (refine Touch.cut (s := x) ?_ (fun _ => ?_); rotate_left; clear_value x) | clear_value x)

theorem rejoinBreak_touch {M : Nat} {s₀ s : State} (m : Sub 0x4000000000100010 M) (h : Touch M s₀ s) :
    Touch M s₀ (rejoinBreak s) := by
  unfold rejoinBreak
  repeat' with_reducible first
    | assumption | refine State.withXnet_touch (m.bit rfl) ?_
    | refine put_page_touch (m.trans (by decide +kernel)) ?_ | refine put_ch_touch (m.trans (by decide +kernel)) ?_ | refine put_idx_touch (m.trans (by decide +kernel)) ?_ | refine put_host_touch (m.trans (by decide +kernel)) ?_ | refine put_pll_touch (m.trans (by decide +kernel)) ?_ | refine put_master_touch (m.trans (by decide +kernel)) ?_ | refine put_closed_touch (m.trans (by decide +kernel)) ?_ | refine State.put_touch (m.trans (by decide +kernel)) ?_ | refine put_any_touch (m.trans (by decide +kernel)) ?_
    | unfold x
    | (extract_lets +onlyGivenNames x; first | (refine Touch.cut (s := x) ?_ (fun _ => ?_); rotate_left; clear_value x) | clear_value x)

theorem rejoinMode_touch {M : Nat} {s₀ s : State} (m : Sub 0x7ffe0000001003c6210 M) (h : Touch M s₀ s) :
    Touch M s₀ (rejoinMode s) := by
  unfold rejoinMode
  repeat' with_reducible first
    | assumption | refine State.withXnet_touch (m.bit rfl) ?_ | refine modeBroadcast_touch (m.trans rfl) ?_
    | refine Touch.ite_else ?_ (fun _ => ?_) | unfold x
    | (extract_lets +onlyGivenNames x; first | (refine Touch.cut (s := x) ?_ (fun _ => ?_); rotate_left; clear_value x) | clear_value x)
    | split

theorem dutyStep_touch {M : Nat} {s₀ s : State} (m : Sub 0x7ffe021000101bc6210 M) (h : Touch M s₀ s) :
    Touch M s₀ (dutyStep s) := by
  unfold dutyStep
  repeat' with_reducible first
    | assumption | refine ceaseDuty_touch (m.trans rfl) ?_ | refine raise_touch (m.trans rfl) ?_
    | refine State.withXnet_touch (m.bit rfl) ?_
    | refine put_page_touch (m.trans (by decide +kernel)) ?_ | refine put_ch_touch (m.trans (by decide +kernel)) ?_ | refine put_idx_touch (m.trans (by decide +kernel)) ?_ | refine put_host_touch (m.trans (by decide +kernel)) ?_ | refine put_pll_touch (m.trans (by decide +kernel)) ?_ | refine put_master_touch (m.trans (by decide +kernel)) ?_ | refine put_closed_touch (m.trans (by decide +kernel)) ?_ | refine State.put_touch (m.trans (by decide +kernel)) ?_ | refine put_any_touch (m.trans (by decide +kernel)) ?_
    | refine becomeDuty_touch (m.trans rfl) ?_ | refine modeBroadcast_touch (m.trans rfl) ?_
    | refine Touch.ite_else ?_ (fun _ => ?_) | unfold x
    | (extract_lets +onlyGivenNames x; first | (refine Touch.cut (s := x) ?_ (fun _ => ?_); rotate_left; clear_value x) | clear_value x)
    | split

theorem membership_touch {M : Nat} {s₀ s : State} (m : Sub 0x7ffffffffff01bc6210 M) (h : Touch M s₀ s) :
    Touch M s₀ (membership s) := by
  unfold membership
  repeat' with_reducible first
    | assumption | refine stateMove_touch (m.trans rfl) ?_ | refine rejoinStart_touch (m.trans rfl) ?_
    | refine raise_touch (m.trans rfl) ?_ | refine State.withXnet_touch (m.bit rfl) ?_
    | refine rejoinBreak_touch (m.trans rfl) ?_ | refine stateTold_touch (m.trans rfl) ?_
    | refine sendUnits_touch (m.trans rfl) ?_
    | refine put_page_touch (m.trans (by decide +kernel)) ?_ | refine put_ch_touch (m.trans (by decide +kernel)) ?_ | refine put_idx_touch (m.trans (by decide +kernel)) ?_ | refine put_host_touch (m.trans (by decide +kernel)) ?_ | refine put_pll_touch (m.trans (by decide +kernel)) ?_ | refine put_master_touch (m.trans (by decide +kernel)) ?_ | refine put_closed_touch (m.trans (by decide +kernel)) ?_ | refine State.put_touch (m.trans (by decide +kernel)) ?_ | refine put_any_touch (m.trans (by decide +kernel)) ?_
    | refine dutyStep_touch (m.trans rfl) ?_ | refine callSettle_touch (m.trans rfl) ?_
    | refine epochTold_touch (m.trans rfl) ?_ | refine rejoinMode_touch (m.trans rfl) ?_
    | refine dropOrig_touch (m.trans rfl) ?_ | refine foldl_touch (fun _ _ _ => ?_) ?_
    | refine Touch.ite_else ?_ (fun _ => ?_) | unfold x
    | (extract_lets +onlyGivenNames x; first | (refine Touch.cut (s := x) ?_ (fun _ => ?_); rotate_left; clear_value x) | clear_value x)
    | split

theorem execMembershipInterval_touch {M : Nat} {s₀ s : State} (m : Sub 0x7ffffffffff01bc6210 M) (h : Touch M s₀ s) :
    OutTouch M s₀ (execMembershipInterval s) := by
  unfold execMembershipInterval
  repeat' with_reducible first
    | assumption | apply OutTouch.next | refine membership_touch (m.trans rfl) ?_

end Sys2Proof.Machine
end

