-- ==== Sys2Proof/Laws/TouchNetCmds.lean ====
section
/-!
SUPPORT. What the definitions of Machine/NetCmds.lean touch.
-/

set_option Elab.async false
set_option linter.all false

namespace Sys2Proof.Machine

theorem execCallFrameReceive_touch {M : Nat} {s₀ s : State} {a0} (m : Sub 0x7ffffffffff35bfe290 M) (h : Touch M s₀ s) :
    OutTouch M s₀ (execCallFrameReceive a0 s) := by
  unfold execCallFrameReceive
  repeat' with_reducible first
    | assumption | apply OutTouch.next | refine handDown_touch (m.trans rfl) ?_
    | refine Touch.ite_else ?_ (fun _ => ?_) | split

theorem execModeFrameReceive_touch {M : Nat} {s₀ s : State} {a0} (m : Sub 0x7ffffffffff35bfe290 M) (h : Touch M s₀ s) :
    OutTouch M s₀ (execModeFrameReceive a0 s) := by
  unfold execModeFrameReceive
  repeat' with_reducible first
    | assumption | apply OutTouch.next | refine handDown_touch (m.trans rfl) ?_
    | refine Touch.ite_else ?_ (fun _ => ?_) | split

theorem replayEnd_touch {M : Nat} {s₀ s : State} (m : Sub 0x7ffe0000001003c6210 M) (h : Touch M s₀ s) :
    Touch M s₀ (replayEnd s) := by
  unfold replayEnd
  repeat' with_reducible first
    | assumption | refine raise_touch (m.trans rfl) ?_ | refine State.withXnet_touch (m.bit rfl) ?_
    | refine put_page_touch (m.trans (by decide +kernel)) ?_ | refine put_ch_touch (m.trans (by decide +kernel)) ?_ | refine put_idx_touch (m.trans (by decide +kernel)) ?_ | refine put_host_touch (m.trans (by decide +kernel)) ?_ | refine put_pll_touch (m.trans (by decide +kernel)) ?_ | refine put_master_touch (m.trans (by decide +kernel)) ?_ | refine put_closed_touch (m.trans (by decide +kernel)) ?_ | refine State.put_touch (m.trans (by decide +kernel)) ?_ | refine put_any_touch (m.trans (by decide +kernel)) ?_
    | refine emit_touch (m.trans rfl) ?_ | unfold x
    | (extract_lets +onlyGivenNames x; first | (refine Touch.cut (s := x) ?_ (fun _ => ?_); rotate_left; clear_value x) | clear_value x)

theorem rejoinValue_touch {M : Nat} {s₀ s : State} (m : Sub 0x7ffe0000001003ce210 M) (h : Touch M s₀ s) :
    Touch M s₀ (rejoinValue s) := by
  unfold rejoinValue
  repeat' with_reducible first
    | assumption | refine State.withXnet_touch (m.bit rfl) ?_ | refine valueFrame_touch (m.trans rfl) ?_
    | refine Touch.ite_else ?_ (fun _ => ?_) | unfold x
    | (extract_lets +onlyGivenNames x; first | (refine Touch.cut (s := x) ?_ (fun _ => ?_); rotate_left; clear_value x) | clear_value x)
    | split

theorem replayGone_touch {M : Nat} {s₀ s : State} (m : Sub 0x4000000000004010 M) (h : Touch M s₀ s) :
    Touch M s₀ (replayGone s) := by
  unfold replayGone
  repeat' with_reducible first
    | assumption | refine State.withLg_touch (m.bit rfl) ?_ | refine State.bumpSat_touch ?_
    | refine put_page_touch (m.trans (by decide +kernel)) ?_ | refine put_ch_touch (m.trans (by decide +kernel)) ?_ | refine put_idx_touch (m.trans (by decide +kernel)) ?_ | refine put_host_touch (m.trans (by decide +kernel)) ?_ | refine put_pll_touch (m.trans (by decide +kernel)) ?_ | refine put_master_touch (m.trans (by decide +kernel)) ?_ | refine put_closed_touch (m.trans (by decide +kernel)) ?_ | refine State.put_touch (m.trans (by decide +kernel)) ?_ | refine put_any_touch (m.trans (by decide +kernel)) ?_
    | unfold x
    | (extract_lets +onlyGivenNames x; first | (refine Touch.cut (s := x) ?_ (fun _ => ?_); rotate_left; clear_value x) | clear_value x)

theorem replaySend_touch {M : Nat} {s₀ s : State} (m : Sub 0x7ffe0000001003ce210 M) (h : Touch M s₀ s) :
    Touch M s₀ (replaySend s) := by
  unfold replaySend
  repeat' with_reducible first
    | assumption | refine State.withLg_touch (m.bit rfl) ?_ | refine originate_touch (m.trans rfl) ?_
    | refine State.withXnet_touch (m.bit rfl) ?_
    | refine put_page_touch (m.trans (by decide +kernel)) ?_ | refine put_ch_touch (m.trans (by decide +kernel)) ?_ | refine put_idx_touch (m.trans (by decide +kernel)) ?_ | refine put_host_touch (m.trans (by decide +kernel)) ?_ | refine put_pll_touch (m.trans (by decide +kernel)) ?_ | refine put_master_touch (m.trans (by decide +kernel)) ?_ | refine put_closed_touch (m.trans (by decide +kernel)) ?_ | refine State.put_touch (m.trans (by decide +kernel)) ?_ | refine put_any_touch (m.trans (by decide +kernel)) ?_
    | refine replayEnd_touch (m.trans rfl) ?_ | refine rejoinValue_touch (m.trans rfl) ?_
    | refine replayGone_touch (m.trans rfl) ?_ | refine Touch.ite_else ?_ (fun _ => ?_) | unfold x
    | (extract_lets +onlyGivenNames x; first | (refine Touch.cut (s := x) ?_ (fun _ => ?_); rotate_left; clear_value x) | clear_value x)
    | split

theorem execReplaySend_touch {M : Nat} {s₀ s : State} (m : Sub 0x7ffe0000001003ce210 M) (h : Touch M s₀ s) :
    OutTouch M s₀ (execReplaySend s) := by
  unfold execReplaySend
  repeat' with_reducible first
    | assumption | apply OutTouch.next | refine replaySend_touch (m.trans rfl) ?_

theorem rackRun_touch {M : Nat} {s₀ s : State} {a0 a1 a2 a3 a4 a5} (m : Sub 0x7ffffffffff15bde290 M) (h : Touch M s₀ s) :
    Touch M s₀ (rackRun a0 a1 a2 a3 a4 a5 s).2 := by
  unfold rackRun
  repeat' with_reducible first
    | assumption | refine originateNew_touch (m.trans rfl) ?_ | refine ackApply_touch (m.trans rfl) ?_
    | refine expandAcks_touch (m.trans rfl) ?_ | refine holdAck_touch (m.trans rfl) ?_
    | refine Touch.ite_else ?_ (fun _ => ?_) | unfold x
    | (extract_lets +onlyGivenNames x; first | (refine Touch.cut (s := x) ?_ (fun _ => ?_); rotate_left; clear_value x) | clear_value x)
    | split

theorem actRackCmd_touch {M : Nat} {s₀ s : State} {a0 a1 a2} (m : Sub 0x7ffffffffff15bde2f0 M) (h : Touch M s₀ s) :
    Touch M s₀ (actRackCmd a0 a1 a2 s) := by
  unfold actRackCmd
  repeat' with_reducible first
    | assumption | refine State.setRegH_touch (m.trans rfl) ?_ | refine raise_touch (m.trans rfl) ?_
    | refine rackRun_touch (m.trans rfl) ?_ | refine accessFault_touch (m.trans rfl) ?_
    | refine Touch.ite_else ?_ (fun _ => ?_) | unfold x
    | (extract_lets +onlyGivenNames x; first | (refine Touch.cut (s := x) ?_ (fun _ => ?_); rotate_left; clear_value x) | clear_value x)
    | refine Touch.snd ?_ (by assumption) | split

theorem execRemoteAckCommand_touch {M : Nat} {s₀ s : State} {a0 a1} (m : Sub 0x7ffffffffff15bde2f0 M) (h : Touch M s₀ s) :
    OutTouch M s₀ (execRemoteAckCommand a0 a1 s) := by
  unfold execRemoteAckCommand
  repeat' with_reducible first
    | assumption | apply OutTouch.next
    | refine hostWord_touch (m.trans (by decide +kernel)) (fun _ _ _ => ?_) ?_ | refine hostWord_any_touch (m.trans (by decide +kernel)) (fun _ _ _ => ?_) ?_
    | refine actRackCmd_touch (m.trans rfl) ?_

theorem forget_touch {M : Nat} {s₀ s : State} {a0} (m : Sub 0x7ffffffffff00306210 M) (h : Touch M s₀ s) :
    Touch M s₀ (forget a0 s) := by
  unfold forget
  repeat' with_reducible first
    | assumption | refine State.withXnet_touch (m.bit rfl) ?_ | refine stateFollow_touch (m.trans rfl) ?_ | unfold x
    | (extract_lets +onlyGivenNames x; first | (refine Touch.cut (s := x) ?_ (fun _ => ?_); rotate_left; clear_value x) | clear_value x)

theorem actXnetCmd_touch {M : Nat} {s₀ s : State} {a0 a1} (m : Sub 0x7ffffffffff00306210 M) (h : Touch M s₀ s) :
    Touch M s₀ (actXnetCmd a0 a1 s) := by
  unfold actXnetCmd
  repeat' with_reducible first
    | assumption | refine accessFault_touch (m.trans rfl) ?_ | refine forget_touch (m.trans rfl) ?_
    | refine Touch.ite_else ?_ (fun _ => ?_) | split

theorem execForgetNode_touch {M : Nat} {s₀ s : State} {a0 a1} (m : Sub 0x7ffffffffff003062f0 M) (h : Touch M s₀ s) :
    OutTouch M s₀ (execForgetNode a0 a1 s) := by
  unfold execForgetNode
  repeat' with_reducible first
    | assumption | apply OutTouch.next
    | refine hostWord_touch (m.trans (by decide +kernel)) (fun _ _ _ => ?_) ?_ | refine hostWord_any_touch (m.trans (by decide +kernel)) (fun _ _ _ => ?_) ?_
    | refine actXnetCmd_touch (m.trans rfl) ?_ | unfold x
    | (extract_lets +onlyGivenNames x; first | (refine Touch.cut (s := x) ?_ (fun _ => ?_); rotate_left; clear_value x) | clear_value x)

theorem execForgetAllLost_touch {M : Nat} {s₀ s : State} {a0} (m : Sub 0x7ffffffffff003062f0 M) (h : Touch M s₀ s) :
    OutTouch M s₀ (execForgetAllLost a0 s) := by
  unfold execForgetAllLost
  repeat' with_reducible first
    | assumption | apply OutTouch.next
    | refine hostWord_touch (m.trans (by decide +kernel)) (fun _ _ _ => ?_) ?_ | refine hostWord_any_touch (m.trans (by decide +kernel)) (fun _ _ _ => ?_) ?_
    | refine actXnetCmd_touch (m.trans rfl) ?_ | unfold x
    | (extract_lets +onlyGivenNames x; first | (refine Touch.cut (s := x) ?_ (fun _ => ?_); rotate_left; clear_value x) | clear_value x)

theorem rcfgControl_touch {M : Nat} {s₀ s : State} {a0 a1 a2} (m : Sub 0x7ffe0000001003c6210 M) (h : Touch M s₀ s) :
    Touch M s₀ (rcfgControl a0 a1 a2 s) := by
  unfold rcfgControl
  repeat' with_reducible first
    | assumption | refine originateNew_touch (m.trans rfl) ?_ | refine State.withXnet_touch (m.bit rfl) ?_
    | refine put_page_touch (m.trans (by decide +kernel)) ?_ | refine put_ch_touch (m.trans (by decide +kernel)) ?_ | refine put_idx_touch (m.trans (by decide +kernel)) ?_ | refine put_host_touch (m.trans (by decide +kernel)) ?_ | refine put_pll_touch (m.trans (by decide +kernel)) ?_ | refine put_master_touch (m.trans (by decide +kernel)) ?_ | refine put_closed_touch (m.trans (by decide +kernel)) ?_ | refine State.put_touch (m.trans (by decide +kernel)) ?_ | refine put_any_touch (m.trans (by decide +kernel)) ?_
    | unfold x
    | (extract_lets +onlyGivenNames x; first | (refine Touch.cut (s := x) ?_ (fun _ => ?_); rotate_left; clear_value x) | clear_value x)
    | split

theorem rcfgStart_touch {M : Nat} {s₀ s : State} {a0 a1 a2} (m : Sub 0x7ffe0000003003c6210 M) (h : Touch M s₀ s) :
    Touch M s₀ (rcfgStart a0 a1 a2 s) := by
  unfold rcfgStart
  repeat' with_reducible first
    | assumption | refine State.withXnet_touch (m.bit rfl) ?_
    | refine put_page_touch (m.trans (by decide +kernel)) ?_ | refine put_ch_touch (m.trans (by decide +kernel)) ?_ | refine put_idx_touch (m.trans (by decide +kernel)) ?_ | refine put_host_touch (m.trans (by decide +kernel)) ?_ | refine put_pll_touch (m.trans (by decide +kernel)) ?_ | refine put_master_touch (m.trans (by decide +kernel)) ?_ | refine put_closed_touch (m.trans (by decide +kernel)) ?_ | refine State.put_touch (m.trans (by decide +kernel)) ?_ | refine put_any_touch (m.trans (by decide +kernel)) ?_
    | refine xferDone_touch (m.trans rfl) ?_ | refine accessFault_touch (m.trans rfl) ?_
    | refine rcfgControl_touch (m.trans rfl) ?_ | refine Touch.ite_else ?_ (fun _ => ?_) | unfold x
    | (extract_lets +onlyGivenNames x; first | (refine Touch.cut (s := x) ?_ (fun _ => ?_); rotate_left; clear_value x) | clear_value x)
    | split

theorem rcfgFlush_touch {M : Nat} {s₀ s : State} (m : Sub 0x7ffe0000001003c6210 M) (h : Touch M s₀ s) :
    Touch M s₀ (rcfgFlush s) := by
  unfold rcfgFlush
  repeat' with_reducible first
    | assumption | refine originateNew_touch (m.trans rfl) ?_ | refine State.withXnet_touch (m.bit rfl) ?_
    | refine put_page_touch (m.trans (by decide +kernel)) ?_ | refine put_ch_touch (m.trans (by decide +kernel)) ?_ | refine put_idx_touch (m.trans (by decide +kernel)) ?_ | refine put_host_touch (m.trans (by decide +kernel)) ?_ | refine put_pll_touch (m.trans (by decide +kernel)) ?_ | refine put_master_touch (m.trans (by decide +kernel)) ?_ | refine put_closed_touch (m.trans (by decide +kernel)) ?_ | refine State.put_touch (m.trans (by decide +kernel)) ?_ | refine put_any_touch (m.trans (by decide +kernel)) ?_
    | refine Touch.ite_else ?_ (fun _ => ?_) | unfold x
    | (extract_lets +onlyGivenNames x; first | (refine Touch.cut (s := x) ?_ (fun _ => ?_); rotate_left; clear_value x) | clear_value x)
    | split

theorem actRcfgCtl_touch {M : Nat} {s₀ s : State} {a0 a1} (m : Sub 0x7ffe0000003003c6210 M) (h : Touch M s₀ s) :
    Touch M s₀ (actRcfgCtl a0 a1 s) := by
  unfold actRcfgCtl
  repeat' with_reducible first
    | assumption | refine rcfgFlush_touch (m.trans rfl) ?_ | refine rcfgStart_touch (m.trans rfl) ?_
    | refine accessFault_touch (m.trans rfl) ?_ | refine rcfgControl_touch (m.trans rfl) ?_
    | refine Touch.ite_else ?_ (fun _ => ?_) | unfold x
    | (extract_lets +onlyGivenNames x; first | (refine Touch.cut (s := x) ?_ (fun _ => ?_); rotate_left; clear_value x) | clear_value x)
    | split

theorem hostRcfg_touch {M : Nat} {s₀ s : State} {a0 a1} (m : Sub 0x7ffe0000003003c62f0 M) (h : Touch M s₀ s) :
    Touch M s₀ (hostRcfg a0 a1 s) := by
  unfold hostRcfg
  repeat' with_reducible first
    | assumption
    | refine hostWord_touch (m.trans (by decide +kernel)) (fun _ _ _ => ?_) ?_ | refine hostWord_any_touch (m.trans (by decide +kernel)) (fun _ _ _ => ?_) ?_
    | refine actRcfgCtl_touch (m.trans rfl) ?_

theorem execRcfgBegin_touch {M : Nat} {s₀ s : State} {a0 a1} (m : Sub 0x7ffe0000003003c62f0 M) (h : Touch M s₀ s) :
    OutTouch M s₀ (execRcfgBegin a0 a1 s) := by
  unfold execRcfgBegin
  repeat' with_reducible first
    | assumption | apply OutTouch.next | refine hostRcfg_touch (m.trans rfl) ?_

theorem execRcfgStage_touch {M : Nat} {s₀ s : State} {a0 a1 a2} (m : Sub 0x7ffe0000003003c62f0 M) (h : Touch M s₀ s) :
    OutTouch M s₀ (execRcfgStage a0 a1 a2 s) := by
  unfold execRcfgStage
  repeat' with_reducible first
    | assumption | apply OutTouch.next | refine hostRcfg_touch (m.trans rfl) ?_

theorem execRcfgEnd_touch {M : Nat} {s₀ s : State} {a0 a1} (m : Sub 0x7ffe0000003003c62f0 M) (h : Touch M s₀ s) :
    OutTouch M s₀ (execRcfgEnd a0 a1 s) := by
  unfold execRcfgEnd
  repeat' with_reducible first
    | assumption | apply OutTouch.next | refine hostRcfg_touch (m.trans rfl) ?_

theorem execRcfgAbort_touch {M : Nat} {s₀ s : State} {a0 a1} (m : Sub 0x7ffe0000003003c62f0 M) (h : Touch M s₀ s) :
    OutTouch M s₀ (execRcfgAbort a0 a1 s) := by
  unfold execRcfgAbort
  repeat' with_reducible first
    | assumption | apply OutTouch.next | refine hostRcfg_touch (m.trans rfl) ?_

theorem execRcfgInstall_touch {M : Nat} {s₀ s : State} {a0 a1 a2} (m : Sub 0x7ffe0000003003c62f0 M) (h : Touch M s₀ s) :
    OutTouch M s₀ (execRcfgInstall a0 a1 a2 s) := by
  unfold execRcfgInstall
  repeat' with_reducible first
    | assumption | apply OutTouch.next | refine hostRcfg_touch (m.trans rfl) ?_

theorem actRcfgData_touch {M : Nat} {s₀ s : State} {a0 a1} (m : Sub 0x7ffe0000003003c6210 M) (h : Touch M s₀ s) :
    Touch M s₀ (actRcfgData a0 a1 s) := by
  unfold actRcfgData
  repeat' with_reducible first
    | assumption | refine State.withXnet_touch (m.bit rfl) ?_ | refine rcfgFlush_touch (m.trans rfl) ?_
    | refine accessFault_touch (m.trans rfl) ?_ | refine Touch.ite_else ?_ (fun _ => ?_) | unfold x
    | (extract_lets +onlyGivenNames x; first | (refine Touch.cut (s := x) ?_ (fun _ => ?_); rotate_left; clear_value x) | clear_value x)
    | split

theorem execRcfgData_touch {M : Nat} {s₀ s : State} {a0 a1} (m : Sub 0x7ffe0000003003c62f0 M) (h : Touch M s₀ s) :
    OutTouch M s₀ (execRcfgData a0 a1 s) := by
  unfold execRcfgData
  repeat' with_reducible first
    | assumption | apply OutTouch.next
    | refine hostWord_touch (m.trans (by decide +kernel)) (fun _ _ _ => ?_) ?_ | refine hostWord_any_touch (m.trans (by decide +kernel)) (fun _ _ _ => ?_) ?_
    | refine actRcfgData_touch (m.trans rfl) ?_

theorem execRcfgResultReceive_touch {M : Nat} {s₀ s : State} {a0} (m : Sub 0x7ffffffffff35bfe290 M) (h : Touch M s₀ s) :
    OutTouch M s₀ (execRcfgResultReceive a0 s) := by
  unfold execRcfgResultReceive
  repeat' with_reducible first
    | assumption | apply OutTouch.next | refine handDown_touch (m.trans rfl) ?_
    | refine Touch.ite_else ?_ (fun _ => ?_) | split

theorem rcfgTimeout_touch {M : Nat} {s₀ s : State} (m : Sub 0x10c000000100306210 M) (h : Touch M s₀ s) :
    Touch M s₀ (rcfgTimeout s) := by
  unfold rcfgTimeout
  repeat' with_reducible first
    | assumption | refine xferDone_touch (m.trans rfl) ?_ | refine Touch.ite_else ?_ (fun _ => ?_) | split

theorem execRcfgTimeout_touch {M : Nat} {s₀ s : State} (m : Sub 0x10c000000100306210 M) (h : Touch M s₀ s) :
    OutTouch M s₀ (execRcfgTimeout s) := by
  unfold execRcfgTimeout
  repeat' with_reducible first
    | assumption | apply OutTouch.next | refine rcfgTimeout_touch (m.trans rfl) ?_

theorem execConfigFrameReceive_touch {M : Nat} {s₀ s : State} {a0 a2} (m : Sub 0x7ffffffffff35bfe290 M) (h : Touch M s₀ s) :
    OutTouch M s₀ (execConfigFrameReceive a0 s a2) := by
  unfold execConfigFrameReceive
  repeat' with_reducible first
    | assumption | apply OutTouch.next | refine noteEndRead_touch (m.trans rfl) ?_
    | refine handDown_touch (m.trans rfl) ?_ | refine Touch.ite_else ?_ (fun _ => ?_) | split

theorem imgErased_touch {M : Nat} {s₀ s : State} {a0} (m : Sub 0x7ffe1000005103e6210 M) (h : Touch M s₀ s) :
    Touch M s₀ (imgErased a0 s) := by
  unfold imgErased
  repeat' with_reducible first
    | assumption | refine xferLog_touch (m.trans rfl) ?_ | refine eraseDone_touch (m.trans rfl) ?_
    | refine setXferIn_touch (m.trans rfl) ?_ | refine xferReply_touch (m.trans rfl) ?_
    | refine Touch.ite_else ?_ (fun _ => ?_) | unfold x
    | (extract_lets +onlyGivenNames x; first | (refine Touch.cut (s := x) ?_ (fun _ => ?_); rotate_left; clear_value x) | clear_value x)
    | split

theorem execImgEraseDone_touch {M : Nat} {s₀ s : State} {a0} (m : Sub 0x7ffe1000005103e6210 M) (h : Touch M s₀ s) :
    OutTouch M s₀ (execImgEraseDone a0 s) := by
  unfold execImgEraseDone
  repeat' with_reducible first
    | assumption | apply OutTouch.next | refine imgErased_touch (m.trans rfl) ?_

theorem ttInstalled_touch {M : Nat} {s₀ s : State} (m : Sub 0x7ffe1000001103e6210 M) (h : Touch M s₀ s) :
    Touch M s₀ (ttInstalled s) := by
  unfold ttInstalled
  repeat' with_reducible first
    | assumption | refine xferLog_touch (m.trans rfl) ?_ | refine installDone_touch (m.trans rfl) ?_
    | refine setXferIn_touch (m.trans rfl) ?_ | refine xferReply_touch (m.trans rfl) ?_
    | refine Touch.ite_else ?_ (fun _ => ?_) | unfold x
    | (extract_lets +onlyGivenNames x; first | (refine Touch.cut (s := x) ?_ (fun _ => ?_); rotate_left; clear_value x) | clear_value x)
    | split

theorem execTtInstallDone_touch {M : Nat} {s₀ s : State} (m : Sub 0x7ffe1000001103e6210 M) (h : Touch M s₀ s) :
    OutTouch M s₀ (execTtInstallDone s) := by
  unfold execTtInstallDone
  repeat' with_reducible first
    | assumption | apply OutTouch.next | refine ttInstalled_touch (m.trans rfl) ?_

end Sys2Proof.Machine
end

