-- ==== Sys2Proof/Laws/TouchOwnership.lean ====
section
/-!
SUPPORT. What the definitions of Machine/Ownership.lean touch.
-/

set_option Elab.async false
set_option linter.all false

namespace Sys2Proof.Machine

theorem bothHosts_touch {M : Nat} {s₀ s : State} {a0} (m : Sub 0x108000000100206210 M) (h : Touch M s₀ s) :
    Touch M s₀ (bothHosts a0 s) := by
  unfold bothHosts
  repeat' with_reducible first
    | assumption | refine raise_touch (m.trans rfl) ?_

theorem putClaim_touch {M : Nat} {s₀ s : State} {a0} (m : Sub 0x30800001010 M) (h : Touch M s₀ s) :
    Touch M s₀ (putClaim a0 s) := by
  unfold putClaim
  repeat' with_reducible first
    | assumption | refine State.putFlag_touch ?_ | refine State.withOwn_touch (m.bit rfl) ?_
    | refine put_page_touch (m.trans (by decide +kernel)) ?_ | refine put_ch_touch (m.trans (by decide +kernel)) ?_ | refine put_idx_touch (m.trans (by decide +kernel)) ?_ | refine put_host_touch (m.trans (by decide +kernel)) ?_ | refine put_pll_touch (m.trans (by decide +kernel)) ?_ | refine put_master_touch (m.trans (by decide +kernel)) ?_ | refine put_closed_touch (m.trans (by decide +kernel)) ?_ | refine State.put_touch (m.trans (by decide +kernel)) ?_ | refine put_any_touch (m.trans (by decide +kernel)) ?_
    | refine Touch.ite_else ?_ (fun _ => ?_) | unfold x
    | (extract_lets +onlyGivenNames x; first | (refine Touch.cut (s := x) ?_ (fun _ => ?_); rotate_left; clear_value x) | clear_value x)
    | split

theorem claimKept_touch {M : Nat} {s₀ s : State} (m : Sub 0x108000030900207210 M) (h : Touch M s₀ s) :
    Touch M s₀ (claimKept s) := by
  unfold claimKept
  repeat' with_reducible first
    | assumption | refine record_touch (m.trans rfl) ?_ | refine putClaim_touch (m.trans rfl) ?_
    | refine Touch.ite_else ?_ (fun _ => ?_) | split

theorem clearOffer_touch {M : Nat} {s₀ s : State} (m : Sub 0x30800001010 M) (h : Touch M s₀ s) :
    Touch M s₀ (clearOffer s) := by
  unfold clearOffer
  repeat' with_reducible first
    | assumption
    | refine put_page_touch (m.trans (by decide +kernel)) ?_ | refine put_ch_touch (m.trans (by decide +kernel)) ?_ | refine put_idx_touch (m.trans (by decide +kernel)) ?_ | refine put_host_touch (m.trans (by decide +kernel)) ?_ | refine put_pll_touch (m.trans (by decide +kernel)) ?_ | refine put_master_touch (m.trans (by decide +kernel)) ?_ | refine put_closed_touch (m.trans (by decide +kernel)) ?_ | refine State.put_touch (m.trans (by decide +kernel)) ?_ | refine put_any_touch (m.trans (by decide +kernel)) ?_
    | refine State.withOwn_touch (m.bit rfl) ?_ | refine foldl_touch (fun _ _ _ => ?_) ?_ | unfold x
    | (extract_lets +onlyGivenNames x; first | (refine Touch.cut (s := x) ?_ (fun _ => ?_); rotate_left; clear_value x) | clear_value x)

theorem closeOffer_touch {M : Nat} {s₀ s : State} (m : Sub 0x108000030900207210 M) (h : Touch M s₀ s) :
    Touch M s₀ (closeOffer s) := by
  unfold closeOffer
  repeat' with_reducible first
    | assumption | refine bothHosts_touch (m.trans rfl) ?_ | refine clearOffer_touch (m.trans rfl) ?_

theorem ownRefused_touch {M : Nat} {s₀ s : State} {a0} (m : Sub 0x108000000300206210 M) (h : Touch M s₀ s) :
    Touch M s₀ (ownRefused a0 s) := by
  unfold ownRefused
  repeat' with_reducible first
    | assumption | refine raise_touch (m.trans rfl) ?_ | refine accessFault_touch (m.trans rfl) ?_

theorem dropAllStaged_touch {M : Nat} {s₀ s : State} (m : Sub 0x400800090 M) (h : Touch M s₀ s) :
    Touch M s₀ (dropAllStaged s) := by
  unfold dropAllStaged
  repeat' with_reducible first
    | assumption
    | refine put_page_touch (m.trans (by decide +kernel)) ?_ | refine put_ch_touch (m.trans (by decide +kernel)) ?_ | refine put_idx_touch (m.trans (by decide +kernel)) ?_ | refine put_host_touch (m.trans (by decide +kernel)) ?_ | refine put_pll_touch (m.trans (by decide +kernel)) ?_ | refine put_master_touch (m.trans (by decide +kernel)) ?_ | refine put_closed_touch (m.trans (by decide +kernel)) ?_ | refine State.put_touch (m.trans (by decide +kernel)) ?_ | refine put_any_touch (m.trans (by decide +kernel)) ?_
    | refine State.withStaged_touch (m.bit rfl) ?_ | refine State.withOuts_touch (m.bit rfl) ?_
    | refine foldl_touch (fun _ _ _ => ?_) ?_ | unfold x
    | (extract_lets +onlyGivenNames x; first | (refine Touch.cut (s := x) ?_ (fun _ => ?_); rotate_left; clear_value x) | clear_value x)

theorem openRefused_touch {M : Nat} {s₀ s : State} (m : Sub 0x40000300008010 M) (h : Touch M s₀ s) :
    Touch M s₀ (openRefused s) := by
  unfold openRefused
  repeat' with_reducible first
    | assumption
    | refine put_page_touch (m.trans (by decide +kernel)) ?_ | refine put_ch_touch (m.trans (by decide +kernel)) ?_ | refine put_idx_touch (m.trans (by decide +kernel)) ?_ | refine put_host_touch (m.trans (by decide +kernel)) ?_ | refine put_pll_touch (m.trans (by decide +kernel)) ?_ | refine put_master_touch (m.trans (by decide +kernel)) ?_ | refine put_closed_touch (m.trans (by decide +kernel)) ?_ | refine State.put_touch (m.trans (by decide +kernel)) ?_ | refine put_any_touch (m.trans (by decide +kernel)) ?_
    | refine State.withEng_touch (m.bit rfl) ?_ | refine quietRefusal_touch (m.trans rfl) ?_
    | refine Touch.ite_else ?_ (fun _ => ?_) | unfold x
    | (extract_lets +onlyGivenNames x; first | (refine Touch.cut (s := x) ?_ (fun _ => ?_); rotate_left; clear_value x) | clear_value x)
    | split

theorem ownerFollow_touch {M : Nat} {s₀ s : State} (m : Sub 0x7ffffffffff37ade290 M) (h : Touch M s₀ s) :
    Touch M s₀ (ownerFollow s) := by
  unfold ownerFollow
  repeat' with_reducible first
    | assumption | refine openRefused_touch (m.trans rfl) ?_ | refine cfgAbandon_touch (m.trans rfl) ?_
    | refine dropAllStaged_touch (m.trans rfl) ?_ | refine State.setSeg_touch (m.trans rfl) ?_
    | refine closeRange_touch (m.trans rfl) ?_ | refine loadAbandon_touch (m.trans rfl) ?_
    | refine foldl_touch (fun _ _ _ => ?_) ?_ | unfold x
    | (extract_lets +onlyGivenNames x; first | (refine Touch.cut (s := x) ?_ (fun _ => ?_); rotate_left; clear_value x) | clear_value x)

theorem ownerChange_touch {M : Nat} {s₀ s : State} (m : Sub 0x7ffffffffff37adf290 M) (h : Touch M s₀ s) :
    Touch M s₀ (ownerChange s) := by
  unfold ownerChange
  repeat' with_reducible first
    | assumption | refine raise_touch (m.trans rfl) ?_ | refine ownerFollow_touch (m.trans rfl) ?_
    | refine bothHosts_touch (m.trans rfl) ?_
    | refine put_page_touch (m.trans (by decide +kernel)) ?_ | refine put_ch_touch (m.trans (by decide +kernel)) ?_ | refine put_idx_touch (m.trans (by decide +kernel)) ?_ | refine put_host_touch (m.trans (by decide +kernel)) ?_ | refine put_pll_touch (m.trans (by decide +kernel)) ?_ | refine put_master_touch (m.trans (by decide +kernel)) ?_ | refine put_closed_touch (m.trans (by decide +kernel)) ?_ | refine State.put_touch (m.trans (by decide +kernel)) ?_ | refine put_any_touch (m.trans (by decide +kernel)) ?_
    | refine putClaim_touch (m.trans rfl) ?_ | refine clearOffer_touch (m.trans rfl) ?_ | unfold x
    | (extract_lets +onlyGivenNames x; first | (refine Touch.cut (s := x) ?_ (fun _ => ?_); rotate_left; clear_value x) | clear_value x)

theorem ownOffer_touch {M : Nat} {s₀ s : State} {a0} (m : Sub 0x108000030b00207211 M) (h : Touch M s₀ s) :
    Touch M s₀ (ownOffer a0 s) := by
  unfold ownOffer
  repeat' with_reducible first
    | assumption | refine ownRefused_touch (m.trans rfl) ?_ | refine raise_touch (m.trans rfl) ?_
    | refine claimKept_touch (m.trans rfl) ?_
    | refine put_page_touch (m.trans (by decide +kernel)) ?_ | refine put_ch_touch (m.trans (by decide +kernel)) ?_ | refine put_idx_touch (m.trans (by decide +kernel)) ?_ | refine put_host_touch (m.trans (by decide +kernel)) ?_ | refine put_pll_touch (m.trans (by decide +kernel)) ?_ | refine put_master_touch (m.trans (by decide +kernel)) ?_ | refine put_closed_touch (m.trans (by decide +kernel)) ?_ | refine State.put_touch (m.trans (by decide +kernel)) ?_ | refine put_any_touch (m.trans (by decide +kernel)) ?_
    | refine State.withOwn_touch (m.bit rfl) ?_ | refine State.drawKey_touch (m.trans rfl) ?_
    | refine Touch.ite_else ?_ (fun _ => ?_) | unfold x
    | (extract_lets +onlyGivenNames x; first | (refine Touch.cut (s := x) ?_ (fun _ => ?_); rotate_left; clear_value x) | clear_value x)
    | refine Touch.snd ?_ (by assumption) | split

theorem ownClaim_touch {M : Nat} {s₀ s : State} {a0} (m : Sub 0x108000030b00207210 M) (h : Touch M s₀ s) :
    Touch M s₀ (ownClaim a0 s) := by
  unfold ownClaim
  repeat' with_reducible first
    | assumption | refine ownRefused_touch (m.trans rfl) ?_ | refine raise_touch (m.trans rfl) ?_
    | refine putClaim_touch (m.trans rfl) ?_ | refine Touch.ite_else ?_ (fun _ => ?_) | split

theorem actOwn_touch {M : Nat} {s₀ s : State} {a0 a1 a2} (m : Sub 0x108000030b00207211 M) (h : Touch M s₀ s) :
    Touch M s₀ (actOwn a0 a1 a2 s) := by
  unfold actOwn
  repeat' with_reducible first
    | assumption | refine claimKept_touch (m.trans rfl) ?_ | refine ownClaim_touch (m.trans rfl) ?_
    | refine ownOffer_touch (m.trans rfl) ?_ | refine Touch.ite_else ?_ (fun _ => ?_) | unfold x
    | (extract_lets +onlyGivenNames x; first | (refine Touch.cut (s := x) ?_ (fun _ => ?_); rotate_left; clear_value x) | clear_value x)
    | split

theorem execOwnOffer_touch {M : Nat} {s₀ s : State} {a0} (m : Sub 0x108000030b002072f1 M) (h : Touch M s₀ s) :
    OutTouch M s₀ (execOwnOffer a0 s) := by
  unfold execOwnOffer
  repeat' with_reducible first
    | assumption | apply OutTouch.next
    | refine hostWord_touch (m.trans (by decide +kernel)) (fun _ _ _ => ?_) ?_ | refine hostWord_any_touch (m.trans (by decide +kernel)) (fun _ _ _ => ?_) ?_
    | refine actOwn_touch (m.trans rfl) ?_

theorem execOwnClaim_touch {M : Nat} {s₀ s : State} {a0} (m : Sub 0x108000030b002072f1 M) (h : Touch M s₀ s) :
    OutTouch M s₀ (execOwnClaim a0 s) := by
  unfold execOwnClaim
  repeat' with_reducible first
    | assumption | apply OutTouch.next
    | refine hostWord_touch (m.trans (by decide +kernel)) (fun _ _ _ => ?_) ?_ | refine hostWord_any_touch (m.trans (by decide +kernel)) (fun _ _ _ => ?_) ?_
    | refine actOwn_touch (m.trans rfl) ?_

theorem execOwnKeep_touch {M : Nat} {s₀ s : State} {a0} (m : Sub 0x108000030b002072f1 M) (h : Touch M s₀ s) :
    OutTouch M s₀ (execOwnKeep a0 s) := by
  unfold execOwnKeep
  repeat' with_reducible first
    | assumption | apply OutTouch.next
    | refine hostWord_touch (m.trans (by decide +kernel)) (fun _ _ _ => ?_) ?_ | refine hostWord_any_touch (m.trans (by decide +kernel)) (fun _ _ _ => ?_) ?_
    | refine actOwn_touch (m.trans rfl) ?_

theorem actOwnTake_touch {M : Nat} {s₀ s : State} {a0 a1} (m : Sub 0x7ffffffffff37adf290 M) (h : Touch M s₀ s) :
    Touch M s₀ (actOwnTake a0 a1 s) := by
  unfold actOwnTake
  repeat' with_reducible first
    | assumption | refine ownRefused_touch (m.trans rfl) ?_ | refine closeOffer_touch (m.trans rfl) ?_
    | refine ownerChange_touch (m.trans rfl) ?_ | refine State.withOwn_touch (m.bit rfl) ?_
    | refine Touch.ite_else ?_ (fun _ => ?_) | unfold x
    | (extract_lets +onlyGivenNames x; first | (refine Touch.cut (s := x) ?_ (fun _ => ?_); rotate_left; clear_value x) | clear_value x)
    | split

theorem execOwnTake_touch {M : Nat} {s₀ s : State} {a0 a1} (m : Sub 0x7ffffffffff37adf2f0 M) (h : Touch M s₀ s) :
    OutTouch M s₀ (execOwnTake a0 a1 s) := by
  unfold execOwnTake
  repeat' with_reducible first
    | assumption | apply OutTouch.next
    | refine hostWord_touch (m.trans (by decide +kernel)) (fun _ _ _ => ?_) ?_ | refine hostWord_any_touch (m.trans (by decide +kernel)) (fun _ _ _ => ?_) ?_
    | refine actOwnTake_touch (m.trans rfl) ?_

theorem offerTimeout_touch {M : Nat} {s₀ s : State} (m : Sub 0x108000030900207210 M) (h : Touch M s₀ s) :
    Touch M s₀ (offerTimeout s) := by
  unfold offerTimeout
  repeat' with_reducible first
    | assumption | refine closeOffer_touch (m.trans rfl) ?_ | refine Touch.ite_else ?_ (fun _ => ?_) | split

theorem execOfferTimeout_touch {M : Nat} {s₀ s : State} (m : Sub 0x108000030900207210 M) (h : Touch M s₀ s) :
    OutTouch M s₀ (execOfferTimeout s) := by
  unfold execOfferTimeout
  repeat' with_reducible first
    | assumption | apply OutTouch.next | refine offerTimeout_touch (m.trans rfl) ?_

theorem claimTransfer_touch {M : Nat} {s₀ s : State} (m : Sub 0x7ffffffffff37adf290 M) (h : Touch M s₀ s) :
    Touch M s₀ (claimTransfer s) := by
  unfold claimTransfer
  repeat' with_reducible first
    | assumption | refine ownerChange_touch (m.trans rfl) ?_ | refine Touch.ite_else ?_ (fun _ => ?_) | split

theorem execClaimTransfer_touch {M : Nat} {s₀ s : State} (m : Sub 0x7ffffffffff37adf290 M) (h : Touch M s₀ s) :
    OutTouch M s₀ (execClaimTransfer s) := by
  unfold execClaimTransfer
  repeat' with_reducible first
    | assumption | apply OutTouch.next | refine claimTransfer_touch (m.trans rfl) ?_

end Sys2Proof.Machine
end

