-- ==== Sys2Proof/Laws/TouchClocks.lean ====
section
/-!
SUPPORT. What the definitions of Machine/Clocks.lean touch.
-/

set_option Elab.async false
set_option linter.all false

namespace Sys2Proof.Machine

theorem rtcAdvance_touch {M : Nat} {s₀ s : State} {a0} (m : Sub 0x90800000010820621c M) (h : Touch M s₀ s) :
    Touch M s₀ (rtcAdvance a0 s) := by
  unfold rtcAdvance
  repeat' with_reducible first
    | assumption
    | refine put_page_touch (m.trans (by decide +kernel)) ?_ | refine put_ch_touch (m.trans (by decide +kernel)) ?_ | refine put_idx_touch (m.trans (by decide +kernel)) ?_ | refine put_host_touch (m.trans (by decide +kernel)) ?_ | refine put_pll_touch (m.trans (by decide +kernel)) ?_ | refine put_master_touch (m.trans (by decide +kernel)) ?_ | refine put_closed_touch (m.trans (by decide +kernel)) ?_ | refine State.put_touch (m.trans (by decide +kernel)) ?_ | refine put_any_touch (m.trans (by decide +kernel)) ?_
    | refine State.bumpSat_touch ?_ | refine secondBoundary_touch (m.trans rfl) ?_
    | refine addTicks_touch (m.trans rfl) ?_ | refine Touch.ite_else ?_ (fun _ => ?_) | unfold x
    | (extract_lets +onlyGivenNames x; first | (refine Touch.cut (s := x) ?_ (fun _ => ?_); rotate_left; clear_value x) | clear_value x)
    | refine Touch.snd ?_ (by assumption) | split

theorem toLfrc_touch {M : Nat} {s₀ s : State} (m : Sub 0x90800000210820621c M) (h : Touch M s₀ s) :
    Touch M s₀ (toLfrc s) := by
  unfold toLfrc
  repeat' with_reducible first
    | assumption | refine setOsf_touch (m.trans rfl) ?_ | refine rtcAdvance_touch (m.trans rfl) ?_
    | refine put_page_touch (m.trans (by decide +kernel)) ?_ | refine put_ch_touch (m.trans (by decide +kernel)) ?_ | refine put_idx_touch (m.trans (by decide +kernel)) ?_ | refine put_host_touch (m.trans (by decide +kernel)) ?_ | refine put_pll_touch (m.trans (by decide +kernel)) ?_ | refine put_master_touch (m.trans (by decide +kernel)) ?_ | refine put_closed_touch (m.trans (by decide +kernel)) ?_ | refine State.put_touch (m.trans (by decide +kernel)) ?_ | refine put_any_touch (m.trans (by decide +kernel)) ?_
    | refine note_touch (m.trans rfl) ?_ | refine Touch.ite_else ?_ (fun _ => ?_) | unfold x
    | (extract_lets +onlyGivenNames x; first | (refine Touch.cut (s := x) ?_ (fun _ => ?_); rotate_left; clear_value x) | clear_value x)
    | split

theorem execTickSourceToLfrc_touch {M : Nat} {s₀ s : State} (m : Sub 0x90800000210820621c M) (h : Touch M s₀ s) :
    OutTouch M s₀ (execTickSourceToLfrc s) := by
  unfold execTickSourceToLfrc
  repeat' with_reducible first
    | assumption | apply OutTouch.next | refine toLfrc_touch (m.trans rfl) ?_

theorem toLfxo_touch {M : Nat} {s₀ s : State} (m : Sub 0x908000002100206214 M) (h : Touch M s₀ s) :
    Touch M s₀ (toLfxo s) := by
  unfold toLfxo
  repeat' with_reducible first
    | assumption
    | refine put_page_touch (m.trans (by decide +kernel)) ?_ | refine put_ch_touch (m.trans (by decide +kernel)) ?_ | refine put_idx_touch (m.trans (by decide +kernel)) ?_ | refine put_host_touch (m.trans (by decide +kernel)) ?_ | refine put_pll_touch (m.trans (by decide +kernel)) ?_ | refine put_master_touch (m.trans (by decide +kernel)) ?_ | refine put_closed_touch (m.trans (by decide +kernel)) ?_ | refine State.put_touch (m.trans (by decide +kernel)) ?_ | refine put_any_touch (m.trans (by decide +kernel)) ?_
    | refine note_touch (m.trans rfl) ?_ | refine Touch.ite_else ?_ (fun _ => ?_) | split

theorem execTickSourceToLfxo_touch {M : Nat} {s₀ s : State} (m : Sub 0x908000002100206214 M) (h : Touch M s₀ s) :
    OutTouch M s₀ (execTickSourceToLfxo s) := by
  unfold execTickSourceToLfxo
  repeat' with_reducible first
    | assumption | apply OutTouch.next | refine toLfxo_touch (m.trans rfl) ?_

theorem wakeEngine_touch {M : Nat} {s₀ s : State} (m : Sub 0x2108000003100206210 M) (h : Touch M s₀ s) :
    Touch M s₀ (wakeEngine s) := by
  unfold wakeEngine
  repeat' with_reducible first
    | assumption | refine clockFollow_touch (m.trans rfl) ?_
    | refine put_page_touch (m.trans (by decide +kernel)) ?_ | refine put_ch_touch (m.trans (by decide +kernel)) ?_ | refine put_idx_touch (m.trans (by decide +kernel)) ?_ | refine put_host_touch (m.trans (by decide +kernel)) ?_ | refine put_pll_touch (m.trans (by decide +kernel)) ?_ | refine put_master_touch (m.trans (by decide +kernel)) ?_ | refine put_closed_touch (m.trans (by decide +kernel)) ?_ | refine State.put_touch (m.trans (by decide +kernel)) ?_ | refine put_any_touch (m.trans (by decide +kernel)) ?_
    | refine Touch.ite_else ?_ (fun _ => ?_) | split

theorem execEngineWake_touch {M : Nat} {s₀ s : State} (m : Sub 0x2108000003100206210 M) (h : Touch M s₀ s) :
    OutTouch M s₀ (execEngineWake s) := by
  unfold execEngineWake
  repeat' with_reducible first
    | assumption | apply OutTouch.next | refine wakeEngine_touch (m.trans rfl) ?_

theorem changeover_touch {M : Nat} {s₀ s : State} (m : Sub 0x2000000010 M) (h : Touch M s₀ s) :
    Touch M s₀ (changeover s) := by
  unfold changeover
  repeat' with_reducible first
    | assumption
    | refine put_page_touch (m.trans (by decide +kernel)) ?_ | refine put_ch_touch (m.trans (by decide +kernel)) ?_ | refine put_idx_touch (m.trans (by decide +kernel)) ?_ | refine put_host_touch (m.trans (by decide +kernel)) ?_ | refine put_pll_touch (m.trans (by decide +kernel)) ?_ | refine put_master_touch (m.trans (by decide +kernel)) ?_ | refine put_closed_touch (m.trans (by decide +kernel)) ?_ | refine State.put_touch (m.trans (by decide +kernel)) ?_ | refine put_any_touch (m.trans (by decide +kernel)) ?_
    | refine Touch.ite_else ?_ (fun _ => ?_) | split

theorem execEnginePllChangeover_touch {M : Nat} {s₀ s : State} (m : Sub 0x2000000010 M) (h : Touch M s₀ s) :
    OutTouch M s₀ (execEnginePllChangeover s) := by
  unfold execEnginePllChangeover
  repeat' with_reducible first
    | assumption | apply OutTouch.next | refine changeover_touch (m.trans rfl) ?_

theorem dozeEntry_touch {M : Nat} {s₀ s : State} (m : Sub 0x2108000003100206210 M) (h : Touch M s₀ s) :
    Touch M s₀ (dozeEntry s) := by
  unfold dozeEntry
  repeat' with_reducible first
    | assumption | refine clockFollow_touch (m.trans rfl) ?_
    | refine put_page_touch (m.trans (by decide +kernel)) ?_ | refine put_ch_touch (m.trans (by decide +kernel)) ?_ | refine put_idx_touch (m.trans (by decide +kernel)) ?_ | refine put_host_touch (m.trans (by decide +kernel)) ?_ | refine put_pll_touch (m.trans (by decide +kernel)) ?_ | refine put_master_touch (m.trans (by decide +kernel)) ?_ | refine put_closed_touch (m.trans (by decide +kernel)) ?_ | refine State.put_touch (m.trans (by decide +kernel)) ?_ | refine put_any_touch (m.trans (by decide +kernel)) ?_
    | refine Touch.ite_else ?_ (fun _ => ?_) | split

theorem execDozeEntry_touch {M : Nat} {s₀ s : State} (m : Sub 0x2108000003100206210 M) (h : Touch M s₀ s) :
    OutTouch M s₀ (execDozeEntry s) := by
  unfold execDozeEntry
  repeat' with_reducible first
    | assumption | apply OutTouch.next | refine dozeEntry_touch (m.trans rfl) ?_

theorem segsLost_touch {M : Nat} {s₀ s : State} (m : Sub 0x7fffc0000070220e210 M) (h : Touch M s₀ s) :
    Touch M s₀ (segsLost s) := by
  unfold segsLost
  repeat' with_reducible first
    | assumption | refine raise_touch (m.trans rfl) ?_ | refine fbStopAll_touch (m.trans rfl) ?_
    | refine foldl_touch (fun _ _ _ => ?_) ?_ | refine Touch.ite_else ?_ (fun _ => ?_) | unfold x
    | (extract_lets +onlyGivenNames x; first | (refine Touch.cut (s := x) ?_ (fun _ => ?_); rotate_left; clear_value x) | clear_value x)
    | split

theorem hfxoFail_touch {M : Nat} {s₀ s : State} (m : Sub 0x7fffffff02703ece310 M) (h : Touch M s₀ s) :
    Touch M s₀ (hfxoFail s) := by
  unfold hfxoFail
  repeat' with_reducible first
    | assumption | refine hfxoStop_touch (m.trans rfl) ?_ | refine segsLost_touch (m.trans rfl) ?_
    | refine scanLost_touch (m.trans rfl) ?_ | refine record_touch (m.trans rfl) ?_
    | refine put_page_touch (m.trans (by decide +kernel)) ?_ | refine put_ch_touch (m.trans (by decide +kernel)) ?_ | refine put_idx_touch (m.trans (by decide +kernel)) ?_ | refine put_host_touch (m.trans (by decide +kernel)) ?_ | refine put_pll_touch (m.trans (by decide +kernel)) ?_ | refine put_master_touch (m.trans (by decide +kernel)) ?_ | refine put_closed_touch (m.trans (by decide +kernel)) ?_ | refine State.put_touch (m.trans (by decide +kernel)) ?_ | refine put_any_touch (m.trans (by decide +kernel)) ?_
    | refine mark_touch (m.trans rfl) ?_ | refine portsDisable_touch (m.trans rfl) ?_
    | refine callSettle_touch (m.trans rfl) ?_ | refine Touch.ite_else ?_ (fun _ => ?_) | unfold x
    | (extract_lets +onlyGivenNames x; first | (refine Touch.cut (s := x) ?_ (fun _ => ?_); rotate_left; clear_value x) | clear_value x)
    | split

theorem execHfxoFail_touch {M : Nat} {s₀ s : State} (m : Sub 0x7fffffff02703ece310 M) (h : Touch M s₀ s) :
    OutTouch M s₀ (execHfxoFail s) := by
  unfold execHfxoFail
  repeat' with_reducible first
    | assumption | apply OutTouch.next | refine hfxoFail_touch (m.trans rfl) ?_

theorem hfxoRetry_touch {M : Nat} {s₀ s : State} {a0} (m : Sub 0x7fffc0000370228e310 M) (h : Touch M s₀ s) :
    Touch M s₀ (hfxoRetry a0 s) := by
  unfold hfxoRetry
  repeat' with_reducible first
    | assumption | refine clockFollow_touch (m.trans rfl) ?_ | refine portsEnable_touch (m.trans rfl) ?_
    | refine record_touch (m.trans rfl) ?_
    | refine put_page_touch (m.trans (by decide +kernel)) ?_ | refine put_ch_touch (m.trans (by decide +kernel)) ?_ | refine put_idx_touch (m.trans (by decide +kernel)) ?_ | refine put_host_touch (m.trans (by decide +kernel)) ?_ | refine put_pll_touch (m.trans (by decide +kernel)) ?_ | refine put_master_touch (m.trans (by decide +kernel)) ?_ | refine put_closed_touch (m.trans (by decide +kernel)) ?_ | refine State.put_touch (m.trans (by decide +kernel)) ?_ | refine put_any_touch (m.trans (by decide +kernel)) ?_
    | refine mark_touch (m.trans rfl) ?_ | refine State.putFlag_touch ?_ | refine convWake_touch (m.trans rfl) ?_
    | refine fbJoinAll_touch (m.trans rfl) ?_ | refine hfxoStart_touch (m.trans rfl) ?_
    | refine Touch.ite_else ?_ (fun _ => ?_) | unfold x
    | (extract_lets +onlyGivenNames x; first | (refine Touch.cut (s := x) ?_ (fun _ => ?_); rotate_left; clear_value x) | clear_value x)
    | split

theorem execHfxoRetry_touch {M : Nat} {s₀ s : State} {a0} (m : Sub 0x7fffc0000370228e310 M) (h : Touch M s₀ s) :
    OutTouch M s₀ (execHfxoRetry a0 s) := by
  unfold execHfxoRetry
  repeat' with_reducible first
    | assumption | apply OutTouch.next | refine hfxoRetry_touch (m.trans rfl) ?_

theorem frcRetrim_touch {M : Nat} {s₀ s : State} (m : Sub 0x2000000010 M) (h : Touch M s₀ s) :
    Touch M s₀ (frcRetrim s) := by
  unfold frcRetrim
  repeat' with_reducible first
    | assumption
    | refine put_page_touch (m.trans (by decide +kernel)) ?_ | refine put_ch_touch (m.trans (by decide +kernel)) ?_ | refine put_idx_touch (m.trans (by decide +kernel)) ?_ | refine put_host_touch (m.trans (by decide +kernel)) ?_ | refine put_pll_touch (m.trans (by decide +kernel)) ?_ | refine put_master_touch (m.trans (by decide +kernel)) ?_ | refine put_closed_touch (m.trans (by decide +kernel)) ?_ | refine State.put_touch (m.trans (by decide +kernel)) ?_ | refine put_any_touch (m.trans (by decide +kernel)) ?_
    | refine Touch.ite_else ?_ (fun _ => ?_) | split

theorem execFrcRetrim_touch {M : Nat} {s₀ s : State} (m : Sub 0x2000000010 M) (h : Touch M s₀ s) :
    OutTouch M s₀ (execFrcRetrim s) := by
  unfold execFrcRetrim
  repeat' with_reducible first
    | assumption | apply OutTouch.next | refine frcRetrim_touch (m.trans rfl) ?_

theorem pllLock_touch {M : Nat} {s₀ s : State} {a0} (m : Sub 0x7fffc00002702088110 M) (h : Touch M s₀ s) :
    Touch M s₀ (pllLock a0 s) := by
  unfold pllLock
  repeat' with_reducible first
    | assumption | refine portsEnable_touch (m.trans rfl) ?_
    | refine put_page_touch (m.trans (by decide +kernel)) ?_ | refine put_ch_touch (m.trans (by decide +kernel)) ?_ | refine put_idx_touch (m.trans (by decide +kernel)) ?_ | refine put_host_touch (m.trans (by decide +kernel)) ?_ | refine put_pll_touch (m.trans (by decide +kernel)) ?_ | refine put_master_touch (m.trans (by decide +kernel)) ?_ | refine put_closed_touch (m.trans (by decide +kernel)) ?_ | refine State.put_touch (m.trans (by decide +kernel)) ?_ | refine put_any_touch (m.trans (by decide +kernel)) ?_
    | refine fbJoinAll_touch (m.trans rfl) ?_ | refine Touch.ite_else ?_ (fun _ => ?_) | unfold x
    | (extract_lets +onlyGivenNames x; first | (refine Touch.cut (s := x) ?_ (fun _ => ?_); rotate_left; clear_value x) | clear_value x)
    | split

theorem execPllLock_touch {M : Nat} {s₀ s : State} {a0} (m : Sub 0x7fffc00002702088110 M) (h : Touch M s₀ s) :
    OutTouch M s₀ (execPllLock a0 s) := by
  unfold execPllLock
  repeat' with_reducible first
    | assumption | apply OutTouch.next | refine pllLock_touch (m.trans rfl) ?_

theorem pllUnlock_touch {M : Nat} {s₀ s : State} {a0} (m : Sub 0x7fffffff02703ece310 M) (h : Touch M s₀ s) :
    Touch M s₀ (pllUnlock a0 s) := by
  unfold pllUnlock
  repeat' with_reducible first
    | assumption | refine segsLost_touch (m.trans rfl) ?_ | refine scanLost_touch (m.trans rfl) ?_
    | refine record_touch (m.trans rfl) ?_
    | refine put_page_touch (m.trans (by decide +kernel)) ?_ | refine put_ch_touch (m.trans (by decide +kernel)) ?_ | refine put_idx_touch (m.trans (by decide +kernel)) ?_ | refine put_host_touch (m.trans (by decide +kernel)) ?_ | refine put_pll_touch (m.trans (by decide +kernel)) ?_ | refine put_master_touch (m.trans (by decide +kernel)) ?_ | refine put_closed_touch (m.trans (by decide +kernel)) ?_ | refine State.put_touch (m.trans (by decide +kernel)) ?_ | refine put_any_touch (m.trans (by decide +kernel)) ?_
    | refine mark_touch (m.trans rfl) ?_ | refine portsDisable_touch (m.trans rfl) ?_
    | refine callSettle_touch (m.trans rfl) ?_ | refine Touch.ite_else ?_ (fun _ => ?_) | unfold x
    | (extract_lets +onlyGivenNames x; first | (refine Touch.cut (s := x) ?_ (fun _ => ?_); rotate_left; clear_value x) | clear_value x)
    | split

theorem execPllUnlock_touch {M : Nat} {s₀ s : State} {a0} (m : Sub 0x7fffffff02703ece310 M) (h : Touch M s₀ s) :
    OutTouch M s₀ (execPllUnlock a0 s) := by
  unfold execPllUnlock
  repeat' with_reducible first
    | assumption | apply OutTouch.next | refine pllUnlock_touch (m.trans rfl) ?_

theorem hfxoPrestart_touch {M : Nat} {s₀ s : State} (m : Sub 0x2000000010 M) (h : Touch M s₀ s) :
    Touch M s₀ (hfxoPrestart s) := by
  unfold hfxoPrestart
  repeat' with_reducible first
    | assumption | refine hfxoStart_touch (m.trans rfl) ?_ | refine Touch.ite_else ?_ (fun _ => ?_) | split

theorem execHfxoPrestart_touch {M : Nat} {s₀ s : State} (m : Sub 0x2000000010 M) (h : Touch M s₀ s) :
    OutTouch M s₀ (execHfxoPrestart s) := by
  unfold execHfxoPrestart
  repeat' with_reducible first
    | assumption | apply OutTouch.next | refine hfxoPrestart_touch (m.trans rfl) ?_

theorem burstBoundary_touch {M : Nat} {s₀ s : State} (m : Sub 0x7fffffff03703ece310 M) (h : Touch M s₀ s) :
    Touch M s₀ (burstBoundary s) := by
  unfold burstBoundary
  repeat' with_reducible first
    | assumption | refine burstStart_touch (m.trans rfl) ?_ | refine hfxoFail_touch (m.trans rfl) ?_
    | refine put_page_touch (m.trans (by decide +kernel)) ?_ | refine put_ch_touch (m.trans (by decide +kernel)) ?_ | refine put_idx_touch (m.trans (by decide +kernel)) ?_ | refine put_host_touch (m.trans (by decide +kernel)) ?_ | refine put_pll_touch (m.trans (by decide +kernel)) ?_ | refine put_master_touch (m.trans (by decide +kernel)) ?_ | refine put_closed_touch (m.trans (by decide +kernel)) ?_ | refine State.put_touch (m.trans (by decide +kernel)) ?_ | refine put_any_touch (m.trans (by decide +kernel)) ?_
    | refine atBoundary_touch (m.trans rfl) ?_ | refine Touch.ite_else ?_ (fun _ => ?_) | unfold x
    | (extract_lets +onlyGivenNames x; first | (refine Touch.cut (s := x) ?_ (fun _ => ?_); rotate_left; clear_value x) | clear_value x)
    | split

theorem execBurstStart_touch {M : Nat} {s₀ s : State} (m : Sub 0x7fffffff03703ece310 M) (h : Touch M s₀ s) :
    OutTouch M s₀ (execBurstStart s) := by
  unfold execBurstStart
  repeat' with_reducible first
    | assumption | apply OutTouch.next | refine burstBoundary_touch (m.trans rfl) ?_

theorem actClkCtl_touch {M : Nat} {s₀ s : State} {a0 a1 a2} (m : Sub 0x21080000021002062f0 M) (h : Touch M s₀ s) :
    Touch M s₀ (actClkCtl a0 a1 a2 s) := by
  unfold actClkCtl
  repeat' with_reducible first
    | assumption | refine clockFollow_touch (m.trans rfl) ?_
    | refine storeFields_touch (m.trans (by decide +kernel)) ?_ | refine storeFields_any_touch (m.trans (by decide +kernel)) ?_

end Sys2Proof.Machine
end

