-- ==== Sys2Proof/Laws/TouchPower.lean ====
section
/-!
SUPPORT. What the definitions of Machine/Power.lean touch.
-/

set_option Elab.async false
set_option linter.all false

namespace Sys2Proof.Machine

theorem tideTick_touch {M : Nat} {s₀ s : State} {a0 a1} (m : Sub 0x7ffe009006105ace218 M) (h : Touch M s₀ s) :
    Touch M s₀ (tideTick a0 a1 s) := by
  unfold tideTick
  repeat' with_reducible first
    | assumption | refine dioTick_touch (m.trans rfl) ?_ | refine engineTick_touch (m.trans rfl) ?_
    | refine State.withPwr_touch (m.bit rfl) ?_ | refine callTick_touch (m.trans rfl) ?_
    | refine put_page_touch (m.trans (by decide +kernel)) ?_ | refine put_ch_touch (m.trans (by decide +kernel)) ?_ | refine put_idx_touch (m.trans (by decide +kernel)) ?_ | refine put_host_touch (m.trans (by decide +kernel)) ?_ | refine put_pll_touch (m.trans (by decide +kernel)) ?_ | refine put_master_touch (m.trans (by decide +kernel)) ?_ | refine put_closed_touch (m.trans (by decide +kernel)) ?_ | refine State.put_touch (m.trans (by decide +kernel)) ?_ | refine put_any_touch (m.trans (by decide +kernel)) ?_
    | refine panelTick_touch (m.trans rfl) ?_ | refine State.putFlag_touch ?_
    | refine safePointsTick_touch (m.trans rfl) ?_ | refine bucketsTick_touch (m.trans rfl) ?_
    | refine callSettle_touch (m.trans rfl) ?_ | refine Touch.ite_else ?_ (fun _ => ?_) | unfold x
    | (extract_lets +onlyGivenNames x; first | (refine Touch.cut (s := x) ?_ (fun _ => ?_); rotate_left; clear_value x) | clear_value x)
    | split

theorem execTideTick_touch {M : Nat} {s₀ s : State} {a1 a2} (m : Sub 0x7ffe009006105ace218 M) (h : Touch M s₀ s) :
    OutTouch M s₀ (execTideTick s a1 a2) := by
  unfold execTideTick
  repeat' with_reducible first
    | assumption | apply OutTouch.next | refine tideTick_touch (m.trans rfl) ?_

theorem mirrorSvc_touch {M : Nat} {s₀ s : State} {a0} (m : Sub 0x400000018 M) (h : Touch M s₀ s) :
    Touch M s₀ (mirrorSvc a0 s) := by
  unfold mirrorSvc
  repeat' with_reducible first
    | assumption | refine State.withPwr_touch (m.bit rfl) ?_ | refine mramWritten_touch (m.trans rfl) ?_
    | refine Touch.ite_else ?_ (fun _ => ?_) | unfold x
    | (extract_lets +onlyGivenNames x; first | (refine Touch.cut (s := x) ?_ (fun _ => ?_); rotate_left; clear_value x) | clear_value x)
    | split

theorem mirrorNow_touch {M : Nat} {s₀ s : State} {a0} (m : Sub 0x1400000018 M) (h : Touch M s₀ s) :
    Touch M s₀ (mirrorNow a0 s) := by
  unfold mirrorNow
  repeat' with_reducible first
    | assumption | refine mirrorSvc_touch (m.trans rfl) ?_ | refine State.putFlag_touch ?_
    | refine put_page_touch (m.trans (by decide +kernel)) ?_ | refine put_ch_touch (m.trans (by decide +kernel)) ?_ | refine put_idx_touch (m.trans (by decide +kernel)) ?_ | refine put_host_touch (m.trans (by decide +kernel)) ?_ | refine put_pll_touch (m.trans (by decide +kernel)) ?_ | refine put_master_touch (m.trans (by decide +kernel)) ?_ | refine put_closed_touch (m.trans (by decide +kernel)) ?_ | refine State.put_touch (m.trans (by decide +kernel)) ?_ | refine put_any_touch (m.trans (by decide +kernel)) ?_

theorem mirrorCounters_touch {M : Nat} {s₀ s : State} (m : Sub 0x8008 M) (h : Touch M s₀ s) :
    Touch M s₀ (mirrorCounters s) := by
  unfold mirrorCounters
  repeat' with_reducible first
    | assumption | refine State.withPwr_touch (m.bit rfl) ?_ | refine mirrorSlots_touch (m.trans rfl) ?_
    | refine Touch.ite_else ?_ (fun _ => ?_) | unfold x
    | (extract_lets +onlyGivenNames x; first | (refine Touch.cut (s := x) ?_ (fun _ => ?_); rotate_left; clear_value x) | clear_value x)
    | split

theorem execSvcMirror_touch {M : Nat} {s₀ s : State} {a1} (m : Sub 0x400008018 M) (h : Touch M s₀ s) :
    OutTouch M s₀ (execSvcMirror s a1) := by
  unfold execSvcMirror
  repeat' with_reducible first
    | assumption | apply OutTouch.next | refine mirrorCounters_touch (m.trans rfl) ?_
    | refine mirrorSvc_touch (m.trans rfl) ?_ | refine Touch.ite_else ?_ (fun _ => ?_) | split

theorem avdd5Fail_touch {M : Nat} {s₀ s : State} (m : Sub 0x7fffffff0370060e214 M) (h : Touch M s₀ s) :
    Touch M s₀ (avdd5Fail s) := by
  unfold avdd5Fail
  repeat' with_reducible first
    | assumption | refine supplyRecord_touch (m.trans rfl) ?_ | refine abandonSlots_touch (m.trans rfl) ?_
    | refine put_page_touch (m.trans (by decide +kernel)) ?_ | refine put_ch_touch (m.trans (by decide +kernel)) ?_ | refine put_idx_touch (m.trans (by decide +kernel)) ?_ | refine put_host_touch (m.trans (by decide +kernel)) ?_ | refine put_pll_touch (m.trans (by decide +kernel)) ?_ | refine put_master_touch (m.trans (by decide +kernel)) ?_ | refine put_closed_touch (m.trans (by decide +kernel)) ?_ | refine State.put_touch (m.trans (by decide +kernel)) ?_ | refine put_any_touch (m.trans (by decide +kernel)) ?_
    | refine staleAll_touch (m.trans rfl) ?_ | refine Touch.ite_else ?_ (fun _ => ?_) | unfold x
    | (extract_lets +onlyGivenNames x; first | (refine Touch.cut (s := x) ?_ (fun _ => ?_); rotate_left; clear_value x) | clear_value x)
    | split

theorem execAvdd5Fail_touch {M : Nat} {s₀ s : State} (m : Sub 0x7fffffff0370060e214 M) (h : Touch M s₀ s) :
    OutTouch M s₀ (execAvdd5Fail s) := by
  unfold execAvdd5Fail
  repeat' with_reducible first
    | assumption | apply OutTouch.next | refine avdd5Fail_touch (m.trans rfl) ?_

theorem execAvdd5Recover_touch {M : Nat} {s₀ s : State} (m : Sub 0x108000003100206214 M) (h : Touch M s₀ s) :
    OutTouch M s₀ (execAvdd5Recover s) := by
  unfold execAvdd5Recover
  repeat' with_reducible first
    | assumption | apply OutTouch.next | refine supplyRecord_touch (m.trans rfl) ?_
    | refine put_page_touch (m.trans (by decide +kernel)) ?_ | refine put_ch_touch (m.trans (by decide +kernel)) ?_ | refine put_idx_touch (m.trans (by decide +kernel)) ?_ | refine put_host_touch (m.trans (by decide +kernel)) ?_ | refine put_pll_touch (m.trans (by decide +kernel)) ?_ | refine put_master_touch (m.trans (by decide +kernel)) ?_ | refine put_closed_touch (m.trans (by decide +kernel)) ?_ | refine State.put_touch (m.trans (by decide +kernel)) ?_ | refine put_any_touch (m.trans (by decide +kernel)) ?_
    | refine convWake_touch (m.trans rfl) ?_ | refine Touch.ite_else ?_ (fun _ => ?_) | split

theorem vfieldFail_touch {M : Nat} {s₀ s : State} (m : Sub 0x7ffe001001121ace314 M) (h : Touch M s₀ s) :
    Touch M s₀ (vfieldFail s) := by
  unfold vfieldFail
  repeat' with_reducible first
    | assumption | refine supplyRecord_touch (m.trans rfl) ?_ | refine safeVfield_touch (m.trans rfl) ?_
    | refine diInvalid_touch (m.trans rfl) ?_
    | refine put_page_touch (m.trans (by decide +kernel)) ?_ | refine put_ch_touch (m.trans (by decide +kernel)) ?_ | refine put_idx_touch (m.trans (by decide +kernel)) ?_ | refine put_host_touch (m.trans (by decide +kernel)) ?_ | refine put_pll_touch (m.trans (by decide +kernel)) ?_ | refine put_master_touch (m.trans (by decide +kernel)) ?_ | refine put_closed_touch (m.trans (by decide +kernel)) ?_ | refine State.put_touch (m.trans (by decide +kernel)) ?_ | refine put_any_touch (m.trans (by decide +kernel)) ?_
    | refine safeFaultCode_touch (m.trans rfl) ?_ | refine callSettle_touch (m.trans rfl) ?_
    | refine refreshDo_touch (m.trans rfl) ?_ | refine Touch.ite_else ?_ (fun _ => ?_) | unfold x
    | (extract_lets +onlyGivenNames x; first | (refine Touch.cut (s := x) ?_ (fun _ => ?_); rotate_left; clear_value x) | clear_value x)
    | split

theorem execVfieldFail_touch {M : Nat} {s₀ s : State} (m : Sub 0x7ffe001001121ace314 M) (h : Touch M s₀ s) :
    OutTouch M s₀ (execVfieldFail s) := by
  unfold execVfieldFail
  repeat' with_reducible first
    | assumption | apply OutTouch.next | refine vfieldFail_touch (m.trans rfl) ?_

theorem vfieldRecover_touch {M : Nat} {s₀ s : State} (m : Sub 0x7ffe001001121ace314 M) (h : Touch M s₀ s) :
    Touch M s₀ (vfieldRecover s) := by
  unfold vfieldRecover
  repeat' with_reducible first
    | assumption | refine supplyRecord_touch (m.trans rfl) ?_ | refine safeVfield_touch (m.trans rfl) ?_
    | refine put_page_touch (m.trans (by decide +kernel)) ?_ | refine put_ch_touch (m.trans (by decide +kernel)) ?_ | refine put_idx_touch (m.trans (by decide +kernel)) ?_ | refine put_host_touch (m.trans (by decide +kernel)) ?_ | refine put_pll_touch (m.trans (by decide +kernel)) ?_ | refine put_master_touch (m.trans (by decide +kernel)) ?_ | refine put_closed_touch (m.trans (by decide +kernel)) ?_ | refine State.put_touch (m.trans (by decide +kernel)) ?_ | refine put_any_touch (m.trans (by decide +kernel)) ?_
    | refine safeFaultCode_touch (m.trans rfl) ?_ | refine callSettle_touch (m.trans rfl) ?_
    | refine refreshDo_touch (m.trans rfl) ?_ | refine diResume_touch (m.trans rfl) ?_
    | refine Touch.ite_else ?_ (fun _ => ?_) | unfold x
    | (extract_lets +onlyGivenNames x; first | (refine Touch.cut (s := x) ?_ (fun _ => ?_); rotate_left; clear_value x) | clear_value x)
    | split

theorem execVfieldRecover_touch {M : Nat} {s₀ s : State} (m : Sub 0x7ffe001001121ace314 M) (h : Touch M s₀ s) :
    OutTouch M s₀ (execVfieldRecover s) := by
  unfold execVfieldRecover
  repeat' with_reducible first
    | assumption | apply OutTouch.next | refine vfieldRecover_touch (m.trans rfl) ?_

theorem vdd33Warn_touch {M : Nat} {s₀ s : State} {a0} (m : Sub 0x10800000150420621c M) (h : Touch M s₀ s) :
    Touch M s₀ (vdd33Warn a0 s) := by
  unfold vdd33Warn
  repeat' with_reducible first
    | assumption | refine State.withPwr_touch (m.bit rfl) ?_
    | refine put_page_touch (m.trans (by decide +kernel)) ?_ | refine put_ch_touch (m.trans (by decide +kernel)) ?_ | refine put_idx_touch (m.trans (by decide +kernel)) ?_ | refine put_host_touch (m.trans (by decide +kernel)) ?_ | refine put_pll_touch (m.trans (by decide +kernel)) ?_ | refine put_master_touch (m.trans (by decide +kernel)) ?_ | refine put_closed_touch (m.trans (by decide +kernel)) ?_ | refine State.put_touch (m.trans (by decide +kernel)) ?_ | refine put_any_touch (m.trans (by decide +kernel)) ?_
    | refine mramWritten_touch (m.trans rfl) ?_ | refine note_touch (m.trans rfl) ?_
    | refine panelOffAsk_touch (m.trans rfl) ?_ | refine Touch.ite_else ?_ (fun _ => ?_) | unfold x
    | (extract_lets +onlyGivenNames x; first | (refine Touch.cut (s := x) ?_ (fun _ => ?_); rotate_left; clear_value x) | clear_value x)
    | split

theorem execVdd33Warn_touch {M : Nat} {s₀ s : State} {a1} (m : Sub 0x10800000150420621c M) (h : Touch M s₀ s) :
    OutTouch M s₀ (execVdd33Warn s a1) := by
  unfold execVdd33Warn
  repeat' with_reducible first
    | assumption | apply OutTouch.next | refine vdd33Warn_touch (m.trans rfl) ?_

theorem dipEnd_touch {M : Nat} {s₀ s : State} {a0} (m : Sub 0x108000001104206214 M) (h : Touch M s₀ s) :
    Touch M s₀ (dipEnd a0 s) := by
  unfold dipEnd
  repeat' with_reducible first
    | assumption
    | refine put_page_touch (m.trans (by decide +kernel)) ?_ | refine put_ch_touch (m.trans (by decide +kernel)) ?_ | refine put_idx_touch (m.trans (by decide +kernel)) ?_ | refine put_host_touch (m.trans (by decide +kernel)) ?_ | refine put_pll_touch (m.trans (by decide +kernel)) ?_ | refine put_master_touch (m.trans (by decide +kernel)) ?_ | refine put_closed_touch (m.trans (by decide +kernel)) ?_ | refine State.put_touch (m.trans (by decide +kernel)) ?_ | refine put_any_touch (m.trans (by decide +kernel)) ?_
    | refine State.bumpSat_touch ?_ | refine panelStart_touch (m.trans rfl) ?_ | refine note_touch (m.trans rfl) ?_
    | refine Touch.ite_else ?_ (fun _ => ?_) | unfold x
    | (extract_lets +onlyGivenNames x; first | (refine Touch.cut (s := x) ?_ (fun _ => ?_); rotate_left; clear_value x) | clear_value x)
    | split

theorem execDipEnd_touch {M : Nat} {s₀ s : State} {a0} (m : Sub 0x108000001104206214 M) (h : Touch M s₀ s) :
    OutTouch M s₀ (execDipEnd a0 s) := by
  unfold execDipEnd
  repeat' with_reducible first
    | assumption | apply OutTouch.next | refine dipEnd_touch (m.trans rfl) ?_

theorem gateOpen_touch {M : Nat} {s₀ s : State} {a0 a1} (m : Sub 0x7ffe0000015102ee378 M) (h : Touch M s₀ s) :
    Touch M s₀ (gateOpen a0 a1 s) := by
  unfold gateOpen
  repeat' with_reducible first
    | assumption | refine refreshCeil_touch (m.trans rfl) ?_ | refine State.withPwr_touch (m.bit rfl) ?_
    | refine put_page_touch (m.trans (by decide +kernel)) ?_ | refine put_ch_touch (m.trans (by decide +kernel)) ?_ | refine put_idx_touch (m.trans (by decide +kernel)) ?_ | refine put_host_touch (m.trans (by decide +kernel)) ?_ | refine put_pll_touch (m.trans (by decide +kernel)) ?_ | refine put_master_touch (m.trans (by decide +kernel)) ?_ | refine put_closed_touch (m.trans (by decide +kernel)) ?_ | refine State.put_touch (m.trans (by decide +kernel)) ?_ | refine put_any_touch (m.trans (by decide +kernel)) ?_
    | refine norFlush_touch (m.trans rfl) ?_ | refine mirrorSlots_touch (m.trans rfl) ?_
    | refine State.setSlot_touch (m.trans rfl) ?_ | refine mramWritten_touch (m.trans rfl) ?_
    | refine logRestart_touch (m.trans rfl) ?_ | refine ceilKick_touch (m.trans rfl) ?_
    | refine foldl_touch (fun _ _ _ => ?_) ?_ | refine Touch.ite_else ?_ (fun _ => ?_) | unfold x
    | (extract_lets +onlyGivenNames x; first | (refine Touch.cut (s := x) ?_ (fun _ => ?_); rotate_left; clear_value x) | clear_value x)
    | split

theorem execNvmGateOpen_touch {M : Nat} {s₀ s : State} {a1 a2} (m : Sub 0x7ffe0000015102ee378 M) (h : Touch M s₀ s) :
    OutTouch M s₀ (execNvmGateOpen s a1 a2) := by
  unfold execNvmGateOpen
  repeat' with_reducible first
    | assumption | apply OutTouch.next | refine gateOpen_touch (m.trans rfl) ?_

theorem lockout_touch {M : Nat} {s₀ s : State} (m : Sub 0x7ffe001001109ac621c M) (h : Touch M s₀ s) :
    Touch M s₀ (lockout s) := by
  unfold lockout
  repeat' with_reducible first
    | assumption
    | refine put_page_touch (m.trans (by decide +kernel)) ?_ | refine put_ch_touch (m.trans (by decide +kernel)) ?_ | refine put_idx_touch (m.trans (by decide +kernel)) ?_ | refine put_host_touch (m.trans (by decide +kernel)) ?_ | refine put_pll_touch (m.trans (by decide +kernel)) ?_ | refine put_master_touch (m.trans (by decide +kernel)) ?_ | refine put_closed_touch (m.trans (by decide +kernel)) ?_ | refine State.put_touch (m.trans (by decide +kernel)) ?_ | refine put_any_touch (m.trans (by decide +kernel)) ?_
    | refine callSettle_touch (m.trans rfl) ?_ | refine rtcLock_touch (m.trans rfl) ?_
    | refine Touch.ite_else ?_ (fun _ => ?_) | split

theorem execLockout_touch {M : Nat} {s₀ s : State} (m : Sub 0x7ffe001001109ac621c M) (h : Touch M s₀ s) :
    OutTouch M s₀ (execLockout s) := by
  unfold execLockout
  repeat' with_reducible first
    | assumption | apply OutTouch.next | refine lockout_touch (m.trans rfl) ?_

theorem lockoutRelease_touch {M : Nat} {s₀ s : State} (m : Sub 0x1000000018 M) (h : Touch M s₀ s) :
    Touch M s₀ (lockoutRelease s) := by
  unfold lockoutRelease
  repeat' with_reducible first
    | assumption
    | refine put_page_touch (m.trans (by decide +kernel)) ?_ | refine put_ch_touch (m.trans (by decide +kernel)) ?_ | refine put_idx_touch (m.trans (by decide +kernel)) ?_ | refine put_host_touch (m.trans (by decide +kernel)) ?_ | refine put_pll_touch (m.trans (by decide +kernel)) ?_ | refine put_master_touch (m.trans (by decide +kernel)) ?_ | refine put_closed_touch (m.trans (by decide +kernel)) ?_ | refine State.put_touch (m.trans (by decide +kernel)) ?_ | refine put_any_touch (m.trans (by decide +kernel)) ?_
    | refine rtcUnlock_touch (m.trans rfl) ?_ | refine Touch.ite_else ?_ (fun _ => ?_) | split

theorem execLockoutRelease_touch {M : Nat} {s₀ s : State} (m : Sub 0x1000000018 M) (h : Touch M s₀ s) :
    OutTouch M s₀ (execLockoutRelease s) := by
  unfold execLockoutRelease
  repeat' with_reducible first
    | assumption | apply OutTouch.next | refine lockoutRelease_touch (m.trans rfl) ?_

theorem execBackupSwitch_touch {M : Nat} {s₀ s : State} (m : Sub 0xc M) (h : Touch M s₀ s) :
    OutTouch M s₀ (execBackupSwitch s) := by
  unfold execBackupSwitch
  repeat' with_reducible first
    | assumption | apply OutTouch.next | refine State.withPwr_touch (m.bit rfl) ?_
    | refine State.withRst_touch (m.bit rfl) ?_ | refine Touch.ite_else ?_ (fun _ => ?_) | unfold x
    | (extract_lets +onlyGivenNames x; first | (refine Touch.cut (s := x) ?_ (fun _ => ?_); rotate_left; clear_value x) | clear_value x)
    | split

theorem execBackupReturn_touch {M : Nat} {s₀ s : State} (m : Sub 0x8 M) (h : Touch M s₀ s) :
    OutTouch M s₀ (execBackupReturn s) := by
  unfold execBackupReturn
  repeat' with_reducible first
    | assumption | apply OutTouch.next | refine State.withPwr_touch (m.bit rfl) ?_
    | refine Touch.ite_else ?_ (fun _ => ?_) | unfold x
    | (extract_lets +onlyGivenNames x; first | (refine Touch.cut (s := x) ?_ (fun _ => ?_); rotate_left; clear_value x) | clear_value x)
    | split

theorem execAonRetentionLoss_touch {M : Nat} {s₀ s : State} (m : Sub 0x8 M) (h : Touch M s₀ s) :
    OutTouch M s₀ (execAonRetentionLoss s) := by
  unfold execAonRetentionLoss
  repeat' with_reducible first
    | assumption | apply OutTouch.next | refine State.withPwr_touch (m.bit rfl) ?_
    | refine Touch.ite_else ?_ (fun _ => ?_) | unfold x
    | (extract_lets +onlyGivenNames x; first | (refine Touch.cut (s := x) ?_ (fun _ => ?_); rotate_left; clear_value x) | clear_value x)
    | split

theorem vbatCompare_touch {M : Nat} {s₀ s : State} {a0} (m : Sub 0x108000001100206214 M) (h : Touch M s₀ s) :
    Touch M s₀ (vbatCompare a0 s) := by
  unfold vbatCompare
  repeat' with_reducible first
    | assumption
    | refine put_page_touch (m.trans (by decide +kernel)) ?_ | refine put_ch_touch (m.trans (by decide +kernel)) ?_ | refine put_idx_touch (m.trans (by decide +kernel)) ?_ | refine put_host_touch (m.trans (by decide +kernel)) ?_ | refine put_pll_touch (m.trans (by decide +kernel)) ?_ | refine put_master_touch (m.trans (by decide +kernel)) ?_ | refine put_closed_touch (m.trans (by decide +kernel)) ?_ | refine State.put_touch (m.trans (by decide +kernel)) ?_ | refine put_any_touch (m.trans (by decide +kernel)) ?_
    | refine note_touch (m.trans rfl) ?_ | refine Touch.ite_else ?_ (fun _ => ?_) | split

theorem vbatCheck_touch {M : Nat} {s₀ s : State} {a0} (m : Sub 0x108000001100206214 M) (h : Touch M s₀ s) :
    Touch M s₀ (vbatCheck a0 s) := by
  unfold vbatCheck
  repeat' with_reducible first
    | assumption | refine vbatCompare_touch (m.trans rfl) ?_ | refine Touch.ite_else ?_ (fun _ => ?_) | split

theorem execVbatCheck_touch {M : Nat} {s₀ s : State} {a0} (m : Sub 0x108000001100206214 M) (h : Touch M s₀ s) :
    OutTouch M s₀ (execVbatCheck a0 s) := by
  unfold execVbatCheck
  repeat' with_reducible first
    | assumption | apply OutTouch.next | refine vbatCheck_touch (m.trans rfl) ?_

theorem standbyRequest_touch {M : Nat} {s₀ s : State} {a0} (m : Sub 0x108000001300206218 M) (h : Touch M s₀ s) :
    Touch M s₀ (standbyRequest a0 s) := by
  unfold standbyRequest
  repeat' with_reducible first
    | assumption | refine raise_touch (m.trans rfl) ?_ | refine State.withPwr_touch (m.bit rfl) ?_
    | refine put_page_touch (m.trans (by decide +kernel)) ?_ | refine put_ch_touch (m.trans (by decide +kernel)) ?_ | refine put_idx_touch (m.trans (by decide +kernel)) ?_ | refine put_host_touch (m.trans (by decide +kernel)) ?_ | refine put_pll_touch (m.trans (by decide +kernel)) ?_ | refine put_master_touch (m.trans (by decide +kernel)) ?_ | refine put_closed_touch (m.trans (by decide +kernel)) ?_ | refine State.put_touch (m.trans (by decide +kernel)) ?_ | refine put_any_touch (m.trans (by decide +kernel)) ?_
    | refine accessFault_touch (m.trans rfl) ?_ | refine Touch.ite_else ?_ (fun _ => ?_) | unfold x
    | (extract_lets +onlyGivenNames x; first | (refine Touch.cut (s := x) ?_ (fun _ => ?_); rotate_left; clear_value x) | clear_value x)
    | split

theorem actPwrCtl_touch {M : Nat} {s₀ s : State} {a0 a1 a2 a4} (m : Sub 0x1080000017002062f8 M) (h : Touch M s₀ s) :
    Touch M s₀ (actPwrCtl a0 a1 a2 s a4) := by
  unfold actPwrCtl
  repeat' with_reducible first
    | assumption | refine mirrorNow_touch (m.trans rfl) ?_ | refine requestWake_touch (m.trans rfl) ?_
    | refine standbyRequest_touch (m.trans rfl) ?_
    | refine storeFields_touch (m.trans (by decide +kernel)) ?_ | refine storeFields_any_touch (m.trans (by decide +kernel)) ?_
    | refine Touch.ite_else ?_ (fun _ => ?_) | unfold x
    | (extract_lets +onlyGivenNames x; first | (refine Touch.cut (s := x) ?_ (fun _ => ?_); rotate_left; clear_value x) | clear_value x)
    | split

theorem execMirrorNow_touch {M : Nat} {s₀ s : State} {a0 a2} (m : Sub 0x1080000017002062f8 M) (h : Touch M s₀ s) :
    OutTouch M s₀ (execMirrorNow a0 s a2) := by
  unfold execMirrorNow
  repeat' with_reducible first
    | assumption | apply OutTouch.next
    | refine hostWord_touch (m.trans (by decide +kernel)) (fun _ _ _ => ?_) ?_ | refine hostWord_any_touch (m.trans (by decide +kernel)) (fun _ _ _ => ?_) ?_
    | refine actPwrCtl_touch (m.trans rfl) ?_ | unfold x
    | (extract_lets +onlyGivenNames x; first | (refine Touch.cut (s := x) ?_ (fun _ => ?_); rotate_left; clear_value x) | clear_value x)

theorem execStandbyRequest_touch {M : Nat} {s₀ s : State} {a0} (m : Sub 0x1080000017102062f8 M) (h : Touch M s₀ s) :
    OutTouch M s₀ (execStandbyRequest a0 s) := by
  unfold execStandbyRequest
  repeat' with_reducible first
    | assumption | apply OutTouch.next
    | refine hostWord_touch (m.trans (by decide +kernel)) (fun _ _ _ => ?_) ?_ | refine hostWord_any_touch (m.trans (by decide +kernel)) (fun _ _ _ => ?_) ?_
    | refine standbyRequest_touch (m.trans rfl) ?_ | refine State.withTt_touch (m.bit rfl) ?_
    | refine actPwrCtl_touch (m.trans rfl) ?_ | refine Touch.ite_else ?_ (fun _ => ?_) | unfold x
    | (extract_lets +onlyGivenNames x; first | (refine Touch.cut (s := x) ?_ (fun _ => ?_); rotate_left; clear_value x) | clear_value x)
    | split

theorem execStandbyWakeHost_touch {M : Nat} {s₀ s : State} {a0} (m : Sub 0x1080000017002062f8 M) (h : Touch M s₀ s) :
    OutTouch M s₀ (execStandbyWakeHost a0 s) := by
  unfold execStandbyWakeHost
  repeat' with_reducible first
    | assumption | apply OutTouch.next
    | refine hostWord_touch (m.trans (by decide +kernel)) (fun _ _ _ => ?_) ?_ | refine hostWord_any_touch (m.trans (by decide +kernel)) (fun _ _ _ => ?_) ?_
    | refine actPwrCtl_touch (m.trans rfl) ?_ | unfold x
    | (extract_lets +onlyGivenNames x; first | (refine Touch.cut (s := x) ?_ (fun _ => ?_); rotate_left; clear_value x) | clear_value x)

theorem logDrain_touch {M : Nat} {s₀ s : State} (m : Sub 0x7ffe0000005002c6370 M) (h : Touch M s₀ s) :
    Touch M s₀ (logDrain s) := by
  unfold logDrain
  repeat' with_reducible first
    | assumption | refine logWriteHead_touch (m.trans rfl) ?_ | refine mergeRing_touch (m.trans rfl) ?_
    | refine foldl_touch (fun _ _ _ => ?_) ?_ | refine Touch.ite_else ?_ (fun _ => ?_) | unfold x
    | (extract_lets +onlyGivenNames x; first | (refine Touch.cut (s := x) ?_ (fun _ => ?_); rotate_left; clear_value x) | clear_value x)
    | split

theorem leaveCrossing_touch {M : Nat} {s₀ s : State} (m : Sub 0x7ffffffffff00306210 M) (h : Touch M s₀ s) :
    Touch M s₀ (leaveCrossing s) := by
  unfold leaveCrossing
  repeat' with_reducible first
    | assumption | refine State.withXnet_touch (m.bit rfl) ?_
    | refine put_page_touch (m.trans (by decide +kernel)) ?_ | refine put_ch_touch (m.trans (by decide +kernel)) ?_ | refine put_idx_touch (m.trans (by decide +kernel)) ?_ | refine put_host_touch (m.trans (by decide +kernel)) ?_ | refine put_pll_touch (m.trans (by decide +kernel)) ?_ | refine put_master_touch (m.trans (by decide +kernel)) ?_ | refine put_closed_touch (m.trans (by decide +kernel)) ?_ | refine State.put_touch (m.trans (by decide +kernel)) ?_ | refine put_any_touch (m.trans (by decide +kernel)) ?_
    | refine stateFollow_touch (m.trans rfl) ?_ | refine foldl_touch (fun _ _ _ => ?_) ?_ | unfold x
    | (extract_lets +onlyGivenNames x; first | (refine Touch.cut (s := x) ?_ (fun _ => ?_); rotate_left; clear_value x) | clear_value x)

theorem standbyEnter_touch {M : Nat} {s₀ s : State} {a0} (m : Sub 0x7ffffffffff17fde3f8 M) (h : Touch M s₀ s) :
    Touch M s₀ (standbyEnter a0 s) := by
  unfold standbyEnter
  repeat' with_reducible first
    | assumption | refine hfxoStop_touch (m.trans rfl) ?_ | refine sendLeave_touch (m.trans rfl) ?_
    | refine repOff_touch (m.trans rfl) ?_ | refine raise_touch (m.trans rfl) ?_
    | refine State.withPwr_touch (m.bit rfl) ?_ | refine holdWheel_touch (m.trans rfl) ?_
    | refine abandonSlots_touch (m.trans rfl) ?_ | refine fbStopAll_touch (m.trans rfl) ?_
    | refine mirrorCounters_touch (m.trans rfl) ?_
    | refine put_page_touch (m.trans (by decide +kernel)) ?_ | refine put_ch_touch (m.trans (by decide +kernel)) ?_ | refine put_idx_touch (m.trans (by decide +kernel)) ?_ | refine put_host_touch (m.trans (by decide +kernel)) ?_ | refine put_pll_touch (m.trans (by decide +kernel)) ?_ | refine put_master_touch (m.trans (by decide +kernel)) ?_ | refine put_closed_touch (m.trans (by decide +kernel)) ?_ | refine State.put_touch (m.trans (by decide +kernel)) ?_ | refine put_any_touch (m.trans (by decide +kernel)) ?_
    | refine enginePass_touch (m.trans rfl) ?_ | refine portsDisable_touch (m.trans rfl) ?_
    | refine callSettle_touch (m.trans rfl) ?_ | refine mramWritten_touch (m.trans rfl) ?_
    | refine refreshDo_touch (m.trans rfl) ?_ | refine leaveCrossing_touch (m.trans rfl) ?_
    | refine logDrain_touch (m.trans rfl) ?_ | refine State.withOuts_touch (m.bit rfl) ?_
    | refine panelBeacon_touch (m.trans rfl) ?_ | refine Touch.ite_else ?_ (fun _ => ?_) | unfold x
    | (extract_lets +onlyGivenNames x; first | (refine Touch.cut (s := x) ?_ (fun _ => ?_); rotate_left; clear_value x) | clear_value x)
    | split

theorem execStandbyEnter_touch {M : Nat} {s₀ s : State} {a1} (m : Sub 0x7ffffffffff17fde3f8 M) (h : Touch M s₀ s) :
    OutTouch M s₀ (execStandbyEnter s a1) := by
  unfold execStandbyEnter
  repeat' with_reducible first
    | assumption | apply OutTouch.next | refine standbyEnter_touch (m.trans rfl) ?_

theorem diWake_touch {M : Nat} {s₀ s : State} {a0} (m : Sub 0x8 M) (h : Touch M s₀ s) :
    Touch M s₀ (diWake a0 s) := by
  unfold diWake
  repeat' with_reducible first
    | assumption | refine requestWake_touch (m.trans rfl) ?_ | refine Touch.ite_else ?_ (fun _ => ?_) | unfold x
    | (extract_lets +onlyGivenNames x; first | (refine Touch.cut (s := x) ?_ (fun _ => ?_); rotate_left; clear_value x) | clear_value x)
    | split

theorem execDiWake_touch {M : Nat} {s₀ s : State} {a0} (m : Sub 0x8 M) (h : Touch M s₀ s) :
    OutTouch M s₀ (execDiWake a0 s) := by
  unfold execDiWake
  repeat' with_reducible first
    | assumption | apply OutTouch.next | refine diWake_touch (m.trans rfl) ?_

theorem chansRestart_touch {M : Nat} {s₀ s : State} (m : Sub 0x7fffffff00700408010 M) (h : Touch M s₀ s) :
    Touch M s₀ (chansRestart s) := by
  unfold chansRestart
  repeat' with_reducible first
    | assumption | refine State.withAfe_touch (m.bit rfl) ?_
    | refine put_page_touch (m.trans (by decide +kernel)) ?_ | refine put_ch_touch (m.trans (by decide +kernel)) ?_ | refine put_idx_touch (m.trans (by decide +kernel)) ?_ | refine put_host_touch (m.trans (by decide +kernel)) ?_ | refine put_pll_touch (m.trans (by decide +kernel)) ?_ | refine put_master_touch (m.trans (by decide +kernel)) ?_ | refine put_closed_touch (m.trans (by decide +kernel)) ?_ | refine State.put_touch (m.trans (by decide +kernel)) ?_ | refine put_any_touch (m.trans (by decide +kernel)) ?_
    | refine staleAll_touch (m.trans rfl) ?_ | refine foldl_touch (fun _ _ _ => ?_) ?_ | unfold x
    | (extract_lets +onlyGivenNames x; first | (refine Touch.cut (s := x) ?_ (fun _ => ?_); rotate_left; clear_value x) | clear_value x)

theorem fbCountersClear_touch {M : Nat} {s₀ s : State} (m : Sub 0x7fffc00000000000010 M) (h : Touch M s₀ s) :
    Touch M s₀ (fbCountersClear s) := by
  unfold fbCountersClear
  repeat' with_reducible first
    | assumption
    | refine put_page_touch (m.trans (by decide +kernel)) ?_ | refine put_ch_touch (m.trans (by decide +kernel)) ?_ | refine put_idx_touch (m.trans (by decide +kernel)) ?_ | refine put_host_touch (m.trans (by decide +kernel)) ?_ | refine put_pll_touch (m.trans (by decide +kernel)) ?_ | refine put_master_touch (m.trans (by decide +kernel)) ?_ | refine put_closed_touch (m.trans (by decide +kernel)) ?_ | refine State.put_touch (m.trans (by decide +kernel)) ?_ | refine put_any_touch (m.trans (by decide +kernel)) ?_
    | refine foldl_touch (fun _ _ _ => ?_) ?_

theorem standbyExit_touch {M : Nat} {s₀ s : State} (m : Sub 0x7ffffffffff17fde2f8 M) (h : Touch M s₀ s) :
    Touch M s₀ (standbyExit s) := by
  unfold standbyExit
  repeat' with_reducible first
    | assumption | refine resumeWheel_touch (m.trans rfl) ?_ | refine raise_touch (m.trans rfl) ?_
    | refine State.withPwr_touch (m.bit rfl) ?_ | refine mdioResume_touch (m.trans rfl) ?_
    | refine put_page_touch (m.trans (by decide +kernel)) ?_ | refine put_ch_touch (m.trans (by decide +kernel)) ?_ | refine put_idx_touch (m.trans (by decide +kernel)) ?_ | refine put_host_touch (m.trans (by decide +kernel)) ?_ | refine put_pll_touch (m.trans (by decide +kernel)) ?_ | refine put_master_touch (m.trans (by decide +kernel)) ?_ | refine put_closed_touch (m.trans (by decide +kernel)) ?_ | refine State.put_touch (m.trans (by decide +kernel)) ?_ | refine put_any_touch (m.trans (by decide +kernel)) ?_
    | refine chansRestart_touch (m.trans rfl) ?_ | refine State.putFlag_touch ?_
    | refine panelReturn_touch (m.trans rfl) ?_ | refine callSettle_touch (m.trans rfl) ?_
    | refine runWaiting_touch (m.trans rfl) ?_ | refine fbJoinAll_touch (m.trans rfl) ?_
    | refine refreshDo_touch (m.trans rfl) ?_ | refine diResume_touch (m.trans rfl) ?_
    | refine fbCountersClear_touch (m.trans rfl) ?_ | refine hfxoStart_touch (m.trans rfl) ?_
    | refine clearComplete_touch (m.trans rfl) ?_ | refine switchNext_touch (m.trans rfl) ?_
    | refine Touch.ite_else ?_ (fun _ => ?_) | unfold x
    | (extract_lets +onlyGivenNames x; first | (refine Touch.cut (s := x) ?_ (fun _ => ?_); rotate_left; clear_value x) | clear_value x)
    | split

theorem execStandbyExit_touch {M : Nat} {s₀ s : State} (m : Sub 0x7ffffffffff17fde2f8 M) (h : Touch M s₀ s) :
    OutTouch M s₀ (execStandbyExit s) := by
  unfold execStandbyExit
  repeat' with_reducible first
    | assumption | apply OutTouch.next | refine standbyExit_touch (m.trans rfl) ?_

end Sys2Proof.Machine
end

