-- ==== Sys2Proof/Laws/TouchReset.lean ====
section
/-!
SUPPORT. What the definitions of Machine/Reset.lean touch.
-/

set_option Elab.async false
set_option linter.all false

namespace Sys2Proof.Machine

theorem clearRegs_touch {M : Nat} {s₀ s : State} {c} (m : Sub 0x7ffffffffff00000070 M) (h : Touch M s₀ s) : Touch M s₀ (clearRegs c s) :=
  foldl_touch (fun _ _ h => put_any_touch (m.trans rfl) h) (State.withRegsB_touch (fun _ => resetRegs_wf _ _) (m.bit rfl)
    (State.withRegsA_touch (fun _ => resetRegs_wf _ _) (m.bit rfl) (withRegs_any_touch (fun _ => resetRegs_wf _ _) (m.trans rfl) h)))

theorem resetSafe_touch {M : Nat} {s₀ s : State} {a0} (m : Sub 0x20000000 M) (h : Touch M s₀ s) :
    Touch M s₀ (resetSafe a0 s) := by
  unfold resetSafe
  repeat' with_reducible first
    | assumption | refine State.withSafe_touch (m.bit rfl) ?_ | refine safeRestart_touch (m.trans rfl) ?_
    | refine safeInstall_touch (m.trans rfl) ?_ | refine Touch.ite_else ?_ (fun _ => ?_) | unfold x
    | (extract_lets +onlyGivenNames x; first | (refine Touch.cut (s := x) ?_ (fun _ => ?_); rotate_left; clear_value x) | clear_value x)
    | split

theorem resetTo_touch {M : Nat} {s₀ s : State} {a0 a1 a2 a3} (m : Sub 0x7ffffffffff3ff9fffe M) (h : Touch M s₀ s) :
    Touch M s₀ (resetTo a0 a1 a2 a3 s) := by
  unfold resetTo
  repeat' with_reducible first
    | assumption | refine State.withLg_touch (m.bit rfl) ?_ | refine State.withSegs_touch (m.bit rfl) ?_
    | refine State.withAfe_touch (m.bit rfl) ?_ | refine repOff_touch (m.trans rfl) ?_
    | refine State.withPwr_touch (m.bit rfl) ?_ | refine State.withLasting_touch (m.bit rfl) ?_
    | refine resetSafe_touch (m.trans rfl) ?_ | refine State.withPortA_touch (m.bit rfl) ?_
    | refine State.withTt_touch (m.bit rfl) ?_ | refine State.withRtc_touch (m.bit rfl) ?_
    | refine State.withXnet_touch (m.bit rfl) ?_ | refine panelOff_touch (m.trans rfl) ?_
    | refine State.withCallIn_touch (m.bit rfl) ?_ | refine norFollow_touch (m.trans rfl) ?_
    | refine put_page_touch (m.trans (by decide +kernel)) ?_ | refine put_ch_touch (m.trans (by decide +kernel)) ?_ | refine put_idx_touch (m.trans (by decide +kernel)) ?_ | refine put_host_touch (m.trans (by decide +kernel)) ?_ | refine put_pll_touch (m.trans (by decide +kernel)) ?_ | refine put_master_touch (m.trans (by decide +kernel)) ?_ | refine put_closed_touch (m.trans (by decide +kernel)) ?_ | refine State.put_touch (m.trans (by decide +kernel)) ?_ | refine put_any_touch (m.trans (by decide +kernel)) ?_
    | refine State.withPortB_touch (m.bit rfl) ?_ | refine clearRegs_touch (m.trans rfl) ?_
    | refine State.withPanel_touch (m.bit rfl) ?_ | refine State.withOrd_touch (m.bit rfl) ?_
    | refine rtcUnlock_touch (m.trans rfl) ?_ | refine State.withEng_touch (m.bit rfl) ?_
    | refine State.withStaged_touch (m.bit rfl) ?_ | refine State.withCall_touch (m.bit rfl) ?_
    | refine refreshDo_touch (m.trans rfl) ?_ | refine State.withXp_touch (m.bit rfl) ?_
    | refine State.withPhase_touch (m.bit rfl) ?_ | refine State.withOwn_touch (m.bit rfl) ?_
    | refine clearConfig_touch (m.trans rfl) ?_ | refine State.withRst_touch (m.bit rfl) ?_
    | refine State.withOuts_touch (m.bit rfl) ?_ | refine State.withLastHi_touch (m.bit rfl) ?_
    | refine Touch.ite_else ?_ (fun _ => ?_) | unfold x
    | (extract_lets +onlyGivenNames x; first | (refine Touch.cut (s := x) ?_ (fun _ => ?_); rotate_left; clear_value x) | clear_value x)
    | split

theorem gaspAtReset_touch {M : Nat} {s₀ s : State} {a0 a1} (m : Sub 0x4000 M) (h : Touch M s₀ s) :
    Touch M s₀ (gaspAtReset a0 a1 s) := by
  unfold gaspAtReset
  repeat' with_reducible first
    | assumption | refine gaspWrite_touch (m.trans rfl) ?_ | refine Touch.ite_else ?_ (fun _ => ?_) | split

theorem beforeReset_touch {M : Nat} {s₀ s : State} {a0} (m : Sub 0x7ffffffffff1dade3fc M) (h : Touch M s₀ s) :
    Touch M s₀ (beforeReset a0 s) := by
  unfold beforeReset
  repeat' with_reducible first
    | assumption | refine mirrorCounters_touch (m.trans rfl) ?_ | refine logDrain_touch (m.trans rfl) ?_
    | refine gaspWrite_touch (m.trans rfl) ?_ | refine haltForced_touch (m.trans rfl) ?_
    | refine closeRange_touch (m.trans rfl) ?_ | refine Touch.ite_else ?_ (fun _ => ?_) | unfold x
    | (extract_lets +onlyGivenNames x; first | (refine Touch.cut (s := x) ?_ (fun _ => ?_); rotate_left; clear_value x) | clear_value x)
    | split

theorem beginReset_touch {M : Nat} {s₀ s : State} {a0 a1 a2} (m : Sub 0x7ffffffffff3ffdfffe M) (h : Touch M s₀ s) :
    Touch M s₀ (beginReset a0 a1 a2 s) := by
  unfold beginReset
  repeat' with_reducible first
    | assumption | refine gaspAtReset_touch (m.trans rfl) ?_ | refine resetTo_touch (m.trans rfl) ?_
    | refine beforeReset_touch (m.trans rfl) ?_ | refine State.withRst_touch (m.bit rfl) ?_
    | refine Touch.ite_else ?_ (fun _ => ?_) | unfold x
    | (extract_lets +onlyGivenNames x; first | (refine Touch.cut (s := x) ?_ (fun _ => ?_); rotate_left; clear_value x) | clear_value x)
    | split

theorem vdd33Fall_touch {M : Nat} {s₀ s : State} {a0} (m : Sub 0x7ffffffffff3ffdfffe M) (h : Touch M s₀ s) :
    Touch M s₀ (vdd33Fall a0 s) := by
  unfold vdd33Fall
  repeat' with_reducible first
    | assumption | refine State.withLg_touch (m.bit rfl) ?_ | refine resetTo_touch (m.trans rfl) ?_
    | refine put_page_touch (m.trans (by decide +kernel)) ?_ | refine put_ch_touch (m.trans (by decide +kernel)) ?_ | refine put_idx_touch (m.trans (by decide +kernel)) ?_ | refine put_host_touch (m.trans (by decide +kernel)) ?_ | refine put_pll_touch (m.trans (by decide +kernel)) ?_ | refine put_master_touch (m.trans (by decide +kernel)) ?_ | refine put_closed_touch (m.trans (by decide +kernel)) ?_ | refine State.put_touch (m.trans (by decide +kernel)) ?_ | refine put_any_touch (m.trans (by decide +kernel)) ?_
    | refine vbatCompare_touch (m.trans rfl) ?_ | refine State.withPhase_touch (m.bit rfl) ?_
    | refine gaspWrite_touch (m.trans rfl) ?_ | refine beforeReset_touch (m.trans rfl) ?_
    | refine Touch.ite_else ?_ (fun _ => ?_) | unfold x
    | (extract_lets +onlyGivenNames x; first | (refine Touch.cut (s := x) ?_ (fun _ => ?_); rotate_left; clear_value x) | clear_value x)
    | split

theorem execVdd33ResetFall_touch {M : Nat} {s₀ s : State} {a1} (m : Sub 0x7ffffffffff3ffdfffe M) (h : Touch M s₀ s) :
    OutTouch M s₀ (execVdd33ResetFall s a1) := by
  unfold execVdd33ResetFall
  repeat' with_reducible first
    | assumption | apply OutTouch.next | refine vdd33Fall_touch (m.trans rfl) ?_

theorem execSupplyCoreFail_touch {M : Nat} {s₀ s : State} {a0} (m : Sub 0x7ffffffffff3ffdfffe M) (h : Touch M s₀ s) :
    OutTouch M s₀ (execSupplyCoreFail a0 s) := by
  unfold execSupplyCoreFail
  repeat' with_reducible first
    | assumption | apply OutTouch.next | refine beginReset_touch (m.trans rfl) ?_ | split

theorem execWatchdogReset_touch {M : Nat} {s₀ s : State} {a0} (m : Sub 0x7ffffffffff3ffdfffe M) (h : Touch M s₀ s) :
    OutTouch M s₀ (execWatchdogReset a0 s) := by
  unfold execWatchdogReset
  repeat' with_reducible first
    | assumption | apply OutTouch.next | refine beginReset_touch (m.trans rfl) ?_

theorem buttonArm_touch {M : Nat} {s₀ s : State} (m : Sub 0x4000000010 M) (h : Touch M s₀ s) :
    Touch M s₀ (buttonArm s) := by
  unfold buttonArm
  repeat' with_reducible first
    | assumption
    | refine put_page_touch (m.trans (by decide +kernel)) ?_ | refine put_ch_touch (m.trans (by decide +kernel)) ?_ | refine put_idx_touch (m.trans (by decide +kernel)) ?_ | refine put_host_touch (m.trans (by decide +kernel)) ?_ | refine put_pll_touch (m.trans (by decide +kernel)) ?_ | refine put_master_touch (m.trans (by decide +kernel)) ?_ | refine put_closed_touch (m.trans (by decide +kernel)) ?_ | refine State.put_touch (m.trans (by decide +kernel)) ?_ | refine put_any_touch (m.trans (by decide +kernel)) ?_
    | refine Touch.ite_else ?_ (fun _ => ?_) | split

theorem execResetButtonArm_touch {M : Nat} {s₀ s : State} (m : Sub 0x4000000010 M) (h : Touch M s₀ s) :
    OutTouch M s₀ (execResetButtonArm s) := by
  unfold execResetButtonArm
  repeat' with_reducible first
    | assumption | apply OutTouch.next | refine buttonArm_touch (m.trans rfl) ?_

theorem pinReset_touch {M : Nat} {s₀ s : State} (m : Sub 0x7ffffffffff3ffdfffe M) (h : Touch M s₀ s) :
    Touch M s₀ (pinReset s) := by
  unfold pinReset
  repeat' with_reducible first
    | assumption
    | refine put_page_touch (m.trans (by decide +kernel)) ?_ | refine put_ch_touch (m.trans (by decide +kernel)) ?_ | refine put_idx_touch (m.trans (by decide +kernel)) ?_ | refine put_host_touch (m.trans (by decide +kernel)) ?_ | refine put_pll_touch (m.trans (by decide +kernel)) ?_ | refine put_master_touch (m.trans (by decide +kernel)) ?_ | refine put_closed_touch (m.trans (by decide +kernel)) ?_ | refine State.put_touch (m.trans (by decide +kernel)) ?_ | refine put_any_touch (m.trans (by decide +kernel)) ?_
    | refine beginReset_touch (m.trans rfl) ?_ | refine Touch.ite_else ?_ (fun _ => ?_) | split

theorem execPinReset_touch {M : Nat} {s₀ s : State} (m : Sub 0x7ffffffffff3ffdfffe M) (h : Touch M s₀ s) :
    OutTouch M s₀ (execPinReset s) := by
  unfold execPinReset
  repeat' with_reducible first
    | assumption | apply OutTouch.next | refine pinReset_touch (m.trans rfl) ?_

theorem buttonStuck_touch {M : Nat} {s₀ s : State} (m : Sub 0x108000004100206214 M) (h : Touch M s₀ s) :
    Touch M s₀ (buttonStuck s) := by
  unfold buttonStuck
  repeat' with_reducible first
    | assumption
    | refine put_page_touch (m.trans (by decide +kernel)) ?_ | refine put_ch_touch (m.trans (by decide +kernel)) ?_ | refine put_idx_touch (m.trans (by decide +kernel)) ?_ | refine put_host_touch (m.trans (by decide +kernel)) ?_ | refine put_pll_touch (m.trans (by decide +kernel)) ?_ | refine put_master_touch (m.trans (by decide +kernel)) ?_ | refine put_closed_touch (m.trans (by decide +kernel)) ?_ | refine State.put_touch (m.trans (by decide +kernel)) ?_ | refine put_any_touch (m.trans (by decide +kernel)) ?_
    | refine State.bumpSat_touch ?_ | refine note_touch (m.trans rfl) ?_ | refine State.withRst_touch (m.bit rfl) ?_
    | refine Touch.ite_else ?_ (fun _ => ?_) | unfold x
    | (extract_lets +onlyGivenNames x; first | (refine Touch.cut (s := x) ?_ (fun _ => ?_); rotate_left; clear_value x) | clear_value x)
    | split

theorem execButtonStuck_touch {M : Nat} {s₀ s : State} (m : Sub 0x108000004100206214 M) (h : Touch M s₀ s) :
    OutTouch M s₀ (execButtonStuck s) := by
  unfold execButtonStuck
  repeat' with_reducible first
    | assumption | apply OutTouch.next | refine buttonStuck_touch (m.trans rfl) ?_

theorem actSoftReset_touch {M : Nat} {s₀ s : State} {a0 a1} (m : Sub 0x7ffffffffff3ffdfffe M) (h : Touch M s₀ s) :
    Touch M s₀ (actSoftReset a0 a1 s) := by
  unfold actSoftReset
  repeat' with_reducible first
    | assumption | refine beginReset_touch (m.trans rfl) ?_ | refine Touch.ite_else ?_ (fun _ => ?_) | split

theorem execSoftReset_touch {M : Nat} {s₀ s : State} {a0} (m : Sub 0x7ffffffffff3ffdfffe M) (h : Touch M s₀ s) :
    OutTouch M s₀ (execSoftReset a0 s) := by
  unfold execSoftReset
  repeat' with_reducible first
    | assumption | apply OutTouch.next
    | refine hostWord_touch (m.trans (by decide +kernel)) (fun _ _ _ => ?_) ?_ | refine hostWord_any_touch (m.trans (by decide +kernel)) (fun _ _ _ => ?_) ?_
    | refine actSoftReset_touch (m.trans rfl) ?_

theorem aonLost_touch {M : Nat} {s₀ s : State} (m : Sub 0x7ffffffffff3ff9fffe M) (h : Touch M s₀ s) :
    Touch M s₀ (aonLost s) := by
  unfold aonLost
  repeat' with_reducible first
    | assumption | refine resetTo_touch (m.trans rfl) ?_ | refine Touch.ite_else ?_ (fun _ => ?_) | split

theorem writeCause_touch {M : Nat} {s₀ s : State} {a0 a1} (m : Sub 0x5000000014 M) (h : Touch M s₀ s) :
    Touch M s₀ (writeCause a0 a1 s) := by
  unfold writeCause
  repeat' with_reducible first
    | assumption
    | refine put_page_touch (m.trans (by decide +kernel)) ?_ | refine put_ch_touch (m.trans (by decide +kernel)) ?_ | refine put_idx_touch (m.trans (by decide +kernel)) ?_ | refine put_host_touch (m.trans (by decide +kernel)) ?_ | refine put_pll_touch (m.trans (by decide +kernel)) ?_ | refine put_master_touch (m.trans (by decide +kernel)) ?_ | refine put_closed_touch (m.trans (by decide +kernel)) ?_ | refine State.put_touch (m.trans (by decide +kernel)) ?_ | refine put_any_touch (m.trans (by decide +kernel)) ?_
    | refine State.putFlag_touch ?_ | refine State.withRst_touch (m.bit rfl) ?_ | unfold x
    | (extract_lets +onlyGivenNames x; first | (refine Touch.cut (s := x) ?_ (fun _ => ?_); rotate_left; clear_value x) | clear_value x)

theorem straps_touch {M : Nat} {s₀ s : State} {a0 a1 a2} (m : Sub 0x800000010 M) (h : Touch M s₀ s) :
    Touch M s₀ (straps a0 a1 a2 s) := by
  unfold straps
  repeat' with_reducible first
    | assumption
    | refine put_page_touch (m.trans (by decide +kernel)) ?_ | refine put_ch_touch (m.trans (by decide +kernel)) ?_ | refine put_idx_touch (m.trans (by decide +kernel)) ?_ | refine put_host_touch (m.trans (by decide +kernel)) ?_ | refine put_pll_touch (m.trans (by decide +kernel)) ?_ | refine put_master_touch (m.trans (by decide +kernel)) ?_ | refine put_closed_touch (m.trans (by decide +kernel)) ?_ | refine State.put_touch (m.trans (by decide +kernel)) ?_ | refine put_any_touch (m.trans (by decide +kernel)) ?_
    | refine State.putFlag_touch ?_ | refine Touch.ite_else ?_ (fun _ => ?_) | unfold x
    | (extract_lets +onlyGivenNames x; first | (refine Touch.cut (s := x) ?_ (fun _ => ?_); rotate_left; clear_value x) | clear_value x)
    | split

theorem ceilFound_touch {M : Nat} {s₀ s : State} {a0} (m : Sub 0x2000 M) (h : Touch M s₀ s) :
    Touch M s₀ (ceilFound a0 s) := by
  unfold ceilFound
  repeat' with_reducible first
    | assumption | refine State.withOrd_touch (m.bit rfl) ?_ | unfold x
    | (extract_lets +onlyGivenNames x; first | (refine Touch.cut (s := x) ?_ (fun _ => ?_); rotate_left; clear_value x) | clear_value x)

theorem setTally_touch {M : Nat} {s₀ s : State} {a0 a1} (m : Sub 0x8000000500002115 M) (h : Touch M s₀ s) :
    Touch M s₀ (setTally a0 a1 s) := by
  unfold setTally
  repeat' with_reducible first
    | assumption | refine ordFaultCode_touch (m.trans rfl) ?_ | refine ceilWritten_touch (m.trans rfl) ?_
    | refine ceilFound_touch (m.trans rfl) ?_
    | refine put_page_touch (m.trans (by decide +kernel)) ?_ | refine put_ch_touch (m.trans (by decide +kernel)) ?_ | refine put_idx_touch (m.trans (by decide +kernel)) ?_ | refine put_host_touch (m.trans (by decide +kernel)) ?_ | refine put_pll_touch (m.trans (by decide +kernel)) ?_ | refine put_master_touch (m.trans (by decide +kernel)) ?_ | refine put_closed_touch (m.trans (by decide +kernel)) ?_ | refine State.put_touch (m.trans (by decide +kernel)) ?_ | refine put_any_touch (m.trans (by decide +kernel)) ?_
    | refine mark_touch (m.trans rfl) ?_ | refine State.putFlag_touch ?_ | refine State.withOrd_touch (m.bit rfl) ?_
    | refine noteLater_touch (m.trans rfl) ?_
    | refine setReg_fld_touch (m.trans (by decide +kernel)) ?_ | refine State.setReg_touch (m.trans (by decide +kernel)) ?_ | refine setReg_any_touch (m.trans (by decide +kernel)) ?_
    | refine Touch.ite_else ?_ (fun _ => ?_) | unfold x
    | (extract_lets +onlyGivenNames x; first | (refine Touch.cut (s := x) ?_ (fun _ => ?_); rotate_left; clear_value x) | clear_value x)
    | refine Touch.snd ?_ (by assumption) | split

theorem coldDomain_touch {M : Nat} {s₀ s : State} (m : Sub 0x800000000000000018 M) (h : Touch M s₀ s) :
    Touch M s₀ (coldDomain s) := by
  unfold coldDomain
  repeat' with_reducible first
    | assumption | refine State.withPwr_touch (m.bit rfl) ?_
    | refine put_page_touch (m.trans (by decide +kernel)) ?_ | refine put_ch_touch (m.trans (by decide +kernel)) ?_ | refine put_idx_touch (m.trans (by decide +kernel)) ?_ | refine put_host_touch (m.trans (by decide +kernel)) ?_ | refine put_pll_touch (m.trans (by decide +kernel)) ?_ | refine put_master_touch (m.trans (by decide +kernel)) ?_ | refine put_closed_touch (m.trans (by decide +kernel)) ?_ | refine State.put_touch (m.trans (by decide +kernel)) ?_ | refine put_any_touch (m.trans (by decide +kernel)) ?_
    | unfold x
    | (extract_lets +onlyGivenNames x; first | (refine Touch.cut (s := x) ?_ (fun _ => ?_); rotate_left; clear_value x) | clear_value x)

theorem countCycle_touch {M : Nat} {s₀ s : State} {a0 a1} (m : Sub 0x400000018 M) (h : Touch M s₀ s) :
    Touch M s₀ (countCycle a0 a1 s) := by
  unfold countCycle
  repeat' with_reducible first
    | assumption | refine State.withPwr_touch (m.bit rfl) ?_ | refine mramWritten_touch (m.trans rfl) ?_
    | refine Touch.ite_else ?_ (fun _ => ?_) | unfold x
    | (extract_lets +onlyGivenNames x; first | (refine Touch.cut (s := x) ?_ (fun _ => ?_); rotate_left; clear_value x) | clear_value x)
    | split

theorem clocksStart_touch {M : Nat} {s₀ s : State} (m : Sub 0x2000000010 M) (h : Touch M s₀ s) :
    Touch M s₀ (clocksStart s) := by
  unfold clocksStart
  repeat' with_reducible first
    | assumption
    | refine put_page_touch (m.trans (by decide +kernel)) ?_ | refine put_ch_touch (m.trans (by decide +kernel)) ?_ | refine put_idx_touch (m.trans (by decide +kernel)) ?_ | refine put_host_touch (m.trans (by decide +kernel)) ?_ | refine put_pll_touch (m.trans (by decide +kernel)) ?_ | refine put_master_touch (m.trans (by decide +kernel)) ?_ | refine put_closed_touch (m.trans (by decide +kernel)) ?_ | refine State.put_touch (m.trans (by decide +kernel)) ?_ | refine put_any_touch (m.trans (by decide +kernel)) ?_

theorem startRecord_touch {M : Nat} {s₀ s : State} (m : Sub 0x108000000100206210 M) (h : Touch M s₀ s) :
    Touch M s₀ (startRecord s) := by
  unfold startRecord
  repeat' with_reducible first
    | assumption | refine record_touch (m.trans rfl) ?_

theorem startedRecord_touch {M : Nat} {s₀ s : State} (m : Sub 0x108000000100206210 M) (h : Touch M s₀ s) :
    Touch M s₀ (startedRecord s) := by
  unfold startedRecord
  repeat' with_reducible first
    | assumption | refine raise_touch (m.trans rfl) ?_

theorem pointsStart_touch {M : Nat} {s₀ s : State} (m : Sub 0x7ffffffffff15ade290 M) (h : Touch M s₀ s) :
    Touch M s₀ (pointsStart s) := by
  unfold pointsStart
  repeat' with_reducible first
    | assumption | refine forcePass_touch (m.trans rfl) ?_ | refine callSettle_touch (m.trans rfl) ?_
    | refine rebuildAll_touch (m.trans rfl) ?_

theorem blocksStart_touch {M : Nat} {s₀ s : State} (m : Sub 0x7fffffff03707fce310 M) (h : Touch M s₀ s) :
    Touch M s₀ (blocksStart s) := by
  unfold blocksStart
  repeat' with_reducible first
    | assumption | refine splitKept_touch (m.trans rfl) ?_ | refine clockFollow_touch (m.trans rfl) ?_
    | refine portsEnable_touch (m.trans rfl) ?_ | refine State.withXnet_touch (m.bit rfl) ?_
    | refine scanWritten_touch (m.trans rfl) ?_
    | refine put_page_touch (m.trans (by decide +kernel)) ?_ | refine put_ch_touch (m.trans (by decide +kernel)) ?_ | refine put_idx_touch (m.trans (by decide +kernel)) ?_ | refine put_host_touch (m.trans (by decide +kernel)) ?_ | refine put_pll_touch (m.trans (by decide +kernel)) ?_ | refine put_master_touch (m.trans (by decide +kernel)) ?_ | refine put_closed_touch (m.trans (by decide +kernel)) ?_ | refine State.put_touch (m.trans (by decide +kernel)) ?_ | refine put_any_touch (m.trans (by decide +kernel)) ?_
    | refine chansRestart_touch (m.trans rfl) ?_ | refine updatePanel_touch (m.trans rfl) ?_
    | refine fastTaken_touch (m.trans rfl) ?_ | refine callSettle_touch (m.trans rfl) ?_
    | refine panelStart_touch (m.trans rfl) ?_ | refine fbJoinAll_touch (m.trans rfl) ?_
    | refine repDriveAll_touch (m.trans rfl) ?_ | refine refreshUnits_touch (m.trans rfl) ?_
    | refine updateDo_touch (m.trans rfl) ?_ | refine foldl_touch (fun _ _ _ => ?_) ?_ | unfold x
    | (extract_lets +onlyGivenNames x; first | (refine Touch.cut (s := x) ?_ (fun _ => ?_); rotate_left; clear_value x) | clear_value x)

theorem regionsStart_touch {M : Nat} {s₀ s : State} (m : Sub 0x4000000 M) (h : Touch M s₀ s) :
    Touch M s₀ (regionsStart s) := by
  unfold regionsStart
  repeat' with_reducible first
    | assumption | refine regionRequest_touch (m.trans rfl) ?_ | refine foldl_touch (fun _ _ _ => ?_) ?_

theorem logTest_touch {M : Nat} {s₀ s : State} (m : Sub 0x108000000100206370 M) (h : Touch M s₀ s) :
    Touch M s₀ (logTest s) := by
  unfold logTest
  repeat' with_reducible first
    | assumption | refine logArray_touch (m.trans rfl) ?_ | refine clearRestart_touch (m.trans rfl) ?_

theorem logStart_touch {M : Nat} {s₀ s : State} {a0} (m : Sub 0x7ffe0000005002c6370 M) (h : Touch M s₀ s) :
    Touch M s₀ (logStart a0 s) := by
  unfold logStart
  repeat' with_reducible first
    | assumption | refine logTest_touch (m.trans rfl) ?_
    | refine put_page_touch (m.trans (by decide +kernel)) ?_ | refine put_ch_touch (m.trans (by decide +kernel)) ?_ | refine put_idx_touch (m.trans (by decide +kernel)) ?_ | refine put_host_touch (m.trans (by decide +kernel)) ?_ | refine put_pll_touch (m.trans (by decide +kernel)) ?_ | refine put_master_touch (m.trans (by decide +kernel)) ?_ | refine put_closed_touch (m.trans (by decide +kernel)) ?_ | refine State.put_touch (m.trans (by decide +kernel)) ?_ | refine put_any_touch (m.trans (by decide +kernel)) ?_
    | refine logRestart_touch (m.trans rfl) ?_ | refine arrayFound_touch (m.trans rfl) ?_

theorem bootFallback_touch {M : Nat} {s₀ s : State} {a0 a1 a2} (m : Sub 0x108000000110206210 M) (h : Touch M s₀ s) :
    Touch M s₀ (bootFallback a0 a1 a2 s) := by
  unfold bootFallback
  repeat' with_reducible first
    | assumption | refine raise_touch (m.trans rfl) ?_ | refine State.withTt_touch (m.bit rfl) ?_
    | refine Touch.ite_else ?_ (fun _ => ?_) | unfold x
    | (extract_lets +onlyGivenNames x; first | (refine Touch.cut (s := x) ?_ (fun _ => ?_); rotate_left; clear_value x) | clear_value x)
    | split

theorem startImage_touch {M : Nat} {s₀ s : State} {a0 a1 a2 a3 a4} (m : Sub 0x7ffffffffff37ffe3f3 M) (h : Touch M s₀ s) :
    Touch M s₀ (startImage a0 a1 a2 a3 a4 s) := by
  unfold startImage
  repeat' with_reducible first
    | assumption | refine pointsStart_touch (m.trans rfl) ?_ | refine loadSlot_touch (m.trans rfl) ?_
    | refine raise_touch (m.trans rfl) ?_ | refine acceptSeal_touch (m.trans rfl) ?_
    | refine takeImage_touch (m.trans rfl) ?_ | refine bootFallback_touch (m.trans rfl) ?_
    | refine powerupSwitch_touch (m.trans rfl) ?_ | refine configSelection_touch (m.trans rfl) ?_
    | refine regionsStart_touch (m.trans rfl) ?_ | refine State.withPhase_touch (m.bit rfl) ?_
    | refine logRestart_touch (m.trans rfl) ?_ | refine blocksStart_touch (m.trans rfl) ?_
    | refine startRecord_touch (m.trans rfl) ?_ | refine arrayFound_touch (m.trans rfl) ?_
    | refine startedRecord_touch (m.trans rfl) ?_ | refine foldl_touch (fun _ _ _ => ?_) ?_
    | refine Touch.ite_else ?_ (fun _ => ?_) | unfold x
    | (extract_lets +onlyGivenNames x; first | (refine Touch.cut (s := x) ?_ (fun _ => ?_); rotate_left; clear_value x) | clear_value x)
    | split

theorem startWith_touch {M : Nat} {s₀ s : State} {a0 a1 a2 a3 a4} (m : Sub 0x7ffffffffff37ffe3f3 M) (h : Touch M s₀ s) :
    Touch M s₀ (startWith a0 a1 a2 a3 a4 s) := by
  unfold startWith
  repeat' with_reducible first
    | assumption | refine raise_touch (m.trans rfl) ?_
    | refine put_page_touch (m.trans (by decide +kernel)) ?_ | refine put_ch_touch (m.trans (by decide +kernel)) ?_ | refine put_idx_touch (m.trans (by decide +kernel)) ?_ | refine put_host_touch (m.trans (by decide +kernel)) ?_ | refine put_pll_touch (m.trans (by decide +kernel)) ?_ | refine put_master_touch (m.trans (by decide +kernel)) ?_ | refine put_closed_touch (m.trans (by decide +kernel)) ?_ | refine State.put_touch (m.trans (by decide +kernel)) ?_ | refine put_any_touch (m.trans (by decide +kernel)) ?_
    | refine startImage_touch (m.trans rfl) ?_ | refine safeFaultCode_touch (m.trans rfl) ?_
    | refine State.withPhase_touch (m.bit rfl) ?_ | refine sealFaultCode_touch (m.trans rfl) ?_
    | refine startRecord_touch (m.trans rfl) ?_ | refine startedRecord_touch (m.trans rfl) ?_
    | refine Touch.ite_else ?_ (fun _ => ?_) | unfold x
    | (extract_lets +onlyGivenNames x; first | (refine Touch.cut (s := x) ?_ (fun _ => ?_); rotate_left; clear_value x) | clear_value x)
    | split

theorem startStep5_touch {M : Nat} {s₀ s : State} {f g} (m : Sub 0x7ffffffffff37ffe3f3 M) (h : Touch M s₀ s) : Touch M s₀ (startStep5 f g s) :=
  startWith_touch (m.trans rfl) (chooseCopy_touch (m.trans rfl) h)

theorem startSoft_touch {M : Nat} {s₀ s : State} (m : Sub 0x7ffffffffff17fde392 M) (h : Touch M s₀ s) :
    Touch M s₀ (startSoft s) := by
  unfold startSoft
  repeat' with_reducible first
    | assumption | refine pointsStart_touch (m.trans rfl) ?_ | refine safeFaultCode_touch (m.trans rfl) ?_
    | refine State.withPhase_touch (m.bit rfl) ?_ | refine sealFaultCode_touch (m.trans rfl) ?_
    | refine discardSwitches_touch (m.trans rfl) ?_ | refine blocksStart_touch (m.trans rfl) ?_
    | refine startRecord_touch (m.trans rfl) ?_ | refine startedRecord_touch (m.trans rfl) ?_
    | refine Touch.ite_else ?_ (fun _ => ?_) | unfold x
    | (extract_lets +onlyGivenNames x; first | (refine Touch.cut (s := x) ?_ (fun _ => ?_); rotate_left; clear_value x) | clear_value x)
    | split

theorem startFindings_touch {M : Nat} {s₀ s : State} {a0 a1 a2 a3} (m : Sub 0x108000000100206214 M) (h : Touch M s₀ s) :
    Touch M s₀ (startFindings a0 a1 a2 a3 s) := by
  unfold startFindings
  repeat' with_reducible first
    | assumption | refine notesLogged_touch (m.trans rfl) ?_ | refine raise_touch (m.trans rfl) ?_
    | refine record_touch (m.trans rfl) ?_ | refine Touch.ite_else ?_ (fun _ => ?_) | unfold x
    | (extract_lets +onlyGivenNames x; first | (refine Touch.cut (s := x) ?_ (fun _ => ?_); rotate_left; clear_value x) | clear_value x)
    | split

theorem startUp_touch {M : Nat} {s₀ s : State} {a0 a1 a2 a3 a4 a5 a6 a7} (m : Sub 0x7ffffffffff3fffffff M) (h : Touch M s₀ s) :
    Touch M s₀ (startUp a0 a1 a2 a3 a4 a5 a6 a7 s) := by
  unfold startUp
  repeat' with_reducible first
    | assumption | refine countCycle_touch (m.trans rfl) ?_ | refine clocksStart_touch (m.trans rfl) ?_
    | refine raise_touch (m.trans rfl) ?_ | refine State.withPwr_touch (m.bit rfl) ?_
    | refine logTest_touch (m.trans rfl) ?_ | refine State.withRtc_touch (m.bit rfl) ?_
    | refine clearRestart_touch (m.trans rfl) ?_ | refine startStep5_touch (m.trans rfl) ?_
    | refine setTally_touch (m.trans rfl) ?_ | refine aonLost_touch (m.trans rfl) ?_
    | refine startSoft_touch (m.trans rfl) ?_ | refine mergeResume_touch (m.trans rfl) ?_
    | refine norRead_touch (m.trans rfl) ?_ | refine startFindings_touch (m.trans rfl) ?_
    | refine straps_touch (m.trans rfl) ?_ | refine coldDomain_touch (m.trans rfl) ?_
    | refine writeCause_touch (m.trans rfl) ?_ | refine State.withPhase_touch (m.bit rfl) ?_
    | refine discardSwitches_touch (m.trans rfl) ?_ | refine State.withRst_touch (m.bit rfl) ?_
    | refine noteNorBad_touch (m.trans rfl) ?_ | refine foldl_touch (fun _ _ _ => ?_) ?_
    | refine Touch.ite_else ?_ (fun _ => ?_) | unfold x
    | (extract_lets +onlyGivenNames x; first | (refine Touch.cut (s := x) ?_ (fun _ => ?_); rotate_left; clear_value x) | clear_value x)
    | split

theorem execStartUp_touch {M : Nat} {s₀ s : State} {a0 a1 a2 a3 a5 a6 a7 a8} (m : Sub 0x7ffffffffff3fffffff M) (h : Touch M s₀ s) :
    OutTouch M s₀ (execStartUp a0 a1 a2 a3 s a5 a6 a7 a8) := by
  unfold execStartUp
  repeat' with_reducible first
    | assumption | apply OutTouch.next | refine startUp_touch (m.trans rfl) ?_

theorem copy1Written_touch {M : Nat} {s₀ s : State} {a0} (m : Sub 0x7ffffffffff37ffe3f3 M) (h : Touch M s₀ s) :
    Touch M s₀ (copy1Written a0 s) := by
  unfold copy1Written
  repeat' with_reducible first
    | assumption | refine startStep5_touch (m.trans rfl) ?_ | refine copyWritten_touch (m.trans rfl) ?_
    | refine Touch.ite_else ?_ (fun _ => ?_) | unfold x
    | (extract_lets +onlyGivenNames x; first | (refine Touch.cut (s := x) ?_ (fun _ => ?_); rotate_left; clear_value x) | clear_value x)
    | split

theorem execImgCopy1Written_touch {M : Nat} {s₀ s : State} {a1} (m : Sub 0x7ffffffffff37ffe3f3 M) (h : Touch M s₀ s) :
    OutTouch M s₀ (execImgCopy1Written s a1) := by
  unfold execImgCopy1Written
  repeat' with_reducible first
    | assumption | apply OutTouch.next | refine copy1Written_touch (m.trans rfl) ?_

end Sys2Proof.Machine
end

