-- ==== Sys2Proof/Laws/TouchBlockReset.lean ====
section
/-!
SUPPORT. What the definitions of Machine/BlockReset.lean touch.
-/

set_option Elab.async false
set_option linter.all false

namespace Sys2Proof.Machine

theorem clearPage_touch {M : Nat} {s₀ s : State} {p} (m : Sub 0x7ffffffffff104180f0 M) (h : Touch M s₀ s) : Touch M s₀ (clearPage p s) := by
  unfold clearPage
  refine State.withRegsB_touch (fun c => Sparse.wf_foldl (fun m b hm => ?_) _ c) (m.bit rfl)
    (State.withRegsA_touch (fun c => Sparse.wf_foldl (fun m b hm => ?_) _ c) (m.bit rfl)
      (foldl_touch (fun _ _ h => setReg_any_touch (m.trans rfl) h) h))
  all_goals
    dsimp only
    split
    · exact Sparse.wf_set _ _ hm
    · exact hm

theorem clearHeader_touch {M : Nat} {s₀ s : State} {a0} (m : Sub 0x380 M) (h : Touch M s₀ s) :
    Touch M s₀ (clearHeader a0 s) := by
  unfold clearHeader
  repeat' with_reducible first
    | assumption | refine State.setLasting_touch (m.trans rfl) ?_ | refine State.dropStaged_touch (m.trans rfl) ?_
    | refine State.withLastHi_touch (m.bit rfl) ?_ | refine Touch.ite_else ?_ (fun _ => ?_) | unfold x
    | (extract_lets +onlyGivenNames x; first | (refine Touch.cut (s := x) ?_ (fun _ => ?_); rotate_left; clear_value x) | clear_value x)
    | split

theorem blockBefore_touch {M : Nat} {s₀ s : State} {a0} (m : Sub 0x7ffffffffff1fede3fc M) (h : Touch M s₀ s) :
    Touch M s₀ (blockBefore a0 s) := by
  unfold blockBefore
  repeat' with_reducible first
    | assumption | refine staleChans_touch (m.trans rfl) ?_ | refine scanLost_touch (m.trans rfl) ?_
    | refine logDrain_touch (m.trans rfl) ?_ | refine portDisable_touch (m.trans rfl) ?_
    | refine fbStop_touch (m.trans rfl) ?_ | refine haltForced_touch (m.trans rfl) ?_
    | refine closeRange_touch (m.trans rfl) ?_ | refine discardSwitches_touch (m.trans rfl) ?_
    | refine Touch.ite_else ?_ (fun _ => ?_) | split

theorem xnetRestart_touch {M : Nat} {s₀ s : State} (m : Sub 0x4000000000100010 M) (h : Touch M s₀ s) :
    Touch M s₀ (xnetRestart s) := by
  unfold xnetRestart
  repeat' with_reducible first
    | assumption | refine splitKept_touch (m.trans rfl) ?_ | refine State.withXnet_touch (m.bit rfl) ?_
    | refine put_page_touch (m.trans (by decide +kernel)) ?_ | refine put_ch_touch (m.trans (by decide +kernel)) ?_ | refine put_idx_touch (m.trans (by decide +kernel)) ?_ | refine put_host_touch (m.trans (by decide +kernel)) ?_ | refine put_pll_touch (m.trans (by decide +kernel)) ?_ | refine put_master_touch (m.trans (by decide +kernel)) ?_ | refine put_closed_touch (m.trans (by decide +kernel)) ?_ | refine State.put_touch (m.trans (by decide +kernel)) ?_ | refine put_any_touch (m.trans (by decide +kernel)) ?_
    | unfold x
    | (extract_lets +onlyGivenNames x; first | (refine Touch.cut (s := x) ?_ (fun _ => ?_); rotate_left; clear_value x) | clear_value x)

theorem windowRecords_touch {M : Nat} {s₀ s : State} (m : Sub 0x7ffffffffff10418090 M) (h : Touch M s₀ s) :
    Touch M s₀ (windowRecords s) := by
  unfold windowRecords
  repeat' with_reducible first
    | assumption | refine State.baseState_touch (m.trans rfl) ?_ | refine State.setWinWord_touch (m.trans rfl) ?_
    | refine foldl_touch (fun _ _ _ => ?_) ?_ | unfold x
    | (extract_lets +onlyGivenNames x; first | (refine Touch.cut (s := x) ?_ (fun _ => ?_); rotate_left; clear_value x) | clear_value x)

theorem blockClear_touch {M : Nat} {s₀ s : State} {a0} (m : Sub 0x7ffffffffff3ffdeff0 M) (h : Touch M s₀ s) :
    Touch M s₀ (blockClear a0 s) := by
  unfold blockClear
  repeat' with_reducible first
    | assumption | refine State.withLg_touch (m.bit rfl) ?_ | refine State.withAfe_touch (m.bit rfl) ?_
    | refine repOff_touch (m.trans rfl) ?_ | refine xnetRestart_touch (m.trans rfl) ?_
    | refine State.withTt_touch (m.bit rfl) ?_ | refine abandonSlots_touch (m.trans rfl) ?_
    | refine panelOff_touch (m.trans rfl) ?_ | refine State.withSafe_touch (m.bit rfl) ?_
    | refine State.setGrp_touch (m.trans rfl) ?_ | refine safeRestart_touch (m.trans rfl) ?_
    | refine put_page_touch (m.trans (by decide +kernel)) ?_ | refine put_ch_touch (m.trans (by decide +kernel)) ?_ | refine put_idx_touch (m.trans (by decide +kernel)) ?_ | refine put_host_touch (m.trans (by decide +kernel)) ?_ | refine put_pll_touch (m.trans (by decide +kernel)) ?_ | refine put_master_touch (m.trans (by decide +kernel)) ?_ | refine put_closed_touch (m.trans (by decide +kernel)) ?_ | refine State.put_touch (m.trans (by decide +kernel)) ?_ | refine put_any_touch (m.trans (by decide +kernel)) ?_
    | refine resetWheel_touch (m.trans rfl) ?_ | refine rebuildReset_touch (m.trans rfl) ?_
    | refine safeFaultCode_touch (m.trans rfl) ?_ | refine State.setSeg_touch (m.trans rfl) ?_
    | refine windowRecords_touch (m.trans rfl) ?_ | refine State.withPanel_touch (m.bit rfl) ?_
    | refine State.setShadow_touch (m.trans rfl) ?_ | refine State.setXport_touch (m.trans rfl) ?_
    | refine periodTaken_touch (m.trans rfl) ?_ | refine gwyReset_touch (m.trans rfl) ?_
    | refine State.withEng_touch (m.bit rfl) ?_ | refine resetGroups_touch (m.trans rfl) ?_
    | refine State.withCall_touch (m.bit rfl) ?_ | refine refreshDo_touch (m.trans rfl) ?_
    | refine State.setChan_touch (m.trans rfl) ?_ | refine staleSend_touch (m.trans rfl) ?_
    | refine State.withOuts_touch (m.bit rfl) ?_ | refine refreshUnits_touch (m.trans rfl) ?_
    | refine State.setPort_touch (m.trans rfl) ?_ | refine setExc_touch (m.trans rfl) ?_
    | refine safeAllOff_touch (m.trans rfl) ?_ | refine safeDone_touch (m.trans rfl) ?_
    | refine foldl_touch (fun _ _ _ => ?_) ?_ | refine Touch.ite_else ?_ (fun _ => ?_) | unfold x
    | (extract_lets +onlyGivenNames x; first | (refine Touch.cut (s := x) ?_ (fun _ => ?_); rotate_left; clear_value x) | clear_value x)
    | split

theorem blockReset_touch {M : Nat} {s₀ s : State} {a0} (m : Sub 0x7ffffffffff3ffdeffc M) (h : Touch M s₀ s) :
    Touch M s₀ (blockReset a0 s) := by
  unfold blockReset
  repeat' with_reducible first
    | assumption | refine sendUnits_touch (m.trans rfl) ?_
    | refine put_page_touch (m.trans (by decide +kernel)) ?_ | refine put_ch_touch (m.trans (by decide +kernel)) ?_ | refine put_idx_touch (m.trans (by decide +kernel)) ?_ | refine put_host_touch (m.trans (by decide +kernel)) ?_ | refine put_pll_touch (m.trans (by decide +kernel)) ?_ | refine put_master_touch (m.trans (by decide +kernel)) ?_ | refine put_closed_touch (m.trans (by decide +kernel)) ?_ | refine State.put_touch (m.trans (by decide +kernel)) ?_ | refine put_any_touch (m.trans (by decide +kernel)) ?_
    | refine callSettle_touch (m.trans rfl) ?_ | refine accessFault_touch (m.trans rfl) ?_
    | refine clearHeader_touch (m.trans rfl) ?_ | refine clearPage_touch (m.trans rfl) ?_
    | refine blockClear_touch (m.trans rfl) ?_ | refine blockBefore_touch (m.trans rfl) ?_
    | refine Touch.ite_else ?_ (fun _ => ?_) | unfold x
    | (extract_lets +onlyGivenNames x; first | (refine Touch.cut (s := x) ?_ (fun _ => ?_); rotate_left; clear_value x) | clear_value x)
    | split

theorem reRaise_touch {M : Nat} {s₀ s : State} (m : Sub 0x7ffe001000101ac6210 M) (h : Touch M s₀ s) :
    Touch M s₀ (reRaise s) := by
  unfold reRaise
  repeat' with_reducible first
    | assumption | refine trackPoint_touch (m.trans rfl) ?_ | refine foldl_touch (fun _ _ _ => ?_) ?_
    | refine Touch.ite_else ?_ (fun _ => ?_) | split

theorem blockRestart_touch {M : Nat} {s₀ s : State} {a0 a1} (m : Sub 0x7ffffffffff37efe3f0 M) (h : Touch M s₀ s) :
    Touch M s₀ (blockRestart a0 a1 s) := by
  unfold blockRestart
  repeat' with_reducible first
    | assumption | refine fbJoin_touch (m.trans rfl) ?_ | refine logStart_touch (m.trans rfl) ?_
    | refine reRaise_touch (m.trans rfl) ?_ | refine scanWritten_touch (m.trans rfl) ?_
    | refine updatePanel_touch (m.trans rfl) ?_ | refine fastTaken_touch (m.trans rfl) ?_
    | refine forcePass_touch (m.trans rfl) ?_ | refine panelStart_touch (m.trans rfl) ?_
    | refine portEnable_touch (m.trans rfl) ?_ | refine configSelection_touch (m.trans rfl) ?_
    | refine repDriveAll_touch (m.trans rfl) ?_ | refine regionsStart_touch (m.trans rfl) ?_
    | refine updateDo_touch (m.trans rfl) ?_ | refine Touch.ite_else ?_ (fun _ => ?_) | split

theorem blockResetEnd_touch {M : Nat} {s₀ s : State} {a0 a1} (m : Sub 0x7ffffffffff37efe3f0 M) (h : Touch M s₀ s) :
    Touch M s₀ (blockResetEnd a0 a1 s) := by
  unfold blockResetEnd
  repeat' with_reducible first
    | assumption | refine clockFollow_touch (m.trans rfl) ?_
    | refine put_page_touch (m.trans (by decide +kernel)) ?_ | refine put_ch_touch (m.trans (by decide +kernel)) ?_ | refine put_idx_touch (m.trans (by decide +kernel)) ?_ | refine put_host_touch (m.trans (by decide +kernel)) ?_ | refine put_pll_touch (m.trans (by decide +kernel)) ?_ | refine put_master_touch (m.trans (by decide +kernel)) ?_ | refine put_closed_touch (m.trans (by decide +kernel)) ?_ | refine State.put_touch (m.trans (by decide +kernel)) ?_ | refine put_any_touch (m.trans (by decide +kernel)) ?_
    | refine callSettle_touch (m.trans rfl) ?_ | refine blockRestart_touch (m.trans rfl) ?_
    | refine Touch.ite_else ?_ (fun _ => ?_) | split

theorem execBlockResetEnd_touch {M : Nat} {s₀ s : State} {a0 a2} (m : Sub 0x7ffffffffff37efe3f0 M) (h : Touch M s₀ s) :
    OutTouch M s₀ (execBlockResetEnd a0 s a2) := by
  unfold execBlockResetEnd
  repeat' with_reducible first
    | assumption | apply OutTouch.next | refine blockResetEnd_touch (m.trans rfl) ?_
    | refine Touch.ite_else ?_ (fun _ => ?_) | split

end Sys2Proof.Machine
end

