-- ==== Sys2Proof/Laws/TouchPages.lean ====
section
/-!
SUPPORT. What the definitions of Machine/Pages.lean touch.
-/

set_option Elab.async false
set_option linter.all false

namespace Sys2Proof.Machine

theorem actMode_touch {M : Nat} {s₀ s : State} {a0 a1 a2 a3} (m : Sub 0x7ffffffffff002062f0 M) (h : Touch M s₀ s) :
    Touch M s₀ (actMode a0 a1 a2 a3 s) := by
  unfold actMode
  repeat' with_reducible first
    | assumption
    | refine storeFields_touch (m.trans (by decide +kernel)) ?_ | refine storeFields_any_touch (m.trans (by decide +kernel)) ?_
    | refine accessFault_touch (m.trans rfl) ?_ | refine Touch.ite_else ?_ (fun _ => ?_) | unfold x
    | (extract_lets +onlyGivenNames x; first | (refine Touch.cut (s := x) ?_ (fun _ => ?_); rotate_left; clear_value x) | clear_value x)
    | split

theorem actOrdCtl_touch {M : Nat} {s₀ s : State} {a0 a1} (m : Sub 0x7ffffffffff00000010 M) (h : Touch M s₀ s) :
    Touch M s₀ (actOrdCtl a0 a1 s) := by
  unfold actOrdCtl
  repeat' with_reducible first
    | assumption
    | refine put_page_touch (m.trans (by decide +kernel)) ?_ | refine put_ch_touch (m.trans (by decide +kernel)) ?_ | refine put_idx_touch (m.trans (by decide +kernel)) ?_ | refine put_host_touch (m.trans (by decide +kernel)) ?_ | refine put_pll_touch (m.trans (by decide +kernel)) ?_ | refine put_master_touch (m.trans (by decide +kernel)) ?_ | refine put_closed_touch (m.trans (by decide +kernel)) ?_ | refine State.put_touch (m.trans (by decide +kernel)) ?_ | refine put_any_touch (m.trans (by decide +kernel)) ?_
    | refine foldl_touch (fun _ _ _ => ?_) ?_ | refine Touch.ite_else ?_ (fun _ => ?_) | split

theorem actScan_touch {M : Nat} {s₀ s : State} {a0 a1 a2 a3} (m : Sub 0x7ffffffffff01ece2f0 M) (h : Touch M s₀ s) :
    Touch M s₀ (actScan a0 a1 a2 a3 s) := by
  unfold actScan
  repeat' with_reducible first
    | assumption | refine scanWritten_touch (m.trans rfl) ?_
    | refine storeFields_touch (m.trans (by decide +kernel)) ?_ | refine storeFields_any_touch (m.trans (by decide +kernel)) ?_
    | refine callSettle_touch (m.trans rfl) ?_

theorem fbAction_touch {M : Nat} {s₀ s : State} {a0 a1 a2 a3 a4} (m : Sub 0x7ffffffffff0225e2f1 M) (h : Touch M s₀ s) :
    Touch M s₀ (fbAction a0 a1 a2 a3 a4 s) := by
  unfold fbAction
  repeat' with_reducible first
    | assumption | refine actTxCan_touch (m.trans rfl) ?_ | refine actTxReq_touch (m.trans rfl) ?_
    | refine storeFields_touch (m.trans (by decide +kernel)) ?_ | refine storeFields_any_touch (m.trans (by decide +kernel)) ?_
    | refine actRxRel_touch (m.trans rfl) ?_ | refine actFbCtl_touch (m.trans rfl) ?_
    | refine actFbCmd_touch (m.trans rfl) ?_ | split

theorem logAction_touch {M : Nat} {s₀ s : State} {a0 a1 a2 a3} (m : Sub 0x7ffffffffff002062f1 M) (h : Touch M s₀ s) :
    Touch M s₀ (logAction a0 a1 a2 a3 s) := by
  unfold logAction
  repeat' with_reducible first
    | assumption | refine actClrCmd_touch (m.trans rfl) ?_ | refine actClrReq_touch (m.trans rfl) ?_
    | refine actLogCtl_touch (m.trans rfl) ?_
    | refine storeFields_touch (m.trans (by decide +kernel)) ?_ | refine storeFields_any_touch (m.trans (by decide +kernel)) ?_
    | refine actRate_touch (m.trans rfl) ?_ | refine Touch.ite_else ?_ (fun _ => ?_) | unfold x
    | (extract_lets +onlyGivenNames x; first | (refine Touch.cut (s := x) ?_ (fun _ => ?_); rotate_left; clear_value x) | clear_value x)
    | split

theorem lanAction_touch {M : Nat} {s₀ s : State} {a0 a1 a2 a3} (m : Sub 0x7ffffffffff042062f0 M) (h : Touch M s₀ s) :
    Touch M s₀ (lanAction a0 a1 a2 a3 s) := by
  unfold lanAction
  repeat' with_reducible first
    | assumption | refine actWincfg_touch (m.trans rfl) ?_ | refine actLanCmd_touch (m.trans rfl) ?_
    | refine actRegion_touch (m.trans rfl) ?_
    | refine storeFields_touch (m.trans (by decide +kernel)) ?_ | refine storeFields_any_touch (m.trans (by decide +kernel)) ?_
    | refine actHostwin_touch (m.trans rfl) ?_ | refine actLanCtl_touch (m.trans rfl) ?_
    | refine Touch.ite_else ?_ (fun _ => ?_) | unfold x
    | (extract_lets +onlyGivenNames x; first | (refine Touch.cut (s := x) ?_ (fun _ => ?_); rotate_left; clear_value x) | clear_value x)
    | split

theorem blockAction_touch {M : Nat} {s₀ s : State} {a0 a1 a2 a3} (m : Sub 0x7ffffffffff3fffffff M) (h : Touch M s₀ s) :
    Touch M s₀ (blockAction a0 a1 a2 a3 s) := by
  unfold blockAction
  repeat' with_reducible first
    | assumption | refine actGrpCmd_touch (m.trans rfl) ?_ | refine actKeyCmd_touch (m.trans rfl) ?_
    | refine actRtcTime_touch (m.trans rfl) ?_ | refine actImgCtl_touch (m.trans rfl) ?_
    | refine fbAction_touch (m.trans rfl) ?_ | refine actMdio_touch (m.trans rfl) ?_
    | refine actSoftReset_touch (m.trans rfl) ?_ | refine logAction_touch (m.trans rfl) ?_
    | refine actOpcmd_touch (m.trans rfl) ?_ | refine actMode_touch (m.trans rfl) ?_
    | refine actImgData_touch (m.trans rfl) ?_ | refine actRackCmd_touch (m.trans rfl) ?_
    | refine actRtcTrim_touch (m.trans rfl) ?_ | refine actKeyData_touch (m.trans rfl) ?_
    | refine storeFields_touch (m.trans (by decide +kernel)) ?_ | refine storeFields_any_touch (m.trans (by decide +kernel)) ?_
    | refine actScan_touch (m.trans rfl) ?_ | refine actOwnTake_touch (m.trans rfl) ?_
    | refine actDoSet_touch (m.trans rfl) ?_ | refine actGwyCmd_touch (m.trans rfl) ?_
    | refine lanAction_touch (m.trans rfl) ?_ | refine actClkCtl_touch (m.trans rfl) ?_
    | refine actManCmd_touch (m.trans rfl) ?_ | refine actXnetCtl_touch (m.trans rfl) ?_
    | refine actCallCmd_touch (m.trans rfl) ?_ | refine actOrdCtl_touch (m.trans rfl) ?_
    | refine actRcfgCtl_touch (m.trans rfl) ?_ | refine actTideCtl_touch (m.trans rfl) ?_
    | refine curveLoad_touch (m.trans rfl) ?_ | refine actInstCmd_touch (m.trans rfl) ?_
    | refine actCfgCtl_touch (m.trans rfl) ?_ | refine actOwn_touch (m.trans rfl) ?_
    | refine actRtcStat_touch (m.trans rfl) ?_ | refine actRtcCtl_touch (m.trans rfl) ?_
    | refine actTtReq_touch (m.trans rfl) ?_ | refine actRcfgData_touch (m.trans rfl) ?_
    | refine actXnetCmd_touch (m.trans rfl) ?_ | refine actCfgData_touch (m.trans rfl) ?_
    | refine actPwrCtl_touch (m.trans rfl) ?_ | refine actAdmcmd_touch (m.trans rfl) ?_
    | refine actPteCtl_touch (m.trans rfl) ?_ | refine Touch.ite_else ?_ (fun _ => ?_) | unfold x
    | (extract_lets +onlyGivenNames x; first | (refine Touch.cut (s := x) ?_ (fun _ => ?_); rotate_left; clear_value x) | clear_value x)
    | split

theorem commitPlain_touch {M : Nat} {s₀ s : State} {a0} (m : Sub 0x7ffffffffff3fffffff M) (h : Touch M s₀ s) :
    Touch M s₀ (commitPlain a0 s) := by
  unfold commitPlain
  repeat' with_reducible first
    | assumption
    | refine put_page_touch (m.trans (by decide +kernel)) ?_ | refine put_ch_touch (m.trans (by decide +kernel)) ?_ | refine put_idx_touch (m.trans (by decide +kernel)) ?_ | refine put_host_touch (m.trans (by decide +kernel)) ?_ | refine put_pll_touch (m.trans (by decide +kernel)) ?_ | refine put_master_touch (m.trans (by decide +kernel)) ?_ | refine put_closed_touch (m.trans (by decide +kernel)) ?_ | refine State.put_touch (m.trans (by decide +kernel)) ?_ | refine put_any_touch (m.trans (by decide +kernel)) ?_
    | refine State.dropStaged_touch (m.trans rfl) ?_ | refine blockAction_touch (m.trans rfl) ?_
    | refine foldl_touch (fun _ _ _ => ?_) ?_ | refine Touch.ite_else ?_ (fun _ => ?_) | unfold x
    | (extract_lets +onlyGivenNames x; first | (refine Touch.cut (s := x) ?_ (fun _ => ?_); rotate_left; clear_value x) | clear_value x)
    | split

theorem pageCommit_touch {M : Nat} {s₀ s : State} {a0} (m : Sub 0x7ffffffffff3fffffff M) (h : Touch M s₀ s) :
    Touch M s₀ (pageCommit a0 s) := by
  unfold pageCommit
  repeat' with_reducible first
    | assumption | refine commitPlain_touch (m.trans rfl) ?_ | refine callSettle_touch (m.trans rfl) ?_
    | refine startCommit_touch (m.trans rfl) ?_ | refine Touch.ite_else ?_ (fun _ => ?_) | split

theorem actCommit_touch {M : Nat} {s₀ s : State} {a0 a1 a2} (m : Sub 0x7ffffffffff3fffffff M) (h : Touch M s₀ s) :
    Touch M s₀ (actCommit a0 a1 a2 s) := by
  unfold actCommit
  repeat' with_reducible first
    | assumption | refine pageCommit_touch (m.trans rfl) ?_ | refine Touch.ite_else ?_ (fun _ => ?_) | split

theorem commitApply_touch {M : Nat} {s₀ s : State} {a0} (m : Sub 0x7ffffffffff3fffffff M) (h : Touch M s₀ s) :
    Touch M s₀ (commitApply a0 s) := by
  unfold commitApply
  repeat' with_reducible first
    | assumption | refine callCommit_touch (m.trans rfl) ?_ | refine fbForce_touch (m.trans rfl) ?_
    | refine commitPlain_touch (m.trans rfl) ?_ | refine repCommitAt_touch (m.trans rfl) ?_
    | refine commitTaken_touch (m.trans rfl) ?_ | refine lanCommit_touch (m.trans rfl) ?_
    | refine linCommit_touch (m.trans rfl) ?_ | refine sailCommitAt_touch (m.trans rfl) ?_
    | refine dioCommit_touch (m.trans rfl) ?_ | refine xpCommit_touch (m.trans rfl) ?_
    | refine commitsAndRequest_touch (m.trans rfl) ?_ | refine fbCommit_touch (m.trans rfl) ?_
    | refine afgCommit_touch (m.trans rfl) ?_ | refine Touch.ite_else ?_ (fun _ => ?_) | split

theorem execCommitApply_touch {M : Nat} {s₀ s : State} {a0} (m : Sub 0x7ffffffffff3fffffff M) (h : Touch M s₀ s) :
    OutTouch M s₀ (execCommitApply a0 s) := by
  unfold execCommitApply
  repeat' with_reducible first
    | assumption | apply OutTouch.next | refine commitApply_touch (m.trans rfl) ?_
    | refine callSettle_touch (m.trans rfl) ?_ | refine Touch.ite_else ?_ (fun _ => ?_) | split

theorem actPageCtl_touch {M : Nat} {s₀ s : State} {a0 a1 a2 a3} (m : Sub 0x7ffffffffff3ffdeffc M) (h : Touch M s₀ s) :
    Touch M s₀ (actPageCtl a0 a1 a2 a3 s) := by
  unfold actPageCtl
  repeat' with_reducible first
    | assumption | refine clockFollow_touch (m.trans rfl) ?_ | refine State.dropStageMode_touch (m.trans rfl) ?_
    | refine storeFields_touch (m.trans (by decide +kernel)) ?_ | refine storeFields_any_touch (m.trans (by decide +kernel)) ?_
    | refine enableFollow_touch (m.trans rfl) ?_ | refine blockReset_touch (m.trans rfl) ?_
    | refine callSettle_touch (m.trans rfl) ?_ | refine Touch.ite_else ?_ (fun _ => ?_) | unfold x
    | (extract_lets +onlyGivenNames x; first | (refine Touch.cut (s := x) ?_ (fun _ => ?_); rotate_left; clear_value x) | clear_value x)
    | split

theorem actEvtPend_touch {M : Nat} {s₀ s : State} {p v w} (m : Sub 0x700000010 M) (h : Touch M s₀ s) : Touch M s₀ (actEvtPend p v w s) := by
  unfold actEvtPend
  extract_lets a x
  have hx : Touch M s₀ x := setReg_hdr_touch (by decide) (m.trans rfl) h
  split
  · exact put_page_touch (m.trans rfl) hx
  · exact hx

theorem actEvtForce_touch {M : Nat} {s₀ s : State} {p v w} (m : Sub 0x100000010 M) (h : Touch M s₀ s) : Touch M s₀ (actEvtForce p v w s) :=
  setReg_hdr_touch (by decide) (m.trans rfl) h

theorem actPageLock_touch {M : Nat} {s₀ s : State} {a0 a1 a2} (m : Sub 0x200000010 M) (h : Touch M s₀ s) :
    Touch M s₀ (actPageLock a0 a1 a2 s) := by
  unfold actPageLock
  repeat' with_reducible first
    | assumption | refine State.putFlag_touch ?_
    | refine put_page_touch (m.trans (by decide +kernel)) ?_ | refine put_ch_touch (m.trans (by decide +kernel)) ?_ | refine put_idx_touch (m.trans (by decide +kernel)) ?_ | refine put_host_touch (m.trans (by decide +kernel)) ?_ | refine put_pll_touch (m.trans (by decide +kernel)) ?_ | refine put_master_touch (m.trans (by decide +kernel)) ?_ | refine put_closed_touch (m.trans (by decide +kernel)) ?_ | refine State.put_touch (m.trans (by decide +kernel)) ?_ | refine put_any_touch (m.trans (by decide +kernel)) ?_
    | refine Touch.ite_else ?_ (fun _ => ?_) | split

theorem regAction_touch {M : Nat} {s₀ s : State} {a0 a1 a2 a3} (m : Sub 0x7ffffffffff3fffffff M) (h : Touch M s₀ s) :
    Touch M s₀ (regAction a0 a1 a2 a3 s) := by
  unfold regAction
  repeat' with_reducible first
    | assumption | refine actPageLock_touch (m.trans rfl) ?_ | refine actEvtForce_touch (m.trans rfl) ?_
    | refine actEvtPend_touch (m.trans rfl) ?_ | refine actPageCtl_touch (m.trans rfl) ?_
    | refine blockAction_touch (m.trans rfl) ?_ | refine actCommit_touch (m.trans rfl) ?_ | unfold x
    | (extract_lets +onlyGivenNames x; first | (refine Touch.cut (s := x) ?_ (fun _ => ?_); rotate_left; clear_value x) | clear_value x)
    | split

theorem headerWord_touch {M : Nat} {s₀ s : State} {a0 a1 a2 a3} (m : Sub 0x7ffffffffff3fffffff M) (h : Touch M s₀ s) :
    Touch M s₀ (headerWord a0 a1 a2 a3 s) := by
  unfold headerWord
  repeat' with_reducible first
    | assumption
    | refine hostWord_touch (m.trans (by decide +kernel)) (fun _ _ _ => ?_) ?_ | refine hostWord_any_touch (m.trans (by decide +kernel)) (fun _ _ _ => ?_) ?_
    | refine regAction_touch (m.trans rfl) ?_ | refine Touch.ite_else ?_ (fun _ => ?_) | split

theorem execBlockReset_touch {M : Nat} {s₀ s : State} {a0 a1} (m : Sub 0x7ffffffffff3fffffff M) (h : Touch M s₀ s) :
    OutTouch M s₀ (execBlockReset a0 a1 s) := by
  unfold execBlockReset
  repeat' with_reducible first
    | assumption | apply OutTouch.next | refine headerWord_touch (m.trans rfl) ?_

theorem execStageWrite_touch {M : Nat} {s₀ s : State} {a0 a1 a2} (m : Sub 0x7ffffffffff3fffffff M) (h : Touch M s₀ s) :
    OutTouch M s₀ (execStageWrite a0 a1 a2 s) := by
  unfold execStageWrite
  repeat' with_reducible first
    | assumption | apply OutTouch.next | refine headerWord_touch (m.trans rfl) ?_

theorem execPageCommit_touch {M : Nat} {s₀ s : State} {a0 a1} (m : Sub 0x7ffffffffff3fffffff M) (h : Touch M s₀ s) :
    OutTouch M s₀ (execPageCommit a0 a1 s) := by
  unfold execPageCommit
  repeat' with_reducible first
    | assumption | apply OutTouch.next | refine headerWord_touch (m.trans rfl) ?_

theorem execPageLock_touch {M : Nat} {s₀ s : State} {a0 a1 a2} (m : Sub 0x7ffffffffff3fffffff M) (h : Touch M s₀ s) :
    OutTouch M s₀ (execPageLock a0 a1 a2 s) := by
  unfold execPageLock
  repeat' with_reducible first
    | assumption | apply OutTouch.next | refine headerWord_touch (m.trans rfl) ?_

theorem execEvtClear_touch {M : Nat} {s₀ s : State} {a0 a1 a2} (m : Sub 0x7ffffffffff3fffffff M) (h : Touch M s₀ s) :
    OutTouch M s₀ (execEvtClear a0 a1 a2 s) := by
  unfold execEvtClear
  repeat' with_reducible first
    | assumption | apply OutTouch.next | refine headerWord_touch (m.trans rfl) ?_

theorem execEvtForce_touch {M : Nat} {s₀ s : State} {a0 a1 a2} (m : Sub 0x7ffffffffff3fffffff M) (h : Touch M s₀ s) :
    OutTouch M s₀ (execEvtForce a0 a1 a2 s) := by
  unfold execEvtForce
  repeat' with_reducible first
    | assumption | apply OutTouch.next | refine headerWord_touch (m.trans rfl) ?_

end Sys2Proof.Machine
end

