-- ==== Sys2Proof/Laws/TouchWindows.lean ====
section
/-!
SUPPORT. What the definitions of Machine/Windows.lean touch.
-/

set_option Elab.async false
set_option linter.all false

namespace Sys2Proof.Machine

theorem writeCurve_touch {M : Nat} {s₀ s : State} {a0 a1 a2} (m : Sub 0x108000000300216210 M) (h : Touch M s₀ s) :
    Touch M s₀ (writeCurve a0 a1 a2 s) := by
  unfold writeCurve
  repeat' with_reducible first
    | assumption | refine State.setWinWord_touch (m.trans rfl) ?_ | refine accessFault_touch (m.trans rfl) ?_
    | refine Touch.ite_else ?_ (fun _ => ?_) | unfold x
    | (extract_lets +onlyGivenNames x; first | (refine Touch.cut (s := x) ?_ (fun _ => ?_); rotate_left; clear_value x) | clear_value x)
    | split

theorem writeSailing_touch {M : Nat} {s₀ s : State} {a0 a1} (m : Sub 0x108000000300216290 M) (h : Touch M s₀ s) :
    Touch M s₀ (writeSailing a0 a1 s) := by
  unfold writeSailing
  repeat' with_reducible first
    | assumption | refine State.setWinWord_touch (m.trans rfl) ?_ | refine accessFault_touch (m.trans rfl) ?_
    | refine State.stage_touch (m.trans rfl) ?_ | refine Touch.ite_else ?_ (fun _ => ?_) | unfold x
    | (extract_lets +onlyGivenNames x; first | (refine Touch.cut (s := x) ?_ (fun _ => ?_); rotate_left; clear_value x) | clear_value x)
    | split

theorem writeWindow_touch {M : Nat} {s₀ s : State} {a0 a1 a2 a3} (m : Sub 0x108000000300216290 M) (h : Touch M s₀ s) :
    Touch M s₀ (writeWindow a0 a1 a2 a3 s) := by
  unfold writeWindow
  repeat' with_reducible first
    | assumption | refine writeSailing_touch (m.trans rfl) ?_ | refine State.setWinWord_touch (m.trans rfl) ?_
    | refine writeCurve_touch (m.trans rfl) ?_ | refine accessFault_touch (m.trans rfl) ?_
    | refine State.stage_touch (m.trans rfl) ?_ | refine Touch.ite_else ?_ (fun _ => ?_) | split

theorem windowStore_touch {M : Nat} {s₀ s : State} {a0 a1 a2 a3} (m : Sub 0x108000000300216290 M) (h : Touch M s₀ s) :
    Touch M s₀ (windowStore a0 a1 a2 a3 s) := by
  unfold windowStore
  repeat' with_reducible first
    | assumption | refine accessFault_touch (m.trans rfl) ?_ | refine writeWindow_touch (m.trans rfl) ?_
    | refine Touch.ite_else ?_ (fun _ => ?_) | split

end Sys2Proof.Machine
end

