-- ==== Sys2Proof/Laws/TouchHostPort.lean ====
section
/-!
SUPPORT. What the definitions of Machine/HostPort.lean touch.
-/

set_option Elab.async false
set_option linter.all false

namespace Sys2Proof.Machine

theorem portError_touch {M : Nat} {s₀ s : State} {a0 a1 a2} (m : Sub 0x108000030100206210 M) (h : Touch M s₀ s) :
    Touch M s₀ (portError a0 a1 a2 s) := by
  unfold portError
  repeat' with_reducible first
    | assumption | refine raise_touch (m.trans rfl) ?_ | refine State.bumpSat_touch ?_
    | refine put_page_touch (m.trans (by decide +kernel)) ?_ | refine put_ch_touch (m.trans (by decide +kernel)) ?_ | refine put_idx_touch (m.trans (by decide +kernel)) ?_ | refine put_host_touch (m.trans (by decide +kernel)) ?_ | refine put_pll_touch (m.trans (by decide +kernel)) ?_ | refine put_master_touch (m.trans (by decide +kernel)) ?_ | refine put_closed_touch (m.trans (by decide +kernel)) ?_ | refine State.put_touch (m.trans (by decide +kernel)) ?_ | refine put_any_touch (m.trans (by decide +kernel)) ?_

theorem badAddress_touch {M : Nat} {s₀ s : State} {a0 a1} (m : Sub 0x108000030100206210 M) (h : Touch M s₀ s) :
    Touch M s₀ (badAddress a0 a1 s) := by
  unfold badAddress
  repeat' with_reducible first
    | assumption | refine portError_touch (m.trans rfl) ?_
    | refine put_page_touch (m.trans (by decide +kernel)) ?_ | refine put_ch_touch (m.trans (by decide +kernel)) ?_ | refine put_idx_touch (m.trans (by decide +kernel)) ?_ | refine put_host_touch (m.trans (by decide +kernel)) ?_ | refine put_pll_touch (m.trans (by decide +kernel)) ?_ | refine put_master_touch (m.trans (by decide +kernel)) ?_ | refine put_closed_touch (m.trans (by decide +kernel)) ?_ | refine State.put_touch (m.trans (by decide +kernel)) ?_ | refine put_any_touch (m.trans (by decide +kernel)) ?_

theorem storeHigh_touch {M : Nat} {s₀ s : State} {a0 a1} (m : Sub 0x7ffffffffff00000010 M) (h : Touch M s₀ s) :
    Touch M s₀ (storeHigh a0 a1 s) := by
  unfold storeHigh
  repeat' with_reducible first
    | assumption
    | refine setReg_fld_touch (m.trans (by decide +kernel)) ?_ | refine State.setReg_touch (m.trans (by decide +kernel)) ?_ | refine setReg_any_touch (m.trans (by decide +kernel)) ?_

theorem captureHigh_touch {M : Nat} {s₀ s : State} {a0} (m : Sub 0x7ffffffffff00000010 M) (h : Touch M s₀ s) :
    Touch M s₀ (captureHigh a0 s) := by
  unfold captureHigh
  repeat' with_reducible first
    | assumption | refine storeHigh_touch (m.trans rfl) ?_
    | refine setReg_fld_touch (m.trans (by decide +kernel)) ?_ | refine State.setReg_touch (m.trans (by decide +kernel)) ?_ | refine setReg_any_touch (m.trans (by decide +kernel)) ?_
    | refine Touch.ite_else ?_ (fun _ => ?_) | split

theorem readWord_touch {M : Nat} {s₀ s : State} {a0 a1} (m : Sub 0x7ffffffffff08206270 M) (h : Touch M s₀ s) :
    Touch M s₀ (readWord a0 a1 s).2 := by
  unfold readWord
  repeat' with_reducible first
    | assumption | refine timeHiEffect_touch (m.trans rfl) ?_ | refine captureHigh_touch (m.trans rfl) ?_
    | refine timeLoEffect_touch (m.trans rfl) ?_ | refine badAddress_touch (m.trans rfl) ?_
    | refine accessFault_touch (m.trans rfl) ?_ | refine gwyAdvance_touch (m.trans rfl) ?_
    | refine Touch.ite_else ?_ (fun _ => ?_) | split

theorem writeWord_touch {M : Nat} {s₀ s : State} {a0 a1 a2} (m : Sub 0x7ffffffffff3fffffff M) (h : Touch M s₀ s) :
    Touch M s₀ (writeWord a0 a1 a2 s) := by
  unfold writeWord
  repeat' with_reducible first
    | assumption
    | refine hostWord_touch (m.trans (by decide +kernel)) (fun _ _ _ => ?_) ?_ | refine hostWord_any_touch (m.trans (by decide +kernel)) (fun _ _ _ => ?_) ?_
    | refine badAddress_touch (m.trans rfl) ?_ | refine regAction_touch (m.trans rfl) ?_
    | refine windowStore_touch (m.trans rfl) ?_ | refine Touch.ite_else ?_ (fun _ => ?_) | split

theorem storeWord_touch {M : Nat} {s₀ s : State} {a0 a1 a2} (m : Sub 0x7ffffffffff3fffffff M) (h : Touch M s₀ s) :
    Touch M s₀ (storeWord a0 a1 a2 s) := by
  unfold storeWord
  repeat' with_reducible first
    | assumption | refine badAddress_touch (m.trans rfl) ?_ | refine writeWord_touch (m.trans rfl) ?_
    | refine Touch.ite_else ?_ (fun _ => ?_) | split

theorem execRegisterWrite_touch {M : Nat} {s₀ s : State} {a0 a1 a2} (m : Sub 0x7ffffffffff3fffffff M) (h : Touch M s₀ s) :
    OutTouch M s₀ (execRegisterWrite a0 a1 a2 s) := by
  unfold execRegisterWrite
  repeat' with_reducible first
    | assumption | apply OutTouch.next | refine storeWord_touch (m.trans rfl) ?_

theorem execWindowWrite_touch {M : Nat} {s₀ s : State} {a0 a1 a2} (m : Sub 0x7ffffffffff3fffffff M) (h : Touch M s₀ s) :
    OutTouch M s₀ (execWindowWrite a0 a1 a2 s) := by
  unfold execWindowWrite
  repeat' with_reducible first
    | assumption | apply OutTouch.next | refine storeWord_touch (m.trans rfl) ?_

theorem execUnmappedAccess_touch {M : Nat} {s₀ s : State} {a0 a1} (m : Sub 0x108000030100206210 M) (h : Touch M s₀ s) :
    OutTouch M s₀ (execUnmappedAccess a0 a1 s) := by
  unfold execUnmappedAccess
  repeat' with_reducible first
    | assumption | apply OutTouch.next | exact OutTouch.fault | refine badAddress_touch (m.trans rfl) ?_
    | refine Touch.ite_else ?_ (fun _ => ?_) | split

theorem execTimeLoRead_touch {M : Nat} {s₀ s : State} {a0} (m : Sub 0x7ffffffffff08206270 M) (h : Touch M s₀ s) :
    OutTouch M s₀ (execTimeLoRead a0 s) := by
  unfold execTimeLoRead
  repeat' with_reducible first
    | assumption | apply OutTouch.next | refine readWord_touch (m.trans rfl) ?_
    | refine Touch.ite_else ?_ (fun _ => ?_) | split

theorem execTimeHiRead_touch {M : Nat} {s₀ s : State} {a0} (m : Sub 0x7ffffffffff08206270 M) (h : Touch M s₀ s) :
    OutTouch M s₀ (execTimeHiRead a0 s) := by
  unfold execTimeHiRead
  repeat' with_reducible first
    | assumption | apply OutTouch.next | refine readWord_touch (m.trans rfl) ?_
    | refine Touch.ite_else ?_ (fun _ => ?_) | split

theorem answer_touch {M : Nat} {s₀ s : State} {a0 a1 a2 a3 a4} (m : Sub 0x30000000c10 M) (h : Touch M s₀ s) :
    Touch M s₀ (answer a0 a1 a2 a3 a4 s) := by
  unfold answer
  repeat' with_reducible first
    | assumption
    | refine put_page_touch (m.trans (by decide +kernel)) ?_ | refine put_ch_touch (m.trans (by decide +kernel)) ?_ | refine put_idx_touch (m.trans (by decide +kernel)) ?_ | refine put_host_touch (m.trans (by decide +kernel)) ?_ | refine put_pll_touch (m.trans (by decide +kernel)) ?_ | refine put_master_touch (m.trans (by decide +kernel)) ?_ | refine put_closed_touch (m.trans (by decide +kernel)) ?_ | refine State.put_touch (m.trans (by decide +kernel)) ?_ | refine put_any_touch (m.trans (by decide +kernel)) ?_
    | refine State.setPort_touch (m.trans rfl) ?_ | refine Touch.ite_else ?_ (fun _ => ?_) | unfold x
    | (extract_lets +onlyGivenNames x; first | (refine Touch.cut (s := x) ?_ (fun _ => ?_); rotate_left; clear_value x) | clear_value x)
    | split

theorem silent_touch {M : Nat} {s₀ s : State} {a0} (m : Sub 0xc00 M) (h : Touch M s₀ s) :
    Touch M s₀ (silent a0 s) := by
  unfold silent
  repeat' with_reducible first
    | assumption | refine State.setPort_touch (m.trans rfl) ?_ | unfold x
    | (extract_lets +onlyGivenNames x; first | (refine Touch.cut (s := x) ?_ (fun _ => ?_); rotate_left; clear_value x) | clear_value x)

theorem holdAnswer_touch {M : Nat} {s₀ s : State} {a0 a1} (m : Sub 0xc00 M) (h : Touch M s₀ s) :
    Touch M s₀ (holdAnswer a0 a1 s) := by
  unfold holdAnswer
  repeat' with_reducible first
    | assumption | refine State.setPort_touch (m.trans rfl) ?_ | unfold x
    | (extract_lets +onlyGivenNames x; first | (refine Touch.cut (s := x) ?_ (fun _ => ?_); rotate_left; clear_value x) | clear_value x)

theorem transact_touch {M : Nat} {s₀ s : State} {x c k n a l} {f : State → List Word × State} (m : Sub 0x108000030100206e10 M)
    (hf : ∀ s, Touch M s₀ s → Touch M s₀ (f s).2) (h : Touch M s₀ s) : Touch M s₀ (transact x c k n a l f s) := by
  unfold transact
  dsimp only
  split
  · exact silent_touch (m.trans rfl) (portError_touch (m.trans rfl) (put_host_touch (m.trans rfl) h))
  · exact answer_touch (m.trans rfl) (portError_touch (m.trans rfl) (put_host_touch (m.trans rfl) h))
  · exact answer_touch (m.trans rfl) (hf _ (put_host_touch (m.trans rfl) h))

theorem readBurst_touch {M : Nat} {s₀ s : State} {x a n} (m : Sub 0x7ffffffffff08206270 M) (h : Touch M s₀ s) : Touch M s₀ (readBurst x a n s).2 := by
  induction n generalizing a s with
  | zero => exact h
  | succ n ih => exact ih (readWord_touch (m.trans rfl) h)

theorem writeBurst_touch {M : Nat} {s₀ s : State} {x a ws} (m : Sub 0x7ffffffffff3fffffff M) (h : Touch M s₀ s) : Touch M s₀ (writeBurst x a ws s) := by
  induction ws generalizing a s with
  | nil => exact h
  | cons w ws ih => exact ih (writeWord_touch (m.trans rfl) h)

theorem hostRead_touch {M : Nat} {s₀ s : State} {a0 a1 a2 a3} (m : Sub 0x7ffffffffff08206e70 M) (h : Touch M s₀ s) :
    Touch M s₀ (hostRead a0 a1 a2 a3 s) := by
  unfold hostRead
  repeat' with_reducible first
    | assumption
    | refine put_page_touch (m.trans (by decide +kernel)) ?_ | refine put_ch_touch (m.trans (by decide +kernel)) ?_ | refine put_idx_touch (m.trans (by decide +kernel)) ?_ | refine put_host_touch (m.trans (by decide +kernel)) ?_ | refine put_pll_touch (m.trans (by decide +kernel)) ?_ | refine put_master_touch (m.trans (by decide +kernel)) ?_ | refine put_closed_touch (m.trans (by decide +kernel)) ?_ | refine State.put_touch (m.trans (by decide +kernel)) ?_ | refine put_any_touch (m.trans (by decide +kernel)) ?_
    | refine badAddress_touch (m.trans rfl) ?_ | refine silent_touch (m.trans rfl) ?_
    | refine State.setPort_touch (m.trans rfl) ?_ | refine transact_touch (m.trans rfl) (fun _ _ => ?_) ?_
    | refine readBurst_touch (m.trans rfl) ?_ | refine Touch.ite_else ?_ (fun _ => ?_) | unfold x
    | (extract_lets +onlyGivenNames x; first | (refine Touch.cut (s := x) ?_ (fun _ => ?_); rotate_left; clear_value x) | clear_value x)
    | refine Touch.snd ?_ (by assumption) | split

theorem execHostRead_touch {M : Nat} {s₀ s : State} {a0 a1 a2 a3} (m : Sub 0x7ffffffffff08206e70 M) (h : Touch M s₀ s) :
    OutTouch M s₀ (execHostRead a0 a1 a2 a3 s) := by
  unfold execHostRead
  repeat' with_reducible first
    | assumption | apply OutTouch.next | refine hostRead_touch (m.trans rfl) ?_
    | refine holdAnswer_touch (m.trans rfl) ?_ | refine Touch.ite_else ?_ (fun _ => ?_) | split

theorem hostReread_touch {M : Nat} {s₀ s : State} {a0 a1 a2} (m : Sub 0x108000030100206e10 M) (h : Touch M s₀ s) :
    Touch M s₀ (hostReread a0 a1 a2 s) := by
  unfold hostReread
  repeat' with_reducible first
    | assumption | refine transact_touch (m.trans rfl) (fun _ _ => ?_) ?_ | unfold x
    | (extract_lets +onlyGivenNames x; first | (refine Touch.cut (s := x) ?_ (fun _ => ?_); rotate_left; clear_value x) | clear_value x)

theorem execHostReread_touch {M : Nat} {s₀ s : State} {a0 a1 a2} (m : Sub 0x108000030100206e10 M) (h : Touch M s₀ s) :
    OutTouch M s₀ (execHostReread a0 a1 a2 s) := by
  unfold execHostReread
  repeat' with_reducible first
    | assumption | apply OutTouch.next | refine hostReread_touch (m.trans rfl) ?_
    | refine holdAnswer_touch (m.trans rfl) ?_ | refine Touch.ite_else ?_ (fun _ => ?_) | split

theorem hostStatus_touch {M : Nat} {s₀ s : State} {a0 a1} (m : Sub 0x108000030100206e10 M) (h : Touch M s₀ s) :
    Touch M s₀ (hostStatus a0 a1 s) := by
  unfold hostStatus
  repeat' with_reducible first
    | assumption | refine transact_touch (m.trans rfl) (fun _ _ => ?_) ?_

theorem execHostStatus_touch {M : Nat} {s₀ s : State} {a0 a1} (m : Sub 0x108000030100206e10 M) (h : Touch M s₀ s) :
    OutTouch M s₀ (execHostStatus a0 a1 s) := by
  unfold execHostStatus
  repeat' with_reducible first
    | assumption | apply OutTouch.next | refine hostStatus_touch (m.trans rfl) ?_
    | refine holdAnswer_touch (m.trans rfl) ?_ | refine Touch.ite_else ?_ (fun _ => ?_) | split

theorem hostIdent_touch {M : Nat} {s₀ s : State} {a0 a1} (m : Sub 0x108000030100206e10 M) (h : Touch M s₀ s) :
    Touch M s₀ (hostIdent a0 a1 s) := by
  unfold hostIdent
  repeat' with_reducible first
    | assumption | refine transact_touch (m.trans rfl) (fun _ _ => ?_) ?_

theorem execHostIdent_touch {M : Nat} {s₀ s : State} {a0 a1} (m : Sub 0x108000030100206e10 M) (h : Touch M s₀ s) :
    OutTouch M s₀ (execHostIdent a0 a1 s) := by
  unfold execHostIdent
  repeat' with_reducible first
    | assumption | apply OutTouch.next | refine hostIdent_touch (m.trans rfl) ?_
    | refine holdAnswer_touch (m.trans rfl) ?_ | refine Touch.ite_else ?_ (fun _ => ?_) | split

theorem crcError_touch {M : Nat} {s₀ s : State} {a0} (m : Sub 0x108000030100206210 M) (h : Touch M s₀ s) :
    Touch M s₀ (crcError a0 s) := by
  unfold crcError
  repeat' with_reducible first
    | assumption | refine raise_touch (m.trans rfl) ?_
    | refine put_page_touch (m.trans (by decide +kernel)) ?_ | refine put_ch_touch (m.trans (by decide +kernel)) ?_ | refine put_idx_touch (m.trans (by decide +kernel)) ?_ | refine put_host_touch (m.trans (by decide +kernel)) ?_ | refine put_pll_touch (m.trans (by decide +kernel)) ?_ | refine put_master_touch (m.trans (by decide +kernel)) ?_ | refine put_closed_touch (m.trans (by decide +kernel)) ?_ | refine State.put_touch (m.trans (by decide +kernel)) ?_ | refine put_any_touch (m.trans (by decide +kernel)) ?_
    | refine State.bumpSat_touch ?_

theorem hostWrite_touch {M : Nat} {s₀ s : State} {a0 a1 a2 a3 a4 a5 a6} (m : Sub 0x7ffffffffff3fffffff M) (h : Touch M s₀ s) :
    Touch M s₀ (hostWrite a0 a1 a2 a3 a4 a5 a6 s) := by
  unfold hostWrite
  repeat' with_reducible first
    | assumption | refine portError_touch (m.trans rfl) ?_
    | refine put_page_touch (m.trans (by decide +kernel)) ?_ | refine put_ch_touch (m.trans (by decide +kernel)) ?_ | refine put_idx_touch (m.trans (by decide +kernel)) ?_ | refine put_host_touch (m.trans (by decide +kernel)) ?_ | refine put_pll_touch (m.trans (by decide +kernel)) ?_ | refine put_master_touch (m.trans (by decide +kernel)) ?_ | refine put_closed_touch (m.trans (by decide +kernel)) ?_ | refine State.put_touch (m.trans (by decide +kernel)) ?_ | refine put_any_touch (m.trans (by decide +kernel)) ?_
    | refine badAddress_touch (m.trans rfl) ?_ | refine silent_touch (m.trans rfl) ?_
    | refine crcError_touch (m.trans rfl) ?_ | refine writeBurst_touch (m.trans rfl) ?_
    | refine Touch.ite_else ?_ (fun _ => ?_) | unfold x
    | (extract_lets +onlyGivenNames x; first | (refine Touch.cut (s := x) ?_ (fun _ => ?_); rotate_left; clear_value x) | clear_value x)
    | split

theorem execHostWrite_touch {M : Nat} {s₀ s : State} {a0 a1 a2 a3 a4 a5 a6} (m : Sub 0x7ffffffffff3fffffff M) (h : Touch M s₀ s) :
    OutTouch M s₀ (execHostWrite a0 a1 a2 a3 a4 a5 a6 s) := by
  unfold execHostWrite
  repeat' with_reducible first
    | assumption | apply OutTouch.next | refine hostWrite_touch (m.trans rfl) ?_
    | refine Touch.ite_else ?_ (fun _ => ?_) | split

theorem hostBadCmd_touch {M : Nat} {s₀ s : State} {a0 a1 a2} (m : Sub 0x108000030100206e10 M) (h : Touch M s₀ s) :
    Touch M s₀ (hostBadCmd a0 a1 a2 s) := by
  unfold hostBadCmd
  repeat' with_reducible first
    | assumption | refine portError_touch (m.trans rfl) ?_
    | refine put_page_touch (m.trans (by decide +kernel)) ?_ | refine put_ch_touch (m.trans (by decide +kernel)) ?_ | refine put_idx_touch (m.trans (by decide +kernel)) ?_ | refine put_host_touch (m.trans (by decide +kernel)) ?_ | refine put_pll_touch (m.trans (by decide +kernel)) ?_ | refine put_master_touch (m.trans (by decide +kernel)) ?_ | refine put_closed_touch (m.trans (by decide +kernel)) ?_ | refine State.put_touch (m.trans (by decide +kernel)) ?_ | refine put_any_touch (m.trans (by decide +kernel)) ?_
    | refine silent_touch (m.trans rfl) ?_ | refine Touch.ite_else ?_ (fun _ => ?_) | unfold x
    | (extract_lets +onlyGivenNames x; first | (refine Touch.cut (s := x) ?_ (fun _ => ?_); rotate_left; clear_value x) | clear_value x)
    | split

theorem execHostBadCmd_touch {M : Nat} {s₀ s : State} {a0 a1 a3} (m : Sub 0x108000030100206e10 M) (h : Touch M s₀ s) :
    OutTouch M s₀ (execHostBadCmd a0 a1 s a3) := by
  unfold execHostBadCmd
  repeat' with_reducible first
    | assumption | apply OutTouch.next | exact OutTouch.fault | refine hostBadCmd_touch (m.trans rfl) ?_
    | refine Touch.ite_else ?_ (fun _ => ?_) | split

theorem execHostModeReset_touch {M : Nat} {s₀ s : State} {a0} (m : Sub 0x30000000c10 M) (h : Touch M s₀ s) :
    OutTouch M s₀ (execHostModeReset a0 s) := by
  unfold execHostModeReset
  repeat' with_reducible first
    | assumption | apply OutTouch.next
    | refine put_page_touch (m.trans (by decide +kernel)) ?_ | refine put_ch_touch (m.trans (by decide +kernel)) ?_ | refine put_idx_touch (m.trans (by decide +kernel)) ?_ | refine put_host_touch (m.trans (by decide +kernel)) ?_ | refine put_pll_touch (m.trans (by decide +kernel)) ?_ | refine put_master_touch (m.trans (by decide +kernel)) ?_ | refine put_closed_touch (m.trans (by decide +kernel)) ?_ | refine State.put_touch (m.trans (by decide +kernel)) ?_ | refine put_any_touch (m.trans (by decide +kernel)) ?_
    | refine silent_touch (m.trans rfl) ?_ | refine Touch.ite_else ?_ (fun _ => ?_) | split

theorem execHostModeWrite_touch {M : Nat} {s₀ s : State} {a0 a1 a2} (m : Sub 0x7ffffffffff002062f0 M) (h : Touch M s₀ s) :
    OutTouch M s₀ (execHostModeWrite a0 a1 a2 s) := by
  unfold execHostModeWrite
  repeat' with_reducible first
    | assumption | apply OutTouch.next
    | refine hostWord_touch (m.trans (by decide +kernel)) (fun _ _ _ => ?_) ?_ | refine hostWord_any_touch (m.trans (by decide +kernel)) (fun _ _ _ => ?_) ?_
    | refine actMode_touch (m.trans rfl) ?_

end Sys2Proof.Machine
end

