-- ==== Sys2Proof/Laws/Events.lean ====
section
/-!
SUPPORT. Events and written words: raising an event sets its EVT_RAW bit and clears none; a written word that
passes every check is its behaviour alone.
-/

set_option Elab.async false

namespace Sys2Proof.Machine

theorem getBit_or (a b : Word) (n : Nat) : getBit (a ||| b) n = (getBit a n || getBit b n) := by
  simp [getBit]

theorem getBit_ofNat_two_pow {n : Nat} (h : n < 32) : getBit (BitVec.ofNat 32 (2 ^ n)) n = true := by
  unfold getBit
  rw [BitVec.toNat_ofNat, Nat.mod_eq_of_lt (Nat.pow_lt_pow_right (by decide) h)]
  simp

/-- From `s` to `t` no EVT_RAW bit has cleared. -/
structure Up (s t : State) : Prop where
  canon : s.Canonical → t.Canonical
  raw : s.Canonical → ∀ p b, s.raised p b = true → t.raised p b = true

theorem Up.refl (s : State) : Up s s := ⟨id, fun _ _ _ h => h⟩

theorem Up.trans {s t u : State} (h : Up s t) (k : Up t u) : Up s u :=
  ⟨fun c => k.canon (h.canon c), fun c p b e => k.raw (h.canon c) p b (h.raw c p b e)⟩

/-- What touches no register, or none of a page header's event words, clears no bit. -/
theorem Up.touch {M : Nat} {s t : State} (k : Touch M s t) (h : M.testBit 32 = false) : Up s t := by
  refine ⟨k.canon, fun _ p b e => ?_⟩
  unfold State.raised at *
  rw [k.reg _ ?_]
  · exact e
  · rw [regMask_hdr (by decide)]
    exact h

theorem Up.setRaw (s : State) (p b : Nat) : Up s (s.setRaw p b) := by
  refine ⟨fun c => State.canonical_setRaw c _ _, fun c q k e => ?_⟩
  unfold State.raised State.setRaw at *
  by_cases h : q * 0x1000 + 0x00C = p * 0x1000 + 0x00C
  · rw [h, State.reg_setReg c, getBit_or, ← h, e, Bool.true_or]
  · rw [State.reg_setReg_ne _ h]
    exact e

theorem raised_setRaw {s : State} (c : s.Canonical) (p : Nat) {b : Nat} (h : b < 32) : (s.setRaw p b).raised p b = true := by
  unfold State.raised State.setRaw
  rw [State.reg_setReg c, getBit_or, getBit_ofNat_two_pow h, Bool.or_true]

theorem Up.setLastTally (s : State) (p t : Nat) : Up s (s.setLastTally p t) := by
  refine ⟨?_, fun c q k e => ?_⟩
  · intro c
    exact (State.setLastTally_touch (M := 0x7ffffffffff00000210) (by decide) (Touch.refl _ _)).canon c
  · unfold State.raised State.setLastTally at *
    simp only [State.withLastHi, State.reg] at *
    rw [← e]
    congr 1
    refine State.reg_setReg_ne (s := s) _ ?_
    omega

/-- Writing a field outside the page headers clears no bit. -/
theorem Up.put {f : Fld} (h : (fldMask f).testBit 32 = false) (s : State) (v : Nat) : Up s (s.put f v) :=
  Up.touch (M := fldMask f) (State.put_touch (Sub.refl _) (Touch.refl _ _)) h

theorem Up.withLg (s : State) (l : Log) : Up s (s.withLg l) :=
  Up.touch (M := 0x4000) (State.withLg_touch rfl (Touch.refl _ _)) rfl

theorem Up.withOrd (s : State) (o : Ord) : Up s (s.withOrd o) :=
  Up.touch (M := 0x2000) (State.withOrd_touch rfl (Touch.refl _ _)) rfl

theorem Up.withCallIn (s : State) (l : List Rec) : Up s (s.withCallIn l) :=
  Up.touch (M := 0x200000) (State.withCallIn_touch rfl (Touch.refl _ _)) rfl

theorem Up.logPush (r : Rec) (s : State) : Up s (logPush r s) := by
  unfold Machine.logPush
  dsimp only
  split
  · exact (Up.withLg s _).trans (Up.put (by decide) _ _)
  · exact ((Up.withLg s _).trans (Up.put (by decide) _ _)).trans (Up.setRaw _ _ _)

theorem Up.logOwn (r : Rec) (s : State) : Up s (logOwn r s) := by
  unfold Machine.logOwn
  split
  · exact Up.logPush _ _
  · split
    · exact Up.logPush _ _
    · split
      · split
        · exact Up.logPush _ _
        · exact (Up.withLg s _).trans (Up.logPush _ _)
      · split
        · exact Up.withLg s _
        · exact (Up.withLg s _).trans (Up.logPush _ _)

theorem Up.refreshCeil (s : State) : Up s (refreshCeil s) :=
  Up.touch (M := 0x8000000000002010) (refreshCeil_touch (Sub.refl _) (Touch.refl _ _)) rfl

theorem Up.stampLocal (e : Evt) (s : State) : Up s (stampLocal e s) := by
  unfold Machine.stampLocal
  refine Up.trans ?_ (Up.refreshCeil _)
  have u : Up s (if e.page = 0x078 then s.withOrd { s.ord with tally := s.ord.tally + 1 }
      else (s.withOrd { s.ord with tally := s.ord.tally + 1 }).setLastTally e.page (s.ord.tally + 1)) := by
    split
    · exact Up.withOrd _ _
    · exact (Up.withOrd _ _).trans (Up.setLastTally _ _ _)
  split
  · exact (u.trans (Up.logOwn _ _)).trans (Up.withCallIn _ _)
  · exact u.trans (Up.logOwn _ _)

theorem Up.holdUntil (h : Held) (l : Nat) (s : State) : Up s (holdUntil h l s) := by
  unfold Machine.holdUntil
  have u := (Up.withOrd s { s.ord with waitq := s.ord.waitq ++ [h] }).trans (Up.put (f := F.ordStatWaiting) (by decide) _ 1)
  dsimp only
  split
  · split
    · exact u.trans (Up.withOrd _ _)
    · exact u
  · split
    · exact (u.trans (Up.setRaw _ _ _)).trans (Up.withOrd _ _)
    · exact u

theorem Up.emitLocal (e : Evt) (s : State) : Up s (emitLocal e s) := by
  unfold Machine.emitLocal
  split
  · exact Up.stampLocal _ _
  · exact Up.holdUntil _ _ _

theorem Up.raise (p b sev : Nat) (ws : List Nat) (s : State) : Up s (raise p b sev ws s) := by
  unfold Machine.raise
  split
  · exact Up.setRaw _ _ _
  · exact (Up.setRaw _ _ _).trans (Up.emitLocal _ _)

theorem Up.record (p c sev : Nat) (ws : List Nat) (s : State) : Up s (record p c sev ws s) := Up.emitLocal _ _

theorem Up.accessFault (p c : Nat) (s : State) : Up s (accessFault p c s) := by
  unfold Machine.accessFault
  refine Up.trans ?_ (Up.raise _ _ _ _ _)
  split
  · refine ⟨fun h => State.canonical_put h _ _, fun h q k e => ?_⟩
    unfold State.raised State.put at *
    rw [State.reg_setReg_ne]
    · exact e
    · simp only [Fld.page]
      omega
  · exact Up.refl _

/-- Raising an event sets its bit of EVT_RAW. -/
theorem raised_raise {s : State} (c : s.Canonical) (p sev : Nat) {b : Nat} (h : b < 32) (ws : List Nat) :
    (raise p b sev ws s).raised p b = true := by
  unfold Machine.raise
  split
  · exact raised_setRaw c p h
  · exact (Up.emitLocal _ _).raw (State.canonical_setRaw c _ _) _ _ (raised_setRaw c p h)

theorem raised_accessFault {s : State} (c : s.Canonical) (p k : Nat) : (accessFault p k s).raised p 31 = true := by
  unfold Machine.accessFault
  refine raised_raise ?_ _ _ (by decide) _
  split
  · exact State.canonical_put c _ _
  · exact c

/-! Written words. -/

theorem foldl_id {α β : Type} {f : α → β → α} (h : ∀ a b, f a b = a) : ∀ (l : List β) (a : α), l.foldl f a = a
  | [], _ => rfl
  | b :: l, a => by rw [List.foldl_cons, h, foldl_id h l]

/-- Storing no field stores nothing. -/
theorem storeFields_zero (h : HostId) (a : Nat) (v : Word) (s : State) : storeFields h a v 0#32 s = s := by
  unfold storeFields
  refine foldl_id (fun s f => ?_) _ _
  have e : fieldMask f &&& 0#32 = 0#32 := BitVec.and_zero
  simp only [e]
  exact if_neg fun k => k.2 rfl

/-- A written word that passes every check is its behaviour alone. -/
theorem Passes.hostWord {h : HostId} {a : Nat} {v m : Word} {s : State} (p : Passes h a v m s) (act : Word → State → State) :
    hostWord h a v act s = act m s := by
  unfold Machine.hostWord judged
  obtain ⟨r, hr⟩ := Option.isSome_iff_exists.1 p.known
  have e1 : m &&& ~~~(0#32) = m := by rw [BitVec.not_zero, BitVec.and_allOnes]
  have e2 : m &&& 0#32 = 0#32 := BitVec.and_zero
  have e3 : stageModeBits a s = 0#32 := p.direct
  simp only [p.answers, p.fitted, p.page, hr, p.fields, e3, if_true, e1, e2, storeFields_zero]
  rfl

end Sys2Proof.Machine
end

