-- ==== Sys2Proof/Laws/PerInstr.lean ====
section
/-!
SUPPORT. The family `IllFormed` of LAWS.json, one lemma per command: a command that is not well formed is one of four
rows whose operand names nothing (log entry 7).
-/

open Sys2Proof Sys2Proof.Machine

namespace Sys2Proof.Laws.IllFormed

/-- An ill-formed command names call unit 63, a mapped and aligned address as unmapped, or a defined command byte as an
undefined one. -/
def Statement (i : Instr) : Prop :=
  i.wf = false →
    i = .unitTimeout 63 ∨ i = .unitAcceptInput 63 ∨
    (∃ h a, i = .unmappedAccess h a ∧ mappedAddr a.toNat = true ∧ a.toNat % 4 = 0) ∨
    (∃ h c sck, i = .hostBadCmd h c sck ∧ c ∈ hostCommands)

/-- A command that is well formed whatever its operands. -/
theorem of_wf {i : Instr} (h : i.wf = true) : Statement i := fun hf => absurd (h.symm.trans hf) (by decide)

theorem tideTick (lfxo : Bool := true) (resetN : Bool := true) : Statement (.tideTick lfxo resetN) := of_wf rfl
theorem tickSourceToLfrc : Statement (.tickSourceToLfrc) := of_wf rfl
theorem tickSourceToLfxo : Statement (.tickSourceToLfxo) := of_wf rfl
theorem engineWake : Statement (.engineWake) := of_wf rfl
theorem enginePllChangeover : Statement (.enginePllChangeover) := of_wf rfl
theorem enginePass : Statement (.enginePass) := of_wf rfl
theorem supplyCoreFail (supply : CoreSupply) : Statement (.supplyCoreFail supply) := of_wf rfl
theorem avdd5Fail : Statement (.avdd5Fail) := of_wf rfl
theorem avdd5Recover : Statement (.avdd5Recover) := of_wf rfl
theorem vfieldFail : Statement (.vfieldFail) := of_wf rfl
theorem vfieldRecover : Statement (.vfieldRecover) := of_wf rfl
theorem vledFail : Statement (.vledFail) := of_wf rfl
theorem vledRecover : Statement (.vledRecover) := of_wf rfl
theorem vdd33Warn (mram : MramWrite := .ok) : Statement (.vdd33Warn mram) := of_wf rfl
theorem dipEnd (us : Nat) : Statement (.dipEnd us) := of_wf rfl
theorem nvmGateOpen (mram : MramWrite := .ok) (worn : List (Nat × BitVec 17) := []) : Statement (.nvmGateOpen mram worn) := of_wf rfl
theorem lockout : Statement (.lockout) := of_wf rfl
theorem lockoutRelease : Statement (.lockoutRelease) := of_wf rfl
theorem vdd33ResetFall (vbat : Nat := 3000) : Statement (.vdd33ResetFall vbat) := of_wf rfl
theorem backupSwitch : Statement (.backupSwitch) := of_wf rfl
theorem backupReturn : Statement (.backupReturn) := of_wf rfl
theorem startUp (s1 s2 s3 : BitVec 10) (tmode : BitVec 2) (norBad : List NorRegion := []) (array : ArrayFind := .whole) (mram : MramFind := .sound) (norTrip : List NorRegion := []) : Statement (.startUp s1 s2 s3 tmode norBad array mram norTrip) := of_wf rfl
theorem bootRepair : Statement (.bootRepair) := of_wf rfl
theorem svcMirror (mram : MramWrite := .ok) : Statement (.svcMirror mram) := of_wf rfl
theorem mirrorNow (host : HostId) (mram : MramWrite := .ok) : Statement (.mirrorNow host mram) := of_wf rfl
theorem vbatCheck (mv : Nat) : Statement (.vbatCheck mv) := of_wf rfl
theorem hfxoFail : Statement (.hfxoFail) := of_wf rfl
theorem hfxoRetry (ok : Bool) : Statement (.hfxoRetry ok) := of_wf rfl
theorem frcRetrim : Statement (.frcRetrim) := of_wf rfl
theorem pllLock (pll : Pll) : Statement (.pllLock pll) := of_wf rfl
theorem pllUnlock (pll : Pll) : Statement (.pllUnlock pll) := of_wf rfl
theorem dozeEntry : Statement (.dozeEntry) := of_wf rfl
theorem standbyRequest (src : StandbySrc) : Statement (.standbyRequest src) := of_wf rfl
theorem standbyEnter (mram : MramWrite := .ok) : Statement (.standbyEnter mram) := of_wf rfl
theorem standbyWakeHost (host : HostId) : Statement (.standbyWakeHost host) := of_wf rfl
theorem diWake (di : BitVec 6) : Statement (.diWake di) := of_wf rfl
theorem standbyExit : Statement (.standbyExit) := of_wf rfl
theorem phyResetRelease : Statement (.phyResetRelease) := of_wf rfl
theorem resetButtonArm : Statement (.resetButtonArm) := of_wf rfl
theorem pinReset : Statement (.pinReset) := of_wf rfl
theorem buttonStuck : Statement (.buttonStuck) := of_wf rfl
theorem watchdogReset (block : WatchedBlock) : Statement (.watchdogReset block) := of_wf rfl
theorem softReset (host : HostId) : Statement (.softReset host) := of_wf rfl
theorem blockReset (host : HostId) (page : BitVec 10) : Statement (.blockReset host page) := of_wf rfl
theorem registerWrite (host : HostId) (addr : BitVec 24) (value : Word) : Statement (.registerWrite host addr value) := of_wf rfl
theorem unmappedAccess (host : HostId) (addr : BitVec 24) : Statement (.unmappedAccess host addr) := fun h =>
  .inr (.inr (.inl ⟨host, addr, rfl, by simpa [Instr.wf, unmappedOk] using h⟩))
theorem windowWrite (host : HostId) (addr : BitVec 24) (value : Word) : Statement (.windowWrite host addr value) := of_wf rfl
theorem stageWrite (host : HostId) (page : BitVec 10) (stage : Bool) : Statement (.stageWrite host page stage) := of_wf rfl
theorem pageCommit (host : HostId) (page : BitVec 10) : Statement (.pageCommit host page) := of_wf rfl
theorem commitApply (page : BitVec 10) : Statement (.commitApply page) := of_wf rfl
theorem pageLock (host : HostId) (page : BitVec 10) (value : Word) : Statement (.pageLock host page value) := of_wf rfl
theorem evtClear (host : HostId) (page : BitVec 10) (mask : Word) : Statement (.evtClear host page mask) := of_wf rfl
theorem evtForce (host : HostId) (page : BitVec 10) (mask : Word) : Statement (.evtForce host page mask) := of_wf rfl
theorem hostRead (host : HostId) (addr : BitVec 24) (words : Nat) (sck : Nat) : Statement (.hostRead host addr words sck) := of_wf rfl
theorem hostWrite (host : HostId) (addr : BitVec 24) (len : BitVec 8) (data : List Word) (partialBits : Nat) (crc : BitVec 16) (sck : Nat) : Statement (.hostWrite host addr len data partialBits crc sck) := of_wf rfl
theorem hostReread (host : HostId) (words : Nat) (sck : Nat) : Statement (.hostReread host words sck) := of_wf rfl
theorem hostStatus (host : HostId) (sck : Nat) : Statement (.hostStatus host sck) := of_wf rfl
theorem hostIdent (host : HostId) (sck : Nat) : Statement (.hostIdent host sck) := of_wf rfl
theorem hostBadCmd (host : HostId) (cmd : Byte) (sck : Nat) : Statement (.hostBadCmd host cmd sck) := fun h =>
  .inr (.inr (.inr ⟨host, cmd, sck, rfl, by simpa [Instr.wf, badCmdOk] using h⟩))
theorem hostModeReset (host : HostId) : Statement (.hostModeReset host) := of_wf rfl
theorem hostModeWrite (host : HostId) (port : HostId) (value : Word) : Statement (.hostModeWrite host port value) := of_wf rfl
theorem ownOffer (host : HostId) : Statement (.ownOffer host) := of_wf rfl
theorem ownTake (host : HostId) (token : BitVec 16) : Statement (.ownTake host token) := of_wf rfl
theorem offerTimeout : Statement (.offerTimeout) := of_wf rfl
theorem ownClaim (host : HostId) : Statement (.ownClaim host) := of_wf rfl
theorem ownKeep (host : HostId) : Statement (.ownKeep host) := of_wf rfl
theorem claimTransfer : Statement (.claimTransfer) := of_wf rfl
theorem burstStart : Statement (.burstStart) := of_wf rfl
theorem hfxoPrestart : Statement (.hfxoPrestart) := of_wf rfl
theorem tsRead (sensor : BitVec 2) (ok : Bool) (temp : BitVec 16) : Statement (.tsRead sensor ok temp) := of_wf rfl
theorem slotStart (g : BitVec 5) : Statement (.slotStart g) := of_wf rfl
theorem excitationOn (g : BitVec 5) : Statement (.excitationOn g) := of_wf rfl
theorem checkCurrentEnd (g : BitVec 5) (mv : BitVec 16) : Statement (.checkCurrentEnd g mv) := of_wf rfl
theorem conversionStart (g : BitVec 5) : Statement (.conversionStart g) := of_wf rfl
theorem monitorMeasure (g : BitVec 5) (mon : MonReading) : Statement (.monitorMeasure g mon) := of_wf rfl
theorem phaseComplete (g : BitVec 5) (conv : ConvReading) : Statement (.phaseComplete g conv) := of_wf rfl
theorem slotEnd (g : BitVec 5) : Statement (.slotEnd g) := of_wf rfl
theorem resultLinearise (g : BitVec 5) : Statement (.resultLinearise g) := of_wf rfl
theorem rangeOverload (g : BitVec 5) (positive : Bool) : Statement (.rangeOverload g positive) := of_wf rfl
theorem fastOutput (g : BitVec 5) (conv : ConvReading) : Statement (.fastOutput g conv) := of_wf rfl
theorem fastMonitor (g : BitVec 5) (mon : MonReading) : Statement (.fastMonitor g mon) := of_wf rfl
theorem curveLoad (host : HostId) (id : BitVec 12) : Statement (.curveLoad host id) := of_wf rfl
theorem repPeriodBoundary (out : BitVec 4) : Statement (.repPeriodBoundary out) := of_wf rfl
theorem diSample (levels : BitVec 64) : Statement (.diSample levels) := of_wf rfl
theorem diChangeAccept (di : BitVec 6) (filt : Byte) (level : Bool) : Statement (.diChangeAccept di filt level) := of_wf rfl
theorem diFreqSample (point : PointIdx) : Statement (.diFreqSample point) := of_wf rfl
theorem doSet (host : HostId) (value : BitVec 16) : Statement (.doSet host value) := of_wf rfl
theorem doOverload (out : BitVec 4) : Statement (.doOverload out) := of_wf rfl
theorem doOverloadRetry (out : BitVec 4) : Statement (.doOverloadRetry out) := of_wf rfl
theorem runhrsTimer (point : PointIdx) : Statement (.runhrsTimer point) := of_wf rfl
theorem cntLoad (host : HostId) : Statement (.cntLoad host) := of_wf rfl
theorem manOpen (host : HostId) : Statement (.manOpen host) := of_wf rfl
theorem manOpenApply : Statement (.manOpenApply) := of_wf rfl
theorem manClose (host : HostId) : Statement (.manClose host) := of_wf rfl
theorem editCloseApply : Statement (.editCloseApply) := of_wf rfl
theorem editAutoClose : Statement (.editAutoClose) := of_wf rfl
theorem stalenessExpiry (point : PointIdx) : Statement (.stalenessExpiry point) := of_wf rfl
theorem delayExpiry (point : PointIdx) : Statement (.delayExpiry point) := of_wf rfl
theorem runupExpiry (point : PointIdx) : Statement (.runupExpiry point) := of_wf rfl
theorem shelveExpiry (point : PointIdx) : Statement (.shelveExpiry point) := of_wf rfl
theorem escalationExpiry (point : PointIdx) : Statement (.escalationExpiry point) := of_wf rfl
theorem forceAll (host : HostId) : Statement (.forceAll host) := of_wf rfl
theorem peakClr (host : HostId) : Statement (.peakClr host) := of_wf rfl
theorem ackPoint (host : HostId) (point : PointIdx) : Statement (.ackPoint host point) := of_wf rfl
theorem silencePoint (host : HostId) (point : PointIdx) : Statement (.silencePoint host point) := of_wf rfl
theorem ackGroup (host : HostId) (group : GroupIdx) : Statement (.ackGroup host group) := of_wf rfl
theorem silenceAll (host : HostId) : Statement (.silenceAll host) := of_wf rfl
theorem ackAll (host : HostId) : Statement (.ackAll host) := of_wf rfl
theorem opcmdUndefined (host : HostId) (adm : Bool) (value : Word) : Statement (.opcmdUndefined host adm value) := of_wf rfl
theorem shelve (host : HostId) (point : PointIdx) : Statement (.shelve host point) := of_wf rfl
theorem unshelve (host : HostId) (point : PointIdx) : Statement (.unshelve host point) := of_wf rfl
theorem oosOn (host : HostId) (point : PointIdx) : Statement (.oosOn host point) := of_wf rfl
theorem oosOff (host : HostId) (point : PointIdx) : Statement (.oosOff host point) := of_wf rfl
theorem ackInput : Statement (.ackInput) := of_wf rfl
theorem silenceInput : Statement (.silenceInput) := of_wf rfl
theorem groupRearm (host : HostId) : Statement (.groupRearm host) := of_wf rfl
theorem maxexpClr (host : HostId) : Statement (.maxexpClr host) := of_wf rfl
theorem eccScrub (corrected : Nat) : Statement (.eccScrub corrected) := of_wf rfl
theorem eccUncorrectable (secondOk : Bool) (points : List PointIdx) (records : List PointIdx := []) (groups : List GroupIdx := []) (index : Bool := false) : Statement (.eccUncorrectable secondOk points records groups index) := of_wf rfl
theorem rowRestored (array : ArrayFind := .whole) : Statement (.rowRestored array) := of_wf rfl
theorem egressHoldExpiry : Statement (.egressHoldExpiry) := of_wf rfl
theorem stageTimerExpiry (cls : BitVec 4) : Statement (.stageTimerExpiry cls) := of_wf rfl
theorem attendExpiry (cls : BitVec 4) : Statement (.attendExpiry cls) := of_wf rfl
theorem callRefresh : Statement (.callRefresh) := of_wf rfl
theorem unitFrameTimer : Statement (.unitFrameTimer) := of_wf rfl
theorem unitTimeout (unit : BitVec 6) : Statement (.unitTimeout unit) := fun h =>
  .inl (by rw [show unit = 63 by simpa [Instr.wf, unitOk] using h])
theorem unitAcceptInput (unit : BitVec 6) : Statement (.unitAcceptInput unit) := fun h =>
  .inr (.inl (by rw [show unit = 63 by simpa [Instr.wf, unitOk] using h]))
theorem callFrameReceive (frame : List Byte) : Statement (.callFrameReceive frame) := of_wf rfl
theorem callCancel (host : HostId) (cls : BitVec 4) : Statement (.callCancel host cls) := of_wf rfl
theorem dmDisarm (host : HostId) : Statement (.dmDisarm host) := of_wf rfl
theorem dmOnInput : Statement (.dmOnInput) := of_wf rfl
theorem dmResetInput : Statement (.dmResetInput) := of_wf rfl
theorem dmOffInput : Statement (.dmOffInput) := of_wf rfl
theorem dmPrewarn : Statement (.dmPrewarn) := of_wf rfl
theorem dmExpired : Statement (.dmExpired) := of_wf rfl
theorem imgBegin (host : HostId) : Statement (.imgBegin host) := of_wf rfl
theorem imgEraseDone (ok : Bool) : Statement (.imgEraseDone ok) := of_wf rfl
theorem imgData (host : HostId) (value : Word) : Statement (.imgData host value) := of_wf rfl
theorem imgEnd (host : HostId) (readOk : Bool := true) (trip : Bool := false) : Statement (.imgEnd host readOk trip) := of_wf rfl
theorem imgCopy1Written (array : ArrayFind := .whole) : Statement (.imgCopy1Written array) := of_wf rfl
theorem imgAbort (host : HostId) : Statement (.imgAbort host) := of_wf rfl
theorem keyProgram (host : HostId) (value : Word) : Statement (.keyProgram host value) := of_wf rfl
theorem keyRevoke (host : HostId) (value : Word) : Statement (.keyRevoke host value) := of_wf rfl
theorem authReqSet (host : HostId) (value : Word) : Statement (.authReqSet host value) := of_wf rfl
theorem ttInstall (host : HostId) (slot : BitVec 4) : Statement (.ttInstall host slot) := of_wf rfl
theorem ttInstallDone : Statement (.ttInstallDone) := of_wf rfl
theorem ttRequest (host : HostId) (tt : BitVec 4) : Statement (.ttRequest host tt) := of_wf rfl
theorem modeFrameReceive (frame : List Byte) : Statement (.modeFrameReceive frame) := of_wf rfl
theorem ttSwitchApply : Statement (.ttSwitchApply) := of_wf rfl
theorem canFrameReceived (seg : BitVec 3) (frame : CanFrame) (ran : BitVec 16 := 0) : Statement (.canFrameReceived seg frame ran) := of_wf rfl
theorem rxRelease (host : HostId) (seg : BitVec 3) (mbx : BitVec 6) : Statement (.rxRelease host seg mbx) := of_wf rfl
theorem txRequest (host : HostId) (seg : BitVec 3) (mask : BitVec 64) (ran : BitVec 16 := 0) : Statement (.txRequest host seg mask ran) := of_wf rfl
theorem txCancel (host : HostId) (seg : BitVec 3) (mask : BitVec 64) (ran : BitVec 16 := 0) : Statement (.txCancel host seg mask ran) := of_wf rfl
theorem txAttemptEnd (seg : BitVec 3) (mbx : BitVec 6) (outcome : TxOutcome) (overload : BitVec 4 := 0) (ran : BitVec 16 := 0) : Statement (.txAttemptEnd seg mbx outcome overload ran) := of_wf rfl
theorem boffHoldExpiry (seg : BitVec 3) : Statement (.boffHoldExpiry seg) := of_wf rfl
theorem busOffRecovered (seg : BitVec 3) : Statement (.busOffRecovered seg) := of_wf rfl
theorem recStart (host : HostId) (seg : BitVec 3) : Statement (.recStart host seg) := of_wf rfl
theorem matrixSlotStart (seg : BitVec 3) : Statement (.matrixSlotStart seg) := of_wf rfl
theorem rxExpectationCheck (seg : BitVec 3) : Statement (.rxExpectationCheck seg) := of_wf rfl
theorem fbCommitForce (seg : BitVec 3) : Statement (.fbCommitForce seg) := of_wf rfl
theorem integrationComplete (seg : BitVec 3) (ran : BitVec 16 := 0) : Statement (.integrationComplete seg ran) := of_wf rfl
theorem detect (host : HostId) (seg : BitVec 3) : Statement (.detect host seg) := of_wf rfl
theorem detectCandidateTimeout (seg : BitVec 3) (error : Bool) : Statement (.detectCandidateTimeout seg error) := of_wf rfl
theorem fbSleep (host : HostId) (seg : BitVec 3) : Statement (.fbSleep host seg) := of_wf rfl
theorem fbWake (host : HostId) (seg : BitVec 3) : Statement (.fbWake host seg) := of_wf rfl
theorem wakePattern (seg : BitVec 3) : Statement (.wakePattern seg) := of_wf rfl
theorem phyPoll (port : BitVec 2) (phy : PhyRegs) : Statement (.phyPoll port phy) := of_wf rfl
theorem mdioAccess (host : HostId) (value : Word) : Statement (.mdioAccess host value) := of_wf rfl
theorem mdioComplete (data : BitVec 16) : Statement (.mdioComplete data) := of_wf rfl
theorem syncSend (port : BitVec 2) : Statement (.syncSend port) := of_wf rfl
theorem syncReceive (port : BitVec 2) (frame : List Byte) : Statement (.syncReceive port frame) := of_wf rfl
theorem faultyRecovery (port : BitVec 2) : Statement (.faultyRecovery port) := of_wf rfl
theorem frameReceive (port : BitVec 2) (frame : List Byte) (fcsOk : Bool) (endRead : NorRead := .ok) : Statement (.frameReceive port frame fcsOk endRead) := of_wf rfl
theorem hopAckReceive (port : BitVec 2) (frame : List Byte) : Statement (.hopAckReceive port frame) := of_wf rfl
theorem hopRetransmit (port : BitVec 2) : Statement (.hopRetransmit port) := of_wf rfl
theorem hopLastingFault (port : BitVec 2) : Statement (.hopLastingFault port) := of_wf rfl
theorem streamHoldExpiry (origin : NodeIdx) : Statement (.streamHoldExpiry origin) := of_wf rfl
theorem ceilWriteDone (okA : Bool) (okB : Bool) (tripA tripB : Bool := false) : Statement (.ceilWriteDone okA okB tripA tripB) := of_wf rfl
theorem censusRoundStart (ring : Ring) : Statement (.censusRoundStart ring) := of_wf rfl
theorem censusMasterTakeover (ring : Ring) : Statement (.censusMasterTakeover ring) := of_wf rfl
theorem censusFrameReceive (port : BitVec 2) (frame : List Byte) : Statement (.censusFrameReceive port frame) := of_wf rfl
theorem censusRoundComplete (ring : Ring) : Statement (.censusRoundComplete ring) := of_wf rfl
theorem membershipInterval : Statement (.membershipInterval) := of_wf rfl
theorem replaySend : Statement (.replaySend) := of_wf rfl
theorem remoteAckCommand (host : HostId) (value : Word) : Statement (.remoteAckCommand host value) := of_wf rfl
theorem forgetNode (host : HostId) (node : NodeIdx) : Statement (.forgetNode host node) := of_wf rfl
theorem forgetAllLost (host : HostId) : Statement (.forgetAllLost host) := of_wf rfl
theorem rcfgBegin (host : HostId) (node : NodeIdx) : Statement (.rcfgBegin host node) := of_wf rfl
theorem rcfgStage (host : HostId) (node : NodeIdx) (slot : BitVec 4) : Statement (.rcfgStage host node slot) := of_wf rfl
theorem rcfgEnd (host : HostId) (node : NodeIdx) : Statement (.rcfgEnd host node) := of_wf rfl
theorem rcfgAbort (host : HostId) (node : NodeIdx) : Statement (.rcfgAbort host node) := of_wf rfl
theorem rcfgInstall (host : HostId) (node : NodeIdx) (slot : BitVec 4) : Statement (.rcfgInstall host node slot) := of_wf rfl
theorem rcfgData (host : HostId) (value : Word) : Statement (.rcfgData host value) := of_wf rfl
theorem rcfgResultReceive (frame : List Byte) : Statement (.rcfgResultReceive frame) := of_wf rfl
theorem rcfgTimeout : Statement (.rcfgTimeout) := of_wf rfl
theorem configFrameReceive (frame : List Byte) (endRead : NorRead := .ok) : Statement (.configFrameReceive frame endRead) := of_wf rfl
theorem safetyCycle (ch : SafetyCh) : Statement (.safetyCycle ch) := of_wf rfl
theorem safetyInputSample (ch : SafetyCh) (levels : SafetyLevels) : Statement (.safetyInputSample ch levels) := of_wf rfl
theorem testPulseCheck (ch : SafetyCh) (tp : BitVec 2) (levels : BitVec 32) : Statement (.testPulseCheck ch tp levels) := of_wf rfl
theorem outputDarkTest (ch : SafetyCh) (out : BitVec 3) (fed : Bool) : Statement (.outputDarkTest ch out fed) := of_wf rfl
theorem sackStuck (sack : BitVec 2) : Statement (.sackStuck sack) := of_wf rfl
theorem parcelReceive (parcel : List Byte) : Statement (.parcelReceive parcel) := of_wf rfl
theorem chainInputChange (a : Bool) (b : Bool) : Statement (.chainInputChange a b) := of_wf rfl
theorem chainDarkPulse (ch : SafetyCh) (ok : Bool) : Statement (.chainDarkPulse ch ok) := of_wf rfl
theorem chainEstablishTimeout : Statement (.chainEstablishTimeout) := of_wf rfl
theorem sealChange (code : BitVec 8) (we : Bool) (seenB : Option (BitVec 9) := none) : Statement (.sealChange code we seenB) := of_wf rfl
theorem configSelection (readB : NorRead := .ok) : Statement (.configSelection readB) := of_wf rfl
theorem safetyCfgBegin (host : HostId) (slot : BitVec 3) : Statement (.safetyCfgBegin host slot) := of_wf rfl
theorem safetyCfgEraseDone (ok : Bool) : Statement (.safetyCfgEraseDone ok) := of_wf rfl
theorem safetyCfgData (host : HostId) (value : Word) : Statement (.safetyCfgData host value) := of_wf rfl
theorem safetyCfgEnd (host : HostId) (readB : NorRead := .ok) : Statement (.safetyCfgEnd host readB) := of_wf rfl
theorem safetyCfgAbort (host : HostId) : Statement (.safetyCfgAbort host) := of_wf rfl
theorem logRecordWrite (outcome : LogWrite) : Statement (.logRecordWrite outcome) := of_wf rfl
theorem summaryEmit (code : BitVec 16) : Statement (.summaryEmit code) := of_wf rfl
theorem logFreeze (host : HostId) : Statement (.logFreeze host) := of_wf rfl
theorem logUnfreeze (host : HostId) : Statement (.logUnfreeze host) := of_wf rfl
theorem freezeExpiry : Statement (.freezeExpiry) := of_wf rfl
theorem clrReq (host : HostId) : Statement (.clrReq host) := of_wf rfl
theorem clrCmd (host : HostId) (value : Word) : Statement (.clrCmd host value) := of_wf rfl
theorem clrKeyExpiry : Statement (.clrKeyExpiry) := of_wf rfl
theorem clearComplete : Statement (.clearComplete) := of_wf rfl
theorem seekKey (host : HostId) : Statement (.seekKey host) := of_wf rfl
theorem seekFirst (host : HostId) : Statement (.seekFirst host) := of_wf rfl
theorem seekLast (host : HostId) : Statement (.seekLast host) := of_wf rfl
theorem gwyAdvance (host : HostId) : Statement (.gwyAdvance host) := of_wf rfl
theorem rtcTick : Statement (.rtcTick) := of_wf rfl
theorem timeLoRead (host : HostId) : Statement (.timeLoRead host) := of_wf rfl
theorem timeHiRead (host : HostId) : Statement (.timeHiRead host) := of_wf rfl
theorem shadowReleaseTimeout (host : HostId) : Statement (.shadowReleaseTimeout host) := of_wf rfl
theorem rtcHalt (host : HostId) : Statement (.rtcHalt host) := of_wf rfl
theorem rtcRelease (host : HostId) : Statement (.rtcRelease host) := of_wf rfl
theorem osfClear (host : HostId) : Statement (.osfClear host) := of_wf rfl
theorem frameBoundary : Statement (.frameBoundary) := of_wf rfl
theorem rowSlot (row : BitVec 4) : Statement (.rowSlot row) := of_wf rfl
theorem panelTempRead (temp : BitVec 16) : Statement (.panelTempRead temp) := of_wf rfl
theorem regionRequest (host : HostId) (region : BitVec 4) (value : Word) : Statement (.regionRequest host region value) := of_wf rfl
theorem hostwinWrite (host : HostId) (value : Word) : Statement (.hostwinWrite host value) := of_wf rfl
theorem lamptest (host : HostId) : Statement (.lamptest host) := of_wf rfl
theorem ltStop (host : HostId) : Statement (.ltStop host) := of_wf rfl
theorem lamptestExpiry : Statement (.lamptestExpiry) := of_wf rfl
theorem lamptestInput (level : Bool) : Statement (.lamptestInput level) := of_wf rfl
theorem panelPowerOnDone : Statement (.panelPowerOnDone) := of_wf rfl
theorem panelPowerOff : Statement (.panelPowerOff) := of_wf rfl
theorem panelPowerOffDone : Statement (.panelPowerOffDone) := of_wf rfl
theorem beaconPulse : Statement (.beaconPulse) := of_wf rfl
theorem aonRetentionLoss : Statement (.aonRetentionLoss) := of_wf rfl
theorem canRxError (seg : BitVec 3) (kind : BitVec 3) (eights : BitVec 4 := 0) (ran : BitVec 16 := 0) : Statement (.canRxError seg kind eights ran) := of_wf rfl
theorem blockResetEnd (page : BitVec 10) (array : ArrayFind := .whole) : Statement (.blockResetEnd page array) := of_wf rfl
theorem curveLoadDone : Statement (.curveLoadDone) := of_wf rfl
theorem keyProgramDone : Statement (.keyProgramDone) := of_wf rfl
theorem safetyCfgCopyAWritten : Statement (.safetyCfgCopyAWritten) := of_wf rfl
theorem logMergeDone (worn : List (Nat × BitVec 17) := []) : Statement (.logMergeDone worn) := of_wf rfl
theorem gwySeekDone (host : HostId) : Statement (.gwySeekDone host) := of_wf rfl

end Sys2Proof.Laws.IllFormed
end

