-- ==== Sys2Proof/Laws/State.lean ====
section
/-!
SUPPORT. What each setter of State leaves in each field.
-/

set_option Elab.async false

namespace Sys2Proof.Machine

@[simp] theorem State.withPending_pending (s : State) (v : List Instr) : (s.withPending v).pending = v := rfl
@[simp] theorem State.withPending_freeCount (s : State) (v : List Instr) : (s.withPending v).freeCount = s.freeCount := rfl
@[simp] theorem State.withPending_part (s : State) (v : List Instr) : (s.withPending v).part = s.part := rfl
@[simp] theorem State.withPending_phase (s : State) (v : List Instr) : (s.withPending v).phase = s.phase := rfl
@[simp] theorem State.withPending_rst (s : State) (v : List Instr) : (s.withPending v).rst = s.rst := rfl
@[simp] theorem State.withPending_pwr (s : State) (v : List Instr) : (s.withPending v).pwr = s.pwr := rfl
@[simp] theorem State.withPending_regs (s : State) (v : List Instr) : (s.withPending v).regs = s.regs := rfl
@[simp] theorem State.withPending_regsA (s : State) (v : List Instr) : (s.withPending v).regsA = s.regsA := rfl
@[simp] theorem State.withPending_regsB (s : State) (v : List Instr) : (s.withPending v).regsB = s.regsB := rfl
@[simp] theorem State.withPending_staged (s : State) (v : List Instr) : (s.withPending v).staged = s.staged := rfl
@[simp] theorem State.withPending_lasting (s : State) (v : List Instr) : (s.withPending v).lasting = s.lasting := rfl
@[simp] theorem State.withPending_lastHi (s : State) (v : List Instr) : (s.withPending v).lastHi = s.lastHi := rfl
@[simp] theorem State.withPending_portA (s : State) (v : List Instr) : (s.withPending v).portA = s.portA := rfl
@[simp] theorem State.withPending_portB (s : State) (v : List Instr) : (s.withPending v).portB = s.portB := rfl
@[simp] theorem State.withPending_own (s : State) (v : List Instr) : (s.withPending v).own = s.own := rfl
@[simp] theorem State.withPending_ord (s : State) (v : List Instr) : (s.withPending v).ord = s.ord := rfl
@[simp] theorem State.withPending_lg (s : State) (v : List Instr) : (s.withPending v).lg = s.lg := rfl
@[simp] theorem State.withPending_eng (s : State) (v : List Instr) : (s.withPending v).eng = s.eng := rfl
@[simp] theorem State.withPending_win (s : State) (v : List Instr) : (s.withPending v).win = s.win := rfl
@[simp] theorem State.withPending_nor (s : State) (v : List Instr) : (s.withPending v).nor = s.nor := rfl
@[simp] theorem State.withPending_out (s : State) (v : List Instr) : (s.withPending v).out = s.out := rfl
@[simp] theorem State.withPending_xp (s : State) (v : List Instr) : (s.withPending v).xp = s.xp := rfl
@[simp] theorem State.withPending_xnet (s : State) (v : List Instr) : (s.withPending v).xnet = s.xnet := rfl
@[simp] theorem State.withPending_callIn (s : State) (v : List Instr) : (s.withPending v).callIn = s.callIn := rfl
@[simp] theorem State.withPending_afe (s : State) (v : List Instr) : (s.withPending v).afe = s.afe := rfl
@[simp] theorem State.withPending_outs (s : State) (v : List Instr) : (s.withPending v).outs = s.outs := rfl
@[simp] theorem State.withPending_call (s : State) (v : List Instr) : (s.withPending v).call = s.call := rfl
@[simp] theorem State.withPending_segs (s : State) (v : List Instr) : (s.withPending v).segs = s.segs := rfl
@[simp] theorem State.withPending_panel (s : State) (v : List Instr) : (s.withPending v).panel = s.panel := rfl
@[simp] theorem State.withPending_rtc (s : State) (v : List Instr) : (s.withPending v).rtc = s.rtc := rfl
@[simp] theorem State.withPending_tt (s : State) (v : List Instr) : (s.withPending v).tt = s.tt := rfl
@[simp] theorem State.withPending_safe (s : State) (v : List Instr) : (s.withPending v).safe = s.safe := rfl
@[simp] theorem State.withFreeCount_pending (s : State) (v : Nat) : (s.withFreeCount v).pending = s.pending := rfl
@[simp] theorem State.withFreeCount_freeCount (s : State) (v : Nat) : (s.withFreeCount v).freeCount = v := rfl
@[simp] theorem State.withFreeCount_part (s : State) (v : Nat) : (s.withFreeCount v).part = s.part := rfl
@[simp] theorem State.withFreeCount_phase (s : State) (v : Nat) : (s.withFreeCount v).phase = s.phase := rfl
@[simp] theorem State.withFreeCount_rst (s : State) (v : Nat) : (s.withFreeCount v).rst = s.rst := rfl
@[simp] theorem State.withFreeCount_pwr (s : State) (v : Nat) : (s.withFreeCount v).pwr = s.pwr := rfl
@[simp] theorem State.withFreeCount_regs (s : State) (v : Nat) : (s.withFreeCount v).regs = s.regs := rfl
@[simp] theorem State.withFreeCount_regsA (s : State) (v : Nat) : (s.withFreeCount v).regsA = s.regsA := rfl
@[simp] theorem State.withFreeCount_regsB (s : State) (v : Nat) : (s.withFreeCount v).regsB = s.regsB := rfl
@[simp] theorem State.withFreeCount_staged (s : State) (v : Nat) : (s.withFreeCount v).staged = s.staged := rfl
@[simp] theorem State.withFreeCount_lasting (s : State) (v : Nat) : (s.withFreeCount v).lasting = s.lasting := rfl
@[simp] theorem State.withFreeCount_lastHi (s : State) (v : Nat) : (s.withFreeCount v).lastHi = s.lastHi := rfl
@[simp] theorem State.withFreeCount_portA (s : State) (v : Nat) : (s.withFreeCount v).portA = s.portA := rfl
@[simp] theorem State.withFreeCount_portB (s : State) (v : Nat) : (s.withFreeCount v).portB = s.portB := rfl
@[simp] theorem State.withFreeCount_own (s : State) (v : Nat) : (s.withFreeCount v).own = s.own := rfl
@[simp] theorem State.withFreeCount_ord (s : State) (v : Nat) : (s.withFreeCount v).ord = s.ord := rfl
@[simp] theorem State.withFreeCount_lg (s : State) (v : Nat) : (s.withFreeCount v).lg = s.lg := rfl
@[simp] theorem State.withFreeCount_eng (s : State) (v : Nat) : (s.withFreeCount v).eng = s.eng := rfl
@[simp] theorem State.withFreeCount_win (s : State) (v : Nat) : (s.withFreeCount v).win = s.win := rfl
@[simp] theorem State.withFreeCount_nor (s : State) (v : Nat) : (s.withFreeCount v).nor = s.nor := rfl
@[simp] theorem State.withFreeCount_out (s : State) (v : Nat) : (s.withFreeCount v).out = s.out := rfl
@[simp] theorem State.withFreeCount_xp (s : State) (v : Nat) : (s.withFreeCount v).xp = s.xp := rfl
@[simp] theorem State.withFreeCount_xnet (s : State) (v : Nat) : (s.withFreeCount v).xnet = s.xnet := rfl
@[simp] theorem State.withFreeCount_callIn (s : State) (v : Nat) : (s.withFreeCount v).callIn = s.callIn := rfl
@[simp] theorem State.withFreeCount_afe (s : State) (v : Nat) : (s.withFreeCount v).afe = s.afe := rfl
@[simp] theorem State.withFreeCount_outs (s : State) (v : Nat) : (s.withFreeCount v).outs = s.outs := rfl
@[simp] theorem State.withFreeCount_call (s : State) (v : Nat) : (s.withFreeCount v).call = s.call := rfl
@[simp] theorem State.withFreeCount_segs (s : State) (v : Nat) : (s.withFreeCount v).segs = s.segs := rfl
@[simp] theorem State.withFreeCount_panel (s : State) (v : Nat) : (s.withFreeCount v).panel = s.panel := rfl
@[simp] theorem State.withFreeCount_rtc (s : State) (v : Nat) : (s.withFreeCount v).rtc = s.rtc := rfl
@[simp] theorem State.withFreeCount_tt (s : State) (v : Nat) : (s.withFreeCount v).tt = s.tt := rfl
@[simp] theorem State.withFreeCount_safe (s : State) (v : Nat) : (s.withFreeCount v).safe = s.safe := rfl
@[simp] theorem State.withPart_pending (s : State) (v : Part) : (s.withPart v).pending = s.pending := rfl
@[simp] theorem State.withPart_freeCount (s : State) (v : Part) : (s.withPart v).freeCount = s.freeCount := rfl
@[simp] theorem State.withPart_part (s : State) (v : Part) : (s.withPart v).part = v := rfl
@[simp] theorem State.withPart_phase (s : State) (v : Part) : (s.withPart v).phase = s.phase := rfl
@[simp] theorem State.withPart_rst (s : State) (v : Part) : (s.withPart v).rst = s.rst := rfl
@[simp] theorem State.withPart_pwr (s : State) (v : Part) : (s.withPart v).pwr = s.pwr := rfl
@[simp] theorem State.withPart_regs (s : State) (v : Part) : (s.withPart v).regs = s.regs := rfl
@[simp] theorem State.withPart_regsA (s : State) (v : Part) : (s.withPart v).regsA = s.regsA := rfl
@[simp] theorem State.withPart_regsB (s : State) (v : Part) : (s.withPart v).regsB = s.regsB := rfl
@[simp] theorem State.withPart_staged (s : State) (v : Part) : (s.withPart v).staged = s.staged := rfl
@[simp] theorem State.withPart_lasting (s : State) (v : Part) : (s.withPart v).lasting = s.lasting := rfl
@[simp] theorem State.withPart_lastHi (s : State) (v : Part) : (s.withPart v).lastHi = s.lastHi := rfl
@[simp] theorem State.withPart_portA (s : State) (v : Part) : (s.withPart v).portA = s.portA := rfl
@[simp] theorem State.withPart_portB (s : State) (v : Part) : (s.withPart v).portB = s.portB := rfl
@[simp] theorem State.withPart_own (s : State) (v : Part) : (s.withPart v).own = s.own := rfl
@[simp] theorem State.withPart_ord (s : State) (v : Part) : (s.withPart v).ord = s.ord := rfl
@[simp] theorem State.withPart_lg (s : State) (v : Part) : (s.withPart v).lg = s.lg := rfl
@[simp] theorem State.withPart_eng (s : State) (v : Part) : (s.withPart v).eng = s.eng := rfl
@[simp] theorem State.withPart_win (s : State) (v : Part) : (s.withPart v).win = s.win := rfl
@[simp] theorem State.withPart_nor (s : State) (v : Part) : (s.withPart v).nor = s.nor := rfl
@[simp] theorem State.withPart_out (s : State) (v : Part) : (s.withPart v).out = s.out := rfl
@[simp] theorem State.withPart_xp (s : State) (v : Part) : (s.withPart v).xp = s.xp := rfl
@[simp] theorem State.withPart_xnet (s : State) (v : Part) : (s.withPart v).xnet = s.xnet := rfl
@[simp] theorem State.withPart_callIn (s : State) (v : Part) : (s.withPart v).callIn = s.callIn := rfl
@[simp] theorem State.withPart_afe (s : State) (v : Part) : (s.withPart v).afe = s.afe := rfl
@[simp] theorem State.withPart_outs (s : State) (v : Part) : (s.withPart v).outs = s.outs := rfl
@[simp] theorem State.withPart_call (s : State) (v : Part) : (s.withPart v).call = s.call := rfl
@[simp] theorem State.withPart_segs (s : State) (v : Part) : (s.withPart v).segs = s.segs := rfl
@[simp] theorem State.withPart_panel (s : State) (v : Part) : (s.withPart v).panel = s.panel := rfl
@[simp] theorem State.withPart_rtc (s : State) (v : Part) : (s.withPart v).rtc = s.rtc := rfl
@[simp] theorem State.withPart_tt (s : State) (v : Part) : (s.withPart v).tt = s.tt := rfl
@[simp] theorem State.withPart_safe (s : State) (v : Part) : (s.withPart v).safe = s.safe := rfl
@[simp] theorem State.withPhase_pending (s : State) (v : Phase) : (s.withPhase v).pending = s.pending := rfl
@[simp] theorem State.withPhase_freeCount (s : State) (v : Phase) : (s.withPhase v).freeCount = s.freeCount := rfl
@[simp] theorem State.withPhase_part (s : State) (v : Phase) : (s.withPhase v).part = s.part := rfl
@[simp] theorem State.withPhase_phase (s : State) (v : Phase) : (s.withPhase v).phase = v := rfl
@[simp] theorem State.withPhase_rst (s : State) (v : Phase) : (s.withPhase v).rst = s.rst := rfl
@[simp] theorem State.withPhase_pwr (s : State) (v : Phase) : (s.withPhase v).pwr = s.pwr := rfl
@[simp] theorem State.withPhase_regs (s : State) (v : Phase) : (s.withPhase v).regs = s.regs := rfl
@[simp] theorem State.withPhase_regsA (s : State) (v : Phase) : (s.withPhase v).regsA = s.regsA := rfl
@[simp] theorem State.withPhase_regsB (s : State) (v : Phase) : (s.withPhase v).regsB = s.regsB := rfl
@[simp] theorem State.withPhase_staged (s : State) (v : Phase) : (s.withPhase v).staged = s.staged := rfl
@[simp] theorem State.withPhase_lasting (s : State) (v : Phase) : (s.withPhase v).lasting = s.lasting := rfl
@[simp] theorem State.withPhase_lastHi (s : State) (v : Phase) : (s.withPhase v).lastHi = s.lastHi := rfl
@[simp] theorem State.withPhase_portA (s : State) (v : Phase) : (s.withPhase v).portA = s.portA := rfl
@[simp] theorem State.withPhase_portB (s : State) (v : Phase) : (s.withPhase v).portB = s.portB := rfl
@[simp] theorem State.withPhase_own (s : State) (v : Phase) : (s.withPhase v).own = s.own := rfl
@[simp] theorem State.withPhase_ord (s : State) (v : Phase) : (s.withPhase v).ord = s.ord := rfl
@[simp] theorem State.withPhase_lg (s : State) (v : Phase) : (s.withPhase v).lg = s.lg := rfl
@[simp] theorem State.withPhase_eng (s : State) (v : Phase) : (s.withPhase v).eng = s.eng := rfl
@[simp] theorem State.withPhase_win (s : State) (v : Phase) : (s.withPhase v).win = s.win := rfl
@[simp] theorem State.withPhase_nor (s : State) (v : Phase) : (s.withPhase v).nor = s.nor := rfl
@[simp] theorem State.withPhase_out (s : State) (v : Phase) : (s.withPhase v).out = s.out := rfl
@[simp] theorem State.withPhase_xp (s : State) (v : Phase) : (s.withPhase v).xp = s.xp := rfl
@[simp] theorem State.withPhase_xnet (s : State) (v : Phase) : (s.withPhase v).xnet = s.xnet := rfl
@[simp] theorem State.withPhase_callIn (s : State) (v : Phase) : (s.withPhase v).callIn = s.callIn := rfl
@[simp] theorem State.withPhase_afe (s : State) (v : Phase) : (s.withPhase v).afe = s.afe := rfl
@[simp] theorem State.withPhase_outs (s : State) (v : Phase) : (s.withPhase v).outs = s.outs := rfl
@[simp] theorem State.withPhase_call (s : State) (v : Phase) : (s.withPhase v).call = s.call := rfl
@[simp] theorem State.withPhase_segs (s : State) (v : Phase) : (s.withPhase v).segs = s.segs := rfl
@[simp] theorem State.withPhase_panel (s : State) (v : Phase) : (s.withPhase v).panel = s.panel := rfl
@[simp] theorem State.withPhase_rtc (s : State) (v : Phase) : (s.withPhase v).rtc = s.rtc := rfl
@[simp] theorem State.withPhase_tt (s : State) (v : Phase) : (s.withPhase v).tt = s.tt := rfl
@[simp] theorem State.withPhase_safe (s : State) (v : Phase) : (s.withPhase v).safe = s.safe := rfl
@[simp] theorem State.withRst_pending (s : State) (v : RstState) : (s.withRst v).pending = s.pending := rfl
@[simp] theorem State.withRst_freeCount (s : State) (v : RstState) : (s.withRst v).freeCount = s.freeCount := rfl
@[simp] theorem State.withRst_part (s : State) (v : RstState) : (s.withRst v).part = s.part := rfl
@[simp] theorem State.withRst_phase (s : State) (v : RstState) : (s.withRst v).phase = s.phase := rfl
@[simp] theorem State.withRst_rst (s : State) (v : RstState) : (s.withRst v).rst = v := rfl
@[simp] theorem State.withRst_pwr (s : State) (v : RstState) : (s.withRst v).pwr = s.pwr := rfl
@[simp] theorem State.withRst_regs (s : State) (v : RstState) : (s.withRst v).regs = s.regs := rfl
@[simp] theorem State.withRst_regsA (s : State) (v : RstState) : (s.withRst v).regsA = s.regsA := rfl
@[simp] theorem State.withRst_regsB (s : State) (v : RstState) : (s.withRst v).regsB = s.regsB := rfl
@[simp] theorem State.withRst_staged (s : State) (v : RstState) : (s.withRst v).staged = s.staged := rfl
@[simp] theorem State.withRst_lasting (s : State) (v : RstState) : (s.withRst v).lasting = s.lasting := rfl
@[simp] theorem State.withRst_lastHi (s : State) (v : RstState) : (s.withRst v).lastHi = s.lastHi := rfl
@[simp] theorem State.withRst_portA (s : State) (v : RstState) : (s.withRst v).portA = s.portA := rfl
@[simp] theorem State.withRst_portB (s : State) (v : RstState) : (s.withRst v).portB = s.portB := rfl
@[simp] theorem State.withRst_own (s : State) (v : RstState) : (s.withRst v).own = s.own := rfl
@[simp] theorem State.withRst_ord (s : State) (v : RstState) : (s.withRst v).ord = s.ord := rfl
@[simp] theorem State.withRst_lg (s : State) (v : RstState) : (s.withRst v).lg = s.lg := rfl
@[simp] theorem State.withRst_eng (s : State) (v : RstState) : (s.withRst v).eng = s.eng := rfl
@[simp] theorem State.withRst_win (s : State) (v : RstState) : (s.withRst v).win = s.win := rfl
@[simp] theorem State.withRst_nor (s : State) (v : RstState) : (s.withRst v).nor = s.nor := rfl
@[simp] theorem State.withRst_out (s : State) (v : RstState) : (s.withRst v).out = s.out := rfl
@[simp] theorem State.withRst_xp (s : State) (v : RstState) : (s.withRst v).xp = s.xp := rfl
@[simp] theorem State.withRst_xnet (s : State) (v : RstState) : (s.withRst v).xnet = s.xnet := rfl
@[simp] theorem State.withRst_callIn (s : State) (v : RstState) : (s.withRst v).callIn = s.callIn := rfl
@[simp] theorem State.withRst_afe (s : State) (v : RstState) : (s.withRst v).afe = s.afe := rfl
@[simp] theorem State.withRst_outs (s : State) (v : RstState) : (s.withRst v).outs = s.outs := rfl
@[simp] theorem State.withRst_call (s : State) (v : RstState) : (s.withRst v).call = s.call := rfl
@[simp] theorem State.withRst_segs (s : State) (v : RstState) : (s.withRst v).segs = s.segs := rfl
@[simp] theorem State.withRst_panel (s : State) (v : RstState) : (s.withRst v).panel = s.panel := rfl
@[simp] theorem State.withRst_rtc (s : State) (v : RstState) : (s.withRst v).rtc = s.rtc := rfl
@[simp] theorem State.withRst_tt (s : State) (v : RstState) : (s.withRst v).tt = s.tt := rfl
@[simp] theorem State.withRst_safe (s : State) (v : RstState) : (s.withRst v).safe = s.safe := rfl
@[simp] theorem State.withPwr_pending (s : State) (v : Pwr) : (s.withPwr v).pending = s.pending := rfl
@[simp] theorem State.withPwr_freeCount (s : State) (v : Pwr) : (s.withPwr v).freeCount = s.freeCount := rfl
@[simp] theorem State.withPwr_part (s : State) (v : Pwr) : (s.withPwr v).part = s.part := rfl
@[simp] theorem State.withPwr_phase (s : State) (v : Pwr) : (s.withPwr v).phase = s.phase := rfl
@[simp] theorem State.withPwr_rst (s : State) (v : Pwr) : (s.withPwr v).rst = s.rst := rfl
@[simp] theorem State.withPwr_pwr (s : State) (v : Pwr) : (s.withPwr v).pwr = v := rfl
@[simp] theorem State.withPwr_regs (s : State) (v : Pwr) : (s.withPwr v).regs = s.regs := rfl
@[simp] theorem State.withPwr_regsA (s : State) (v : Pwr) : (s.withPwr v).regsA = s.regsA := rfl
@[simp] theorem State.withPwr_regsB (s : State) (v : Pwr) : (s.withPwr v).regsB = s.regsB := rfl
@[simp] theorem State.withPwr_staged (s : State) (v : Pwr) : (s.withPwr v).staged = s.staged := rfl
@[simp] theorem State.withPwr_lasting (s : State) (v : Pwr) : (s.withPwr v).lasting = s.lasting := rfl
@[simp] theorem State.withPwr_lastHi (s : State) (v : Pwr) : (s.withPwr v).lastHi = s.lastHi := rfl
@[simp] theorem State.withPwr_portA (s : State) (v : Pwr) : (s.withPwr v).portA = s.portA := rfl
@[simp] theorem State.withPwr_portB (s : State) (v : Pwr) : (s.withPwr v).portB = s.portB := rfl
@[simp] theorem State.withPwr_own (s : State) (v : Pwr) : (s.withPwr v).own = s.own := rfl
@[simp] theorem State.withPwr_ord (s : State) (v : Pwr) : (s.withPwr v).ord = s.ord := rfl
@[simp] theorem State.withPwr_lg (s : State) (v : Pwr) : (s.withPwr v).lg = s.lg := rfl
@[simp] theorem State.withPwr_eng (s : State) (v : Pwr) : (s.withPwr v).eng = s.eng := rfl
@[simp] theorem State.withPwr_win (s : State) (v : Pwr) : (s.withPwr v).win = s.win := rfl
@[simp] theorem State.withPwr_nor (s : State) (v : Pwr) : (s.withPwr v).nor = s.nor := rfl
@[simp] theorem State.withPwr_out (s : State) (v : Pwr) : (s.withPwr v).out = s.out := rfl
@[simp] theorem State.withPwr_xp (s : State) (v : Pwr) : (s.withPwr v).xp = s.xp := rfl
@[simp] theorem State.withPwr_xnet (s : State) (v : Pwr) : (s.withPwr v).xnet = s.xnet := rfl
@[simp] theorem State.withPwr_callIn (s : State) (v : Pwr) : (s.withPwr v).callIn = s.callIn := rfl
@[simp] theorem State.withPwr_afe (s : State) (v : Pwr) : (s.withPwr v).afe = s.afe := rfl
@[simp] theorem State.withPwr_outs (s : State) (v : Pwr) : (s.withPwr v).outs = s.outs := rfl
@[simp] theorem State.withPwr_call (s : State) (v : Pwr) : (s.withPwr v).call = s.call := rfl
@[simp] theorem State.withPwr_segs (s : State) (v : Pwr) : (s.withPwr v).segs = s.segs := rfl
@[simp] theorem State.withPwr_panel (s : State) (v : Pwr) : (s.withPwr v).panel = s.panel := rfl
@[simp] theorem State.withPwr_rtc (s : State) (v : Pwr) : (s.withPwr v).rtc = s.rtc := rfl
@[simp] theorem State.withPwr_tt (s : State) (v : Pwr) : (s.withPwr v).tt = s.tt := rfl
@[simp] theorem State.withPwr_safe (s : State) (v : Pwr) : (s.withPwr v).safe = s.safe := rfl
@[simp] theorem State.withRegs_pending (s : State) (v : List (Nat × Word)) : (s.withRegs v).pending = s.pending := rfl
@[simp] theorem State.withRegs_freeCount (s : State) (v : List (Nat × Word)) : (s.withRegs v).freeCount = s.freeCount := rfl
@[simp] theorem State.withRegs_part (s : State) (v : List (Nat × Word)) : (s.withRegs v).part = s.part := rfl
@[simp] theorem State.withRegs_phase (s : State) (v : List (Nat × Word)) : (s.withRegs v).phase = s.phase := rfl
@[simp] theorem State.withRegs_rst (s : State) (v : List (Nat × Word)) : (s.withRegs v).rst = s.rst := rfl
@[simp] theorem State.withRegs_pwr (s : State) (v : List (Nat × Word)) : (s.withRegs v).pwr = s.pwr := rfl
@[simp] theorem State.withRegs_regs (s : State) (v : List (Nat × Word)) : (s.withRegs v).regs = v := rfl
@[simp] theorem State.withRegs_regsA (s : State) (v : List (Nat × Word)) : (s.withRegs v).regsA = s.regsA := rfl
@[simp] theorem State.withRegs_regsB (s : State) (v : List (Nat × Word)) : (s.withRegs v).regsB = s.regsB := rfl
@[simp] theorem State.withRegs_staged (s : State) (v : List (Nat × Word)) : (s.withRegs v).staged = s.staged := rfl
@[simp] theorem State.withRegs_lasting (s : State) (v : List (Nat × Word)) : (s.withRegs v).lasting = s.lasting := rfl
@[simp] theorem State.withRegs_lastHi (s : State) (v : List (Nat × Word)) : (s.withRegs v).lastHi = s.lastHi := rfl
@[simp] theorem State.withRegs_portA (s : State) (v : List (Nat × Word)) : (s.withRegs v).portA = s.portA := rfl
@[simp] theorem State.withRegs_portB (s : State) (v : List (Nat × Word)) : (s.withRegs v).portB = s.portB := rfl
@[simp] theorem State.withRegs_own (s : State) (v : List (Nat × Word)) : (s.withRegs v).own = s.own := rfl
@[simp] theorem State.withRegs_ord (s : State) (v : List (Nat × Word)) : (s.withRegs v).ord = s.ord := rfl
@[simp] theorem State.withRegs_lg (s : State) (v : List (Nat × Word)) : (s.withRegs v).lg = s.lg := rfl
@[simp] theorem State.withRegs_eng (s : State) (v : List (Nat × Word)) : (s.withRegs v).eng = s.eng := rfl
@[simp] theorem State.withRegs_win (s : State) (v : List (Nat × Word)) : (s.withRegs v).win = s.win := rfl
@[simp] theorem State.withRegs_nor (s : State) (v : List (Nat × Word)) : (s.withRegs v).nor = s.nor := rfl
@[simp] theorem State.withRegs_out (s : State) (v : List (Nat × Word)) : (s.withRegs v).out = s.out := rfl
@[simp] theorem State.withRegs_xp (s : State) (v : List (Nat × Word)) : (s.withRegs v).xp = s.xp := rfl
@[simp] theorem State.withRegs_xnet (s : State) (v : List (Nat × Word)) : (s.withRegs v).xnet = s.xnet := rfl
@[simp] theorem State.withRegs_callIn (s : State) (v : List (Nat × Word)) : (s.withRegs v).callIn = s.callIn := rfl
@[simp] theorem State.withRegs_afe (s : State) (v : List (Nat × Word)) : (s.withRegs v).afe = s.afe := rfl
@[simp] theorem State.withRegs_outs (s : State) (v : List (Nat × Word)) : (s.withRegs v).outs = s.outs := rfl
@[simp] theorem State.withRegs_call (s : State) (v : List (Nat × Word)) : (s.withRegs v).call = s.call := rfl
@[simp] theorem State.withRegs_segs (s : State) (v : List (Nat × Word)) : (s.withRegs v).segs = s.segs := rfl
@[simp] theorem State.withRegs_panel (s : State) (v : List (Nat × Word)) : (s.withRegs v).panel = s.panel := rfl
@[simp] theorem State.withRegs_rtc (s : State) (v : List (Nat × Word)) : (s.withRegs v).rtc = s.rtc := rfl
@[simp] theorem State.withRegs_tt (s : State) (v : List (Nat × Word)) : (s.withRegs v).tt = s.tt := rfl
@[simp] theorem State.withRegs_safe (s : State) (v : List (Nat × Word)) : (s.withRegs v).safe = s.safe := rfl
@[simp] theorem State.withRegsA_pending (s : State) (v : List (Nat × Word)) : (s.withRegsA v).pending = s.pending := rfl
@[simp] theorem State.withRegsA_freeCount (s : State) (v : List (Nat × Word)) : (s.withRegsA v).freeCount = s.freeCount := rfl
@[simp] theorem State.withRegsA_part (s : State) (v : List (Nat × Word)) : (s.withRegsA v).part = s.part := rfl
@[simp] theorem State.withRegsA_phase (s : State) (v : List (Nat × Word)) : (s.withRegsA v).phase = s.phase := rfl
@[simp] theorem State.withRegsA_rst (s : State) (v : List (Nat × Word)) : (s.withRegsA v).rst = s.rst := rfl
@[simp] theorem State.withRegsA_pwr (s : State) (v : List (Nat × Word)) : (s.withRegsA v).pwr = s.pwr := rfl
@[simp] theorem State.withRegsA_regs (s : State) (v : List (Nat × Word)) : (s.withRegsA v).regs = s.regs := rfl
@[simp] theorem State.withRegsA_regsA (s : State) (v : List (Nat × Word)) : (s.withRegsA v).regsA = v := rfl
@[simp] theorem State.withRegsA_regsB (s : State) (v : List (Nat × Word)) : (s.withRegsA v).regsB = s.regsB := rfl
@[simp] theorem State.withRegsA_staged (s : State) (v : List (Nat × Word)) : (s.withRegsA v).staged = s.staged := rfl
@[simp] theorem State.withRegsA_lasting (s : State) (v : List (Nat × Word)) : (s.withRegsA v).lasting = s.lasting := rfl
@[simp] theorem State.withRegsA_lastHi (s : State) (v : List (Nat × Word)) : (s.withRegsA v).lastHi = s.lastHi := rfl
@[simp] theorem State.withRegsA_portA (s : State) (v : List (Nat × Word)) : (s.withRegsA v).portA = s.portA := rfl
@[simp] theorem State.withRegsA_portB (s : State) (v : List (Nat × Word)) : (s.withRegsA v).portB = s.portB := rfl
@[simp] theorem State.withRegsA_own (s : State) (v : List (Nat × Word)) : (s.withRegsA v).own = s.own := rfl
@[simp] theorem State.withRegsA_ord (s : State) (v : List (Nat × Word)) : (s.withRegsA v).ord = s.ord := rfl
@[simp] theorem State.withRegsA_lg (s : State) (v : List (Nat × Word)) : (s.withRegsA v).lg = s.lg := rfl
@[simp] theorem State.withRegsA_eng (s : State) (v : List (Nat × Word)) : (s.withRegsA v).eng = s.eng := rfl
@[simp] theorem State.withRegsA_win (s : State) (v : List (Nat × Word)) : (s.withRegsA v).win = s.win := rfl
@[simp] theorem State.withRegsA_nor (s : State) (v : List (Nat × Word)) : (s.withRegsA v).nor = s.nor := rfl
@[simp] theorem State.withRegsA_out (s : State) (v : List (Nat × Word)) : (s.withRegsA v).out = s.out := rfl
@[simp] theorem State.withRegsA_xp (s : State) (v : List (Nat × Word)) : (s.withRegsA v).xp = s.xp := rfl
@[simp] theorem State.withRegsA_xnet (s : State) (v : List (Nat × Word)) : (s.withRegsA v).xnet = s.xnet := rfl
@[simp] theorem State.withRegsA_callIn (s : State) (v : List (Nat × Word)) : (s.withRegsA v).callIn = s.callIn := rfl
@[simp] theorem State.withRegsA_afe (s : State) (v : List (Nat × Word)) : (s.withRegsA v).afe = s.afe := rfl
@[simp] theorem State.withRegsA_outs (s : State) (v : List (Nat × Word)) : (s.withRegsA v).outs = s.outs := rfl
@[simp] theorem State.withRegsA_call (s : State) (v : List (Nat × Word)) : (s.withRegsA v).call = s.call := rfl
@[simp] theorem State.withRegsA_segs (s : State) (v : List (Nat × Word)) : (s.withRegsA v).segs = s.segs := rfl
@[simp] theorem State.withRegsA_panel (s : State) (v : List (Nat × Word)) : (s.withRegsA v).panel = s.panel := rfl
@[simp] theorem State.withRegsA_rtc (s : State) (v : List (Nat × Word)) : (s.withRegsA v).rtc = s.rtc := rfl
@[simp] theorem State.withRegsA_tt (s : State) (v : List (Nat × Word)) : (s.withRegsA v).tt = s.tt := rfl
@[simp] theorem State.withRegsA_safe (s : State) (v : List (Nat × Word)) : (s.withRegsA v).safe = s.safe := rfl
@[simp] theorem State.withRegsB_pending (s : State) (v : List (Nat × Word)) : (s.withRegsB v).pending = s.pending := rfl
@[simp] theorem State.withRegsB_freeCount (s : State) (v : List (Nat × Word)) : (s.withRegsB v).freeCount = s.freeCount := rfl
@[simp] theorem State.withRegsB_part (s : State) (v : List (Nat × Word)) : (s.withRegsB v).part = s.part := rfl
@[simp] theorem State.withRegsB_phase (s : State) (v : List (Nat × Word)) : (s.withRegsB v).phase = s.phase := rfl
@[simp] theorem State.withRegsB_rst (s : State) (v : List (Nat × Word)) : (s.withRegsB v).rst = s.rst := rfl
@[simp] theorem State.withRegsB_pwr (s : State) (v : List (Nat × Word)) : (s.withRegsB v).pwr = s.pwr := rfl
@[simp] theorem State.withRegsB_regs (s : State) (v : List (Nat × Word)) : (s.withRegsB v).regs = s.regs := rfl
@[simp] theorem State.withRegsB_regsA (s : State) (v : List (Nat × Word)) : (s.withRegsB v).regsA = s.regsA := rfl
@[simp] theorem State.withRegsB_regsB (s : State) (v : List (Nat × Word)) : (s.withRegsB v).regsB = v := rfl
@[simp] theorem State.withRegsB_staged (s : State) (v : List (Nat × Word)) : (s.withRegsB v).staged = s.staged := rfl
@[simp] theorem State.withRegsB_lasting (s : State) (v : List (Nat × Word)) : (s.withRegsB v).lasting = s.lasting := rfl
@[simp] theorem State.withRegsB_lastHi (s : State) (v : List (Nat × Word)) : (s.withRegsB v).lastHi = s.lastHi := rfl
@[simp] theorem State.withRegsB_portA (s : State) (v : List (Nat × Word)) : (s.withRegsB v).portA = s.portA := rfl
@[simp] theorem State.withRegsB_portB (s : State) (v : List (Nat × Word)) : (s.withRegsB v).portB = s.portB := rfl
@[simp] theorem State.withRegsB_own (s : State) (v : List (Nat × Word)) : (s.withRegsB v).own = s.own := rfl
@[simp] theorem State.withRegsB_ord (s : State) (v : List (Nat × Word)) : (s.withRegsB v).ord = s.ord := rfl
@[simp] theorem State.withRegsB_lg (s : State) (v : List (Nat × Word)) : (s.withRegsB v).lg = s.lg := rfl
@[simp] theorem State.withRegsB_eng (s : State) (v : List (Nat × Word)) : (s.withRegsB v).eng = s.eng := rfl
@[simp] theorem State.withRegsB_win (s : State) (v : List (Nat × Word)) : (s.withRegsB v).win = s.win := rfl
@[simp] theorem State.withRegsB_nor (s : State) (v : List (Nat × Word)) : (s.withRegsB v).nor = s.nor := rfl
@[simp] theorem State.withRegsB_out (s : State) (v : List (Nat × Word)) : (s.withRegsB v).out = s.out := rfl
@[simp] theorem State.withRegsB_xp (s : State) (v : List (Nat × Word)) : (s.withRegsB v).xp = s.xp := rfl
@[simp] theorem State.withRegsB_xnet (s : State) (v : List (Nat × Word)) : (s.withRegsB v).xnet = s.xnet := rfl
@[simp] theorem State.withRegsB_callIn (s : State) (v : List (Nat × Word)) : (s.withRegsB v).callIn = s.callIn := rfl
@[simp] theorem State.withRegsB_afe (s : State) (v : List (Nat × Word)) : (s.withRegsB v).afe = s.afe := rfl
@[simp] theorem State.withRegsB_outs (s : State) (v : List (Nat × Word)) : (s.withRegsB v).outs = s.outs := rfl
@[simp] theorem State.withRegsB_call (s : State) (v : List (Nat × Word)) : (s.withRegsB v).call = s.call := rfl
@[simp] theorem State.withRegsB_segs (s : State) (v : List (Nat × Word)) : (s.withRegsB v).segs = s.segs := rfl
@[simp] theorem State.withRegsB_panel (s : State) (v : List (Nat × Word)) : (s.withRegsB v).panel = s.panel := rfl
@[simp] theorem State.withRegsB_rtc (s : State) (v : List (Nat × Word)) : (s.withRegsB v).rtc = s.rtc := rfl
@[simp] theorem State.withRegsB_tt (s : State) (v : List (Nat × Word)) : (s.withRegsB v).tt = s.tt := rfl
@[simp] theorem State.withRegsB_safe (s : State) (v : List (Nat × Word)) : (s.withRegsB v).safe = s.safe := rfl
@[simp] theorem State.withStaged_pending (s : State) (v : List StagedWord) : (s.withStaged v).pending = s.pending := rfl
@[simp] theorem State.withStaged_freeCount (s : State) (v : List StagedWord) : (s.withStaged v).freeCount = s.freeCount := rfl
@[simp] theorem State.withStaged_part (s : State) (v : List StagedWord) : (s.withStaged v).part = s.part := rfl
@[simp] theorem State.withStaged_phase (s : State) (v : List StagedWord) : (s.withStaged v).phase = s.phase := rfl
@[simp] theorem State.withStaged_rst (s : State) (v : List StagedWord) : (s.withStaged v).rst = s.rst := rfl
@[simp] theorem State.withStaged_pwr (s : State) (v : List StagedWord) : (s.withStaged v).pwr = s.pwr := rfl
@[simp] theorem State.withStaged_regs (s : State) (v : List StagedWord) : (s.withStaged v).regs = s.regs := rfl
@[simp] theorem State.withStaged_regsA (s : State) (v : List StagedWord) : (s.withStaged v).regsA = s.regsA := rfl
@[simp] theorem State.withStaged_regsB (s : State) (v : List StagedWord) : (s.withStaged v).regsB = s.regsB := rfl
@[simp] theorem State.withStaged_staged (s : State) (v : List StagedWord) : (s.withStaged v).staged = v := rfl
@[simp] theorem State.withStaged_lasting (s : State) (v : List StagedWord) : (s.withStaged v).lasting = s.lasting := rfl
@[simp] theorem State.withStaged_lastHi (s : State) (v : List StagedWord) : (s.withStaged v).lastHi = s.lastHi := rfl
@[simp] theorem State.withStaged_portA (s : State) (v : List StagedWord) : (s.withStaged v).portA = s.portA := rfl
@[simp] theorem State.withStaged_portB (s : State) (v : List StagedWord) : (s.withStaged v).portB = s.portB := rfl
@[simp] theorem State.withStaged_own (s : State) (v : List StagedWord) : (s.withStaged v).own = s.own := rfl
@[simp] theorem State.withStaged_ord (s : State) (v : List StagedWord) : (s.withStaged v).ord = s.ord := rfl
@[simp] theorem State.withStaged_lg (s : State) (v : List StagedWord) : (s.withStaged v).lg = s.lg := rfl
@[simp] theorem State.withStaged_eng (s : State) (v : List StagedWord) : (s.withStaged v).eng = s.eng := rfl
@[simp] theorem State.withStaged_win (s : State) (v : List StagedWord) : (s.withStaged v).win = s.win := rfl
@[simp] theorem State.withStaged_nor (s : State) (v : List StagedWord) : (s.withStaged v).nor = s.nor := rfl
@[simp] theorem State.withStaged_out (s : State) (v : List StagedWord) : (s.withStaged v).out = s.out := rfl
@[simp] theorem State.withStaged_xp (s : State) (v : List StagedWord) : (s.withStaged v).xp = s.xp := rfl
@[simp] theorem State.withStaged_xnet (s : State) (v : List StagedWord) : (s.withStaged v).xnet = s.xnet := rfl
@[simp] theorem State.withStaged_callIn (s : State) (v : List StagedWord) : (s.withStaged v).callIn = s.callIn := rfl
@[simp] theorem State.withStaged_afe (s : State) (v : List StagedWord) : (s.withStaged v).afe = s.afe := rfl
@[simp] theorem State.withStaged_outs (s : State) (v : List StagedWord) : (s.withStaged v).outs = s.outs := rfl
@[simp] theorem State.withStaged_call (s : State) (v : List StagedWord) : (s.withStaged v).call = s.call := rfl
@[simp] theorem State.withStaged_segs (s : State) (v : List StagedWord) : (s.withStaged v).segs = s.segs := rfl
@[simp] theorem State.withStaged_panel (s : State) (v : List StagedWord) : (s.withStaged v).panel = s.panel := rfl
@[simp] theorem State.withStaged_rtc (s : State) (v : List StagedWord) : (s.withStaged v).rtc = s.rtc := rfl
@[simp] theorem State.withStaged_tt (s : State) (v : List StagedWord) : (s.withStaged v).tt = s.tt := rfl
@[simp] theorem State.withStaged_safe (s : State) (v : List StagedWord) : (s.withStaged v).safe = s.safe := rfl
@[simp] theorem State.withLasting_pending (s : State) (v : List (Nat × Nat)) : (s.withLasting v).pending = s.pending := rfl
@[simp] theorem State.withLasting_freeCount (s : State) (v : List (Nat × Nat)) : (s.withLasting v).freeCount = s.freeCount := rfl
@[simp] theorem State.withLasting_part (s : State) (v : List (Nat × Nat)) : (s.withLasting v).part = s.part := rfl
@[simp] theorem State.withLasting_phase (s : State) (v : List (Nat × Nat)) : (s.withLasting v).phase = s.phase := rfl
@[simp] theorem State.withLasting_rst (s : State) (v : List (Nat × Nat)) : (s.withLasting v).rst = s.rst := rfl
@[simp] theorem State.withLasting_pwr (s : State) (v : List (Nat × Nat)) : (s.withLasting v).pwr = s.pwr := rfl
@[simp] theorem State.withLasting_regs (s : State) (v : List (Nat × Nat)) : (s.withLasting v).regs = s.regs := rfl
@[simp] theorem State.withLasting_regsA (s : State) (v : List (Nat × Nat)) : (s.withLasting v).regsA = s.regsA := rfl
@[simp] theorem State.withLasting_regsB (s : State) (v : List (Nat × Nat)) : (s.withLasting v).regsB = s.regsB := rfl
@[simp] theorem State.withLasting_staged (s : State) (v : List (Nat × Nat)) : (s.withLasting v).staged = s.staged := rfl
@[simp] theorem State.withLasting_lasting (s : State) (v : List (Nat × Nat)) : (s.withLasting v).lasting = v := rfl
@[simp] theorem State.withLasting_lastHi (s : State) (v : List (Nat × Nat)) : (s.withLasting v).lastHi = s.lastHi := rfl
@[simp] theorem State.withLasting_portA (s : State) (v : List (Nat × Nat)) : (s.withLasting v).portA = s.portA := rfl
@[simp] theorem State.withLasting_portB (s : State) (v : List (Nat × Nat)) : (s.withLasting v).portB = s.portB := rfl
@[simp] theorem State.withLasting_own (s : State) (v : List (Nat × Nat)) : (s.withLasting v).own = s.own := rfl
@[simp] theorem State.withLasting_ord (s : State) (v : List (Nat × Nat)) : (s.withLasting v).ord = s.ord := rfl
@[simp] theorem State.withLasting_lg (s : State) (v : List (Nat × Nat)) : (s.withLasting v).lg = s.lg := rfl
@[simp] theorem State.withLasting_eng (s : State) (v : List (Nat × Nat)) : (s.withLasting v).eng = s.eng := rfl
@[simp] theorem State.withLasting_win (s : State) (v : List (Nat × Nat)) : (s.withLasting v).win = s.win := rfl
@[simp] theorem State.withLasting_nor (s : State) (v : List (Nat × Nat)) : (s.withLasting v).nor = s.nor := rfl
@[simp] theorem State.withLasting_out (s : State) (v : List (Nat × Nat)) : (s.withLasting v).out = s.out := rfl
@[simp] theorem State.withLasting_xp (s : State) (v : List (Nat × Nat)) : (s.withLasting v).xp = s.xp := rfl
@[simp] theorem State.withLasting_xnet (s : State) (v : List (Nat × Nat)) : (s.withLasting v).xnet = s.xnet := rfl
@[simp] theorem State.withLasting_callIn (s : State) (v : List (Nat × Nat)) : (s.withLasting v).callIn = s.callIn := rfl
@[simp] theorem State.withLasting_afe (s : State) (v : List (Nat × Nat)) : (s.withLasting v).afe = s.afe := rfl
@[simp] theorem State.withLasting_outs (s : State) (v : List (Nat × Nat)) : (s.withLasting v).outs = s.outs := rfl
@[simp] theorem State.withLasting_call (s : State) (v : List (Nat × Nat)) : (s.withLasting v).call = s.call := rfl
@[simp] theorem State.withLasting_segs (s : State) (v : List (Nat × Nat)) : (s.withLasting v).segs = s.segs := rfl
@[simp] theorem State.withLasting_panel (s : State) (v : List (Nat × Nat)) : (s.withLasting v).panel = s.panel := rfl
@[simp] theorem State.withLasting_rtc (s : State) (v : List (Nat × Nat)) : (s.withLasting v).rtc = s.rtc := rfl
@[simp] theorem State.withLasting_tt (s : State) (v : List (Nat × Nat)) : (s.withLasting v).tt = s.tt := rfl
@[simp] theorem State.withLasting_safe (s : State) (v : List (Nat × Nat)) : (s.withLasting v).safe = s.safe := rfl
@[simp] theorem State.withLastHi_pending (s : State) (v : List (Nat × Nat)) : (s.withLastHi v).pending = s.pending := rfl
@[simp] theorem State.withLastHi_freeCount (s : State) (v : List (Nat × Nat)) : (s.withLastHi v).freeCount = s.freeCount := rfl
@[simp] theorem State.withLastHi_part (s : State) (v : List (Nat × Nat)) : (s.withLastHi v).part = s.part := rfl
@[simp] theorem State.withLastHi_phase (s : State) (v : List (Nat × Nat)) : (s.withLastHi v).phase = s.phase := rfl
@[simp] theorem State.withLastHi_rst (s : State) (v : List (Nat × Nat)) : (s.withLastHi v).rst = s.rst := rfl
@[simp] theorem State.withLastHi_pwr (s : State) (v : List (Nat × Nat)) : (s.withLastHi v).pwr = s.pwr := rfl
@[simp] theorem State.withLastHi_regs (s : State) (v : List (Nat × Nat)) : (s.withLastHi v).regs = s.regs := rfl
@[simp] theorem State.withLastHi_regsA (s : State) (v : List (Nat × Nat)) : (s.withLastHi v).regsA = s.regsA := rfl
@[simp] theorem State.withLastHi_regsB (s : State) (v : List (Nat × Nat)) : (s.withLastHi v).regsB = s.regsB := rfl
@[simp] theorem State.withLastHi_staged (s : State) (v : List (Nat × Nat)) : (s.withLastHi v).staged = s.staged := rfl
@[simp] theorem State.withLastHi_lasting (s : State) (v : List (Nat × Nat)) : (s.withLastHi v).lasting = s.lasting := rfl
@[simp] theorem State.withLastHi_lastHi (s : State) (v : List (Nat × Nat)) : (s.withLastHi v).lastHi = v := rfl
@[simp] theorem State.withLastHi_portA (s : State) (v : List (Nat × Nat)) : (s.withLastHi v).portA = s.portA := rfl
@[simp] theorem State.withLastHi_portB (s : State) (v : List (Nat × Nat)) : (s.withLastHi v).portB = s.portB := rfl
@[simp] theorem State.withLastHi_own (s : State) (v : List (Nat × Nat)) : (s.withLastHi v).own = s.own := rfl
@[simp] theorem State.withLastHi_ord (s : State) (v : List (Nat × Nat)) : (s.withLastHi v).ord = s.ord := rfl
@[simp] theorem State.withLastHi_lg (s : State) (v : List (Nat × Nat)) : (s.withLastHi v).lg = s.lg := rfl
@[simp] theorem State.withLastHi_eng (s : State) (v : List (Nat × Nat)) : (s.withLastHi v).eng = s.eng := rfl
@[simp] theorem State.withLastHi_win (s : State) (v : List (Nat × Nat)) : (s.withLastHi v).win = s.win := rfl
@[simp] theorem State.withLastHi_nor (s : State) (v : List (Nat × Nat)) : (s.withLastHi v).nor = s.nor := rfl
@[simp] theorem State.withLastHi_out (s : State) (v : List (Nat × Nat)) : (s.withLastHi v).out = s.out := rfl
@[simp] theorem State.withLastHi_xp (s : State) (v : List (Nat × Nat)) : (s.withLastHi v).xp = s.xp := rfl
@[simp] theorem State.withLastHi_xnet (s : State) (v : List (Nat × Nat)) : (s.withLastHi v).xnet = s.xnet := rfl
@[simp] theorem State.withLastHi_callIn (s : State) (v : List (Nat × Nat)) : (s.withLastHi v).callIn = s.callIn := rfl
@[simp] theorem State.withLastHi_afe (s : State) (v : List (Nat × Nat)) : (s.withLastHi v).afe = s.afe := rfl
@[simp] theorem State.withLastHi_outs (s : State) (v : List (Nat × Nat)) : (s.withLastHi v).outs = s.outs := rfl
@[simp] theorem State.withLastHi_call (s : State) (v : List (Nat × Nat)) : (s.withLastHi v).call = s.call := rfl
@[simp] theorem State.withLastHi_segs (s : State) (v : List (Nat × Nat)) : (s.withLastHi v).segs = s.segs := rfl
@[simp] theorem State.withLastHi_panel (s : State) (v : List (Nat × Nat)) : (s.withLastHi v).panel = s.panel := rfl
@[simp] theorem State.withLastHi_rtc (s : State) (v : List (Nat × Nat)) : (s.withLastHi v).rtc = s.rtc := rfl
@[simp] theorem State.withLastHi_tt (s : State) (v : List (Nat × Nat)) : (s.withLastHi v).tt = s.tt := rfl
@[simp] theorem State.withLastHi_safe (s : State) (v : List (Nat × Nat)) : (s.withLastHi v).safe = s.safe := rfl
@[simp] theorem State.withPortA_pending (s : State) (v : HostPort) : (s.withPortA v).pending = s.pending := rfl
@[simp] theorem State.withPortA_freeCount (s : State) (v : HostPort) : (s.withPortA v).freeCount = s.freeCount := rfl
@[simp] theorem State.withPortA_part (s : State) (v : HostPort) : (s.withPortA v).part = s.part := rfl
@[simp] theorem State.withPortA_phase (s : State) (v : HostPort) : (s.withPortA v).phase = s.phase := rfl
@[simp] theorem State.withPortA_rst (s : State) (v : HostPort) : (s.withPortA v).rst = s.rst := rfl
@[simp] theorem State.withPortA_pwr (s : State) (v : HostPort) : (s.withPortA v).pwr = s.pwr := rfl
@[simp] theorem State.withPortA_regs (s : State) (v : HostPort) : (s.withPortA v).regs = s.regs := rfl
@[simp] theorem State.withPortA_regsA (s : State) (v : HostPort) : (s.withPortA v).regsA = s.regsA := rfl
@[simp] theorem State.withPortA_regsB (s : State) (v : HostPort) : (s.withPortA v).regsB = s.regsB := rfl
@[simp] theorem State.withPortA_staged (s : State) (v : HostPort) : (s.withPortA v).staged = s.staged := rfl
@[simp] theorem State.withPortA_lasting (s : State) (v : HostPort) : (s.withPortA v).lasting = s.lasting := rfl
@[simp] theorem State.withPortA_lastHi (s : State) (v : HostPort) : (s.withPortA v).lastHi = s.lastHi := rfl
@[simp] theorem State.withPortA_portA (s : State) (v : HostPort) : (s.withPortA v).portA = v := rfl
@[simp] theorem State.withPortA_portB (s : State) (v : HostPort) : (s.withPortA v).portB = s.portB := rfl
@[simp] theorem State.withPortA_own (s : State) (v : HostPort) : (s.withPortA v).own = s.own := rfl
@[simp] theorem State.withPortA_ord (s : State) (v : HostPort) : (s.withPortA v).ord = s.ord := rfl
@[simp] theorem State.withPortA_lg (s : State) (v : HostPort) : (s.withPortA v).lg = s.lg := rfl
@[simp] theorem State.withPortA_eng (s : State) (v : HostPort) : (s.withPortA v).eng = s.eng := rfl
@[simp] theorem State.withPortA_win (s : State) (v : HostPort) : (s.withPortA v).win = s.win := rfl
@[simp] theorem State.withPortA_nor (s : State) (v : HostPort) : (s.withPortA v).nor = s.nor := rfl
@[simp] theorem State.withPortA_out (s : State) (v : HostPort) : (s.withPortA v).out = s.out := rfl
@[simp] theorem State.withPortA_xp (s : State) (v : HostPort) : (s.withPortA v).xp = s.xp := rfl
@[simp] theorem State.withPortA_xnet (s : State) (v : HostPort) : (s.withPortA v).xnet = s.xnet := rfl
@[simp] theorem State.withPortA_callIn (s : State) (v : HostPort) : (s.withPortA v).callIn = s.callIn := rfl
@[simp] theorem State.withPortA_afe (s : State) (v : HostPort) : (s.withPortA v).afe = s.afe := rfl
@[simp] theorem State.withPortA_outs (s : State) (v : HostPort) : (s.withPortA v).outs = s.outs := rfl
@[simp] theorem State.withPortA_call (s : State) (v : HostPort) : (s.withPortA v).call = s.call := rfl
@[simp] theorem State.withPortA_segs (s : State) (v : HostPort) : (s.withPortA v).segs = s.segs := rfl
@[simp] theorem State.withPortA_panel (s : State) (v : HostPort) : (s.withPortA v).panel = s.panel := rfl
@[simp] theorem State.withPortA_rtc (s : State) (v : HostPort) : (s.withPortA v).rtc = s.rtc := rfl
@[simp] theorem State.withPortA_tt (s : State) (v : HostPort) : (s.withPortA v).tt = s.tt := rfl
@[simp] theorem State.withPortA_safe (s : State) (v : HostPort) : (s.withPortA v).safe = s.safe := rfl
@[simp] theorem State.withPortB_pending (s : State) (v : HostPort) : (s.withPortB v).pending = s.pending := rfl
@[simp] theorem State.withPortB_freeCount (s : State) (v : HostPort) : (s.withPortB v).freeCount = s.freeCount := rfl
@[simp] theorem State.withPortB_part (s : State) (v : HostPort) : (s.withPortB v).part = s.part := rfl
@[simp] theorem State.withPortB_phase (s : State) (v : HostPort) : (s.withPortB v).phase = s.phase := rfl
@[simp] theorem State.withPortB_rst (s : State) (v : HostPort) : (s.withPortB v).rst = s.rst := rfl
@[simp] theorem State.withPortB_pwr (s : State) (v : HostPort) : (s.withPortB v).pwr = s.pwr := rfl
@[simp] theorem State.withPortB_regs (s : State) (v : HostPort) : (s.withPortB v).regs = s.regs := rfl
@[simp] theorem State.withPortB_regsA (s : State) (v : HostPort) : (s.withPortB v).regsA = s.regsA := rfl
@[simp] theorem State.withPortB_regsB (s : State) (v : HostPort) : (s.withPortB v).regsB = s.regsB := rfl
@[simp] theorem State.withPortB_staged (s : State) (v : HostPort) : (s.withPortB v).staged = s.staged := rfl
@[simp] theorem State.withPortB_lasting (s : State) (v : HostPort) : (s.withPortB v).lasting = s.lasting := rfl
@[simp] theorem State.withPortB_lastHi (s : State) (v : HostPort) : (s.withPortB v).lastHi = s.lastHi := rfl
@[simp] theorem State.withPortB_portA (s : State) (v : HostPort) : (s.withPortB v).portA = s.portA := rfl
@[simp] theorem State.withPortB_portB (s : State) (v : HostPort) : (s.withPortB v).portB = v := rfl
@[simp] theorem State.withPortB_own (s : State) (v : HostPort) : (s.withPortB v).own = s.own := rfl
@[simp] theorem State.withPortB_ord (s : State) (v : HostPort) : (s.withPortB v).ord = s.ord := rfl
@[simp] theorem State.withPortB_lg (s : State) (v : HostPort) : (s.withPortB v).lg = s.lg := rfl
@[simp] theorem State.withPortB_eng (s : State) (v : HostPort) : (s.withPortB v).eng = s.eng := rfl
@[simp] theorem State.withPortB_win (s : State) (v : HostPort) : (s.withPortB v).win = s.win := rfl
@[simp] theorem State.withPortB_nor (s : State) (v : HostPort) : (s.withPortB v).nor = s.nor := rfl
@[simp] theorem State.withPortB_out (s : State) (v : HostPort) : (s.withPortB v).out = s.out := rfl
@[simp] theorem State.withPortB_xp (s : State) (v : HostPort) : (s.withPortB v).xp = s.xp := rfl
@[simp] theorem State.withPortB_xnet (s : State) (v : HostPort) : (s.withPortB v).xnet = s.xnet := rfl
@[simp] theorem State.withPortB_callIn (s : State) (v : HostPort) : (s.withPortB v).callIn = s.callIn := rfl
@[simp] theorem State.withPortB_afe (s : State) (v : HostPort) : (s.withPortB v).afe = s.afe := rfl
@[simp] theorem State.withPortB_outs (s : State) (v : HostPort) : (s.withPortB v).outs = s.outs := rfl
@[simp] theorem State.withPortB_call (s : State) (v : HostPort) : (s.withPortB v).call = s.call := rfl
@[simp] theorem State.withPortB_segs (s : State) (v : HostPort) : (s.withPortB v).segs = s.segs := rfl
@[simp] theorem State.withPortB_panel (s : State) (v : HostPort) : (s.withPortB v).panel = s.panel := rfl
@[simp] theorem State.withPortB_rtc (s : State) (v : HostPort) : (s.withPortB v).rtc = s.rtc := rfl
@[simp] theorem State.withPortB_tt (s : State) (v : HostPort) : (s.withPortB v).tt = s.tt := rfl
@[simp] theorem State.withPortB_safe (s : State) (v : HostPort) : (s.withPortB v).safe = s.safe := rfl
@[simp] theorem State.withOwn_pending (s : State) (v : Ownership) : (s.withOwn v).pending = s.pending := rfl
@[simp] theorem State.withOwn_freeCount (s : State) (v : Ownership) : (s.withOwn v).freeCount = s.freeCount := rfl
@[simp] theorem State.withOwn_part (s : State) (v : Ownership) : (s.withOwn v).part = s.part := rfl
@[simp] theorem State.withOwn_phase (s : State) (v : Ownership) : (s.withOwn v).phase = s.phase := rfl
@[simp] theorem State.withOwn_rst (s : State) (v : Ownership) : (s.withOwn v).rst = s.rst := rfl
@[simp] theorem State.withOwn_pwr (s : State) (v : Ownership) : (s.withOwn v).pwr = s.pwr := rfl
@[simp] theorem State.withOwn_regs (s : State) (v : Ownership) : (s.withOwn v).regs = s.regs := rfl
@[simp] theorem State.withOwn_regsA (s : State) (v : Ownership) : (s.withOwn v).regsA = s.regsA := rfl
@[simp] theorem State.withOwn_regsB (s : State) (v : Ownership) : (s.withOwn v).regsB = s.regsB := rfl
@[simp] theorem State.withOwn_staged (s : State) (v : Ownership) : (s.withOwn v).staged = s.staged := rfl
@[simp] theorem State.withOwn_lasting (s : State) (v : Ownership) : (s.withOwn v).lasting = s.lasting := rfl
@[simp] theorem State.withOwn_lastHi (s : State) (v : Ownership) : (s.withOwn v).lastHi = s.lastHi := rfl
@[simp] theorem State.withOwn_portA (s : State) (v : Ownership) : (s.withOwn v).portA = s.portA := rfl
@[simp] theorem State.withOwn_portB (s : State) (v : Ownership) : (s.withOwn v).portB = s.portB := rfl
@[simp] theorem State.withOwn_own (s : State) (v : Ownership) : (s.withOwn v).own = v := rfl
@[simp] theorem State.withOwn_ord (s : State) (v : Ownership) : (s.withOwn v).ord = s.ord := rfl
@[simp] theorem State.withOwn_lg (s : State) (v : Ownership) : (s.withOwn v).lg = s.lg := rfl
@[simp] theorem State.withOwn_eng (s : State) (v : Ownership) : (s.withOwn v).eng = s.eng := rfl
@[simp] theorem State.withOwn_win (s : State) (v : Ownership) : (s.withOwn v).win = s.win := rfl
@[simp] theorem State.withOwn_nor (s : State) (v : Ownership) : (s.withOwn v).nor = s.nor := rfl
@[simp] theorem State.withOwn_out (s : State) (v : Ownership) : (s.withOwn v).out = s.out := rfl
@[simp] theorem State.withOwn_xp (s : State) (v : Ownership) : (s.withOwn v).xp = s.xp := rfl
@[simp] theorem State.withOwn_xnet (s : State) (v : Ownership) : (s.withOwn v).xnet = s.xnet := rfl
@[simp] theorem State.withOwn_callIn (s : State) (v : Ownership) : (s.withOwn v).callIn = s.callIn := rfl
@[simp] theorem State.withOwn_afe (s : State) (v : Ownership) : (s.withOwn v).afe = s.afe := rfl
@[simp] theorem State.withOwn_outs (s : State) (v : Ownership) : (s.withOwn v).outs = s.outs := rfl
@[simp] theorem State.withOwn_call (s : State) (v : Ownership) : (s.withOwn v).call = s.call := rfl
@[simp] theorem State.withOwn_segs (s : State) (v : Ownership) : (s.withOwn v).segs = s.segs := rfl
@[simp] theorem State.withOwn_panel (s : State) (v : Ownership) : (s.withOwn v).panel = s.panel := rfl
@[simp] theorem State.withOwn_rtc (s : State) (v : Ownership) : (s.withOwn v).rtc = s.rtc := rfl
@[simp] theorem State.withOwn_tt (s : State) (v : Ownership) : (s.withOwn v).tt = s.tt := rfl
@[simp] theorem State.withOwn_safe (s : State) (v : Ownership) : (s.withOwn v).safe = s.safe := rfl
@[simp] theorem State.withOrd_pending (s : State) (v : Ord) : (s.withOrd v).pending = s.pending := rfl
@[simp] theorem State.withOrd_freeCount (s : State) (v : Ord) : (s.withOrd v).freeCount = s.freeCount := rfl
@[simp] theorem State.withOrd_part (s : State) (v : Ord) : (s.withOrd v).part = s.part := rfl
@[simp] theorem State.withOrd_phase (s : State) (v : Ord) : (s.withOrd v).phase = s.phase := rfl
@[simp] theorem State.withOrd_rst (s : State) (v : Ord) : (s.withOrd v).rst = s.rst := rfl
@[simp] theorem State.withOrd_pwr (s : State) (v : Ord) : (s.withOrd v).pwr = s.pwr := rfl
@[simp] theorem State.withOrd_regs (s : State) (v : Ord) : (s.withOrd v).regs = s.regs := rfl
@[simp] theorem State.withOrd_regsA (s : State) (v : Ord) : (s.withOrd v).regsA = s.regsA := rfl
@[simp] theorem State.withOrd_regsB (s : State) (v : Ord) : (s.withOrd v).regsB = s.regsB := rfl
@[simp] theorem State.withOrd_staged (s : State) (v : Ord) : (s.withOrd v).staged = s.staged := rfl
@[simp] theorem State.withOrd_lasting (s : State) (v : Ord) : (s.withOrd v).lasting = s.lasting := rfl
@[simp] theorem State.withOrd_lastHi (s : State) (v : Ord) : (s.withOrd v).lastHi = s.lastHi := rfl
@[simp] theorem State.withOrd_portA (s : State) (v : Ord) : (s.withOrd v).portA = s.portA := rfl
@[simp] theorem State.withOrd_portB (s : State) (v : Ord) : (s.withOrd v).portB = s.portB := rfl
@[simp] theorem State.withOrd_own (s : State) (v : Ord) : (s.withOrd v).own = s.own := rfl
@[simp] theorem State.withOrd_ord (s : State) (v : Ord) : (s.withOrd v).ord = v := rfl
@[simp] theorem State.withOrd_lg (s : State) (v : Ord) : (s.withOrd v).lg = s.lg := rfl
@[simp] theorem State.withOrd_eng (s : State) (v : Ord) : (s.withOrd v).eng = s.eng := rfl
@[simp] theorem State.withOrd_win (s : State) (v : Ord) : (s.withOrd v).win = s.win := rfl
@[simp] theorem State.withOrd_nor (s : State) (v : Ord) : (s.withOrd v).nor = s.nor := rfl
@[simp] theorem State.withOrd_out (s : State) (v : Ord) : (s.withOrd v).out = s.out := rfl
@[simp] theorem State.withOrd_xp (s : State) (v : Ord) : (s.withOrd v).xp = s.xp := rfl
@[simp] theorem State.withOrd_xnet (s : State) (v : Ord) : (s.withOrd v).xnet = s.xnet := rfl
@[simp] theorem State.withOrd_callIn (s : State) (v : Ord) : (s.withOrd v).callIn = s.callIn := rfl
@[simp] theorem State.withOrd_afe (s : State) (v : Ord) : (s.withOrd v).afe = s.afe := rfl
@[simp] theorem State.withOrd_outs (s : State) (v : Ord) : (s.withOrd v).outs = s.outs := rfl
@[simp] theorem State.withOrd_call (s : State) (v : Ord) : (s.withOrd v).call = s.call := rfl
@[simp] theorem State.withOrd_segs (s : State) (v : Ord) : (s.withOrd v).segs = s.segs := rfl
@[simp] theorem State.withOrd_panel (s : State) (v : Ord) : (s.withOrd v).panel = s.panel := rfl
@[simp] theorem State.withOrd_rtc (s : State) (v : Ord) : (s.withOrd v).rtc = s.rtc := rfl
@[simp] theorem State.withOrd_tt (s : State) (v : Ord) : (s.withOrd v).tt = s.tt := rfl
@[simp] theorem State.withOrd_safe (s : State) (v : Ord) : (s.withOrd v).safe = s.safe := rfl
@[simp] theorem State.withLg_pending (s : State) (v : Log) : (s.withLg v).pending = s.pending := rfl
@[simp] theorem State.withLg_freeCount (s : State) (v : Log) : (s.withLg v).freeCount = s.freeCount := rfl
@[simp] theorem State.withLg_part (s : State) (v : Log) : (s.withLg v).part = s.part := rfl
@[simp] theorem State.withLg_phase (s : State) (v : Log) : (s.withLg v).phase = s.phase := rfl
@[simp] theorem State.withLg_rst (s : State) (v : Log) : (s.withLg v).rst = s.rst := rfl
@[simp] theorem State.withLg_pwr (s : State) (v : Log) : (s.withLg v).pwr = s.pwr := rfl
@[simp] theorem State.withLg_regs (s : State) (v : Log) : (s.withLg v).regs = s.regs := rfl
@[simp] theorem State.withLg_regsA (s : State) (v : Log) : (s.withLg v).regsA = s.regsA := rfl
@[simp] theorem State.withLg_regsB (s : State) (v : Log) : (s.withLg v).regsB = s.regsB := rfl
@[simp] theorem State.withLg_staged (s : State) (v : Log) : (s.withLg v).staged = s.staged := rfl
@[simp] theorem State.withLg_lasting (s : State) (v : Log) : (s.withLg v).lasting = s.lasting := rfl
@[simp] theorem State.withLg_lastHi (s : State) (v : Log) : (s.withLg v).lastHi = s.lastHi := rfl
@[simp] theorem State.withLg_portA (s : State) (v : Log) : (s.withLg v).portA = s.portA := rfl
@[simp] theorem State.withLg_portB (s : State) (v : Log) : (s.withLg v).portB = s.portB := rfl
@[simp] theorem State.withLg_own (s : State) (v : Log) : (s.withLg v).own = s.own := rfl
@[simp] theorem State.withLg_ord (s : State) (v : Log) : (s.withLg v).ord = s.ord := rfl
@[simp] theorem State.withLg_lg (s : State) (v : Log) : (s.withLg v).lg = v := rfl
@[simp] theorem State.withLg_eng (s : State) (v : Log) : (s.withLg v).eng = s.eng := rfl
@[simp] theorem State.withLg_win (s : State) (v : Log) : (s.withLg v).win = s.win := rfl
@[simp] theorem State.withLg_nor (s : State) (v : Log) : (s.withLg v).nor = s.nor := rfl
@[simp] theorem State.withLg_out (s : State) (v : Log) : (s.withLg v).out = s.out := rfl
@[simp] theorem State.withLg_xp (s : State) (v : Log) : (s.withLg v).xp = s.xp := rfl
@[simp] theorem State.withLg_xnet (s : State) (v : Log) : (s.withLg v).xnet = s.xnet := rfl
@[simp] theorem State.withLg_callIn (s : State) (v : Log) : (s.withLg v).callIn = s.callIn := rfl
@[simp] theorem State.withLg_afe (s : State) (v : Log) : (s.withLg v).afe = s.afe := rfl
@[simp] theorem State.withLg_outs (s : State) (v : Log) : (s.withLg v).outs = s.outs := rfl
@[simp] theorem State.withLg_call (s : State) (v : Log) : (s.withLg v).call = s.call := rfl
@[simp] theorem State.withLg_segs (s : State) (v : Log) : (s.withLg v).segs = s.segs := rfl
@[simp] theorem State.withLg_panel (s : State) (v : Log) : (s.withLg v).panel = s.panel := rfl
@[simp] theorem State.withLg_rtc (s : State) (v : Log) : (s.withLg v).rtc = s.rtc := rfl
@[simp] theorem State.withLg_tt (s : State) (v : Log) : (s.withLg v).tt = s.tt := rfl
@[simp] theorem State.withLg_safe (s : State) (v : Log) : (s.withLg v).safe = s.safe := rfl
@[simp] theorem State.withEng_pending (s : State) (v : Eng) : (s.withEng v).pending = s.pending := rfl
@[simp] theorem State.withEng_freeCount (s : State) (v : Eng) : (s.withEng v).freeCount = s.freeCount := rfl
@[simp] theorem State.withEng_part (s : State) (v : Eng) : (s.withEng v).part = s.part := rfl
@[simp] theorem State.withEng_phase (s : State) (v : Eng) : (s.withEng v).phase = s.phase := rfl
@[simp] theorem State.withEng_rst (s : State) (v : Eng) : (s.withEng v).rst = s.rst := rfl
@[simp] theorem State.withEng_pwr (s : State) (v : Eng) : (s.withEng v).pwr = s.pwr := rfl
@[simp] theorem State.withEng_regs (s : State) (v : Eng) : (s.withEng v).regs = s.regs := rfl
@[simp] theorem State.withEng_regsA (s : State) (v : Eng) : (s.withEng v).regsA = s.regsA := rfl
@[simp] theorem State.withEng_regsB (s : State) (v : Eng) : (s.withEng v).regsB = s.regsB := rfl
@[simp] theorem State.withEng_staged (s : State) (v : Eng) : (s.withEng v).staged = s.staged := rfl
@[simp] theorem State.withEng_lasting (s : State) (v : Eng) : (s.withEng v).lasting = s.lasting := rfl
@[simp] theorem State.withEng_lastHi (s : State) (v : Eng) : (s.withEng v).lastHi = s.lastHi := rfl
@[simp] theorem State.withEng_portA (s : State) (v : Eng) : (s.withEng v).portA = s.portA := rfl
@[simp] theorem State.withEng_portB (s : State) (v : Eng) : (s.withEng v).portB = s.portB := rfl
@[simp] theorem State.withEng_own (s : State) (v : Eng) : (s.withEng v).own = s.own := rfl
@[simp] theorem State.withEng_ord (s : State) (v : Eng) : (s.withEng v).ord = s.ord := rfl
@[simp] theorem State.withEng_lg (s : State) (v : Eng) : (s.withEng v).lg = s.lg := rfl
@[simp] theorem State.withEng_eng (s : State) (v : Eng) : (s.withEng v).eng = v := rfl
@[simp] theorem State.withEng_win (s : State) (v : Eng) : (s.withEng v).win = s.win := rfl
@[simp] theorem State.withEng_nor (s : State) (v : Eng) : (s.withEng v).nor = s.nor := rfl
@[simp] theorem State.withEng_out (s : State) (v : Eng) : (s.withEng v).out = s.out := rfl
@[simp] theorem State.withEng_xp (s : State) (v : Eng) : (s.withEng v).xp = s.xp := rfl
@[simp] theorem State.withEng_xnet (s : State) (v : Eng) : (s.withEng v).xnet = s.xnet := rfl
@[simp] theorem State.withEng_callIn (s : State) (v : Eng) : (s.withEng v).callIn = s.callIn := rfl
@[simp] theorem State.withEng_afe (s : State) (v : Eng) : (s.withEng v).afe = s.afe := rfl
@[simp] theorem State.withEng_outs (s : State) (v : Eng) : (s.withEng v).outs = s.outs := rfl
@[simp] theorem State.withEng_call (s : State) (v : Eng) : (s.withEng v).call = s.call := rfl
@[simp] theorem State.withEng_segs (s : State) (v : Eng) : (s.withEng v).segs = s.segs := rfl
@[simp] theorem State.withEng_panel (s : State) (v : Eng) : (s.withEng v).panel = s.panel := rfl
@[simp] theorem State.withEng_rtc (s : State) (v : Eng) : (s.withEng v).rtc = s.rtc := rfl
@[simp] theorem State.withEng_tt (s : State) (v : Eng) : (s.withEng v).tt = s.tt := rfl
@[simp] theorem State.withEng_safe (s : State) (v : Eng) : (s.withEng v).safe = s.safe := rfl
@[simp] theorem State.withWin_pending (s : State) (v : List (Nat × Byte)) : (s.withWin v).pending = s.pending := rfl
@[simp] theorem State.withWin_freeCount (s : State) (v : List (Nat × Byte)) : (s.withWin v).freeCount = s.freeCount := rfl
@[simp] theorem State.withWin_part (s : State) (v : List (Nat × Byte)) : (s.withWin v).part = s.part := rfl
@[simp] theorem State.withWin_phase (s : State) (v : List (Nat × Byte)) : (s.withWin v).phase = s.phase := rfl
@[simp] theorem State.withWin_rst (s : State) (v : List (Nat × Byte)) : (s.withWin v).rst = s.rst := rfl
@[simp] theorem State.withWin_pwr (s : State) (v : List (Nat × Byte)) : (s.withWin v).pwr = s.pwr := rfl
@[simp] theorem State.withWin_regs (s : State) (v : List (Nat × Byte)) : (s.withWin v).regs = s.regs := rfl
@[simp] theorem State.withWin_regsA (s : State) (v : List (Nat × Byte)) : (s.withWin v).regsA = s.regsA := rfl
@[simp] theorem State.withWin_regsB (s : State) (v : List (Nat × Byte)) : (s.withWin v).regsB = s.regsB := rfl
@[simp] theorem State.withWin_staged (s : State) (v : List (Nat × Byte)) : (s.withWin v).staged = s.staged := rfl
@[simp] theorem State.withWin_lasting (s : State) (v : List (Nat × Byte)) : (s.withWin v).lasting = s.lasting := rfl
@[simp] theorem State.withWin_lastHi (s : State) (v : List (Nat × Byte)) : (s.withWin v).lastHi = s.lastHi := rfl
@[simp] theorem State.withWin_portA (s : State) (v : List (Nat × Byte)) : (s.withWin v).portA = s.portA := rfl
@[simp] theorem State.withWin_portB (s : State) (v : List (Nat × Byte)) : (s.withWin v).portB = s.portB := rfl
@[simp] theorem State.withWin_own (s : State) (v : List (Nat × Byte)) : (s.withWin v).own = s.own := rfl
@[simp] theorem State.withWin_ord (s : State) (v : List (Nat × Byte)) : (s.withWin v).ord = s.ord := rfl
@[simp] theorem State.withWin_lg (s : State) (v : List (Nat × Byte)) : (s.withWin v).lg = s.lg := rfl
@[simp] theorem State.withWin_eng (s : State) (v : List (Nat × Byte)) : (s.withWin v).eng = s.eng := rfl
@[simp] theorem State.withWin_win (s : State) (v : List (Nat × Byte)) : (s.withWin v).win = v := rfl
@[simp] theorem State.withWin_nor (s : State) (v : List (Nat × Byte)) : (s.withWin v).nor = s.nor := rfl
@[simp] theorem State.withWin_out (s : State) (v : List (Nat × Byte)) : (s.withWin v).out = s.out := rfl
@[simp] theorem State.withWin_xp (s : State) (v : List (Nat × Byte)) : (s.withWin v).xp = s.xp := rfl
@[simp] theorem State.withWin_xnet (s : State) (v : List (Nat × Byte)) : (s.withWin v).xnet = s.xnet := rfl
@[simp] theorem State.withWin_callIn (s : State) (v : List (Nat × Byte)) : (s.withWin v).callIn = s.callIn := rfl
@[simp] theorem State.withWin_afe (s : State) (v : List (Nat × Byte)) : (s.withWin v).afe = s.afe := rfl
@[simp] theorem State.withWin_outs (s : State) (v : List (Nat × Byte)) : (s.withWin v).outs = s.outs := rfl
@[simp] theorem State.withWin_call (s : State) (v : List (Nat × Byte)) : (s.withWin v).call = s.call := rfl
@[simp] theorem State.withWin_segs (s : State) (v : List (Nat × Byte)) : (s.withWin v).segs = s.segs := rfl
@[simp] theorem State.withWin_panel (s : State) (v : List (Nat × Byte)) : (s.withWin v).panel = s.panel := rfl
@[simp] theorem State.withWin_rtc (s : State) (v : List (Nat × Byte)) : (s.withWin v).rtc = s.rtc := rfl
@[simp] theorem State.withWin_tt (s : State) (v : List (Nat × Byte)) : (s.withWin v).tt = s.tt := rfl
@[simp] theorem State.withWin_safe (s : State) (v : List (Nat × Byte)) : (s.withWin v).safe = s.safe := rfl
@[simp] theorem State.withNor_pending (s : State) (v : List (Nat × Byte)) : (s.withNor v).pending = s.pending := rfl
@[simp] theorem State.withNor_freeCount (s : State) (v : List (Nat × Byte)) : (s.withNor v).freeCount = s.freeCount := rfl
@[simp] theorem State.withNor_part (s : State) (v : List (Nat × Byte)) : (s.withNor v).part = s.part := rfl
@[simp] theorem State.withNor_phase (s : State) (v : List (Nat × Byte)) : (s.withNor v).phase = s.phase := rfl
@[simp] theorem State.withNor_rst (s : State) (v : List (Nat × Byte)) : (s.withNor v).rst = s.rst := rfl
@[simp] theorem State.withNor_pwr (s : State) (v : List (Nat × Byte)) : (s.withNor v).pwr = s.pwr := rfl
@[simp] theorem State.withNor_regs (s : State) (v : List (Nat × Byte)) : (s.withNor v).regs = s.regs := rfl
@[simp] theorem State.withNor_regsA (s : State) (v : List (Nat × Byte)) : (s.withNor v).regsA = s.regsA := rfl
@[simp] theorem State.withNor_regsB (s : State) (v : List (Nat × Byte)) : (s.withNor v).regsB = s.regsB := rfl
@[simp] theorem State.withNor_staged (s : State) (v : List (Nat × Byte)) : (s.withNor v).staged = s.staged := rfl
@[simp] theorem State.withNor_lasting (s : State) (v : List (Nat × Byte)) : (s.withNor v).lasting = s.lasting := rfl
@[simp] theorem State.withNor_lastHi (s : State) (v : List (Nat × Byte)) : (s.withNor v).lastHi = s.lastHi := rfl
@[simp] theorem State.withNor_portA (s : State) (v : List (Nat × Byte)) : (s.withNor v).portA = s.portA := rfl
@[simp] theorem State.withNor_portB (s : State) (v : List (Nat × Byte)) : (s.withNor v).portB = s.portB := rfl
@[simp] theorem State.withNor_own (s : State) (v : List (Nat × Byte)) : (s.withNor v).own = s.own := rfl
@[simp] theorem State.withNor_ord (s : State) (v : List (Nat × Byte)) : (s.withNor v).ord = s.ord := rfl
@[simp] theorem State.withNor_lg (s : State) (v : List (Nat × Byte)) : (s.withNor v).lg = s.lg := rfl
@[simp] theorem State.withNor_eng (s : State) (v : List (Nat × Byte)) : (s.withNor v).eng = s.eng := rfl
@[simp] theorem State.withNor_win (s : State) (v : List (Nat × Byte)) : (s.withNor v).win = s.win := rfl
@[simp] theorem State.withNor_nor (s : State) (v : List (Nat × Byte)) : (s.withNor v).nor = v := rfl
@[simp] theorem State.withNor_out (s : State) (v : List (Nat × Byte)) : (s.withNor v).out = s.out := rfl
@[simp] theorem State.withNor_xp (s : State) (v : List (Nat × Byte)) : (s.withNor v).xp = s.xp := rfl
@[simp] theorem State.withNor_xnet (s : State) (v : List (Nat × Byte)) : (s.withNor v).xnet = s.xnet := rfl
@[simp] theorem State.withNor_callIn (s : State) (v : List (Nat × Byte)) : (s.withNor v).callIn = s.callIn := rfl
@[simp] theorem State.withNor_afe (s : State) (v : List (Nat × Byte)) : (s.withNor v).afe = s.afe := rfl
@[simp] theorem State.withNor_outs (s : State) (v : List (Nat × Byte)) : (s.withNor v).outs = s.outs := rfl
@[simp] theorem State.withNor_call (s : State) (v : List (Nat × Byte)) : (s.withNor v).call = s.call := rfl
@[simp] theorem State.withNor_segs (s : State) (v : List (Nat × Byte)) : (s.withNor v).segs = s.segs := rfl
@[simp] theorem State.withNor_panel (s : State) (v : List (Nat × Byte)) : (s.withNor v).panel = s.panel := rfl
@[simp] theorem State.withNor_rtc (s : State) (v : List (Nat × Byte)) : (s.withNor v).rtc = s.rtc := rfl
@[simp] theorem State.withNor_tt (s : State) (v : List (Nat × Byte)) : (s.withNor v).tt = s.tt := rfl
@[simp] theorem State.withNor_safe (s : State) (v : List (Nat × Byte)) : (s.withNor v).safe = s.safe := rfl
@[simp] theorem State.withOut_pending (s : State) (v : List Output) : (s.withOut v).pending = s.pending := rfl
@[simp] theorem State.withOut_freeCount (s : State) (v : List Output) : (s.withOut v).freeCount = s.freeCount := rfl
@[simp] theorem State.withOut_part (s : State) (v : List Output) : (s.withOut v).part = s.part := rfl
@[simp] theorem State.withOut_phase (s : State) (v : List Output) : (s.withOut v).phase = s.phase := rfl
@[simp] theorem State.withOut_rst (s : State) (v : List Output) : (s.withOut v).rst = s.rst := rfl
@[simp] theorem State.withOut_pwr (s : State) (v : List Output) : (s.withOut v).pwr = s.pwr := rfl
@[simp] theorem State.withOut_regs (s : State) (v : List Output) : (s.withOut v).regs = s.regs := rfl
@[simp] theorem State.withOut_regsA (s : State) (v : List Output) : (s.withOut v).regsA = s.regsA := rfl
@[simp] theorem State.withOut_regsB (s : State) (v : List Output) : (s.withOut v).regsB = s.regsB := rfl
@[simp] theorem State.withOut_staged (s : State) (v : List Output) : (s.withOut v).staged = s.staged := rfl
@[simp] theorem State.withOut_lasting (s : State) (v : List Output) : (s.withOut v).lasting = s.lasting := rfl
@[simp] theorem State.withOut_lastHi (s : State) (v : List Output) : (s.withOut v).lastHi = s.lastHi := rfl
@[simp] theorem State.withOut_portA (s : State) (v : List Output) : (s.withOut v).portA = s.portA := rfl
@[simp] theorem State.withOut_portB (s : State) (v : List Output) : (s.withOut v).portB = s.portB := rfl
@[simp] theorem State.withOut_own (s : State) (v : List Output) : (s.withOut v).own = s.own := rfl
@[simp] theorem State.withOut_ord (s : State) (v : List Output) : (s.withOut v).ord = s.ord := rfl
@[simp] theorem State.withOut_lg (s : State) (v : List Output) : (s.withOut v).lg = s.lg := rfl
@[simp] theorem State.withOut_eng (s : State) (v : List Output) : (s.withOut v).eng = s.eng := rfl
@[simp] theorem State.withOut_win (s : State) (v : List Output) : (s.withOut v).win = s.win := rfl
@[simp] theorem State.withOut_nor (s : State) (v : List Output) : (s.withOut v).nor = s.nor := rfl
@[simp] theorem State.withOut_out (s : State) (v : List Output) : (s.withOut v).out = v := rfl
@[simp] theorem State.withOut_xp (s : State) (v : List Output) : (s.withOut v).xp = s.xp := rfl
@[simp] theorem State.withOut_xnet (s : State) (v : List Output) : (s.withOut v).xnet = s.xnet := rfl
@[simp] theorem State.withOut_callIn (s : State) (v : List Output) : (s.withOut v).callIn = s.callIn := rfl
@[simp] theorem State.withOut_afe (s : State) (v : List Output) : (s.withOut v).afe = s.afe := rfl
@[simp] theorem State.withOut_outs (s : State) (v : List Output) : (s.withOut v).outs = s.outs := rfl
@[simp] theorem State.withOut_call (s : State) (v : List Output) : (s.withOut v).call = s.call := rfl
@[simp] theorem State.withOut_segs (s : State) (v : List Output) : (s.withOut v).segs = s.segs := rfl
@[simp] theorem State.withOut_panel (s : State) (v : List Output) : (s.withOut v).panel = s.panel := rfl
@[simp] theorem State.withOut_rtc (s : State) (v : List Output) : (s.withOut v).rtc = s.rtc := rfl
@[simp] theorem State.withOut_tt (s : State) (v : List Output) : (s.withOut v).tt = s.tt := rfl
@[simp] theorem State.withOut_safe (s : State) (v : List Output) : (s.withOut v).safe = s.safe := rfl
@[simp] theorem State.withXp_pending (s : State) (v : List XPort) : (s.withXp v).pending = s.pending := rfl
@[simp] theorem State.withXp_freeCount (s : State) (v : List XPort) : (s.withXp v).freeCount = s.freeCount := rfl
@[simp] theorem State.withXp_part (s : State) (v : List XPort) : (s.withXp v).part = s.part := rfl
@[simp] theorem State.withXp_phase (s : State) (v : List XPort) : (s.withXp v).phase = s.phase := rfl
@[simp] theorem State.withXp_rst (s : State) (v : List XPort) : (s.withXp v).rst = s.rst := rfl
@[simp] theorem State.withXp_pwr (s : State) (v : List XPort) : (s.withXp v).pwr = s.pwr := rfl
@[simp] theorem State.withXp_regs (s : State) (v : List XPort) : (s.withXp v).regs = s.regs := rfl
@[simp] theorem State.withXp_regsA (s : State) (v : List XPort) : (s.withXp v).regsA = s.regsA := rfl
@[simp] theorem State.withXp_regsB (s : State) (v : List XPort) : (s.withXp v).regsB = s.regsB := rfl
@[simp] theorem State.withXp_staged (s : State) (v : List XPort) : (s.withXp v).staged = s.staged := rfl
@[simp] theorem State.withXp_lasting (s : State) (v : List XPort) : (s.withXp v).lasting = s.lasting := rfl
@[simp] theorem State.withXp_lastHi (s : State) (v : List XPort) : (s.withXp v).lastHi = s.lastHi := rfl
@[simp] theorem State.withXp_portA (s : State) (v : List XPort) : (s.withXp v).portA = s.portA := rfl
@[simp] theorem State.withXp_portB (s : State) (v : List XPort) : (s.withXp v).portB = s.portB := rfl
@[simp] theorem State.withXp_own (s : State) (v : List XPort) : (s.withXp v).own = s.own := rfl
@[simp] theorem State.withXp_ord (s : State) (v : List XPort) : (s.withXp v).ord = s.ord := rfl
@[simp] theorem State.withXp_lg (s : State) (v : List XPort) : (s.withXp v).lg = s.lg := rfl
@[simp] theorem State.withXp_eng (s : State) (v : List XPort) : (s.withXp v).eng = s.eng := rfl
@[simp] theorem State.withXp_win (s : State) (v : List XPort) : (s.withXp v).win = s.win := rfl
@[simp] theorem State.withXp_nor (s : State) (v : List XPort) : (s.withXp v).nor = s.nor := rfl
@[simp] theorem State.withXp_out (s : State) (v : List XPort) : (s.withXp v).out = s.out := rfl
@[simp] theorem State.withXp_xp (s : State) (v : List XPort) : (s.withXp v).xp = v := rfl
@[simp] theorem State.withXp_xnet (s : State) (v : List XPort) : (s.withXp v).xnet = s.xnet := rfl
@[simp] theorem State.withXp_callIn (s : State) (v : List XPort) : (s.withXp v).callIn = s.callIn := rfl
@[simp] theorem State.withXp_afe (s : State) (v : List XPort) : (s.withXp v).afe = s.afe := rfl
@[simp] theorem State.withXp_outs (s : State) (v : List XPort) : (s.withXp v).outs = s.outs := rfl
@[simp] theorem State.withXp_call (s : State) (v : List XPort) : (s.withXp v).call = s.call := rfl
@[simp] theorem State.withXp_segs (s : State) (v : List XPort) : (s.withXp v).segs = s.segs := rfl
@[simp] theorem State.withXp_panel (s : State) (v : List XPort) : (s.withXp v).panel = s.panel := rfl
@[simp] theorem State.withXp_rtc (s : State) (v : List XPort) : (s.withXp v).rtc = s.rtc := rfl
@[simp] theorem State.withXp_tt (s : State) (v : List XPort) : (s.withXp v).tt = s.tt := rfl
@[simp] theorem State.withXp_safe (s : State) (v : List XPort) : (s.withXp v).safe = s.safe := rfl
@[simp] theorem State.withXnet_pending (s : State) (v : Xnet) : (s.withXnet v).pending = s.pending := rfl
@[simp] theorem State.withXnet_freeCount (s : State) (v : Xnet) : (s.withXnet v).freeCount = s.freeCount := rfl
@[simp] theorem State.withXnet_part (s : State) (v : Xnet) : (s.withXnet v).part = s.part := rfl
@[simp] theorem State.withXnet_phase (s : State) (v : Xnet) : (s.withXnet v).phase = s.phase := rfl
@[simp] theorem State.withXnet_rst (s : State) (v : Xnet) : (s.withXnet v).rst = s.rst := rfl
@[simp] theorem State.withXnet_pwr (s : State) (v : Xnet) : (s.withXnet v).pwr = s.pwr := rfl
@[simp] theorem State.withXnet_regs (s : State) (v : Xnet) : (s.withXnet v).regs = s.regs := rfl
@[simp] theorem State.withXnet_regsA (s : State) (v : Xnet) : (s.withXnet v).regsA = s.regsA := rfl
@[simp] theorem State.withXnet_regsB (s : State) (v : Xnet) : (s.withXnet v).regsB = s.regsB := rfl
@[simp] theorem State.withXnet_staged (s : State) (v : Xnet) : (s.withXnet v).staged = s.staged := rfl
@[simp] theorem State.withXnet_lasting (s : State) (v : Xnet) : (s.withXnet v).lasting = s.lasting := rfl
@[simp] theorem State.withXnet_lastHi (s : State) (v : Xnet) : (s.withXnet v).lastHi = s.lastHi := rfl
@[simp] theorem State.withXnet_portA (s : State) (v : Xnet) : (s.withXnet v).portA = s.portA := rfl
@[simp] theorem State.withXnet_portB (s : State) (v : Xnet) : (s.withXnet v).portB = s.portB := rfl
@[simp] theorem State.withXnet_own (s : State) (v : Xnet) : (s.withXnet v).own = s.own := rfl
@[simp] theorem State.withXnet_ord (s : State) (v : Xnet) : (s.withXnet v).ord = s.ord := rfl
@[simp] theorem State.withXnet_lg (s : State) (v : Xnet) : (s.withXnet v).lg = s.lg := rfl
@[simp] theorem State.withXnet_eng (s : State) (v : Xnet) : (s.withXnet v).eng = s.eng := rfl
@[simp] theorem State.withXnet_win (s : State) (v : Xnet) : (s.withXnet v).win = s.win := rfl
@[simp] theorem State.withXnet_nor (s : State) (v : Xnet) : (s.withXnet v).nor = s.nor := rfl
@[simp] theorem State.withXnet_out (s : State) (v : Xnet) : (s.withXnet v).out = s.out := rfl
@[simp] theorem State.withXnet_xp (s : State) (v : Xnet) : (s.withXnet v).xp = s.xp := rfl
@[simp] theorem State.withXnet_xnet (s : State) (v : Xnet) : (s.withXnet v).xnet = v := rfl
@[simp] theorem State.withXnet_callIn (s : State) (v : Xnet) : (s.withXnet v).callIn = s.callIn := rfl
@[simp] theorem State.withXnet_afe (s : State) (v : Xnet) : (s.withXnet v).afe = s.afe := rfl
@[simp] theorem State.withXnet_outs (s : State) (v : Xnet) : (s.withXnet v).outs = s.outs := rfl
@[simp] theorem State.withXnet_call (s : State) (v : Xnet) : (s.withXnet v).call = s.call := rfl
@[simp] theorem State.withXnet_segs (s : State) (v : Xnet) : (s.withXnet v).segs = s.segs := rfl
@[simp] theorem State.withXnet_panel (s : State) (v : Xnet) : (s.withXnet v).panel = s.panel := rfl
@[simp] theorem State.withXnet_rtc (s : State) (v : Xnet) : (s.withXnet v).rtc = s.rtc := rfl
@[simp] theorem State.withXnet_tt (s : State) (v : Xnet) : (s.withXnet v).tt = s.tt := rfl
@[simp] theorem State.withXnet_safe (s : State) (v : Xnet) : (s.withXnet v).safe = s.safe := rfl
@[simp] theorem State.withCallIn_pending (s : State) (v : List Rec) : (s.withCallIn v).pending = s.pending := rfl
@[simp] theorem State.withCallIn_freeCount (s : State) (v : List Rec) : (s.withCallIn v).freeCount = s.freeCount := rfl
@[simp] theorem State.withCallIn_part (s : State) (v : List Rec) : (s.withCallIn v).part = s.part := rfl
@[simp] theorem State.withCallIn_phase (s : State) (v : List Rec) : (s.withCallIn v).phase = s.phase := rfl
@[simp] theorem State.withCallIn_rst (s : State) (v : List Rec) : (s.withCallIn v).rst = s.rst := rfl
@[simp] theorem State.withCallIn_pwr (s : State) (v : List Rec) : (s.withCallIn v).pwr = s.pwr := rfl
@[simp] theorem State.withCallIn_regs (s : State) (v : List Rec) : (s.withCallIn v).regs = s.regs := rfl
@[simp] theorem State.withCallIn_regsA (s : State) (v : List Rec) : (s.withCallIn v).regsA = s.regsA := rfl
@[simp] theorem State.withCallIn_regsB (s : State) (v : List Rec) : (s.withCallIn v).regsB = s.regsB := rfl
@[simp] theorem State.withCallIn_staged (s : State) (v : List Rec) : (s.withCallIn v).staged = s.staged := rfl
@[simp] theorem State.withCallIn_lasting (s : State) (v : List Rec) : (s.withCallIn v).lasting = s.lasting := rfl
@[simp] theorem State.withCallIn_lastHi (s : State) (v : List Rec) : (s.withCallIn v).lastHi = s.lastHi := rfl
@[simp] theorem State.withCallIn_portA (s : State) (v : List Rec) : (s.withCallIn v).portA = s.portA := rfl
@[simp] theorem State.withCallIn_portB (s : State) (v : List Rec) : (s.withCallIn v).portB = s.portB := rfl
@[simp] theorem State.withCallIn_own (s : State) (v : List Rec) : (s.withCallIn v).own = s.own := rfl
@[simp] theorem State.withCallIn_ord (s : State) (v : List Rec) : (s.withCallIn v).ord = s.ord := rfl
@[simp] theorem State.withCallIn_lg (s : State) (v : List Rec) : (s.withCallIn v).lg = s.lg := rfl
@[simp] theorem State.withCallIn_eng (s : State) (v : List Rec) : (s.withCallIn v).eng = s.eng := rfl
@[simp] theorem State.withCallIn_win (s : State) (v : List Rec) : (s.withCallIn v).win = s.win := rfl
@[simp] theorem State.withCallIn_nor (s : State) (v : List Rec) : (s.withCallIn v).nor = s.nor := rfl
@[simp] theorem State.withCallIn_out (s : State) (v : List Rec) : (s.withCallIn v).out = s.out := rfl
@[simp] theorem State.withCallIn_xp (s : State) (v : List Rec) : (s.withCallIn v).xp = s.xp := rfl
@[simp] theorem State.withCallIn_xnet (s : State) (v : List Rec) : (s.withCallIn v).xnet = s.xnet := rfl
@[simp] theorem State.withCallIn_callIn (s : State) (v : List Rec) : (s.withCallIn v).callIn = v := rfl
@[simp] theorem State.withCallIn_afe (s : State) (v : List Rec) : (s.withCallIn v).afe = s.afe := rfl
@[simp] theorem State.withCallIn_outs (s : State) (v : List Rec) : (s.withCallIn v).outs = s.outs := rfl
@[simp] theorem State.withCallIn_call (s : State) (v : List Rec) : (s.withCallIn v).call = s.call := rfl
@[simp] theorem State.withCallIn_segs (s : State) (v : List Rec) : (s.withCallIn v).segs = s.segs := rfl
@[simp] theorem State.withCallIn_panel (s : State) (v : List Rec) : (s.withCallIn v).panel = s.panel := rfl
@[simp] theorem State.withCallIn_rtc (s : State) (v : List Rec) : (s.withCallIn v).rtc = s.rtc := rfl
@[simp] theorem State.withCallIn_tt (s : State) (v : List Rec) : (s.withCallIn v).tt = s.tt := rfl
@[simp] theorem State.withCallIn_safe (s : State) (v : List Rec) : (s.withCallIn v).safe = s.safe := rfl
@[simp] theorem State.withAfe_pending (s : State) (v : Afe) : (s.withAfe v).pending = s.pending := rfl
@[simp] theorem State.withAfe_freeCount (s : State) (v : Afe) : (s.withAfe v).freeCount = s.freeCount := rfl
@[simp] theorem State.withAfe_part (s : State) (v : Afe) : (s.withAfe v).part = s.part := rfl
@[simp] theorem State.withAfe_phase (s : State) (v : Afe) : (s.withAfe v).phase = s.phase := rfl
@[simp] theorem State.withAfe_rst (s : State) (v : Afe) : (s.withAfe v).rst = s.rst := rfl
@[simp] theorem State.withAfe_pwr (s : State) (v : Afe) : (s.withAfe v).pwr = s.pwr := rfl
@[simp] theorem State.withAfe_regs (s : State) (v : Afe) : (s.withAfe v).regs = s.regs := rfl
@[simp] theorem State.withAfe_regsA (s : State) (v : Afe) : (s.withAfe v).regsA = s.regsA := rfl
@[simp] theorem State.withAfe_regsB (s : State) (v : Afe) : (s.withAfe v).regsB = s.regsB := rfl
@[simp] theorem State.withAfe_staged (s : State) (v : Afe) : (s.withAfe v).staged = s.staged := rfl
@[simp] theorem State.withAfe_lasting (s : State) (v : Afe) : (s.withAfe v).lasting = s.lasting := rfl
@[simp] theorem State.withAfe_lastHi (s : State) (v : Afe) : (s.withAfe v).lastHi = s.lastHi := rfl
@[simp] theorem State.withAfe_portA (s : State) (v : Afe) : (s.withAfe v).portA = s.portA := rfl
@[simp] theorem State.withAfe_portB (s : State) (v : Afe) : (s.withAfe v).portB = s.portB := rfl
@[simp] theorem State.withAfe_own (s : State) (v : Afe) : (s.withAfe v).own = s.own := rfl
@[simp] theorem State.withAfe_ord (s : State) (v : Afe) : (s.withAfe v).ord = s.ord := rfl
@[simp] theorem State.withAfe_lg (s : State) (v : Afe) : (s.withAfe v).lg = s.lg := rfl
@[simp] theorem State.withAfe_eng (s : State) (v : Afe) : (s.withAfe v).eng = s.eng := rfl
@[simp] theorem State.withAfe_win (s : State) (v : Afe) : (s.withAfe v).win = s.win := rfl
@[simp] theorem State.withAfe_nor (s : State) (v : Afe) : (s.withAfe v).nor = s.nor := rfl
@[simp] theorem State.withAfe_out (s : State) (v : Afe) : (s.withAfe v).out = s.out := rfl
@[simp] theorem State.withAfe_xp (s : State) (v : Afe) : (s.withAfe v).xp = s.xp := rfl
@[simp] theorem State.withAfe_xnet (s : State) (v : Afe) : (s.withAfe v).xnet = s.xnet := rfl
@[simp] theorem State.withAfe_callIn (s : State) (v : Afe) : (s.withAfe v).callIn = s.callIn := rfl
@[simp] theorem State.withAfe_afe (s : State) (v : Afe) : (s.withAfe v).afe = v := rfl
@[simp] theorem State.withAfe_outs (s : State) (v : Afe) : (s.withAfe v).outs = s.outs := rfl
@[simp] theorem State.withAfe_call (s : State) (v : Afe) : (s.withAfe v).call = s.call := rfl
@[simp] theorem State.withAfe_segs (s : State) (v : Afe) : (s.withAfe v).segs = s.segs := rfl
@[simp] theorem State.withAfe_panel (s : State) (v : Afe) : (s.withAfe v).panel = s.panel := rfl
@[simp] theorem State.withAfe_rtc (s : State) (v : Afe) : (s.withAfe v).rtc = s.rtc := rfl
@[simp] theorem State.withAfe_tt (s : State) (v : Afe) : (s.withAfe v).tt = s.tt := rfl
@[simp] theorem State.withAfe_safe (s : State) (v : Afe) : (s.withAfe v).safe = s.safe := rfl
@[simp] theorem State.withOuts_pending (s : State) (v : Outs) : (s.withOuts v).pending = s.pending := rfl
@[simp] theorem State.withOuts_freeCount (s : State) (v : Outs) : (s.withOuts v).freeCount = s.freeCount := rfl
@[simp] theorem State.withOuts_part (s : State) (v : Outs) : (s.withOuts v).part = s.part := rfl
@[simp] theorem State.withOuts_phase (s : State) (v : Outs) : (s.withOuts v).phase = s.phase := rfl
@[simp] theorem State.withOuts_rst (s : State) (v : Outs) : (s.withOuts v).rst = s.rst := rfl
@[simp] theorem State.withOuts_pwr (s : State) (v : Outs) : (s.withOuts v).pwr = s.pwr := rfl
@[simp] theorem State.withOuts_regs (s : State) (v : Outs) : (s.withOuts v).regs = s.regs := rfl
@[simp] theorem State.withOuts_regsA (s : State) (v : Outs) : (s.withOuts v).regsA = s.regsA := rfl
@[simp] theorem State.withOuts_regsB (s : State) (v : Outs) : (s.withOuts v).regsB = s.regsB := rfl
@[simp] theorem State.withOuts_staged (s : State) (v : Outs) : (s.withOuts v).staged = s.staged := rfl
@[simp] theorem State.withOuts_lasting (s : State) (v : Outs) : (s.withOuts v).lasting = s.lasting := rfl
@[simp] theorem State.withOuts_lastHi (s : State) (v : Outs) : (s.withOuts v).lastHi = s.lastHi := rfl
@[simp] theorem State.withOuts_portA (s : State) (v : Outs) : (s.withOuts v).portA = s.portA := rfl
@[simp] theorem State.withOuts_portB (s : State) (v : Outs) : (s.withOuts v).portB = s.portB := rfl
@[simp] theorem State.withOuts_own (s : State) (v : Outs) : (s.withOuts v).own = s.own := rfl
@[simp] theorem State.withOuts_ord (s : State) (v : Outs) : (s.withOuts v).ord = s.ord := rfl
@[simp] theorem State.withOuts_lg (s : State) (v : Outs) : (s.withOuts v).lg = s.lg := rfl
@[simp] theorem State.withOuts_eng (s : State) (v : Outs) : (s.withOuts v).eng = s.eng := rfl
@[simp] theorem State.withOuts_win (s : State) (v : Outs) : (s.withOuts v).win = s.win := rfl
@[simp] theorem State.withOuts_nor (s : State) (v : Outs) : (s.withOuts v).nor = s.nor := rfl
@[simp] theorem State.withOuts_out (s : State) (v : Outs) : (s.withOuts v).out = s.out := rfl
@[simp] theorem State.withOuts_xp (s : State) (v : Outs) : (s.withOuts v).xp = s.xp := rfl
@[simp] theorem State.withOuts_xnet (s : State) (v : Outs) : (s.withOuts v).xnet = s.xnet := rfl
@[simp] theorem State.withOuts_callIn (s : State) (v : Outs) : (s.withOuts v).callIn = s.callIn := rfl
@[simp] theorem State.withOuts_afe (s : State) (v : Outs) : (s.withOuts v).afe = s.afe := rfl
@[simp] theorem State.withOuts_outs (s : State) (v : Outs) : (s.withOuts v).outs = v := rfl
@[simp] theorem State.withOuts_call (s : State) (v : Outs) : (s.withOuts v).call = s.call := rfl
@[simp] theorem State.withOuts_segs (s : State) (v : Outs) : (s.withOuts v).segs = s.segs := rfl
@[simp] theorem State.withOuts_panel (s : State) (v : Outs) : (s.withOuts v).panel = s.panel := rfl
@[simp] theorem State.withOuts_rtc (s : State) (v : Outs) : (s.withOuts v).rtc = s.rtc := rfl
@[simp] theorem State.withOuts_tt (s : State) (v : Outs) : (s.withOuts v).tt = s.tt := rfl
@[simp] theorem State.withOuts_safe (s : State) (v : Outs) : (s.withOuts v).safe = s.safe := rfl
@[simp] theorem State.withCall_pending (s : State) (v : CallState) : (s.withCall v).pending = s.pending := rfl
@[simp] theorem State.withCall_freeCount (s : State) (v : CallState) : (s.withCall v).freeCount = s.freeCount := rfl
@[simp] theorem State.withCall_part (s : State) (v : CallState) : (s.withCall v).part = s.part := rfl
@[simp] theorem State.withCall_phase (s : State) (v : CallState) : (s.withCall v).phase = s.phase := rfl
@[simp] theorem State.withCall_rst (s : State) (v : CallState) : (s.withCall v).rst = s.rst := rfl
@[simp] theorem State.withCall_pwr (s : State) (v : CallState) : (s.withCall v).pwr = s.pwr := rfl
@[simp] theorem State.withCall_regs (s : State) (v : CallState) : (s.withCall v).regs = s.regs := rfl
@[simp] theorem State.withCall_regsA (s : State) (v : CallState) : (s.withCall v).regsA = s.regsA := rfl
@[simp] theorem State.withCall_regsB (s : State) (v : CallState) : (s.withCall v).regsB = s.regsB := rfl
@[simp] theorem State.withCall_staged (s : State) (v : CallState) : (s.withCall v).staged = s.staged := rfl
@[simp] theorem State.withCall_lasting (s : State) (v : CallState) : (s.withCall v).lasting = s.lasting := rfl
@[simp] theorem State.withCall_lastHi (s : State) (v : CallState) : (s.withCall v).lastHi = s.lastHi := rfl
@[simp] theorem State.withCall_portA (s : State) (v : CallState) : (s.withCall v).portA = s.portA := rfl
@[simp] theorem State.withCall_portB (s : State) (v : CallState) : (s.withCall v).portB = s.portB := rfl
@[simp] theorem State.withCall_own (s : State) (v : CallState) : (s.withCall v).own = s.own := rfl
@[simp] theorem State.withCall_ord (s : State) (v : CallState) : (s.withCall v).ord = s.ord := rfl
@[simp] theorem State.withCall_lg (s : State) (v : CallState) : (s.withCall v).lg = s.lg := rfl
@[simp] theorem State.withCall_eng (s : State) (v : CallState) : (s.withCall v).eng = s.eng := rfl
@[simp] theorem State.withCall_win (s : State) (v : CallState) : (s.withCall v).win = s.win := rfl
@[simp] theorem State.withCall_nor (s : State) (v : CallState) : (s.withCall v).nor = s.nor := rfl
@[simp] theorem State.withCall_out (s : State) (v : CallState) : (s.withCall v).out = s.out := rfl
@[simp] theorem State.withCall_xp (s : State) (v : CallState) : (s.withCall v).xp = s.xp := rfl
@[simp] theorem State.withCall_xnet (s : State) (v : CallState) : (s.withCall v).xnet = s.xnet := rfl
@[simp] theorem State.withCall_callIn (s : State) (v : CallState) : (s.withCall v).callIn = s.callIn := rfl
@[simp] theorem State.withCall_afe (s : State) (v : CallState) : (s.withCall v).afe = s.afe := rfl
@[simp] theorem State.withCall_outs (s : State) (v : CallState) : (s.withCall v).outs = s.outs := rfl
@[simp] theorem State.withCall_call (s : State) (v : CallState) : (s.withCall v).call = v := rfl
@[simp] theorem State.withCall_segs (s : State) (v : CallState) : (s.withCall v).segs = s.segs := rfl
@[simp] theorem State.withCall_panel (s : State) (v : CallState) : (s.withCall v).panel = s.panel := rfl
@[simp] theorem State.withCall_rtc (s : State) (v : CallState) : (s.withCall v).rtc = s.rtc := rfl
@[simp] theorem State.withCall_tt (s : State) (v : CallState) : (s.withCall v).tt = s.tt := rfl
@[simp] theorem State.withCall_safe (s : State) (v : CallState) : (s.withCall v).safe = s.safe := rfl
@[simp] theorem State.withSegs_pending (s : State) (v : List (Nat × Seg)) : (s.withSegs v).pending = s.pending := rfl
@[simp] theorem State.withSegs_freeCount (s : State) (v : List (Nat × Seg)) : (s.withSegs v).freeCount = s.freeCount := rfl
@[simp] theorem State.withSegs_part (s : State) (v : List (Nat × Seg)) : (s.withSegs v).part = s.part := rfl
@[simp] theorem State.withSegs_phase (s : State) (v : List (Nat × Seg)) : (s.withSegs v).phase = s.phase := rfl
@[simp] theorem State.withSegs_rst (s : State) (v : List (Nat × Seg)) : (s.withSegs v).rst = s.rst := rfl
@[simp] theorem State.withSegs_pwr (s : State) (v : List (Nat × Seg)) : (s.withSegs v).pwr = s.pwr := rfl
@[simp] theorem State.withSegs_regs (s : State) (v : List (Nat × Seg)) : (s.withSegs v).regs = s.regs := rfl
@[simp] theorem State.withSegs_regsA (s : State) (v : List (Nat × Seg)) : (s.withSegs v).regsA = s.regsA := rfl
@[simp] theorem State.withSegs_regsB (s : State) (v : List (Nat × Seg)) : (s.withSegs v).regsB = s.regsB := rfl
@[simp] theorem State.withSegs_staged (s : State) (v : List (Nat × Seg)) : (s.withSegs v).staged = s.staged := rfl
@[simp] theorem State.withSegs_lasting (s : State) (v : List (Nat × Seg)) : (s.withSegs v).lasting = s.lasting := rfl
@[simp] theorem State.withSegs_lastHi (s : State) (v : List (Nat × Seg)) : (s.withSegs v).lastHi = s.lastHi := rfl
@[simp] theorem State.withSegs_portA (s : State) (v : List (Nat × Seg)) : (s.withSegs v).portA = s.portA := rfl
@[simp] theorem State.withSegs_portB (s : State) (v : List (Nat × Seg)) : (s.withSegs v).portB = s.portB := rfl
@[simp] theorem State.withSegs_own (s : State) (v : List (Nat × Seg)) : (s.withSegs v).own = s.own := rfl
@[simp] theorem State.withSegs_ord (s : State) (v : List (Nat × Seg)) : (s.withSegs v).ord = s.ord := rfl
@[simp] theorem State.withSegs_lg (s : State) (v : List (Nat × Seg)) : (s.withSegs v).lg = s.lg := rfl
@[simp] theorem State.withSegs_eng (s : State) (v : List (Nat × Seg)) : (s.withSegs v).eng = s.eng := rfl
@[simp] theorem State.withSegs_win (s : State) (v : List (Nat × Seg)) : (s.withSegs v).win = s.win := rfl
@[simp] theorem State.withSegs_nor (s : State) (v : List (Nat × Seg)) : (s.withSegs v).nor = s.nor := rfl
@[simp] theorem State.withSegs_out (s : State) (v : List (Nat × Seg)) : (s.withSegs v).out = s.out := rfl
@[simp] theorem State.withSegs_xp (s : State) (v : List (Nat × Seg)) : (s.withSegs v).xp = s.xp := rfl
@[simp] theorem State.withSegs_xnet (s : State) (v : List (Nat × Seg)) : (s.withSegs v).xnet = s.xnet := rfl
@[simp] theorem State.withSegs_callIn (s : State) (v : List (Nat × Seg)) : (s.withSegs v).callIn = s.callIn := rfl
@[simp] theorem State.withSegs_afe (s : State) (v : List (Nat × Seg)) : (s.withSegs v).afe = s.afe := rfl
@[simp] theorem State.withSegs_outs (s : State) (v : List (Nat × Seg)) : (s.withSegs v).outs = s.outs := rfl
@[simp] theorem State.withSegs_call (s : State) (v : List (Nat × Seg)) : (s.withSegs v).call = s.call := rfl
@[simp] theorem State.withSegs_segs (s : State) (v : List (Nat × Seg)) : (s.withSegs v).segs = v := rfl
@[simp] theorem State.withSegs_panel (s : State) (v : List (Nat × Seg)) : (s.withSegs v).panel = s.panel := rfl
@[simp] theorem State.withSegs_rtc (s : State) (v : List (Nat × Seg)) : (s.withSegs v).rtc = s.rtc := rfl
@[simp] theorem State.withSegs_tt (s : State) (v : List (Nat × Seg)) : (s.withSegs v).tt = s.tt := rfl
@[simp] theorem State.withSegs_safe (s : State) (v : List (Nat × Seg)) : (s.withSegs v).safe = s.safe := rfl
@[simp] theorem State.withPanel_pending (s : State) (v : Panel) : (s.withPanel v).pending = s.pending := rfl
@[simp] theorem State.withPanel_freeCount (s : State) (v : Panel) : (s.withPanel v).freeCount = s.freeCount := rfl
@[simp] theorem State.withPanel_part (s : State) (v : Panel) : (s.withPanel v).part = s.part := rfl
@[simp] theorem State.withPanel_phase (s : State) (v : Panel) : (s.withPanel v).phase = s.phase := rfl
@[simp] theorem State.withPanel_rst (s : State) (v : Panel) : (s.withPanel v).rst = s.rst := rfl
@[simp] theorem State.withPanel_pwr (s : State) (v : Panel) : (s.withPanel v).pwr = s.pwr := rfl
@[simp] theorem State.withPanel_regs (s : State) (v : Panel) : (s.withPanel v).regs = s.regs := rfl
@[simp] theorem State.withPanel_regsA (s : State) (v : Panel) : (s.withPanel v).regsA = s.regsA := rfl
@[simp] theorem State.withPanel_regsB (s : State) (v : Panel) : (s.withPanel v).regsB = s.regsB := rfl
@[simp] theorem State.withPanel_staged (s : State) (v : Panel) : (s.withPanel v).staged = s.staged := rfl
@[simp] theorem State.withPanel_lasting (s : State) (v : Panel) : (s.withPanel v).lasting = s.lasting := rfl
@[simp] theorem State.withPanel_lastHi (s : State) (v : Panel) : (s.withPanel v).lastHi = s.lastHi := rfl
@[simp] theorem State.withPanel_portA (s : State) (v : Panel) : (s.withPanel v).portA = s.portA := rfl
@[simp] theorem State.withPanel_portB (s : State) (v : Panel) : (s.withPanel v).portB = s.portB := rfl
@[simp] theorem State.withPanel_own (s : State) (v : Panel) : (s.withPanel v).own = s.own := rfl
@[simp] theorem State.withPanel_ord (s : State) (v : Panel) : (s.withPanel v).ord = s.ord := rfl
@[simp] theorem State.withPanel_lg (s : State) (v : Panel) : (s.withPanel v).lg = s.lg := rfl
@[simp] theorem State.withPanel_eng (s : State) (v : Panel) : (s.withPanel v).eng = s.eng := rfl
@[simp] theorem State.withPanel_win (s : State) (v : Panel) : (s.withPanel v).win = s.win := rfl
@[simp] theorem State.withPanel_nor (s : State) (v : Panel) : (s.withPanel v).nor = s.nor := rfl
@[simp] theorem State.withPanel_out (s : State) (v : Panel) : (s.withPanel v).out = s.out := rfl
@[simp] theorem State.withPanel_xp (s : State) (v : Panel) : (s.withPanel v).xp = s.xp := rfl
@[simp] theorem State.withPanel_xnet (s : State) (v : Panel) : (s.withPanel v).xnet = s.xnet := rfl
@[simp] theorem State.withPanel_callIn (s : State) (v : Panel) : (s.withPanel v).callIn = s.callIn := rfl
@[simp] theorem State.withPanel_afe (s : State) (v : Panel) : (s.withPanel v).afe = s.afe := rfl
@[simp] theorem State.withPanel_outs (s : State) (v : Panel) : (s.withPanel v).outs = s.outs := rfl
@[simp] theorem State.withPanel_call (s : State) (v : Panel) : (s.withPanel v).call = s.call := rfl
@[simp] theorem State.withPanel_segs (s : State) (v : Panel) : (s.withPanel v).segs = s.segs := rfl
@[simp] theorem State.withPanel_panel (s : State) (v : Panel) : (s.withPanel v).panel = v := rfl
@[simp] theorem State.withPanel_rtc (s : State) (v : Panel) : (s.withPanel v).rtc = s.rtc := rfl
@[simp] theorem State.withPanel_tt (s : State) (v : Panel) : (s.withPanel v).tt = s.tt := rfl
@[simp] theorem State.withPanel_safe (s : State) (v : Panel) : (s.withPanel v).safe = s.safe := rfl
@[simp] theorem State.withRtc_pending (s : State) (v : Rtc) : (s.withRtc v).pending = s.pending := rfl
@[simp] theorem State.withRtc_freeCount (s : State) (v : Rtc) : (s.withRtc v).freeCount = s.freeCount := rfl
@[simp] theorem State.withRtc_part (s : State) (v : Rtc) : (s.withRtc v).part = s.part := rfl
@[simp] theorem State.withRtc_phase (s : State) (v : Rtc) : (s.withRtc v).phase = s.phase := rfl
@[simp] theorem State.withRtc_rst (s : State) (v : Rtc) : (s.withRtc v).rst = s.rst := rfl
@[simp] theorem State.withRtc_pwr (s : State) (v : Rtc) : (s.withRtc v).pwr = s.pwr := rfl
@[simp] theorem State.withRtc_regs (s : State) (v : Rtc) : (s.withRtc v).regs = s.regs := rfl
@[simp] theorem State.withRtc_regsA (s : State) (v : Rtc) : (s.withRtc v).regsA = s.regsA := rfl
@[simp] theorem State.withRtc_regsB (s : State) (v : Rtc) : (s.withRtc v).regsB = s.regsB := rfl
@[simp] theorem State.withRtc_staged (s : State) (v : Rtc) : (s.withRtc v).staged = s.staged := rfl
@[simp] theorem State.withRtc_lasting (s : State) (v : Rtc) : (s.withRtc v).lasting = s.lasting := rfl
@[simp] theorem State.withRtc_lastHi (s : State) (v : Rtc) : (s.withRtc v).lastHi = s.lastHi := rfl
@[simp] theorem State.withRtc_portA (s : State) (v : Rtc) : (s.withRtc v).portA = s.portA := rfl
@[simp] theorem State.withRtc_portB (s : State) (v : Rtc) : (s.withRtc v).portB = s.portB := rfl
@[simp] theorem State.withRtc_own (s : State) (v : Rtc) : (s.withRtc v).own = s.own := rfl
@[simp] theorem State.withRtc_ord (s : State) (v : Rtc) : (s.withRtc v).ord = s.ord := rfl
@[simp] theorem State.withRtc_lg (s : State) (v : Rtc) : (s.withRtc v).lg = s.lg := rfl
@[simp] theorem State.withRtc_eng (s : State) (v : Rtc) : (s.withRtc v).eng = s.eng := rfl
@[simp] theorem State.withRtc_win (s : State) (v : Rtc) : (s.withRtc v).win = s.win := rfl
@[simp] theorem State.withRtc_nor (s : State) (v : Rtc) : (s.withRtc v).nor = s.nor := rfl
@[simp] theorem State.withRtc_out (s : State) (v : Rtc) : (s.withRtc v).out = s.out := rfl
@[simp] theorem State.withRtc_xp (s : State) (v : Rtc) : (s.withRtc v).xp = s.xp := rfl
@[simp] theorem State.withRtc_xnet (s : State) (v : Rtc) : (s.withRtc v).xnet = s.xnet := rfl
@[simp] theorem State.withRtc_callIn (s : State) (v : Rtc) : (s.withRtc v).callIn = s.callIn := rfl
@[simp] theorem State.withRtc_afe (s : State) (v : Rtc) : (s.withRtc v).afe = s.afe := rfl
@[simp] theorem State.withRtc_outs (s : State) (v : Rtc) : (s.withRtc v).outs = s.outs := rfl
@[simp] theorem State.withRtc_call (s : State) (v : Rtc) : (s.withRtc v).call = s.call := rfl
@[simp] theorem State.withRtc_segs (s : State) (v : Rtc) : (s.withRtc v).segs = s.segs := rfl
@[simp] theorem State.withRtc_panel (s : State) (v : Rtc) : (s.withRtc v).panel = s.panel := rfl
@[simp] theorem State.withRtc_rtc (s : State) (v : Rtc) : (s.withRtc v).rtc = v := rfl
@[simp] theorem State.withRtc_tt (s : State) (v : Rtc) : (s.withRtc v).tt = s.tt := rfl
@[simp] theorem State.withRtc_safe (s : State) (v : Rtc) : (s.withRtc v).safe = s.safe := rfl
@[simp] theorem State.withTt_pending (s : State) (v : Tt) : (s.withTt v).pending = s.pending := rfl
@[simp] theorem State.withTt_freeCount (s : State) (v : Tt) : (s.withTt v).freeCount = s.freeCount := rfl
@[simp] theorem State.withTt_part (s : State) (v : Tt) : (s.withTt v).part = s.part := rfl
@[simp] theorem State.withTt_phase (s : State) (v : Tt) : (s.withTt v).phase = s.phase := rfl
@[simp] theorem State.withTt_rst (s : State) (v : Tt) : (s.withTt v).rst = s.rst := rfl
@[simp] theorem State.withTt_pwr (s : State) (v : Tt) : (s.withTt v).pwr = s.pwr := rfl
@[simp] theorem State.withTt_regs (s : State) (v : Tt) : (s.withTt v).regs = s.regs := rfl
@[simp] theorem State.withTt_regsA (s : State) (v : Tt) : (s.withTt v).regsA = s.regsA := rfl
@[simp] theorem State.withTt_regsB (s : State) (v : Tt) : (s.withTt v).regsB = s.regsB := rfl
@[simp] theorem State.withTt_staged (s : State) (v : Tt) : (s.withTt v).staged = s.staged := rfl
@[simp] theorem State.withTt_lasting (s : State) (v : Tt) : (s.withTt v).lasting = s.lasting := rfl
@[simp] theorem State.withTt_lastHi (s : State) (v : Tt) : (s.withTt v).lastHi = s.lastHi := rfl
@[simp] theorem State.withTt_portA (s : State) (v : Tt) : (s.withTt v).portA = s.portA := rfl
@[simp] theorem State.withTt_portB (s : State) (v : Tt) : (s.withTt v).portB = s.portB := rfl
@[simp] theorem State.withTt_own (s : State) (v : Tt) : (s.withTt v).own = s.own := rfl
@[simp] theorem State.withTt_ord (s : State) (v : Tt) : (s.withTt v).ord = s.ord := rfl
@[simp] theorem State.withTt_lg (s : State) (v : Tt) : (s.withTt v).lg = s.lg := rfl
@[simp] theorem State.withTt_eng (s : State) (v : Tt) : (s.withTt v).eng = s.eng := rfl
@[simp] theorem State.withTt_win (s : State) (v : Tt) : (s.withTt v).win = s.win := rfl
@[simp] theorem State.withTt_nor (s : State) (v : Tt) : (s.withTt v).nor = s.nor := rfl
@[simp] theorem State.withTt_out (s : State) (v : Tt) : (s.withTt v).out = s.out := rfl
@[simp] theorem State.withTt_xp (s : State) (v : Tt) : (s.withTt v).xp = s.xp := rfl
@[simp] theorem State.withTt_xnet (s : State) (v : Tt) : (s.withTt v).xnet = s.xnet := rfl
@[simp] theorem State.withTt_callIn (s : State) (v : Tt) : (s.withTt v).callIn = s.callIn := rfl
@[simp] theorem State.withTt_afe (s : State) (v : Tt) : (s.withTt v).afe = s.afe := rfl
@[simp] theorem State.withTt_outs (s : State) (v : Tt) : (s.withTt v).outs = s.outs := rfl
@[simp] theorem State.withTt_call (s : State) (v : Tt) : (s.withTt v).call = s.call := rfl
@[simp] theorem State.withTt_segs (s : State) (v : Tt) : (s.withTt v).segs = s.segs := rfl
@[simp] theorem State.withTt_panel (s : State) (v : Tt) : (s.withTt v).panel = s.panel := rfl
@[simp] theorem State.withTt_rtc (s : State) (v : Tt) : (s.withTt v).rtc = s.rtc := rfl
@[simp] theorem State.withTt_tt (s : State) (v : Tt) : (s.withTt v).tt = v := rfl
@[simp] theorem State.withTt_safe (s : State) (v : Tt) : (s.withTt v).safe = s.safe := rfl
@[simp] theorem State.withSafe_pending (s : State) (v : Safe) : (s.withSafe v).pending = s.pending := rfl
@[simp] theorem State.withSafe_freeCount (s : State) (v : Safe) : (s.withSafe v).freeCount = s.freeCount := rfl
@[simp] theorem State.withSafe_part (s : State) (v : Safe) : (s.withSafe v).part = s.part := rfl
@[simp] theorem State.withSafe_phase (s : State) (v : Safe) : (s.withSafe v).phase = s.phase := rfl
@[simp] theorem State.withSafe_rst (s : State) (v : Safe) : (s.withSafe v).rst = s.rst := rfl
@[simp] theorem State.withSafe_pwr (s : State) (v : Safe) : (s.withSafe v).pwr = s.pwr := rfl
@[simp] theorem State.withSafe_regs (s : State) (v : Safe) : (s.withSafe v).regs = s.regs := rfl
@[simp] theorem State.withSafe_regsA (s : State) (v : Safe) : (s.withSafe v).regsA = s.regsA := rfl
@[simp] theorem State.withSafe_regsB (s : State) (v : Safe) : (s.withSafe v).regsB = s.regsB := rfl
@[simp] theorem State.withSafe_staged (s : State) (v : Safe) : (s.withSafe v).staged = s.staged := rfl
@[simp] theorem State.withSafe_lasting (s : State) (v : Safe) : (s.withSafe v).lasting = s.lasting := rfl
@[simp] theorem State.withSafe_lastHi (s : State) (v : Safe) : (s.withSafe v).lastHi = s.lastHi := rfl
@[simp] theorem State.withSafe_portA (s : State) (v : Safe) : (s.withSafe v).portA = s.portA := rfl
@[simp] theorem State.withSafe_portB (s : State) (v : Safe) : (s.withSafe v).portB = s.portB := rfl
@[simp] theorem State.withSafe_own (s : State) (v : Safe) : (s.withSafe v).own = s.own := rfl
@[simp] theorem State.withSafe_ord (s : State) (v : Safe) : (s.withSafe v).ord = s.ord := rfl
@[simp] theorem State.withSafe_lg (s : State) (v : Safe) : (s.withSafe v).lg = s.lg := rfl
@[simp] theorem State.withSafe_eng (s : State) (v : Safe) : (s.withSafe v).eng = s.eng := rfl
@[simp] theorem State.withSafe_win (s : State) (v : Safe) : (s.withSafe v).win = s.win := rfl
@[simp] theorem State.withSafe_nor (s : State) (v : Safe) : (s.withSafe v).nor = s.nor := rfl
@[simp] theorem State.withSafe_out (s : State) (v : Safe) : (s.withSafe v).out = s.out := rfl
@[simp] theorem State.withSafe_xp (s : State) (v : Safe) : (s.withSafe v).xp = s.xp := rfl
@[simp] theorem State.withSafe_xnet (s : State) (v : Safe) : (s.withSafe v).xnet = s.xnet := rfl
@[simp] theorem State.withSafe_callIn (s : State) (v : Safe) : (s.withSafe v).callIn = s.callIn := rfl
@[simp] theorem State.withSafe_afe (s : State) (v : Safe) : (s.withSafe v).afe = s.afe := rfl
@[simp] theorem State.withSafe_outs (s : State) (v : Safe) : (s.withSafe v).outs = s.outs := rfl
@[simp] theorem State.withSafe_call (s : State) (v : Safe) : (s.withSafe v).call = s.call := rfl
@[simp] theorem State.withSafe_segs (s : State) (v : Safe) : (s.withSafe v).segs = s.segs := rfl
@[simp] theorem State.withSafe_panel (s : State) (v : Safe) : (s.withSafe v).panel = s.panel := rfl
@[simp] theorem State.withSafe_rtc (s : State) (v : Safe) : (s.withSafe v).rtc = s.rtc := rfl
@[simp] theorem State.withSafe_tt (s : State) (v : Safe) : (s.withSafe v).tt = s.tt := rfl
@[simp] theorem State.withSafe_safe (s : State) (v : Safe) : (s.withSafe v).safe = v := rfl

end Sys2Proof.Machine
end

