-- ==== Sys2Proof/Tests/Slice0.lean ====
section
/-!
SUPPORT. Tests: ill-formed commands are refused by the checks, small concrete steps, and for every statement that has
hypotheses states and operands that meet them, clause by clause.
-/

open Sys2Proof Sys2Proof.Machine

namespace Sys2Proof.Tests

set_option Elab.async false

/-! States for the tests. -/

/-- In service, nothing configured. -/
def up : State := State.reset.withPhase .running

/-- Every page's EN set for the pages given. -/
def enabled (ps : List Nat) : State := ps.foldl (fun s p => s.put (F.hdrPageCtlEn.page p) 1) up

/-- The mask that a host's write passes with. -/
def pass (h : HostId) (a : Nat) (v : Word) (s : State) : Word := (judgeWord h a v s).1

/-- In service with TIDE.NOW at `n`. -/
def at_ (n : Nat) : State := up.put F.tideNowNow n

/-- One point `i` with the runtime `p` and the record words given: word number and value. -/
def withPt (i : Nat) (p : Point) (ws : List (Nat × Word)) (s : State) : State :=
  (ws.foldl (fun s x => s.setWinWord (manAddr i + 4 * x.1) x.2) s).setPt i p

/-- A point in state NORMAL with a usable value. -/
def pt1 : Point := { freshPoint (PCfg.ofBytes []) 0 0 0 false with vstate := .normal, usable := some (0, .valid), status := .valid }

/-- A slot of channel `c`. -/
def slotOf (c : Nat) (st : SlotStage) : Slot :=
  { ch := c, stage := st, phase := 1, mon := none, checkDone := false, checkOpen := false, code1 := 0, moved := false, overTop := false, lost := false,
    latch := { pass := true, curveId := 0, curve := none, band := none, afresh := false } }

def grp0 : Grp := { slot := none, inPass := false, next := 0, fast := none, fastFaults := 0, kept := none, reinit := false, results := [] }

/-- Group 0 has a slot of channel 0 at the stage given. -/
def slotUp (st : SlotStage) (s : State) : State := s.setGrp 0 { grp0 with slot := some (slotOf 0 st) }

/-- A frame from another node. -/
def frameOf (cls flags origin oseq tally : Nat) (body : List Byte) : XFrame :=
  { cls := cls, flags := flags, origin := origin, dest := 0x3FF, epoch := 0, hops := 1, tally := tally, oseq := oseq, body := body }

/-- A segment's transmission of mailbox `m`. -/
def tryOf (m : Nat) : TxTry :=
  { mbx := m, snap := ⟨false, 1, false, false, false, false, [], 0⟩, made := 1, trip := false, lasting := false, kept := false,
    fromSeg := none, cancel := false }

/-- Segment 0 takes part, its matrix running. -/
def bus : State :=
  ((enabled [0x050]).put F.clkStatPllBusLock 1).put (F.sailNowRun.idx 0) 1

def sending (x : TxTry) (s : State) : State := s.setSeg 0 { s.seg 0 with tx := some x }

def recOf (tally : Nat) : Rec :=
  { tally := tally, node := 0, code := 0x7826, sev := 3, flags := 0, epoch := 0, gen := 0, cycles := 0, svc := 0, rtc := List.replicate 7 0,
    payload := List.replicate 24 0 }

/-- A record of severity 1. -/
def low : Rec := { recOf 3 with sev := 1 }

/-- Every slot but one is retired, and that one is taken. -/
def fullLog : State := up.withLg { up.lg with ingress := [recOf 5], main := [low], retired := List.replicate 131071 0 }

/-- The panel is lit. -/
def lit : State := let s := (enabled [0x088]).put F.lanStatDark 0; s.withPanel { s.panel with pwr := .lit }

/-- Port 3 is UP, its neighbour node 5. -/
def upPort : State := up.put (F.xpStatState.page 3) 3

/-- A frame as the receiver sees it. -/
def rx (bs : List Byte) : RxFrame := (parseFrame bs).getD ⟨frameOf 0 0 0 0 0 [], 0, 0, 0⟩

/-- A SYNC frame of node 5 that names its own port. -/
def syncFrame (port : Nat) : List Byte := (frameOf 0x08 8 5 0 0 ([0, 0, BitVec.ofNat 8 port] ++ List.replicate 11 0)).bytes port 5 0

/-- A value frame of node 5, OSEQ 7, with one entry. -/
def valueFrame : List Byte := (frameOf 0x01 1 5 7 100 ([1, 0, 0, 0] ++ List.replicate 12 0)).bytes 2 5 0

/-- The stream of node 5 is known and expects OSEQ 7; a ceiling stands. -/
def streamUp : State :=
  (upPort.withXnet { up.xnet with origins := [⟨5, 7, 90, [], [], []⟩] }).withOrd { up.ord with ceil := 2 ^ 28 }

/-- A frame for another node. -/
def f0 : XFrame := { frameOf 0x01 0 5 9 100 ([1, 0, 0, 0] ++ List.replicate 12 0) with dest := 77 }

/-- A census summary of node 5 on ring S, section 1 (R336). -/
def summaryFrame : List Byte :=
  (frameOf 0x07 1 5 0 0 ([1, 5, 5, 0, 4, 0] ++ List.replicate 74 0)).bytes 2 5 0

/-- A transfer to node 5. -/
def xo : XferOut := ⟨5, false, 0, 0, 0, [], 0, 0⟩

/-- The answer to transfer 3, result 13 (R348). -/
def resultFrame : List Byte := (frameOf 0x09 1 5 0 0 ([2, 0, 3, 0, 0, 0, 0, 0, 13, 0, 0, 0])).bytes 2 5 0

/-- The last data section of transfer 3. -/
def dataFrame : List Byte := (frameOf 0x09 1 5 0 0 ([0, 0, 3, 0, 0xC0, 0xFF, 0, 0, 64, 0, 0, 0] ++ List.replicate 64 7)).bytes 2 5 0

/-- A MODE frame of node 5 for timetable 15, with the tally given (R288). -/
def modeFrameAt (tally : Nat) : List Byte := (frameOf 0x05 1 5 0 tally ([15] ++ List.replicate 7 0)).bytes 2 5 0

def modeFrame : List Byte := modeFrameAt 0

/-- Timetable 15 with no patch, signed by its CRC alone (R274). -/
def tt15 : List Byte :=
  let b := [0x59, 0x46, 0x54, 0x54, 15, 0, 0, 0, 0, 0, 0, 0, 36, 0, 0, 0] ++ List.replicate 16 0
  b ++ leBytes 4 (crc32c b)

/-- A configuration with one pair, input SI15B on test pulse 3, and output 7; node 5 is its connection 63. -/
def cfg1 : List Byte := setNth (setNth (List.replicate 0x800 0) (pairOff 15) 1) (pairOff 15 + 4) 0x37

/-- Both channels run that configuration, output 7 ON and every input high. -/
def safeUp : State :=
  let c : SCh := { (up.safe.chA.restart cfg1) with filt := 0xFFFFFFFF, outs := (List.range 8).map fun _ => { SOut.init .on with manual := false } }
  up.withSafe { up.safe with cfg := cfg1, chA := c, chB := c }

/-- Bytes replaced from an offset on. -/
def patched (bs : List Byte) (off : Nat) (xs : List Byte) : List Byte := bs.take off ++ xs ++ bs.drop (off + xs.length)

/-- Two configuration bytes of the chain: a member and master with RT 10, and enabled connection 63 with node 5. -/
def cfgC : List Byte :=
  patched (patched (List.replicate 0x800 0) 0x120 [3, 0, 0, 0, 10, 0]) (connOff 63) [4, 3, 2, 1, 5, 0x80, 1, 0, 100, 0]

/-- Both channels run that configuration, the chain in the state given. -/
def chainUp (c : ChainSt) : State :=
  let x : SCh := { (up.safe.chA.restart cfgC) with chain := c }
  up.withSafe { up.safe with cfg := cfgC, chA := x, chB := x }

/-- Connection 63 runs: number 8 came last, number 7 was sent at sample 40. -/
def parcelUp : State :=
  let x : SCh := { (up.safe.chA.restart cfgC) with t := 100, conns := [(63, ⟨.run, 0, 0, false, some 8, [(7, 40)]⟩)] }
  up.withSafe { up.safe with cfg := cfgC, chA := x, chB := x }

/-- Node 5's parcel on connection 63: number 9, acknowledging number 7 (R397). -/
def parcel1 : List Byte :=
  let b := [4, 3, 2, 1, 9, 0, 7, 0] ++ List.replicate 16 0 ++ [5, 0, 0, 0]
  b ++ leBytes 4 (crc32c b)

/-- SEAL_WE is closed. -/
def unsealed : State := up.withSafe { up.safe with we := true }

/-- A safety configuration is being written. -/
def writing (slot : Nat) (stage : CfgStage) (n : Nat) : State :=
  unsealed.withSafe { unsealed.safe with write := some (slot, stage, n) }

/-- Host A's gangway seeks with the operation given, over two records. -/
def seeking (op : Nat) : State :=
  (((up.withLg { up.lg with main := [recOf 5, recOf 7] }).putH .a F.gwyCmdOp op).putH .a F.gwyStatWait 1)


/-- Group 0 and slot scanning run. -/
def scanOn : State := (((enabled [0x030, 0x010]).put F.afcCtlScanEn 1).put F.afcGrpEnGrp 1).withAfe { up.afe with period := 32 }

/-- `State.Canonical` as a check. -/
def canonB (s : State) : Bool :=
  Sparse.wf regDefault s.regs && Sparse.wf regDefault s.regsA && Sparse.wf regDefault s.regsB && Sparse.wf winDefault s.win
    && Sparse.wf norDefault s.nor

theorem canonical_of {s : State} (h : canonB s = true) : s.Canonical := by
  simp only [canonB, Bool.and_eq_true] at h
  exact ⟨h.1.1.1.1, h.1.1.1.2, h.1.1.2, h.1.2, h.2⟩

/-- `Passes` as a check. -/
def passesB (h : HostId) (a : Nat) (v m : Word) (s : State) : Bool :=
  s.answers && !s.notFitted (a / 0x1000) && (pageCheck h a s).isNone && (regRow a).isSome && (judgeWord h a v s == (m, 0))
    && stageModeBits a s == 0

theorem passes_of {h : HostId} {a : Nat} {v m : Word} {s : State} (hp : passesB h a v m s = true) : Passes h a v m s := by
  simp only [passesB, Bool.and_eq_true, Bool.not_eq_true', beq_iff_eq, Option.isNone_iff_eq_none] at hp
  exact ⟨hp.1.1.1.1.1, hp.1.1.1.1.2, hp.1.1.1.2, hp.1.1.2, hp.1.2, hp.2⟩


/-- What a step answers, for a state that completes. -/
def after (o : Host.Outcome State Fault Refusal) : State := match o with | .next t => t | _ => State.reset

/-! A whole configuration for slot 7: its CRC over 2,044 bytes is found in pieces. -/

/-- A configuration for slot 7 that uses nothing, its CRC at the end (R406). -/
@[irreducible] def cfg7 : List Byte := ([0x53, 0x4E, 0x59, 0x46, 1, 0, 7, 7] ++ List.replicate 2036 0) ++ [0xDC, 0x59, 0xD1, 0xF1]

theorem crc32cRun_append (c : Nat) (xs ys : List Byte) : crc32cRun c (xs ++ ys) = crc32cRun (crc32cRun c xs) ys := by
  simp [crc32cRun, List.foldl_append]

/-- `f` of a number that is evaluated first. -/
def forced (f : Nat → Nat) (n : Nat) : Nat := Nat.casesOn n (f 0) fun k => f (k + 1)

theorem forced_eq (f : Nat → Nat) (n : Nat) : forced f n = f n := by cases n <;> rfl

/-- The running register over `n` zero bytes, each step evaluated before the next. -/
def zeroRun (n c : Nat) : Nat := Nat.rec (motive := fun _ => Nat → Nat) (fun c => c) (fun _ ih c => forced ih (crc32cShift c 8)) n c

theorem zeroRun_eq : ∀ n c, crc32cRun c (List.replicate n 0) = zeroRun n c
  | 0, _ => rfl
  | n + 1, c => by
    rw [List.replicate_succ, show zeroRun (n + 1) c = forced (zeroRun n) (crc32cShift c 8) from rfl, forced_eq, ← zeroRun_eq n]
    simp [crc32cRun]

theorem cfg7_take : cfg7.take 0x7FC = [0x53, 0x4E, 0x59, 0x46, 1, 0, 7, 7] ++ List.replicate 2036 0 := by
  unfold cfg7
  exact List.take_left' (by rw [List.length_append, List.length_replicate]; rfl)

theorem cfg7_crc : crc32c (cfg7.take 0x7FC) = leAt cfg7 0x7FC 4 := by
  rw [cfg7_take, crc32c, crc32cRun_append, zeroRun_eq]
  decide +kernel

/-- That configuration has come whole. -/
def cfgReady : State := (writing 7 .ready 512).setNorBytes (safeCopy 1 7) cfg7

theorem canonical_cfgReady : cfgReady.Canonical := by
  have h : (writing 7 .ready 512).Canonical := canonical_of (by decide +kernel)
  have hn : Sparse.wf norDefault cfgReady.nor = true := Sparse.wf_setRange (d := norDefault) cfg7 (safeCopy 1 7) h.nor
  exact ⟨h.regs, h.regsA, h.regsB, h.win, hn⟩

theorem cfg7_length : cfg7.length = safeLen := by
  unfold cfg7; rw [List.length_append, List.length_append, List.length_replicate]; rfl

theorem safeBytes_cfgReady : cfgReady.safeBytes 1 7 = cfg7 := by
  have h := Sparse.getRange_setRange (d := norDefault) cfg7 (safeCopy 1 7)
    (canonical_of (by decide +kernel : canonB (writing 7 .ready 512) = true)).nor
  rwa [cfg7_length] at h

theorem safeResult_cfgReady : safeResult (cfgReady.safeBytes 1 7) 7 cfgReady.nodeId none = 0 := by
  rw [safeBytes_cfgReady, show cfgReady.nodeId = 0 by decide +kernel, safeResult, if_neg (by decide +kernel),
    if_neg (not_not_intro cfg7_crc), if_neg (by decide +kernel), if_neg (by decide +kernel), if_neg (by decide +kernel),
    if_neg (by decide +kernel)]


theorem safeVerdict_cfgReady : (norFlush cfgReady).safeVerdict 1 7 = 0 := by
  have h : norFlush cfgReady = cfgReady.withTt { cfgReady.tt with norHeld := [] } := rfl
  rw [h, State.safeVerdict, if_neg (by decide +kernel)]
  exact safeResult_cfgReady

/-! A logbook with one slot left, and it is taken. -/

theorem fullLog_full : fullLog.mainCap ≤ fullLog.lg.main.length := by
  have h : fullLog.mainCap = 131072 - fullLog.lg.retired.length := rfl
  have hr : fullLog.lg.retired = List.replicate 131071 0 := rfl
  have hm : fullLog.lg.main.length = 1 := rfl
  rw [h, hr, List.length_replicate, hm] <;> decide

theorem fullLog_retired : (131071 : BitVec 17).toNat ∉ fullLog.lg.retired := by
  have hr : fullLog.lg.retired = List.replicate 131071 0 := rfl
  rw [hr]
  intro h
  exact absurd (List.eq_of_mem_replicate h) (by decide)
/-! Ill-formed commands (WellFormed) are refused. -/

theorem test_wf_unit_timeout : Instr.wf (.unitTimeout 63) = false ∧ Instr.wf (.unitTimeout 62) = true := by decide

theorem test_wf_unit_input : Instr.wf (.unitAcceptInput 63) = false ∧ Instr.wf (.unitAcceptInput 0) = true := by decide

theorem test_wf_unmapped : Instr.wf (.unmappedAccess .a 0x000004) = false ∧ Instr.wf (.unmappedAccess .a 0x000005) = true := by
  decide +kernel

theorem test_wf_bad_command : Instr.wf (.hostBadCmd .a 0x03 250) = false ∧ Instr.wf (.hostBadCmd .a 0x77 250) = true := by decide +kernel

/-- An ill-formed command faults. -/
theorem test_step_ill_formed : ∃ m, step (up.withPending [.unitTimeout 63]) = .fault (.illFormed m) := ⟨_, rfl⟩

/-! The queue (the block cut), and no word spells a command. -/

theorem test_step_takes_the_front : (after (step (lit.withPending [.rowSlot 0, .tideTick true true]))).pending = [.tideTick true true] := by
  decide +kernel

theorem test_step_idles : after (step State.reset) = State.reset := rfl

theorem test_no_word_spells_a_command : decodeTableWord 32 0xFFFFFFFF = none := rfl

/-! Published check values of the CRCs and of SHA-256 (log entry 8). -/

theorem test_crc32c : crc32c [0x31, 0x32, 0x33, 0x34, 0x35, 0x36, 0x37, 0x38, 0x39] = 0xE3069283 := by decide +kernel

theorem test_crc16 : crc16 [0x31, 0x32, 0x33, 0x34, 0x35, 0x36, 0x37, 0x38, 0x39] = 0x29B1 := by decide +kernel

theorem test_sha256 : (sha256 [0x61, 0x62, 0x63]).take 4 = [0xBA, 0x78, 0x16, 0xBF] := by decide +kernel

/-! One step each, the values from the rules named. -/

/-- R211, R214: a tick advances TIDE.NOW by one, and the counter wraps. -/
theorem test_tick_counts : (after (exec (.tideTick true true) (at_ 0xFFFFFFFF))).now = 0 ∧ (after (exec (.tideTick true true) up)).now = 1 := by decide +kernel

/-- R225: an emergency alarm cannot be shelved; the result is 6. -/
theorem test_emergency_not_shelved :
    (after (exec (.shelve .a 3) (withPt 3 pt1 [(9, 0x10000000), (15, 0x10000)] up))).get F.pteAdmresResult = 6 := by decide +kernel

/-- R92: a read of an unmapped address answers 0, and BADADDR records it with code 0x25. -/
theorem test_unmapped_read : ((after (exec (.hostRead .a 0x300000 1 250) up)).port .a).answer = [0] ∧
    (after (exec (.hostRead .a 0x300000 1 250) up)).reg 0x00504C = 0x25300000 := by decide +kernel

/-- R426: a record whose key is held is discarded, the queue is one shorter and nothing is added. -/
theorem test_duplicate_discarded :
    (after (exec (.logRecordWrite .retryOk) (up.withLg { up.lg with ingress := [recOf 5], main := [recOf 5] }))).lg.main = [recOf 5] ∧
    (after (exec (.logRecordWrite .retryOk) (up.withLg { up.lg with ingress := [recOf 5], main := [recOf 5] }))).lg.ingress = [] := by
  decide +kernel

/-! The statements' hypotheses are met. -/

/-- The hypotheses of `Obligations.StepRunsTheFrontCommand` are met, clause by clause. -/
theorem witness_StepRunsTheFrontCommand :
    (∃ (s : State), s.pending = []) :=
  ⟨up, by decide +kernel⟩

/-- The hypotheses of `Obligations.StepsKeepTheInvariant` are met, clause by clause. -/
theorem witness_StepsKeepTheInvariant :
    (∃ s t : State, s.Canonical ∧ step s = .next t) :=
  ⟨lit.withPending [.rowSlot 0], after (step (lit.withPending [.rowSlot 0])), canonical_of (by decide +kernel), rfl⟩

/-- The hypotheses of `Obligations.WellFormedCommandsComplete` are met, clause by clause. -/
theorem witness_WellFormedCommandsComplete :
    (∃ (c : Instr), c.wf = true) ∧
    (∃ (c : Instr), c.wf = false) :=
  ⟨⟨.unitTimeout 62, by decide +kernel⟩,
    ⟨.unitTimeout 63, by decide +kernel⟩⟩

/-- The hypotheses of `Obligations.MemoryFrames` are met, clause by clause. -/
theorem witness_MemoryFrames :
    (∃ (c : Instr) (s t : State), s.Canonical ∧ exec c s = .next t ∧ writesNor c = false ∧ writesWindows c = false) :=
  ⟨.rowSlot 0, lit, after (exec (.rowSlot 0) lit), canonical_of (by decide +kernel), rfl, by decide, by decide⟩

/-- The hypotheses of `Obligations.UnitFrames` are met, clause by clause. -/
theorem witness_UnitFrames :
    (∃ (c : Instr) (s t : State), exec c s = .next t ∧ generalWrite c = false ∧ restarts c = false) :=
  ⟨.rowSlot 0, lit, after (exec (.rowSlot 0) lit), rfl, by decide, by decide⟩

/-- The hypotheses of `Obligations.RegisterFrames` are met, clause by clause. -/
theorem witness_RegisterFrames :
    (∃ (c : Instr) (s t : State) (ps : List Nat) (lo : Nat), exec c s = .next t ∧ regPages c = some (ps, lo) ∧ writesHeaders c = false) :=
  ⟨.rowSlot 0, lit, after (exec (.rowSlot 0) lit), _, _, rfl, rfl, by decide⟩

/-- The hypotheses of `Obligations.ClocksTakeEffect` are met, clause by clause. -/
theorem witness_ClocksTakeEffect :
    (∃ (s : State), s.Canonical ∧ s.flag F.clkStatTickSrc = false) ∧
    (∃ (s : State), s.Canonical ∧ s.flag F.clkStatTickSrc = true) ∧
    (∃ (s : State), s.Canonical ∧ s.answers = true ∧ s.get F.pwrStatState = 1) ∧
    (∃ (s : State), s.Canonical ∧ s.answers = true ∧ s.get F.pwrStatState = 0 ∧ s.flag F.clkStatPllEngLock = true) ∧
    (∃ (s : State), s.Canonical ∧ s.answers = true ∧ s.get F.pwrStatState = 0 ∧ s.idle = true) ∧
    (∃ (s : State), s.Canonical ∧ s.answers = true ∧ s.flag F.clkStatHfxoFail = false) ∧
    (∃ (s : State), s.Canonical ∧ s.answers = true ∧ s.canScan = true ∧ s.afe.period ≠ 0) ∧
    (∃ (s : State), s.Canonical ∧ s.answers = true ∧ s.flag F.clkStatHfxoFail = false ∧ s.standby = false) ∧
    (∃ (s : State), s.Canonical ∧ s.answers = true ∧ s.flag F.clkStatHfxoFail = true ∧ s.standby = false ∧ s.hfxoNeeded = true) ∧
    (∃ (s : State), s.Canonical ∧ s.answers = true ∧ s.flag F.clkStatHfxoFail = true ∧ s.standby = false ∧ s.hfxoNeeded = false ∧ (s.put F.clkStatHfxoFail 0).convRuns = false) ∧
    (∃ (s : State), s.Canonical ∧ s.answers = true ∧ s.flag F.clkStatHfxoFail = true ∧ s.standby = true) ∧
    (∃ (s : State), s.Canonical) ∧
    (∃ (s : State) (p : Pll), s.Canonical ∧ s.answers = true ∧ s.standby = false ∧ s.flag F.clkStatHfxoRun = true ∧ s.pllWanted p = true ∧ s.flag (pllFld p) = false) ∧
    (∃ (s : State) (p : Pll), s.Canonical ∧ s.answers = true ∧ s.flag (pllFld p) = true) :=
  ⟨⟨up.put F.clkStatTickSrc 0, canonical_of (by decide +kernel), by decide +kernel⟩,
    ⟨up.put F.clkStatTickSrc 1, canonical_of (by decide +kernel), by decide +kernel⟩,
    ⟨up.put F.pwrStatState 1, canonical_of (by decide +kernel), by decide +kernel⟩,
    ⟨up.put F.clkStatPllEngLock 1, canonical_of (by decide +kernel), by decide +kernel⟩,
    ⟨up, canonical_of (by decide +kernel), by decide +kernel⟩,
    ⟨up, canonical_of (by decide +kernel), by decide +kernel⟩,
    ⟨scanOn, canonical_of (by decide +kernel), by decide +kernel⟩,
    ⟨up, canonical_of (by decide +kernel), by decide +kernel⟩,
    ⟨(up.put F.clkStatHfxoFail 1).put F.pwrStatState 0, canonical_of (by decide +kernel), by decide +kernel⟩,
    ⟨(up.put F.clkStatHfxoFail 1).put F.pwrStatState 1, canonical_of (by decide +kernel), by decide +kernel⟩,
    ⟨(up.put F.clkStatHfxoFail 1).put F.pwrStatState 2, canonical_of (by decide +kernel), by decide +kernel⟩,
    ⟨up, canonical_of (by decide +kernel)⟩,
    ⟨up.put F.clkStatHfxoRun 1, Pll.eng, canonical_of (by decide +kernel), by decide +kernel⟩,
    ⟨up.put F.clkStatPllEngLock 1, Pll.eng, canonical_of (by decide +kernel), by decide +kernel⟩⟩

/-- The hypotheses of `Obligations.SuppliesTakeEffect` are met, clause by clause. -/
theorem witness_SuppliesTakeEffect :
    (∃ (s : State), s.Canonical ∧ s.flag F.pwrStatAvdd5Fail = false) ∧
    (∃ (s : State), s.Canonical ∧ s.flag F.pwrStatAvdd5Fail = true) ∧
    (∃ (s : State), s.Canonical ∧ s.flag F.pwrStatVfieldFail = false) ∧
    (∃ (s : State), s.Canonical ∧ s.flag F.pwrStatVfieldFail = true) ∧
    (∃ (s : State), s.Canonical ∧ s.flag F.pwrStatVledFail = false) ∧
    (∃ (s : State), s.Canonical ∧ s.flag F.pwrStatVledFail = true) ∧
    (∃ (s : State) (mv : Nat), s.Canonical ∧ s.phase ≠ .backup ∧ mv < 2200 ∧ s.flag F.pwrStatVbatLow = false) ∧
    (∃ (s : State) (mv : Nat), s.Canonical ∧ s.phase ≠ .backup ∧ 2300 < mv) ∧
    (∃ (s : State) (mv : Nat), s.Canonical ∧ 2200 ≤ mv ∧ mv ≤ 2300) ∧
    (∃ (s : State), s.Canonical ∧ s.phase = .backup) ∧
    (∃ (s : State), s.Canonical ∧ s.phase ≠ .backup ∧ s.flag F.pwrStatVdd33Warn = false) ∧
    (∃ (s : State), s.Canonical ∧ s.flag F.pwrStatVdd33Warn = true) ∧
    (∃ (s : State), s.Canonical ∧ s.phase ≠ .backup ∧ s.gateClosed = true ∧ s.flag F.pwrStatVdd33Warn = false) ∧
    (∃ (s : State), s.Canonical ∧ s.phase ≠ .backup ∧ s.flag F.pwrStatLockout = false) ∧
    (∃ (s : State), s.Canonical ∧ s.flag F.pwrStatLockout = true) ∧
    (∃ (s : State), s.Canonical ∧ s.phase = .backup) ∧
    (∃ (s : State), s.Canonical ∧ s.phase = .backup) ∧
    (∃ (s : State), s.Canonical ∧ s.phase = .backup) :=
  ⟨⟨up, canonical_of (by decide +kernel), by decide +kernel⟩,
    ⟨up.put F.pwrStatAvdd5Fail 1, canonical_of (by decide +kernel), by decide +kernel⟩,
    ⟨up, canonical_of (by decide +kernel), by decide +kernel⟩,
    ⟨up.put F.pwrStatVfieldFail 1, canonical_of (by decide +kernel), by decide +kernel⟩,
    ⟨up, canonical_of (by decide +kernel), by decide +kernel⟩,
    ⟨up.put F.pwrStatVledFail 1, canonical_of (by decide +kernel), by decide +kernel⟩,
    ⟨up, (2199 : Nat), canonical_of (by decide +kernel), by decide +kernel⟩,
    ⟨up, (2301 : Nat), canonical_of (by decide +kernel), by decide +kernel⟩,
    ⟨up, (2300 : Nat), canonical_of (by decide +kernel), by decide +kernel⟩,
    ⟨up.withPhase .backup, canonical_of (by decide +kernel), by decide +kernel⟩,
    ⟨up, canonical_of (by decide +kernel), by decide +kernel⟩,
    ⟨(up.put F.pwrStatVdd33Warn 1).put F.pwrDipCount 255, canonical_of (by decide +kernel), by decide +kernel⟩,
    ⟨(up.put F.pwrStatNvmGated 1).withPwr { up.pwr with svcDue := true, slotsDue := true, svc := 9, heldSlots := [(1, 5)] }, canonical_of (by decide +kernel), by decide +kernel⟩,
    ⟨up, canonical_of (by decide +kernel), by decide +kernel⟩,
    ⟨up.put F.pwrStatLockout 1, canonical_of (by decide +kernel), by decide +kernel⟩,
    ⟨up.withPhase .backup, canonical_of (by decide +kernel), by decide +kernel⟩,
    ⟨up.withPhase .backup, canonical_of (by decide +kernel), by decide +kernel⟩,
    ⟨up.withPhase .backup, canonical_of (by decide +kernel), by decide +kernel⟩⟩

/-- The hypotheses of `Obligations.TimeAdvances` are met, clause by clause. -/
theorem witness_TimeAdvances :
    (∃ (s : State), s.Canonical ∧ s.phase ≠ .backup) ∧
    (∃ (s : State), s.Canonical ∧ s.phase ≠ .backup ∧ s.gateClosed = false) ∧
    (∃ (s : State), s.Canonical ∧ s.phase ≠ .backup ∧ s.gateClosed = true) ∧
    (∃ (s : State) (h : HostId) (m : _), s.Canonical ∧ Passes h 0x001040 (pwrCtlWord (4 + b2n s.standby) s) m s ∧ getBit m 2 = true ∧ s.gateClosed = false) ∧
    (∃ (s : State) (h : HostId) (m : _), s.Canonical ∧ Passes h 0x001040 (pwrCtlWord (4 + b2n s.standby) s) m s ∧ getBit m 2 = true ∧ s.gateClosed = true) :=
  ⟨⟨at_ (2 ^ 32 - 1), canonical_of (by decide +kernel), by decide +kernel⟩,
    ⟨up.withPwr { up.pwr with svc := 5 }, canonical_of (by decide +kernel), by decide +kernel⟩,
    ⟨up.put F.pwrStatNvmGated 1, canonical_of (by decide +kernel), by decide +kernel⟩,
    ⟨up, .a, pass .a 0x001040 (pwrCtlWord (4 + b2n up.standby) up) up, canonical_of (by decide +kernel), passes_of (by decide +kernel), by decide +kernel⟩,
    ⟨up.put F.pwrStatNvmGated 1, .a, pass .a 0x001040 (pwrCtlWord (4 + b2n (up.put F.pwrStatNvmGated 1).standby) (up.put F.pwrStatNvmGated 1)) (up.put F.pwrStatNvmGated 1), canonical_of (by decide +kernel), passes_of (by decide +kernel), by decide +kernel⟩⟩

/-- The hypotheses of `Obligations.StandbyTakesEffect` are met, clause by clause. -/
theorem witness_StandbyTakesEffect :
    (∃ (s : State) (h : _) (m : _), s.Canonical ∧ Passes h 0x001040 (pwrCtlWord 1 s) m s ∧ getBit m 0 = true ∧ s.standby = false ∧ s.pwr.standbyReq = none ∧ s.standbyBar = none) ∧
    (∃ (s : State), s.Canonical ∧ s.tt.standbyAsk = true ∧ s.answers = true ∧ s.standby = false ∧ s.pwr.standbyReq = none ∧ s.standbyBar = none) ∧
    (∃ (s : State), s.Canonical ∧ s.answers = true ∧ s.pwr.standbyReq ≠ none ∧ s.sending = false) ∧
    (∃ (s : State) (h : HostId) (m : _), s.Canonical ∧ Passes h 0x001040 (pwrCtlWord 0 s) m s ∧ s.standby = true ∧ s.pwr.wake = none) ∧
    (∃ (s : State) (di : BitVec 6), s.Canonical ∧ (s.get F.pwrWakeDiLoWake + 2 ^ 32 * s.get F.pwrWakeDiHiWake).testBit di.toNat = true ∧ s.standby = true ∧ s.pwr.wake = none) ∧
    (∃ (s : State) (w : _), s.Canonical ∧ s.standby = true ∧ s.pwr.wake = some w ∧ s.eng.waiting = []) ∧
    (∃ (s : State), s.Canonical ∧ s.configured = true ∧ s.clko25Runs = true ∧ s.flag F.xnetCtlPhyHold = false) :=
  ⟨⟨up, .a, pass .a 0x001040 (pwrCtlWord 1 up) up, canonical_of (by decide +kernel), passes_of (by decide +kernel), by decide +kernel⟩,
    ⟨up.withTt { up.tt with standbyAsk := true }, canonical_of (by decide +kernel), by decide +kernel⟩,
    ⟨up.withPwr { up.pwr with standbyReq := some (.host .a) }, canonical_of (by decide +kernel), by decide +kernel⟩,
    ⟨up.put F.pwrStatState 2, .a, pass .a 0x001040 (pwrCtlWord 0 (up.put F.pwrStatState 2)) (up.put F.pwrStatState 2), canonical_of (by decide +kernel), passes_of (by decide +kernel), by decide +kernel⟩,
    ⟨(up.put F.pwrStatState 2).put F.pwrWakeDiHiWake 0x80000000, (63 : BitVec 6), canonical_of (by decide +kernel), by decide +kernel⟩,
    ⟨(up.put F.pwrStatState 2).withPwr { up.pwr with wake := some (0, 0) }, ((0, 0) : Nat × Nat), canonical_of (by decide +kernel), by decide +kernel⟩,
    ⟨(up.put F.clkStatHfxoRun 1).put F.clkCtlClko25En 1, canonical_of (by decide +kernel), by decide +kernel⟩⟩

/-- The hypotheses of `Obligations.ResetCausesTakeEffect` are met, clause by clause. -/
theorem witness_ResetCausesTakeEffect :
    (∃ (s : State), s.Canonical ∧ s.answers = true) ∧
    (∃ (s : State), s.Canonical ∧ s.answers = true) ∧
    (∃ (s : State), s.Canonical ∧ s.answers = true ∧ s.flag F.rstBtnArmed = true) ∧
    (∃ (s : State), s.Canonical ∧ s.answers = true ∧ s.flag F.rstBtnArmed = false) ∧
    (∃ (s : State) (h : HostId) (m : _), s.Canonical ∧ s.answers = true ∧ Passes h 0x000048 (bitWord 0) m s ∧ getBit m 0 = true) ∧
    (∃ (s : State), s.Canonical ∧ s.answers = true) :=
  ⟨⟨up, canonical_of (by decide +kernel), by decide +kernel⟩,
    ⟨up, canonical_of (by decide +kernel), by decide +kernel⟩,
    ⟨up.put F.rstBtnArmed 1, canonical_of (by decide +kernel), by decide +kernel⟩,
    ⟨up.put F.rstBtnArmed 0, canonical_of (by decide +kernel), by decide +kernel⟩,
    ⟨up, .a, pass .a 0x000048 (bitWord 0) up, canonical_of (by decide +kernel), by decide +kernel, passes_of (by decide +kernel), (by decide +kernel)⟩,
    ⟨up.put F.pwrStatNvmGated 1, canonical_of (by decide +kernel), by decide +kernel⟩⟩

/-- The hypotheses of `Obligations.WiderResetWins` are met, clause by clause. -/
theorem witness_WiderResetWins :
    (∃ (s : State), s.phase = .starting ∧ (s.rst.cls = .c ∨ s.rst.cls = .u)) ∧
    (∃ (s : State), s.phase = .starting ∧ (s.rst.cls = .w ∨ s.rst.cls = .p ∨ s.rst.cls = .s)) ∧
    (∃ (s : State), s.phase = .starting ∧ (s.rst.cls = .c ∨ s.rst.cls = .u ∨ s.rst.cls = .w)) ∧
    (∃ (s : State), s.phase = .starting ∧ (s.rst.cls = .p ∨ s.rst.cls = .s)) :=
  ⟨⟨State.reset, by decide +kernel⟩,
    ⟨State.reset.withRst { State.reset.rst with cls := .w }, by decide +kernel⟩,
    ⟨State.reset.withRst { State.reset.rst with cls := .w }, by decide +kernel⟩,
    ⟨State.reset.withRst { State.reset.rst with cls := .p }, by decide +kernel⟩⟩

/-- The hypotheses of `Obligations.StartAndButtonTakeEffect` are met, clause by clause. -/
theorem witness_StartAndButtonTakeEffect :
    (∃ (s : State), s.Canonical ∧ s.phase = .starting ∧ (s.rst.cls = .c ∨ s.rst.cls = .u) ∧ s.rst.hold = false) ∧
    (∃ (s : State), s.Canonical ∧ s.phase = .starting ∧ (s.rst.cls = .p ∨ s.rst.cls = .w ∨ s.rst.cls = .s) ∧ s.rst.hold = false) ∧
    (∃ (s : State) (tm : BitVec 2), s.Canonical ∧ s.phase = .starting ∧ (s.rst.cls = .c ∨ s.rst.cls = .p) ∧ tm ≠ 0) ∧
    (∃ (s : State), s.Canonical ∧ s.phase ≠ .backup) ∧
    (∃ (s : State), s.Canonical ∧ s.phase ≠ .backup) :=
  ⟨⟨State.reset, canonical_of (by decide +kernel), by decide +kernel⟩,
    ⟨State.reset.withRst { State.reset.rst with cls := .s }, canonical_of (by decide +kernel), by decide +kernel⟩,
    ⟨State.reset, (1 : BitVec 2), canonical_of (by decide +kernel), by decide +kernel⟩,
    ⟨up, canonical_of (by decide +kernel), by decide +kernel⟩,
    ⟨up, canonical_of (by decide +kernel), by decide +kernel⟩⟩

/-- The hypotheses of `Obligations.EventAndLockWritesTakeEffect` are met, clause by clause. -/
theorem witness_EventAndLockWritesTakeEffect :
    (∃ (s : State) (h : HostId) (page : BitVec 10) (w : Word) (m : Word), s.Canonical ∧ (pageBlock page.toNat).isSome = true ∧ Passes h (page.toNat * 0x1000 + 0x014) w m s) ∧
    (∃ (s : State) (h : HostId) (page : BitVec 10) (w : Word) (m : Word), s.Canonical ∧ (pageBlock page.toNat).isSome = true ∧ Passes h (page.toNat * 0x1000 + 0x018) w m s) ∧
    (∃ (s : State) (h : HostId) (page : BitVec 10) (w : Word) (m : Word), s.Canonical ∧ (pageBlock page.toNat).isSome = true ∧ Passes h (page.toNat * 0x1000 + 0x01C) w m s ∧ m ≠ 0) :=
  ⟨⟨up.setRaw 0x002 0, .a, (0x002 : BitVec 10), (1 : Word), pass .a ((0x002 : BitVec 10).toNat * 0x1000 + 0x014) (1 : Word) (up.setRaw 0x002 0), canonical_of (by decide +kernel), by decide +kernel, passes_of (by decide +kernel)⟩,
    ⟨up, .a, (0x002 : BitVec 10), (0x80000001 : Word), pass .a ((0x002 : BitVec 10).toNat * 0x1000 + 0x018) (0x80000001 : Word) up, canonical_of (by decide +kernel), by decide +kernel, passes_of (by decide +kernel)⟩,
    ⟨up, .a, (0x041 : BitVec 10), (0xA541 : Word), pass .a ((0x041 : BitVec 10).toNat * 0x1000 + 0x01C) (0xA541 : Word) up, canonical_of (by decide +kernel), by decide +kernel, passes_of (by decide +kernel), (by decide +kernel)⟩⟩

/-- The hypotheses of `Obligations.StagingAndCommitsTakeEffect` are met, clause by clause. -/
theorem witness_StagingAndCommitsTakeEffect :
    (∃ (s : State) (h : HostId) (page : BitVec 10) (m : Word) (on : Bool), s.Canonical ∧ (pageBlock page.toNat).isSome = true ∧ Passes h (page.toNat * 0x1000 + 0x004) (setBits (pageCtlWord page.toNat 2 on s) 1 1 0) m s ∧ getBit m 2 = true) ∧
    (∃ (s : State) (h : HostId) (page : BitVec 10) (m : Word), s.Canonical ∧ page ∈ [0x040, 0x041, 0x042, 0x044] ∧ Passes h (page.toNat * 0x1000 + 0x020) (bitWord 0) m s ∧ getBit m 0 = true) ∧
    (∃ (s : State) (page : BitVec 10), s.Canonical ∧ page ∈ [0x040, 0x041, 0x042, 0x044] ∧ s.answers = true ∧ s.flag (F.hdrPageCommitCommit.page page.toNat) = true) :=
  ⟨⟨up, .a, (0x041 : BitVec 10), pass .a ((0x041 : BitVec 10).toNat * 0x1000 + 0x004) (setBits (pageCtlWord (0x041 : BitVec 10).toNat 2 true up) 1 1 0) up, true, canonical_of (by decide +kernel), by decide +kernel, passes_of (by decide +kernel), (by decide +kernel)⟩,
    ⟨up, .a, (0x044 : BitVec 10), pass .a ((0x044 : BitVec 10).toNat * 0x1000 + 0x020) (bitWord 0) up, canonical_of (by decide +kernel), by decide +kernel, passes_of (by decide +kernel), (by decide +kernel)⟩,
    ⟨up.put (F.hdrPageCommitCommit.page 0x040) 1, (0x040 : BitVec 10), canonical_of (by decide +kernel), by decide +kernel⟩⟩

/-- The hypotheses of `Obligations.BlockResetTakesEffect` are met, clause by clause. -/
theorem witness_BlockResetTakesEffect :
    (∃ (s : State) (h : HostId) (page : BitVec 10) (m : Word), s.Canonical ∧ (pageBlock page.toNat).isSome = true ∧ Passes h (page.toNat * 0x1000 + 0x004) (pageCtlWord page.toNat 1 true s) m s ∧ getBit m 1 = true ∧ blkRefused page.toNat = false) ∧
    (∃ (s : State) (h : HostId) (page : BitVec 10) (m : Word), s.Canonical ∧ (pageBlock page.toNat).isSome = true ∧ Passes h (page.toNat * 0x1000 + 0x004) (pageCtlWord page.toNat 1 true s) m s ∧ getBit m 1 = true ∧ page ∈ [0x000, 0x001, 0x002, 0x003, 0x004, 0x007, 0x065]) ∧
    (∃ (s : State) (page : BitVec 10), s.Canonical ∧ (pageBlock page.toNat).isSome = true ∧ s.answers = true ∧ s.flag (F.hdrPageCtlBlkRst.page page.toNat) = true) :=
  ⟨⟨up, .a, (0x033 : BitVec 10), pass .a ((0x033 : BitVec 10).toNat * 0x1000 + 0x004) (pageCtlWord (0x033 : BitVec 10).toNat 1 true up) up, canonical_of (by decide +kernel), by decide +kernel, passes_of (by decide +kernel), (by decide +kernel)⟩,
    ⟨up, .a, (0x065 : BitVec 10), pass .a ((0x065 : BitVec 10).toNat * 0x1000 + 0x004) (pageCtlWord (0x065 : BitVec 10).toNat 1 true up) up, canonical_of (by decide +kernel), by decide +kernel, passes_of (by decide +kernel), (by decide +kernel)⟩,
    ⟨up.put (F.hdrPageCtlBlkRst.page 0x033) 1, (0x033 : BitVec 10), canonical_of (by decide +kernel), by decide +kernel⟩⟩

/-- The hypotheses of `Obligations.PlainWritesTakeEffect` are met, clause by clause. -/
theorem witness_PlainWritesTakeEffect :
    (∃ (s : State) (h : HostId) (a : BitVec 24), s.Canonical ∧ s.answers = true ∧ s.isOwner h = true ∧ a ∈ [0x001058, 0x00105C, 0x004070, 0x004074, 0x004078, 0x00407C] ∧ s.flag (F.hdrPageStatLocked.page (a.toNat / 0x1000)) = false ∧ s.flag (F.hdrPageCtlStage.page (a.toNat / 0x1000)) = false) ∧
    (∃ (s : State) (h : HostId) (a : BitVec 24), s.Canonical ∧ s.answers = true ∧ s.isOwner h = true ∧ 0x400000 ≤ a.toNat ∧ a.toNat < 0xC00000 ∧ a.toNat % 4 = 0 ∧ s.standby = false ∧ s.inEdit ((a.toNat - 0x400000) / 64) = true) :=
  ⟨⟨up, .a, (0x00407C : BitVec 24), canonical_of (by decide +kernel), by decide +kernel⟩,
    ⟨up.withEng { up.eng with edit := some (0, 131071, 0) }, .a, (0xBFFFFC : BitVec 24), canonical_of (by decide +kernel), by decide +kernel⟩⟩

/-- The hypotheses of `Obligations.NonOwnerWritesAreRefused` are met, clause by clause. -/
theorem witness_NonOwnerWritesAreRefused :
    (∃ (s : State) (h : HostId) (a : BitVec 24), s.Canonical ∧ s.answers = true ∧ s.isOwner h = false ∧ a ∈ [0x001058, 0x00105C, 0x004070, 0x004074, 0x004078, 0x00407C] ∧ s.flag (F.hdrPageStatLocked.page (a.toNat / 0x1000)) = false ∧ s.lastingCode (a.toNat / 0x1000) = 0 ∧ s.flag (F.hdrPageCtlStage.page (a.toNat / 0x1000)) = false) ∧
    (∃ (s : State) (h : HostId) (a : BitVec 24), s.Canonical ∧ s.answers = true ∧ s.isOwner h = false ∧ 0x400000 ≤ a.toNat ∧ a.toNat < 0xC00000 ∧ a.toNat % 4 = 0 ∧ s.standby = false ∧ s.lastingCode 0x044 = 0) :=
  ⟨⟨up, .b, (0x001058 : BitVec 24), canonical_of (by decide +kernel), by decide +kernel⟩,
    ⟨up, .b, (0x400000 : BitVec 24), canonical_of (by decide +kernel), by decide +kernel⟩⟩

/-- The hypotheses of `Obligations.HostReadsTakeEffect` are met, clause by clause. -/
theorem witness_HostReadsTakeEffect :
    (∃ (s : State) (h : HostId) (sck : Nat) (a : BitVec 24) (n : Nat) (k : _), s.Canonical ∧ s.answers = true ∧ sckCheck h sck s = some true ∧ k = burstLen h n s ∧ a.toNat % 4 = 0 ∧ 0x400000 ≤ a.toNat ∧ a.toNat + 4 * k ≤ 0xC00000 ∧ s.standby = false) ∧
    (∃ (s : State) (h : HostId) (sck : Nat) (n : Nat) (k : _), s.Canonical ∧ s.answers = true ∧ sckCheck h sck s = some true ∧ k = burstLen h n s) ∧
    (∃ (s : State) (h : HostId) (sck : Nat), s.Canonical ∧ s.answers = true ∧ sckCheck h sck s = some true) ∧
    (∃ (s : State) (h : HostId) (sck : Nat), s.Canonical ∧ s.answers = true ∧ sckCheck h sck s = some true) ∧
    (∃ (s : State) (h : HostId) (sck : Nat) (a : BitVec 24), s.Canonical ∧ s.answers = true ∧ sckCheck h sck s = some false ∧ a.toNat % 4 = 0) ∧
    (∃ (s : State) (h : HostId) (sck : Nat), s.Canonical ∧ s.answers = true ∧ sckCheck h sck s = some false) ∧
    (∃ (s : State) (h : HostId) (sck : Nat), s.Canonical ∧ s.answers = true ∧ sckCheck h sck s = some false) ∧
    (∃ (s : State) (h : HostId) (sck : Nat), s.Canonical ∧ s.answers = true ∧ sckCheck h sck s = some false) ∧
    (∃ (s : State) (h : HostId) (sck : Nat), s.Canonical ∧ s.answers = true ∧ sckCheck h sck s = none) ∧
    (∃ (s : State) (h : HostId) (sck : Nat), s.Canonical ∧ s.answers = true ∧ sckCheck h sck s = none) ∧
    (∃ (s : State) (h : HostId) (sck : Nat), s.Canonical ∧ s.answers = true ∧ sckCheck h sck s = none) ∧
    (∃ (s : State) (h : HostId) (sck : Nat), s.Canonical ∧ s.answers = true ∧ sckCheck h sck s = none) ∧
    (∃ (s : State), s.phase = .testHold) ∧
    (∃ (s : State), s.phase = .testHold) ∧
    (∃ (s : State), s.phase = .testHold) ∧
    (∃ (s : State), s.phase = .testHold) :=
  ⟨⟨up.put (hostFld F.hostModeCrc .a) 1, .a, (250 : Nat), (0x400000 : BitVec 24), (70 : Nat), 64, canonical_of (by decide +kernel), by decide +kernel⟩,
    ⟨up.put (hostFld F.hostModeCrc .a) 1, .a, (250 : Nat), (3 : Nat), 3, canonical_of (by decide +kernel), by decide +kernel⟩,
    ⟨up.put (hostFld F.hostModeCrc .a) 1, .a, (250 : Nat), canonical_of (by decide +kernel), by decide +kernel⟩,
    ⟨up.put (hostFld F.hostModeCrc .a) 1, .a, (100 : Nat), canonical_of (by decide +kernel), by decide +kernel⟩,
    ⟨up, .a, (251 : Nat), (0x400000 : BitVec 24), canonical_of (by decide +kernel), by decide +kernel⟩,
    ⟨up, .a, (251 : Nat), canonical_of (by decide +kernel), by decide +kernel⟩,
    ⟨up, .a, (500 : Nat), canonical_of (by decide +kernel), by decide +kernel⟩,
    ⟨up, .a, (808 : Nat), canonical_of (by decide +kernel), by decide +kernel⟩,
    ⟨up, .a, (809 : Nat), canonical_of (by decide +kernel), by decide +kernel⟩,
    ⟨up, .a, (809 : Nat), canonical_of (by decide +kernel), by decide +kernel⟩,
    ⟨up, .a, (809 : Nat), canonical_of (by decide +kernel), by decide +kernel⟩,
    ⟨up, .a, (809 : Nat), canonical_of (by decide +kernel), by decide +kernel⟩,
    ⟨up.withPhase .testHold, by decide +kernel⟩,
    ⟨up.withPhase .testHold, by decide +kernel⟩,
    ⟨up.withPhase .testHold, by decide +kernel⟩,
    ⟨up.withPhase .testHold, by decide +kernel⟩⟩

/-- The hypotheses of `Obligations.HostWriteStoresItsWords` are met, clause by clause. -/
theorem witness_HostWriteStoresItsWords :
    (∃ (s : State) (h : HostId) (a : BitVec 24) (len : BitVec 8) (data : List Word) (part : Nat) (crc : BitVec 16) (sck : Nat), s.Canonical ∧ s.answers = true ∧ sckCheck h sck s ≠ none ∧ a.toNat % 4 = 0 ∧ s.isOwner h = true ∧ s.standby = false ∧ 0x400000 ≤ a.toNat ∧ a.toNat + 4 * data.length ≤ 0xC00000 ∧ (∀ k, k < data.length → s.inEdit ((a.toNat + 4 * k - 0x400000) / 64) = true) ∧ (s.flag (hostFld F.hostModeCrc h) = true → writeChecks a len data part crc)) ∧
    (∃ (s : State) (h : HostId) (a : BitVec 24) (len : BitVec 8) (data : List Word) (part : Nat) (crc : BitVec 16) (sck : Nat), s.Canonical ∧ s.answers = true ∧ sckCheck h sck s ≠ none ∧ a.toNat % 4 = 0 ∧ s.flag (hostFld F.hostModeCrc h) = true ∧ ¬ writeChecks a len data part crc) :=
  ⟨⟨(up.withEng { up.eng with edit := some (0, 1, 0) }).put (hostFld F.hostModeCrc .a) 1, .a, (0x40003C : BitVec 24), (1 : BitVec 8), [1, 2], (0 : Nat), BitVec.ofNat 16 (wireCrc 0x02 (some 0x40003C) (some 1) [1, 2]), (404 : Nat), canonical_of (by decide +kernel), by decide +kernel⟩,
    ⟨up.put (hostFld F.hostModeCrc .a) 1, .a, (0x40003C : BitVec 24), (1 : BitVec 8), [1, 2], (0 : Nat), (0 : BitVec 16), (404 : Nat), canonical_of (by decide +kernel), by decide +kernel⟩⟩

/-- The hypotheses of `Obligations.HostPortCommandsTakeEffect` are met, clause by clause. -/
theorem witness_HostPortCommandsTakeEffect :
    (∃ (s : State) (a : BitVec 24), s.Canonical ∧ s.answers = true ∧ unmappedOk a = true) ∧
    (∃ (s : State) (h : HostId) (c : Byte) (sck : Nat), s.Canonical ∧ s.answers = true ∧ badCmdOk c = true ∧ sckCheck h sck s ≠ none) ∧
    (∃ (s : State) (h : HostId) (c : Byte) (sck : Nat), s.Canonical ∧ s.answers = true ∧ badCmdOk c = true ∧ sckCheck h sck s = none) ∧
    (∃ (s : State), s.Canonical ∧ s.answers = true) ∧
    (∃ (s : State) (h : HostId) (p : HostId) (v : Word) (m : Word), s.Canonical ∧ s.answers = true ∧ Passes h (hostPage p * 0x1000 + 0x040) v m s ∧ m &&& 0xFF = 0xFF ∧ getBits v 1 0 ≠ 3 ∧ (getBit v 2 = true → getBits v 1 0 = 2)) :=
  ⟨⟨up, (0x000001 : BitVec 24), canonical_of (by decide +kernel), by decide +kernel⟩,
    ⟨up, .a, (0xFF : Byte), (808 : Nat), canonical_of (by decide +kernel), by decide +kernel⟩,
    ⟨up, .a, (0xFF : Byte), (809 : Nat), canonical_of (by decide +kernel), by decide +kernel⟩,
    ⟨up, canonical_of (by decide +kernel), by decide +kernel⟩,
    ⟨up, .a, HostId.a, (0x2E : Word), pass .a (hostPage HostId.a * 0x1000 + 0x040) (0x2E : Word) up, canonical_of (by decide +kernel), by decide +kernel, passes_of (by decide +kernel), (by decide +kernel)⟩⟩

/-- The hypotheses of `Obligations.OwnershipCommandsTakeEffect` are met, clause by clause. -/
theorem witness_OwnershipCommandsTakeEffect :
    (∃ (s : State) (h : HostId) (m : Word), s.Canonical ∧ Passes h 0x00004C (ownWord 1 s) m s ∧ s.isOwner h = true ∧ s.own.offer = none) ∧
    (∃ (s : State) (h : HostId) (m : Word) (w : BitVec 16) (at_ : _) (n : _), s.Canonical ∧ Passes h 0x000050 (w.setWidth 32) m s ∧ s.isOwner h = false ∧ s.own.offer = some (w.toNat, at_, n)) ∧
    (∃ (s : State) (h : HostId) (m : Word) (w : BitVec 16) (tok : _) (at_ : _) (n : _), s.Canonical ∧ Passes h 0x000050 (w.setWidth 32) m s ∧ s.isOwner h = false ∧ w.toNat ≠ tok ∧ n < 2 ∧ s.own.offer = some (tok, at_, n) ∧ s.lastingCode 0x000 = 0) ∧
    (∃ (s : State) (tok : _) (t0 : _) (n : _), s.Canonical ∧ s.own.offer = some (tok, t0, n) ∧ 64 ≤ s.since t0) ∧
    (∃ (s : State) (h : HostId) (m : Word), s.Canonical ∧ Passes h 0x00004C (ownWord 2 s) m s ∧ s.isOwner h = false ∧ s.own.offer = none ∧ s.own.claim = none) ∧
    (∃ (s : State) (h : HostId) (m : Word) (t0 : _), s.Canonical ∧ Passes h 0x00004C (ownWord 3 s) m s ∧ getBit m 3 = true ∧ s.own.claim = some t0) ∧
    (∃ (s : State) (t0 : _), s.Canonical ∧ s.own.claim = some t0 ∧ 320 ≤ s.since t0) ∧
    (∃ (s : State) (t0 : _), s.Canonical ∧ s.own.claim = some t0 ∧ s.since t0 < 320) :=
  ⟨⟨up, .a, pass .a 0x00004C (ownWord 1 up) up, canonical_of (by decide +kernel), passes_of (by decide +kernel), by decide +kernel⟩,
    ⟨up.withOwn { up.own with offer := some (7, 0, 2) }, .b, pass .b 0x000050 ((7 : BitVec 16).setWidth 32) (up.withOwn { up.own with offer := some (7, 0, 2) }), (7 : BitVec 16), 0, 2, canonical_of (by decide +kernel), passes_of (by decide +kernel), by decide +kernel⟩,
    ⟨up.withOwn { up.own with offer := some (7, 0, 1) }, .b, pass .b 0x000050 ((8 : BitVec 16).setWidth 32) (up.withOwn { up.own with offer := some (7, 0, 1) }), (8 : BitVec 16), 7, 0, 1, canonical_of (by decide +kernel), passes_of (by decide +kernel), by decide +kernel⟩,
    ⟨(at_ 64).withOwn { up.own with offer := some (7, 0, 1) }, 7, 0, 1, canonical_of (by decide +kernel), by decide +kernel⟩,
    ⟨up, .b, pass .b 0x00004C (ownWord 2 up) up, canonical_of (by decide +kernel), passes_of (by decide +kernel), by decide +kernel⟩,
    ⟨up.withOwn { up.own with claim := some 3 }, .a, pass .a 0x00004C (ownWord 3 (up.withOwn { up.own with claim := some 3 })) (up.withOwn { up.own with claim := some 3 }), 3, canonical_of (by decide +kernel), passes_of (by decide +kernel), by decide +kernel⟩,
    ⟨(at_ 320).withOwn { up.own with claim := some 0 }, 0, canonical_of (by decide +kernel), by decide +kernel⟩,
    ⟨(at_ 319).withOwn { up.own with claim := some 0 }, 0, canonical_of (by decide +kernel), by decide +kernel⟩⟩

/-- The hypotheses of `Obligations.ConversionSlotsTakeEffect` are met, clause by clause. -/
theorem witness_ConversionSlotsTakeEffect :
    (∃ (s : State) (g : BitVec 5) (j : _), s.Canonical ∧ s.nextChan g.toNat = some j ∧ j < 8) ∧
    (∃ (s : State) (g : BitVec 5) (sl : Slot), s.Canonical ∧ (s.grp g.toNat).slot = some sl ∧ sl.stage = .mux) ∧
    (∃ (s : State) (g : BitVec 5) (sl : Slot), s.Canonical ∧ (s.grp g.toNat).slot = some sl ∧ sl.stage = .settle ∧ s.checks sl.ch = true ∧ sl.checkDone = false) ∧
    (∃ (s : State) (g : BitVec 5) (sl : Slot), s.Canonical ∧ (s.grp g.toNat).slot = some sl ∧ sl.stage = .settle ∧ (sl.checkDone = true ∨ s.checks sl.ch = false) ∧ s.flag F.clkStatPllAfeLock = true) ∧
    (∃ (s : State) (g : BitVec 5) (sl : Slot), s.Canonical ∧ (s.grp g.toNat).slot = some sl ∧ sl.stage = .settle ∧ (sl.checkDone = true ∨ s.checks sl.ch = false) ∧ s.flag F.clkStatPllAfeLock = false) ∧
    (∃ (s : State) (g : BitVec 5) (sl : Slot), s.Canonical ∧ (s.grp g.toNat).slot = some sl ∧ sl.stage = .conv) ∧
    (∃ (s : State) (g : BitVec 5) (sl : Slot) (conv : ConvReading), s.Canonical ∧ Sparse.rising 0 s.afe.grps = true ∧ (s.grp g.toNat).slot = some sl ∧ sl.stage = .conv ∧ (s.grp g.toNat).fast = none ∧ convLost conv = false ∧ twoPhase (s.wiring sl.ch) = false ∧ faultsOf sl.ch sl.mon sl.phase sl.checkOpen s = 0) ∧
    (∃ (s : State) (g : BitVec 5) (sl : Slot) (conv : ConvReading), s.Canonical ∧ Sparse.rising 0 s.afe.grps = true ∧ (s.grp g.toNat).slot = some sl ∧ sl.stage = .conv ∧ (s.grp g.toNat).fast = none ∧ convLost conv = true) ∧
    (∃ (s : State) (g : BitVec 5) (sl : Slot), s.Canonical ∧ Sparse.rising 0 s.afe.grps = true ∧ (s.grp g.toNat).slot = some sl ∧ sl.stage = .ended ∧ (s.grp g.toNat).fast = none ∧ s.flag (F.hdrPageCommitCommit.page (afgPage g.toNat)) = false) ∧
    (∃ (s : State) (g : BitVec 5) (sl : Slot), s.Canonical ∧ Sparse.rising 0 s.afe.grps = true ∧ (s.grp g.toNat).slot = some sl ∧ sl.stage = .conv ∧ currentMode (s.wiring sl.ch) = true ∧ s.flag (F.afgCfg0ArEn.ch sl.ch) = true ∧ s.get (F.afgCfg0ArTop.ch sl.ch) < s.get (F.afgStatRangeNow.ch sl.ch) ∧ sl.ch < 256) ∧
    (∃ (s : State) (g : BitVec 5) (r : _) (rs : _), s.Canonical ∧ Sparse.rising 0 s.afe.grps = true ∧ (s.grp g.toNat).results = r :: rs) :=
  ⟨⟨(scanOn.put (F.afgCfg0Wiring.ch 7) 1).setGrp 0 { grp0 with inPass := true }, (0 : BitVec 5), 7, canonical_of (by decide +kernel), by decide +kernel⟩,
    ⟨slotUp .mux (up.put (F.afgCfg0Wiring.ch 0) 2), (0 : BitVec 5), slotOf 0 .mux, canonical_of (by decide +kernel), by decide +kernel⟩,
    ⟨slotUp .settle ((up.put (F.afgCfg0Wiring.ch 0) 5).put (F.afgCfg0Check.ch 0) 1), (0 : BitVec 5), slotOf 0 .settle, canonical_of (by decide +kernel), by decide +kernel⟩,
    ⟨slotUp .settle (up.put F.clkStatPllAfeLock 1), (0 : BitVec 5), slotOf 0 .settle, canonical_of (by decide +kernel), by decide +kernel⟩,
    ⟨slotUp .settle up, (0 : BitVec 5), slotOf 0 .settle, canonical_of (by decide +kernel), by decide +kernel⟩,
    ⟨slotUp .conv up, (0 : BitVec 5), slotOf 0 .conv, canonical_of (by decide +kernel), by decide +kernel⟩,
    ⟨slotUp .conv up, (0 : BitVec 5), slotOf 0 .conv, (⟨0x7FFFFF, [(false, false), (true, false)], false⟩ : ConvReading), canonical_of (by decide +kernel), by decide +kernel⟩,
    ⟨slotUp .conv up, (0 : BitVec 5), slotOf 0 .conv, (⟨0, [(false, false), (true, true)], false⟩ : ConvReading), canonical_of (by decide +kernel), by decide +kernel⟩,
    ⟨slotUp .ended up, (0 : BitVec 5), slotOf 0 .ended, canonical_of (by decide +kernel), by decide +kernel⟩,
    ⟨slotUp .conv (((up.put (F.afgCfg0Wiring.ch 0) 8).put (F.afgCfg0ArEn.ch 0) 1).put (F.afgStatRangeNow.ch 0) 3), (0 : BitVec 5), slotOf 0 .conv, canonical_of (by decide +kernel), by decide +kernel⟩,
    ⟨up.setGrp 0 { grp0 with results := [⟨3, 100, false, false, 0, 0, ⟨true, 0, none, none, false⟩⟩] }, (0 : BitVec 5), (⟨3, 100, false, false, 0, 0, ⟨true, 0, none, none, false⟩⟩ : ChResult), ([] : List ChResult), canonical_of (by decide +kernel), by decide +kernel⟩⟩

/-- The hypotheses of `Obligations.BurstsAndFastModeTakeEffect` are met, clause by clause. -/
theorem witness_BurstsAndFastModeTakeEffect :
    (∃ (s : State) (g : _), s.Canonical ∧ s.canScan = true ∧ s.boundary = true ∧ s.flag F.clkStatHfxoRun = true ∧ s.afe.burst = false ∧ g < 32 ∧ s.scanned g = true ∧ s.enabledChans g ≠ []) ∧
    (∃ (s : State), s.Canonical ∧ s.canScan = true ∧ s.boundary = true ∧ s.flag F.clkStatHfxoRun = true ∧ s.afe.burst = true) ∧
    (∃ (s : State) (h : HostId) (id : BitVec 12) (m : _), s.Canonical ∧ Passes h 0x031040 (BitVec.ofNat 32 (2 ^ 31 + id.toNat)) m s ∧ getBit m 31 = true ∧ m &&& 0xFFF = 0xFFF) ∧
    (∃ (s : State) (id : _), s.Canonical ∧ s.afe.load = some id ∧ id < 4096) ∧
    (∃ (s : State) (g : BitVec 5) (j : _) (sl : Slot) (conv : ConvReading), s.Canonical ∧ (s.grp g.toNat).fast = some j ∧ (s.grp g.toNat).slot = some sl ∧ sl.stage = .conv ∧ convLost conv = false) ∧
    (∃ (s : State) (g : BitVec 5) (j : _) (sl : Slot), s.Canonical ∧ (s.grp g.toNat).fast = some j ∧ (s.grp g.toNat).slot = some sl ∧ sl.stage = .conv) ∧
    (∃ (s : State), s.Canonical ∧ s.configured = true ∧ s.flag F.afcCtlScanEn = true) :=
  ⟨⟨((scanOn.put (F.afgCfg0Wiring.ch 7) 1).put F.clkStatHfxoRun 1).put F.tideNowNow 64, 0, canonical_of (by decide +kernel), by decide +kernel⟩,
    ⟨let u := ((scanOn.put (F.afgCfg0Wiring.ch 7) 1).put F.clkStatHfxoRun 1).put F.tideNowNow 64; u.withAfe { u.afe with burst := true }, canonical_of (by decide +kernel), by decide +kernel⟩,
    ⟨enabled [0x031], .a, (4095 : BitVec 12), pass .a 0x031040 (BitVec.ofNat 32 (2 ^ 31 + (4095 : BitVec 12).toNat)) (enabled [0x031]), canonical_of (by decide +kernel), passes_of (by decide +kernel), by decide +kernel⟩,
    ⟨up.withAfe { up.afe with load := some 4095 }, 4095, canonical_of (by decide +kernel), by decide +kernel⟩,
    ⟨up.setGrp 0 { grp0 with fast := some 3, fastFaults := 4, slot := some (slotOf 3 .conv) }, (0 : BitVec 5), 3, slotOf 3 .conv, (⟨0x7FFFFF, [(false, false), (true, false)], false⟩ : ConvReading), canonical_of (by decide +kernel), by decide +kernel⟩,
    ⟨up.setGrp 0 { grp0 with fast := some 3, slot := some (slotOf 3 .conv) }, (0 : BitVec 5), 3, slotOf 3 .conv, canonical_of (by decide +kernel), by decide +kernel⟩,
    ⟨up.put F.afcCtlScanEn 1, canonical_of (by decide +kernel), by decide +kernel⟩⟩

/-- The hypotheses of `Obligations.RepeaterBoundaryTakesEffect` are met, clause by clause. -/
theorem witness_RepeaterBoundaryTakesEffect :
    (∃ (s : State) (n : BitVec 4), s.Canonical ∧ s.repDead = false ∧ s.flag (F.hdrPageCommitCommit.page 0x032) = false ∧ s.get (F.repCfgMode.idx n.toNat) ≠ 0) :=
  ⟨(enabled [0x032]).put (F.repCfgMode.idx 15) 1, (15 : BitVec 4), canonical_of (by decide +kernel), by decide +kernel⟩

/-- The hypotheses of `Obligations.DiscreteIoTakesEffect` are met, clause by clause. -/
theorem witness_DiscreteIoTakesEffect :
    (∃ (s : State) (h : HostId) (v : BitVec 16) (m : _), s.Canonical ∧ Passes h 0x03304C (v.setWidth 32) m s ∧ m &&& 0xFFFF = 0xFFFF) ∧
    (∃ (s : State) (k : BitVec 4), s.Canonical ∧ (s.get F.dioDoNowOn).testBit k.toNat = true ∧ s.doCommanded k.toNat = true) ∧
    (∃ (s : State) (k : BitVec 4) (t0 : _), s.Canonical ∧ s.outs.ovlAt.find? (fun x => x.1 == k.toNat) = some (k.toNat, t0) ∧ 32 ≤ s.since t0 ∧ s.doCommanded k.toNat = true ∧ (s.get F.dioDoNowOvl).testBit k.toNat = true ∧ s.doDead = false) ∧
    (∃ (s : State) (p : _), s.Canonical ∧ s.diGood = true ∧ s.outs.diPrev = some p ∧ p < 2 ^ 64) ∧
    (∃ (s : State) (di : BitVec 6) (filt : Byte) (i : _), s.Canonical ∧ s.diGood = true ∧ i ∈ s.diPoints 0 (· == di.toNat) ∧ (s.pcfg i).diFilt = filt.toNat ∧ s.inEdit i = false) ∧
    (∃ (s : State) (i : PointIdx) (p : _), s.Canonical ∧ s.diGood = true ∧ i.toNat ∈ s.diPoints 2 (fun _ => true) ∧ s.pt i.toNat = some p ∧ s.inEdit i.toNat = false ∧ 32 ≤ s.since p.accTick) :=
  ⟨⟨enabled [0x033], .a, (0x8001 : BitVec 16), pass .a 0x03304C ((0x8001 : BitVec 16).setWidth 32) (enabled [0x033]), canonical_of (by decide +kernel), passes_of (by decide +kernel), by decide +kernel⟩,
    ⟨(((enabled [0x033]).put (F.dioDoCfgSrc.idx 15) 1).put F.dioDoSetSet 0x8000).put F.dioDoNowOn 0x8000, (15 : BitVec 4), canonical_of (by decide +kernel), by decide +kernel⟩,
    ⟨let u := ((((enabled [0x033]).put (F.dioDoCfgSrc.idx 15) 1).put F.dioDoSetSet 0x8000).put F.dioDoNowOvl 0x8000).put F.tideNowNow 32; u.withOuts { u.outs with ovlAt := [(15, 0)] }, (15 : BitVec 4), 0, canonical_of (by decide +kernel), by decide +kernel⟩,
    ⟨(enabled [0x033]).withOuts { up.outs with diPrev := some 0 }, 0, canonical_of (by decide +kernel), by decide +kernel⟩,
    ⟨withPt 3 pt1 [(0, 0x20A0003F), (15, 0x10000)] (enabled [0x033]), (63 : BitVec 6), (10 : BitVec 8), 3, canonical_of (by decide +kernel), by decide +kernel⟩,
    ⟨withPt 3 pt1 [(0, 0x200000BF), (15, 0x10000)] ((enabled [0x033]).put F.tideNowNow 32), (3 : PointIdx), pt1, canonical_of (by decide +kernel), by decide +kernel⟩⟩

/-- The hypotheses of `Obligations.ExpiriesTakeEffect` are met, clause by clause. -/
theorem witness_ExpiriesTakeEffect :
    (∃ (s : State) (i : PointIdx) (p : Point) (tk : _), s.Canonical ∧ s.engineRuns = true ∧ s.pt i.toNat = some p ∧ s.inEdit i.toNat = false ∧ s.heldPt i.toNat p = false ∧ s.eng.trigs = [] ∧ p.staleAt = some tk ∧ s.reached tk = true ∧ p.oos = false ∧ s.unfittedPt (s.pcfg i.toNat) = false) ∧
    (∃ (s : State) (i : PointIdx) (p : Point) (tk : _) (v : _) (st : _), s.Canonical ∧ s.engineRuns = true ∧ s.pt i.toNat = some p ∧ s.inEdit i.toNat = false ∧ s.heldPt i.toNat p = false ∧ s.eng.trigs = [] ∧ p.dly = some (.on, tk) ∧ s.reached tk = true ∧ p.usable = some (v, st)) ∧
    (∃ (s : State) (i : PointIdx) (p : Point) (tk : _) (v : _) (st : _), s.Canonical ∧ s.engineRuns = true ∧ s.pt i.toNat = some p ∧ s.inEdit i.toNat = false ∧ s.heldPt i.toNat p = false ∧ s.eng.trigs = [] ∧ p.dly = some (.off, tk) ∧ s.reached tk = true ∧ p.usable = some (v, st)) ∧
    (∃ (s : State) (i : PointIdx) (p : Point) (tk : _), s.Canonical ∧ s.engineRuns = true ∧ s.pt i.toNat = some p ∧ s.inEdit i.toNat = false ∧ s.heldPt i.toNat p = false ∧ s.eng.trigs = [] ∧ p.dly = some (.runup, tk) ∧ s.reached tk = true) ∧
    (∃ (s : State) (i : PointIdx) (p : Point) (tk : _), s.Canonical ∧ s.engineRuns = true ∧ s.pt i.toNat = some p ∧ s.inEdit i.toNat = false ∧ s.heldPt i.toNat p = false ∧ s.eng.trigs = [] ∧ p.shelveAt = some tk ∧ s.reached tk = true) ∧
    (∃ (s : State) (i : PointIdx) (p : Point) (tk : _), s.Canonical ∧ s.engineRuns = true ∧ s.pt i.toNat = some p ∧ s.inEdit i.toNat = false ∧ s.heldPt i.toNat p = false ∧ s.eng.trigs = [] ∧ p.escAt = some tk ∧ s.reached tk = true) :=
  ⟨⟨withPt 3 { pt1 with staleAt := some 7 } [(15, 0x10000)] (at_ 7), (3 : PointIdx), { pt1 with staleAt := some 7 }, 7, canonical_of (by decide +kernel), by decide +kernel⟩,
    ⟨withPt 3 { pt1 with dly := some (.on, 7) } [(15, 0x10000)] (at_ 7), (3 : PointIdx), { pt1 with dly := some (.on, 7) }, 7, 0, SrcStatus.valid, canonical_of (by decide +kernel), by decide +kernel⟩,
    ⟨withPt 3 { pt1 with dly := some (.off, 7), vstate := .high } [(15, 0x10000)] (at_ 7), (3 : PointIdx), { pt1 with dly := some (.off, 7), vstate := .high }, 7, 0, SrcStatus.valid, canonical_of (by decide +kernel), by decide +kernel⟩,
    ⟨withPt 3 { pt1 with dly := some (.runup, 7), inhibited := true } [(15, 0x10000)] (at_ 7), (3 : PointIdx), { pt1 with dly := some (.runup, 7), inhibited := true }, 7, canonical_of (by decide +kernel), by decide +kernel⟩,
    ⟨withPt 3 { pt1 with shelved := true, shelveAt := some 7 } [(15, 0x10000)] (at_ 8), (3 : PointIdx), { pt1 with shelved := true, shelveAt := some 7 }, 7, canonical_of (by decide +kernel), by decide +kernel⟩,
    ⟨withPt 3 { pt1 with escAt := some 7, astate := .activeUnack, silenced := true } [(15, 0x10000)] (at_ 7), (3 : PointIdx), { pt1 with escAt := some 7, astate := .activeUnack, silenced := true }, 7, canonical_of (by decide +kernel), by decide +kernel⟩⟩

/-- The hypotheses of `Obligations.EnginePassesTakeEffect` are met, clause by clause. -/
theorem witness_EnginePassesTakeEffect :
    (∃ (s : State) (i : _) (u : _) (p : _), s.Canonical ∧ s.engineRuns = true ∧ s.eng.trigs = [.deliver i u .valid 0 0] ∧ s.pt i = some p ∧ s.heldPt i p = false ∧ p.oos = false ∧ (∀ x ∈ s.eng.pts, dueCount s x.2 = 0) ∧ F32.isFinite (F32.fma (s.pcfg i).gain u (s.pcfg i).offset) = true) ∧
    (∃ (s : State) (i : PointIdx) (p : _), s.Canonical ∧ s.engineRuns = true ∧ s.pt i.toNat = some p ∧ s.heldPt i.toNat p = false ∧ p.oos = false ∧ s.inEdit i.toNat = false ∧ s.eng.trigs = [] ∧ (s.pcfg i.toNat).kind = 6 ∧ (s.pcfg i.toNat).func = 8 ∧ 1152 ≤ s.since p.accTick ∧ s.ptOn (s.pcfg i.toNat).subject = true ∧ p.subjOn = some true) ∧
    (∃ (s : State) (h : HostId) (m : _) (i : _) (p : _) (v : _) (st : _), s.Canonical ∧ Passes h 0x04004C (bitWord 0) m s ∧ getBit m 0 = true ∧ getBit m 1 = false ∧ s.engineRuns = true ∧ s.quiet = true ∧ s.eng.pts = [(i, p)] ∧ s.inEdit i = false ∧ p.oos = false ∧ p.dead = false ∧ p.reason ≠ 3 ∧ s.eng.restoring = [] ∧ (s.pcfg i).gateEn = false ∧ p.gate = none ∧ p.inhibited = false ∧ p.dly = none ∧ p.vstate ≠ .fault ∧ p.vstate ≠ .unknown ∧ p.usable = some (v, st)) ∧
    (∃ (s : State) (h : HostId) (m : _), s.Canonical ∧ Passes h 0x04004C (bitWord 1) m s ∧ getBit m 1 = true ∧ getBit m 0 = false) ∧
    (∃ (s : State) (h : HostId) (m : _), s.Canonical ∧ Passes h 0x041050 (bitWord 0) m s ∧ getBit m 0 = true) ∧
    (∃ (s : State) (h : HostId) (m : _), s.Canonical ∧ Passes h 0x04205C (bitWord 0) m s ∧ getBit m 0 = true) :=
  ⟨⟨let u := withPt 3 pt1 [(2, 0x3F800000), (15, 0x10000)] up; u.withEng { u.eng with trigs := [.deliver 3 0x40000000 .valid 0 0] }, 3, 0x40000000, pt1, canonical_of (by decide +kernel), by decide +kernel⟩,
    ⟨withPt 4 { pt1 with value := 0x3F800000, usable := some (0x3F800000, .valid) } [(15, 0x10000)] (withPt 3 { pt1 with subjOn := some true } [(0, 0x68000000), (1, 4), (15, 0x10000)] (at_ 1152)), (3 : PointIdx), { pt1 with subjOn := some true }, canonical_of (by decide +kernel), by decide +kernel⟩,
    ⟨withPt 3 pt1 [(15, 0x10000)] (enabled [0x040]), .a, pass .a 0x04004C (bitWord 0) (withPt 3 pt1 [(15, 0x10000)] (enabled [0x040])), 3, pt1, 0, SrcStatus.valid, canonical_of (by decide +kernel), passes_of (by decide +kernel), by decide +kernel⟩,
    ⟨up.put F.pteLoadPeak 5, .a, pass .a 0x04004C (bitWord 1) (up.put F.pteLoadPeak 5), canonical_of (by decide +kernel), passes_of (by decide +kernel), by decide +kernel⟩,
    ⟨up.put F.tideMaxexpCount 5, .a, pass .a 0x041050 (bitWord 0) (up.put F.tideMaxexpCount 5), canonical_of (by decide +kernel), passes_of (by decide +kernel), by decide +kernel⟩,
    ⟨up.withEng { up.eng with firsts := [(0, (5, 6)), (1, (2, 3))] }, .a, pass .a 0x04205C (bitWord 0) (up.withEng { up.eng with firsts := [(0, (5, 6)), (1, (2, 3))] }), canonical_of (by decide +kernel), passes_of (by decide +kernel), by decide +kernel⟩⟩

/-- The hypotheses of `Obligations.ManifestEditsTakeEffect` are met, clause by clause. -/
theorem witness_ManifestEditsTakeEffect :
    (∃ (s : State) (h : HostId) (m : _), s.Canonical ∧ Passes h 0x044044 (bitWord 0) m s ∧ getBit m 0 = true ∧ getBit m 1 = false ∧ getBit m 2 = false ∧ s.eng.edit = none ∧ (s.editRange).2 ≤ 131071) ∧
    (∃ (s : State) (f : _) (l : _) (h : _), s.Canonical ∧ s.eng.openReq = some (f, l, h) ∧ s.engineRuns = true ∧ s.tt.pending = none ∧ s.isOwner h = true) ∧
    (∃ (s : State) (h : HostId) (m : _) (r : _), s.Canonical ∧ Passes h 0x044044 (bitWord 1) m s ∧ getBit m 1 = true ∧ getBit m 0 = false ∧ getBit m 2 = false ∧ s.eng.edit = some r) ∧
    (∃ (s : State) (f : _) (l : _) (t0 : _), s.Canonical ∧ s.eng.edit = some (f, l, t0) ∧ s.engineRuns = true ∧ s.flag F.manCmdClose = true) ∧
    (∃ (s : State) (f : _) (l : _) (t0 : _), s.Canonical ∧ s.eng.edit = some (f, l, t0) ∧ s.engineRuns = true ∧ 320 ≤ s.since t0) ∧
    (∃ (s : State) (h : HostId) (m : _) (x : _), s.Canonical ∧ Passes h 0x044044 (bitWord 2) m s ∧ getBit m 2 = true ∧ getBit m 0 = false ∧ getBit m 1 = false ∧ s.eng.edit = none ∧ s.eng.pts.find? (fun x => x.2.slot == some (s.get F.manCntSlotSlot)) = some x) :=
  ⟨⟨up.put F.manEditFirst 131071, .a, pass .a 0x044044 (bitWord 0) (up.put F.manEditFirst 131071), canonical_of (by decide +kernel), passes_of (by decide +kernel), by decide +kernel⟩,
    ⟨up.withEng { up.eng with openReq := some (3, 3, .a) }, 3, 3, HostId.a, canonical_of (by decide +kernel), by decide +kernel⟩,
    ⟨up.withEng { up.eng with edit := some (3, 3, 0) }, .a, pass .a 0x044044 (bitWord 1) (up.withEng { up.eng with edit := some (3, 3, 0) }), ((3, 3, 0) : Nat × Nat × Nat), canonical_of (by decide +kernel), passes_of (by decide +kernel), by decide +kernel⟩,
    ⟨let u := withPt 3 pt1 [] (up.put F.manCmdClose 1); u.withEng { u.eng with edit := some (3, 3, 0) }, 3, 3, 0, canonical_of (by decide +kernel), by decide +kernel⟩,
    ⟨let u := withPt 3 pt1 [] (at_ 320); u.withEng { u.eng with edit := some (3, 3, 0) }, 3, 3, 0, canonical_of (by decide +kernel), by decide +kernel⟩,
    ⟨withPt 3 { pt1 with slot := some 0 } [(0, 0x68000000), (15, 0x10000)] up, .a, pass .a 0x044044 (bitWord 2) (withPt 3 { pt1 with slot := some 0 } [(0, 0x68000000), (15, 0x10000)] up), ((3, { pt1 with slot := some 0 }) : Nat × Point), canonical_of (by decide +kernel), passes_of (by decide +kernel), by decide +kernel⟩⟩

/-- The hypotheses of `Obligations.PointCommandsTakeEffect` are met, clause by clause. -/
theorem witness_PointCommandsTakeEffect :
    (∃ (s : State) (h : HostId) (i : PointIdx) (m : Word) (p : Point), s.Canonical ∧ s.standby = false ∧ m ≠ 0 ∧ s.getH h F.pteOpresBusy = 0 ∧ s.quiet = true ∧ i.toNat ∉ s.eng.restoring ∧ s.pt i.toNat = some p ∧ p.oos = false ∧ s.inEdit i.toNat = false ∧ p.unacked = true ∧ Passes h 0x040050 (opWord 1 i.toNat) m s ∧ (s.regH h 0x040054).toNat = p.inst) ∧
    (∃ (s : State) (h : HostId) (i : PointIdx) (m : Word) (p : Point), s.Canonical ∧ s.standby = false ∧ m ≠ 0 ∧ s.getH h F.pteOpresBusy = 0 ∧ s.quiet = true ∧ i.toNat ∉ s.eng.restoring ∧ s.pt i.toNat = some p ∧ p.oos = false ∧ s.inEdit i.toNat = false ∧ p.unacked = true ∧ Passes h 0x040050 (opWord 2 i.toNat) m s) :=
  ⟨⟨withPt 3 { pt1 with astate := .rectUnack } [(15, 0x10000)] up, .a, (3 : PointIdx), pass .a 0x040050 (opWord 1 (3 : PointIdx).toNat) (withPt 3 { pt1 with astate := .rectUnack } [(15, 0x10000)] up), { pt1 with astate := .rectUnack }, canonical_of (by decide +kernel), by decide +kernel, by decide +kernel, (by decide +kernel), by decide +kernel, by decide +kernel, by decide +kernel, (by decide +kernel), by decide +kernel, by decide +kernel, passes_of (by decide +kernel), (by decide +kernel)⟩,
    ⟨withPt 3 { pt1 with astate := .rectUnack } [(15, 0x10000)] up, .a, (3 : PointIdx), pass .a 0x040050 (opWord 2 (3 : PointIdx).toNat) (withPt 3 { pt1 with astate := .rectUnack } [(15, 0x10000)] up), { pt1 with astate := .rectUnack }, canonical_of (by decide +kernel), by decide +kernel, by decide +kernel, (by decide +kernel), by decide +kernel, by decide +kernel, by decide +kernel, (by decide +kernel), by decide +kernel, by decide +kernel, passes_of (by decide +kernel)⟩⟩

/-- The hypotheses of `Obligations.ScopeCommandsTakeEffect` are met, clause by clause. -/
theorem witness_ScopeCommandsTakeEffect :
    (∃ (s : State) (h : HostId) (m : Word) (g : GroupIdx), s.Canonical ∧ s.standby = false ∧ m ≠ 0 ∧ s.getH h F.pteOpresBusy = 0 ∧ s.quiet = true ∧ Passes h 0x040050 (opWord 3 g.toNat) m s) ∧
    (∃ (s : State) (h : HostId) (m : Word), s.Canonical ∧ s.standby = false ∧ m ≠ 0 ∧ s.getH h F.pteOpresBusy = 0 ∧ s.quiet = true ∧ Passes h 0x040050 (opWord 5 0) m s) ∧
    (∃ (s : State) (h : HostId) (m : Word), s.Canonical ∧ s.standby = false ∧ m ≠ 0 ∧ s.getH h F.pteOpresBusy = 0 ∧ s.quiet = true ∧ Passes h 0x040050 (opWord 4 0) m s) ∧
    (∃ (s : State) (h : HostId) (m : Word) (v : Word), s.Canonical ∧ s.standby = false ∧ m ≠ 0 ∧ s.getH h F.pteOpresBusy = 0 ∧ s.quiet = true ∧ Passes h 0x040050 v m s ∧ (getBits v 31 28 = 0 ∨ 5 < getBits v 31 28)) ∧
    (∃ (s : State) (h : HostId) (m : Word) (v : Word), s.Canonical ∧ s.standby = false ∧ m ≠ 0 ∧ s.getH h F.pteOpresBusy = 0 ∧ s.quiet = true ∧ Passes h 0x040060 v m s ∧ s.get F.pteAdmresBusy = 0 ∧ (getBits v 31 28 = 0 ∨ 4 < getBits v 31 28)) :=
  ⟨⟨withPt 3 { pt1 with astate := .rectUnack } [(11, 0x1005), (15, 0x10000)] up, .a, pass .a 0x040050 (opWord 3 (5 : GroupIdx).toNat) (withPt 3 { pt1 with astate := .rectUnack } [(11, 0x1005), (15, 0x10000)] up), (5 : GroupIdx), canonical_of (by decide +kernel), by decide +kernel, by decide +kernel, (by decide +kernel), by decide +kernel, passes_of (by decide +kernel)⟩,
    ⟨withPt 3 { pt1 with astate := .rectUnack } [(9, 0x10000000), (15, 0x10000)] up, .a, pass .a 0x040050 (opWord 5 0) (withPt 3 { pt1 with astate := .rectUnack } [(9, 0x10000000), (15, 0x10000)] up), canonical_of (by decide +kernel), by decide +kernel, by decide +kernel, (by decide +kernel), by decide +kernel, passes_of (by decide +kernel)⟩,
    ⟨withPt 3 { pt1 with astate := .rectUnack } [(15, 0x10000)] up, .a, pass .a 0x040050 (opWord 4 0) (withPt 3 { pt1 with astate := .rectUnack } [(15, 0x10000)] up), canonical_of (by decide +kernel), by decide +kernel, by decide +kernel, (by decide +kernel), by decide +kernel, passes_of (by decide +kernel)⟩,
    ⟨up, .a, pass .a 0x040050 (0x60000000 : Word) up, (0x60000000 : Word), canonical_of (by decide +kernel), by decide +kernel, by decide +kernel, (by decide +kernel), by decide +kernel, passes_of (by decide +kernel), by decide +kernel⟩,
    ⟨up, .a, pass .a 0x040060 (0x50000000 : Word) up, (0x50000000 : Word), canonical_of (by decide +kernel), by decide +kernel, by decide +kernel, (by decide +kernel), by decide +kernel, passes_of (by decide +kernel), by decide +kernel⟩⟩

/-- The hypotheses of `Obligations.AdministrativeCommandsTakeEffect` are met, clause by clause. -/
theorem witness_AdministrativeCommandsTakeEffect :
    (∃ (s : State) (h : HostId) (i : PointIdx) (m : Word) (p : Point), s.Canonical ∧ s.standby = false ∧ m ≠ 0 ∧ s.get F.pteAdmresBusy = 0 ∧ s.quiet = true ∧ i.toNat ∉ s.eng.restoring ∧ s.pt i.toNat = some p ∧ s.inEdit i.toNat = false ∧ Passes h 0x040060 (opWord 1 i.toNat) m s ∧ p.oos = false ∧ (s.pcfg i.toNat).prio ≠ 0 ∧ (s.pcfg i.toNat).cat ≠ 0 ∧ s.get F.pteAdmargDuration ≠ 0) ∧
    (∃ (s : State) (h : HostId) (i : PointIdx) (m : Word) (p : Point), s.Canonical ∧ s.standby = false ∧ m ≠ 0 ∧ s.get F.pteAdmresBusy = 0 ∧ s.quiet = true ∧ i.toNat ∉ s.eng.restoring ∧ s.pt i.toNat = some p ∧ s.inEdit i.toNat = false ∧ Passes h 0x040060 (opWord 2 i.toNat) m s ∧ p.oos = false ∧ p.shelved = true) ∧
    (∃ (s : State) (h : HostId) (i : PointIdx) (m : Word) (p : Point), s.Canonical ∧ s.standby = false ∧ m ≠ 0 ∧ s.get F.pteAdmresBusy = 0 ∧ s.quiet = true ∧ i.toNat ∉ s.eng.restoring ∧ s.pt i.toNat = some p ∧ s.inEdit i.toNat = false ∧ Passes h 0x040060 (opWord 3 i.toNat) m s ∧ p.oos = false ∧ p.dead = false) ∧
    (∃ (s : State) (h : HostId) (i : PointIdx) (m : Word) (p : Point), s.Canonical ∧ s.standby = false ∧ m ≠ 0 ∧ s.get F.pteAdmresBusy = 0 ∧ s.quiet = true ∧ i.toNat ∉ s.eng.restoring ∧ s.pt i.toNat = some p ∧ s.inEdit i.toNat = false ∧ Passes h 0x040060 (opWord 4 i.toNat) m s ∧ p.oos = true ∧ (s.pcfg i.toNat).used = true) :=
  ⟨⟨(withPt 3 pt1 [(9, 0x14000000), (15, 0x10000)] up).put F.pteAdmargDuration 1, .a, (3 : PointIdx), pass .a 0x040060 (opWord 1 (3 : PointIdx).toNat) ((withPt 3 pt1 [(9, 0x14000000), (15, 0x10000)] up).put F.pteAdmargDuration 1), pt1, canonical_of (by decide +kernel), by decide +kernel, by decide +kernel, (by decide +kernel), by decide +kernel, by decide +kernel, by decide +kernel, (by decide +kernel), passes_of (by decide +kernel), by decide +kernel⟩,
    ⟨withPt 3 { pt1 with shelved := true } [(15, 0x10000)] up, .a, (3 : PointIdx), pass .a 0x040060 (opWord 2 (3 : PointIdx).toNat) (withPt 3 { pt1 with shelved := true } [(15, 0x10000)] up), { pt1 with shelved := true }, canonical_of (by decide +kernel), by decide +kernel, by decide +kernel, (by decide +kernel), by decide +kernel, by decide +kernel, by decide +kernel, (by decide +kernel), passes_of (by decide +kernel), by decide +kernel⟩,
    ⟨withPt 3 pt1 [(15, 0x10000)] up, .a, (3 : PointIdx), pass .a 0x040060 (opWord 3 (3 : PointIdx).toNat) (withPt 3 pt1 [(15, 0x10000)] up), pt1, canonical_of (by decide +kernel), by decide +kernel, by decide +kernel, (by decide +kernel), by decide +kernel, by decide +kernel, by decide +kernel, (by decide +kernel), passes_of (by decide +kernel), by decide +kernel⟩,
    ⟨withPt 3 { pt1 with oos := true } [(15, 0x10000)] up, .a, (3 : PointIdx), pass .a 0x040060 (opWord 4 (3 : PointIdx).toNat) (withPt 3 { pt1 with oos := true } [(15, 0x10000)] up), { pt1 with oos := true }, canonical_of (by decide +kernel), by decide +kernel, by decide +kernel, (by decide +kernel), by decide +kernel, by decide +kernel, by decide +kernel, (by decide +kernel), passes_of (by decide +kernel), by decide +kernel⟩⟩

/-- The hypotheses of `Obligations.OperatorInputsAndMemoryFaultsTakeEffect` are met, clause by clause. -/
theorem witness_OperatorInputsAndMemoryFaultsTakeEffect :
    (∃ (s : State), s.Canonical ∧ s.diGood = true ∧ s.quiet = true ∧ s.flag F.pteAckdiAckEn = true) ∧
    (∃ (s : State), s.Canonical ∧ s.diGood = true ∧ s.quiet = true ∧ s.flag F.pteAckdiSilEn = true) ∧
    (∃ (s : State) (n : Nat), s.Canonical ∧ 0 < n) ∧
    (∃ (s : State), s.Canonical) ∧
    (∃ (s : State), s.Canonical ∧ 0 < s.get F.pteSpareLeft) ∧
    (∃ (s : State), s.Canonical ∧ s.get F.pteSpareLeft = 0) ∧
    (∃ (s : State), s.Canonical ∧ s.eng.restoring ≠ [] ∧ s.eng.restoringCfg = [] ∧ s.eng.waiting = []) ∧
    (∃ (s : State), s.Canonical ∧ s.eng.egress ≠ []) :=
  ⟨⟨(withPt 3 { pt1 with astate := .rectUnack } [(9, 0x10000000), (15, 0x10000)] (enabled [0x033])).put F.pteAckdiAckEn 1, canonical_of (by decide +kernel), by decide +kernel⟩,
    ⟨(withPt 3 { pt1 with astate := .rectUnack } [(15, 0x10000)] (enabled [0x033])).put F.pteAckdiSilEn 1, canonical_of (by decide +kernel), by decide +kernel⟩,
    ⟨up, (1 : Nat), canonical_of (by decide +kernel), by decide +kernel⟩,
    ⟨up, canonical_of (by decide +kernel)⟩,
    ⟨up.put F.pteSpareLeft 1, canonical_of (by decide +kernel), by decide +kernel⟩,
    ⟨withPt 3 pt1 [(15, 0x10000)] (up.put F.pteSpareLeft 0), canonical_of (by decide +kernel), by decide +kernel⟩,
    ⟨let u := withPt 3 pt1 [(15, 0x10000)] up; u.withEng { u.eng with restoring := [3] }, canonical_of (by decide +kernel), by decide +kernel⟩,
    ⟨let u := withPt 3 pt1 [(15, 0x10000)] up; u.withEng { u.eng with egress := [(3, ⟨.point, 0x040, 0x4080, 3, [], false⟩)], restoring := [3] }, canonical_of (by decide +kernel), by decide +kernel⟩⟩

/-- The hypotheses of `Obligations.CallsAndDeadManWatchTakeEffect` are met, clause by clause. -/
theorem witness_CallsAndDeadManWatchTakeEffect :
    (∃ (s : State) (k : BitVec 4) (c : Call), s.Canonical ∧ s.isDuty = true ∧ s.callOf k.toNat = some c ∧ c.stage ≤ 2 ∧ c.deadline.any s.reached = true) ∧
    (∃ (s : State) (k : BitVec 4) (c : Call), s.Canonical ∧ s.isDuty = true ∧ s.callOf k.toNat = some c ∧ c.stage = 4 ∧ c.deadline.any s.reached = true) ∧
    (∃ (s : State) (k : BitVec 4) (c : Call), s.Canonical ∧ s.isDuty = true ∧ s.callOf k.toNat = some c ∧ c.stage ≤ 3 ∧ (c.stage = 3 ∨ (s.stageUnits c.stage).any s.unitReachable = true) ∧ s.call.calls = [c]) ∧
    (∃ (s : State) (k : BitVec 4) (c : Call) (h : HostId) (m : _), s.Canonical ∧ s.isDuty = true ∧ s.callOf k.toNat = some c ∧ Passes h 0x043058 (callCmdWord 1 k.toNat) m s ∧ getBits m 31 28 ≠ 0) ∧
    (∃ (s : State), s.Canonical ∧ s.dmEn = true ∧ s.diGood = true ∧ s.get F.callDmStatState ≠ 3) ∧
    (∃ (s : State), s.Canonical ∧ s.dmEn = true ∧ s.diGood = true ∧ s.get F.callDmStatState ≠ 0) ∧
    (∃ (s : State), s.Canonical ∧ s.dmEn = true ∧ s.diGood = true ∧ s.get F.callDmStatState ≠ 3) ∧
    (∃ (s : State), s.Canonical ∧ s.dmEn = true ∧ s.diGood = true ∧ s.get F.callDmStatState = 1 ∧ s.dmDue (s.get F.callDmTimeLimit - s.get F.callDmTimePrewarn) = true) ∧
    (∃ (s : State), s.Canonical ∧ s.dmEn = true ∧ s.diGood = true ∧ s.get F.callDmStatState = 2 ∧ s.dmDue (s.get F.callDmTimeLimit) = true) ∧
    (∃ (s : State) (h : HostId) (m : _), s.Canonical ∧ s.dmEn = true ∧ s.diGood = true ∧ Passes h 0x043058 (callCmdWord 2 0) m s ∧ getBits m 31 28 ≠ 0) :=
  ⟨⟨((at_ 7).put F.callStatIsDuty 1).setCallOf ⟨3, 0, 0, some 7, false, [], [], 1⟩, (3 : BitVec 4), ⟨3, 0, 0, some 7, false, [], [], 1⟩, canonical_of (by decide +kernel), by decide +kernel⟩,
    ⟨((at_ 7).put F.callStatIsDuty 1).setCallOf ⟨3, 4, 0, some 7, false, [], [], 1⟩, (3 : BitVec 4), ⟨3, 4, 0, some 7, false, [], [], 1⟩, canonical_of (by decide +kernel), by decide +kernel⟩,
    ⟨((at_ 7).put F.callStatIsDuty 1).setCallOf ⟨3, 3, 0, none, false, [], [], 1⟩, (3 : BitVec 4), ⟨3, 3, 0, none, false, [], [], 1⟩, canonical_of (by decide +kernel), by decide +kernel⟩,
    ⟨((at_ 7).put F.callStatIsDuty 1).setCallOf ⟨3, 2, 0, none, false, [], [], 1⟩, (3 : BitVec 4), ⟨3, 2, 0, none, false, [], [], 1⟩, .a, pass .a 0x043058 (callCmdWord 1 (3 : BitVec 4).toNat) (((at_ 7).put F.callStatIsDuty 1).setCallOf ⟨3, 2, 0, none, false, [], [], 1⟩), canonical_of (by decide +kernel), by decide +kernel, by decide +kernel, passes_of (by decide +kernel), by decide +kernel⟩,
    ⟨(enabled [0x033]).put F.callDmCfgEn 1, canonical_of (by decide +kernel), by decide +kernel⟩,
    ⟨((enabled [0x033]).put F.callDmCfgEn 1).put F.callDmStatState 1, canonical_of (by decide +kernel), by decide +kernel⟩,
    ⟨((enabled [0x033]).put F.callDmCfgEn 1).put F.callDmStatState 1, canonical_of (by decide +kernel), by decide +kernel⟩,
    ⟨(((((enabled [0x033]).put F.callDmCfgEn 1).put F.callDmStatState 1).put F.callDmTimeLimit 600).put F.callDmTimePrewarn 60).put F.tideNowNow 17280, canonical_of (by decide +kernel), by decide +kernel⟩,
    ⟨(((((enabled [0x033]).put F.callDmCfgEn 1).put F.callDmStatState 2).put F.callDmTimeLimit 600).put F.callDmTimePrewarn 60).put F.tideNowNow 19200, canonical_of (by decide +kernel), by decide +kernel⟩,
    ⟨(enabled [0x033]).put F.callDmCfgEn 1, .a, pass .a 0x043058 (callCmdWord 2 0) ((enabled [0x033]).put F.callDmCfgEn 1), canonical_of (by decide +kernel), by decide +kernel, by decide +kernel, passes_of (by decide +kernel), by decide +kernel⟩⟩

/-- The hypotheses of `Obligations.CallUnitsTakeEffect` are met, clause by clause. -/
theorem witness_CallUnitsTakeEffect :
    (∃ (s : State), s.Canonical ∧ freeToSend s) ∧
    (∃ (s : State) (u : BitVec 6), s.Canonical ∧ unitOk u = true) ∧
    (∃ (s : State) (u : BitVec 6) (c : _), s.Canonical ∧ unitOk u = true ∧ s.diGood = true ∧ s.flag (F.callUnitEn.idx u.toNat) = true ∧ s.isDuty = true ∧ s.call.calls = [c] ∧ c.stage ≤ 3 ∧ (s.nodeId * 64 + u.toNat) ∈ c.units ∧ s.get F.callDmCfgDmUnit ≠ u.toNat) ∧
    (∃ (s : State) (frame : List Byte) (r : _), s.Canonical ∧ parseFrame frame = some r ∧ r.frame.cls = 0x04 ∧ r.frame.lenOk = true ∧ s.configured = true ∧ leAt r.frame.body 0 1 = 3 ∧ s.callIn = [] ∧ s.corrupt r.frame.tally = false ∧ s.mayStamp (receiptTally s.ord.tally r.frame.tally) = true) ∧
    (∃ (s : State) (frame : List Byte) (r : _), s.Canonical ∧ parseFrame frame = some r ∧ r.frame.cls = 0x04 ∧ r.frame.lenOk = true ∧ s.configured = true ∧ leAt r.frame.body 0 1 = 3 ∧ s.callIn = [] ∧ s.corrupt r.frame.tally = true) :=
  ⟨⟨streamUp, canonical_of (by decide +kernel), by decide +kernel⟩,
    ⟨(at_ 96).withCall { up.call with named := [⟨5, 1, 62, 0⟩] }, (62 : BitVec 6), canonical_of (by decide +kernel), by decide +kernel⟩,
    ⟨(((enabled [0x033]).put F.callStatIsDuty 1).put (F.callUnitEn.idx 62) 1).setCallOf ⟨3, 2, 0, none, false, [62], [], 1⟩, (62 : BitVec 6), (⟨3, 2, 0, none, false, [62], [], 1⟩ : Call), canonical_of (by decide +kernel), by decide +kernel⟩,
    ⟨streamUp, (frameOf 0x04 0 5 0 9 ([3] ++ List.replicate 15 0)).bytes 1 5 0, ((parseFrame ((frameOf 0x04 0 5 0 9 ([3] ++ List.replicate 15 0)).bytes 1 5 0)).getD ⟨frameOf 0 0 0 0 0 [], 0, 0, 0⟩), canonical_of (by decide +kernel), by decide +kernel⟩,
    ⟨up, (frameOf 0x04 0 5 0 (2 ^ 48 + 1) ([3] ++ List.replicate 15 0)).bytes 1 5 0, ((parseFrame ((frameOf 0x04 0 5 0 (2 ^ 48 + 1) ([3] ++ List.replicate 15 0)).bytes 1 5 0)).getD ⟨frameOf 0 0 0 0 0 [], 0, 0, 0⟩), canonical_of (by decide +kernel), by decide +kernel⟩⟩

/-- The hypotheses of `Obligations.FieldBusReceptionTakesEffect` are met, clause by clause. -/
theorem witness_FieldBusReceptionTakesEffect :
    (∃ (s : State) (seg : BitVec 3) (f : CanFrame), s.Canonical ∧ s.fbOn seg.toNat = true ∧ s.opmode seg.toNat ≠ 2 ∧ noCommit seg.toNat s ∧ (f.fdf = true → s.flag (F.fbDbtFdEn.page seg.toNat) = true) ∧ s.matchMbx seg.toNat f = none) ∧
    (∃ (s : State) (seg : BitVec 3) (f : CanFrame) (m : _), s.Canonical ∧ s.fbOn seg.toNat = true ∧ s.opmode seg.toNat ≠ 2 ∧ noCommit seg.toNat s ∧ (f.fdf = true → s.flag (F.fbDbtFdEn.page seg.toNat) = true) ∧ s.matchMbx seg.toNat f = some m ∧ (s.seg seg.toNat).shadows = [] ∧ (getBit (s.desc seg.toNat m 2) 0 = false ∨ getBit (s.winWord (bufAddr seg.toNat m)) 31 = false)) ∧
    (∃ (s : State) (seg : BitVec 3) (h : HostId) (mbx : BitVec 6) (m : _), s.Canonical ∧ Passes h (0x050080 + 0x1000 * seg.toNat) (mbx.setWidth 32) m s ∧ m ≠ 0 ∧ s.mbxTx seg.toNat mbx.toNat = false ∧ getBit (s.winWord (bufAddr seg.toNat mbx.toNat)) 31 = true ∧ (s.seg seg.toNat).shadows.find? (fun y => y.1 == mbx.toNat) = none) ∧
    (∃ (s : State) (seg : BitVec 3) (h : HostId) (mbx : BitVec 6) (m : _) (y : _), s.Canonical ∧ Passes h (0x050080 + 0x1000 * seg.toNat) (mbx.setWidth 32) m s ∧ m ≠ 0 ∧ s.mbxTx seg.toNat mbx.toNat = false ∧ getBit (s.winWord (bufAddr seg.toNat mbx.toNat)) 31 = true ∧ (s.seg seg.toNat).shadows.find? (fun y => y.1 == mbx.toNat) = some y) :=
  ⟨⟨bus, (0 : BitVec 3), (⟨false, 5, false, false, false, false, [1, 2], 2⟩ : CanFrame), canonical_of (by decide +kernel), by decide +kernel⟩,
    ⟨withPt 3 pt1 [(0, 0x31F80038), (15, 0x10000)] ((bus.setWinWord (mbxAddr 0 63) 0x80000005).setWinWord (mbxAddr 0 63 + 8) 8), (0 : BitVec 3), (⟨false, 5, false, false, false, false, [1, 2], 2⟩ : CanFrame), 63, canonical_of (by decide +kernel), by decide +kernel⟩,
    ⟨bus.setWinWord (bufAddr 0 63) 0x80000000, (0 : BitVec 3), .a, (63 : BitVec 6), pass .a (0x050080 + 0x1000 * (0 : BitVec 3).toNat) ((63 : BitVec 6).setWidth 32) (bus.setWinWord (bufAddr 0 63) 0x80000000), canonical_of (by decide +kernel), passes_of (by decide +kernel), by decide +kernel⟩,
    ⟨(bus.setWinWord (bufAddr 0 63) 0x80000000).setSeg 0 { bus.seg 0 with shadows := [(63, [0x80000001, 2, 3])] }, (0 : BitVec 3), .a, (63 : BitVec 6), pass .a (0x050080 + 0x1000 * (0 : BitVec 3).toNat) ((63 : BitVec 6).setWidth 32) ((bus.setWinWord (bufAddr 0 63) 0x80000000).setSeg 0 { bus.seg 0 with shadows := [(63, [0x80000001, 2, 3])] }), ((63, [0x80000001, 2, 3]) : Nat × List Word), canonical_of (by decide +kernel), passes_of (by decide +kernel), by decide +kernel⟩⟩

/-- The hypotheses of `Obligations.FieldBusTransmissionTakesEffect` are met, clause by clause. -/
theorem witness_FieldBusTransmissionTakesEffect :
    (∃ (s : State) (seg : BitVec 3) (h : HostId) (lo : BitVec 32) (m : _), s.Canonical ∧ Passes h (0x050060 + 0x1000 * seg.toNat) lo m s) ∧
    (∃ (s : State) (seg : BitVec 3) (h : HostId) (hi : BitVec 32) (m : _), s.Canonical ∧ hi ≠ 0 ∧ Passes h (0x050064 + 0x1000 * seg.toNat) hi m s) ∧
    (∃ (s : State) (seg : BitVec 3) (h : HostId) (lo : BitVec 32) (m : _), s.Canonical ∧ (s.seg seg.toNat).tx = none ∧ s.flag (F.fbKeptValid.page seg.toNat) = false ∧ Passes h (0x050068 + 0x1000 * seg.toNat) lo m s) ∧
    (∃ (s : State) (seg : BitVec 3) (h : HostId) (k : Nat) (m : _) (x : _), s.Canonical ∧ k < 32 ∧ (s.seg seg.toNat).tx = some x ∧ x.mbx = k ∧ x.kept = false ∧ s.flag (F.fbKeptValid.page seg.toNat) = false ∧ Passes h (0x050068 + 0x1000 * seg.toNat) (bitWord k) m s ∧ getBit m k = true) ∧
    (∃ (s : State) (seg : BitVec 3) (mbx : BitVec 6) (x : _) (overload : BitVec 4), s.Canonical ∧ (s.seg seg.toNat).tx = some x ∧ x.mbx = mbx.toNat ∧ x.fromSeg = none ∧ s.opmode seg.toNat ≠ 2 ∧ s.displaced seg.toNat mbx.toNat = false ∧ noCommit seg.toNat s ∧ s.get (F.fbErrTec.page seg.toNat) - 1 + 8 * overload.toNat < 256) ∧
    (∃ (s : State) (seg : BitVec 3) (mbx : BitVec 6) (x : _), s.Canonical ∧ (s.seg seg.toNat).tx = some x ∧ x.mbx = mbx.toNat ∧ x.fromSeg = none ∧ x.cancel = false ∧ s.displaced seg.toNat mbx.toNat = false ∧ s.retryOver seg.toNat x = false) ∧
    (∃ (s : State) (seg : BitVec 3) (mbx : BitVec 6) (x : _), s.Canonical ∧ (s.seg seg.toNat).tx = some x ∧ x.mbx = mbx.toNat ∧ x.fromSeg = none ∧ x.cancel = false ∧ s.displaced seg.toNat mbx.toNat = false ∧ s.retryOver seg.toNat x = true) :=
  ⟨⟨bus.put (F.hdrPageCtlEn.page 0x050) 0, (0 : BitVec 3), .a, (0x80000001 : BitVec 32), pass .a (0x050060 + 0x1000 * (0 : BitVec 3).toNat) (0x80000001 : BitVec 32) (bus.put (F.hdrPageCtlEn.page 0x050) 0), canonical_of (by decide +kernel), passes_of (by decide +kernel)⟩,
    ⟨bus, (0 : BitVec 3), .a, (0x80000001 : BitVec 32), pass .a (0x050064 + 0x1000 * (0 : BitVec 3).toNat) (0x80000001 : BitVec 32) bus, canonical_of (by decide +kernel), by decide +kernel, passes_of (by decide +kernel)⟩,
    ⟨(bus.put (F.fbTxreqLoReq.page 0) 0x80000003).put (F.hdrPageCtlEn.page 0x050) 0, (0 : BitVec 3), .a, (0x80000001 : BitVec 32), pass .a (0x050068 + 0x1000 * (0 : BitVec 3).toNat) (0x80000001 : BitVec 32) ((bus.put (F.fbTxreqLoReq.page 0) 0x80000003).put (F.hdrPageCtlEn.page 0x050) 0), canonical_of (by decide +kernel), by decide +kernel, by decide +kernel, passes_of (by decide +kernel)⟩,
    ⟨sending (tryOf 31) (bus.put (F.fbTxreqLoReq.page 0) 0x80000003), (0 : BitVec 3), .a, (31 : Nat), pass .a (0x050068 + 0x1000 * (0 : BitVec 3).toNat) (bitWord (31 : Nat)) (sending (tryOf 31) (bus.put (F.fbTxreqLoReq.page 0) 0x80000003)), tryOf 31, canonical_of (by decide +kernel), by decide +kernel, by decide +kernel, (by decide +kernel), by decide +kernel, by decide +kernel, passes_of (by decide +kernel), (by decide +kernel)⟩,
    ⟨sending (tryOf 31) ((bus.put (F.fbTxreqLoReq.page 0) 0x80000000).put (F.fbErrTec.page 0) 9), (0 : BitVec 3), (31 : BitVec 6), tryOf 31, (1 : BitVec 4), canonical_of (by decide +kernel), by decide +kernel⟩,
    ⟨sending (tryOf 31) ((bus.put (F.fbTxreqLoReq.page 0) 0x80000000).setWinWord (mbxAddr 0 31 + 8) 0x1000), (0 : BitVec 3), (31 : BitVec 6), tryOf 31, canonical_of (by decide +kernel), by decide +kernel⟩,
    ⟨sending (tryOf 31) (bus.put (F.fbTxreqLoReq.page 0) 0x80000000), (0 : BitVec 3), (31 : BitVec 6), tryOf 31, canonical_of (by decide +kernel), by decide +kernel⟩⟩

/-- The hypotheses of `Obligations.SailingMatrixTakesEffect` are met, clause by clause. -/
theorem witness_SailingMatrixTakesEffect :
    (∃ (s : State) (seg : BitVec 3), s.Canonical ∧ s.mxRun seg.toNat = true ∧ s.fbOn seg.toNat = true ∧ s.get (F.sailNowSlot.idx seg.toNat) < getBits (s.mxCfg seg.toNat) 4 0) ∧
    (∃ (s : State) (seg : BitVec 3), s.Canonical ∧ s.mxRun seg.toNat = true ∧ s.fbOn seg.toNat = true ∧ getBits (s.mxCfg seg.toNat) 4 0 ≤ s.get (F.sailNowSlot.idx seg.toNat) ∧ s.flag (F.hdrPageCommitCommit.page 0x058) = false) ∧
    (∃ (s : State) (seg : BitVec 3) (m : _), s.Canonical ∧ s.mxRun seg.toNat = true ∧ s.fbOn seg.toNat = true ∧ s.mxEntry seg.toNat = (3, m) ∧ m ∈ (s.seg seg.toNat).seen) ∧
    (∃ (s : State) (seg : BitVec 3) (m : _), s.Canonical ∧ s.mxRun seg.toNat = true ∧ s.fbOn seg.toNat = true ∧ s.mxEntry seg.toNat = (3, m) ∧ m ∉ (s.seg seg.toNat).seen) :=
  ⟨⟨(bus.setWinWord (segBase 0) 0x003F001F).put (F.sailNowSlot.idx 0) 30, (0 : BitVec 3), canonical_of (by decide +kernel), by decide +kernel⟩,
    ⟨((bus.setWinWord (segBase 0) 0x003F001F).put (F.sailNowSlot.idx 0) 31).put (F.sailNowCycle.idx 0) 63, (0 : BitVec 3), canonical_of (by decide +kernel), by decide +kernel⟩,
    ⟨(bus.setWinBytes (segBase 0 + 0x100) [0xFF]).setSeg 0 { bus.seg 0 with seen := [63] }, (0 : BitVec 3), 63, canonical_of (by decide +kernel), by decide +kernel⟩,
    ⟨(bus.setWinBytes (segBase 0 + 0x100) [0xFF]).setWinWord (mbxAddr 0 63 + 8) 0x10000, (0 : BitVec 3), 63, canonical_of (by decide +kernel), by decide +kernel⟩⟩

/-- The hypotheses of `Obligations.SegmentStatesTakeEffect` are met, clause by clause. -/
theorem witness_SegmentStatesTakeEffect :
    (∃ (s : State) (seg : BitVec 3), s.Canonical ∧ s.fbLive seg.toNat = true ∧ s.asleep seg.toNat = false ∧ s.flag (F.fbStatIntegrating.page seg.toNat) = true ∧ noCommit seg.toNat s) ∧
    (∃ (s : State) (seg : BitVec 3), s.Canonical ∧ s.flag (F.hdrPageCommitCommit.page (fbPage seg.toNat)) = true ∧ 32 ≤ s.since (s.seg seg.toNat).commitAt) ∧
    (∃ (s : State) (seg : BitVec 3) (h : HostId) (m : _), s.Canonical ∧ Passes h (0x05008C + 0x1000 * seg.toNat) 2 m s ∧ getBit m 1 = true ∧ s.opmode seg.toNat = 1 ∧ (∃ k ∈ bitsSet 8 (s.get (F.fbDetcfgEn.page seg.toNat)), s.goodCand seg.toNat k = true)) ∧
    (∃ (s : State) (seg : BitVec 3) (d : _) (c : _) (c' : _) (rest : _) (err : Bool), s.Canonical ∧ (s.seg seg.toNat).det = some d ∧ d.left = c :: c' :: rest ∧ (err = true ∨ s.get (F.fbDetcfgTmo.page seg.toNat) ≤ s.since d.at_)) ∧
    (∃ (s : State) (seg : BitVec 3) (d : _) (c : _) (err : Bool), s.Canonical ∧ (s.seg seg.toNat).det = some d ∧ d.left = [c] ∧ 3 ≤ d.round ∧ (err = true ∨ s.get (F.fbDetcfgTmo.page seg.toNat) ≤ s.since d.at_)) ∧
    (∃ (s : State) (seg : BitVec 3) (h : HostId) (m : _), s.Canonical ∧ Passes h (0x050040 + 0x1000 * seg.toNat) (setBits (readReg h (0x050040 + 0x1000 * seg.toNat) s) 15 15 1) m s ∧ getBit m 15 = true ∧ s.flag (F.fbCtlSleep.page seg.toNat) = false ∧ (s.seg seg.toNat).tx = none ∧ s.fbLive seg.toNat = true) ∧
    (∃ (s : State) (seg : BitVec 3) (h : HostId) (m : _), s.Canonical ∧ Passes h (0x05008C + 0x1000 * seg.toNat) 4 m s ∧ getBit m 2 = true ∧ s.asleep seg.toNat = true) ∧
    (∃ (s : State) (seg : BitVec 3), s.Canonical ∧ s.configured = true ∧ s.pageEn (fbPage seg.toNat) = true ∧ s.flag (F.fbCtlWakeEn.page seg.toNat) = true ∧ s.asleep seg.toNat = true) ∧
    (∃ (s : State) (seg : BitVec 3) (kind : BitVec 3) (eights : BitVec 4) (rec' : _), s.Canonical ∧ s.fbOn seg.toNat = true ∧ s.opmode seg.toNat = 0 ∧ rec' = s.get (F.fbErrRec.page seg.toNat) + b2n (kind != 0) + 8 * eights.toNat ∧ noCommit seg.toNat s) ∧
    (∃ (s : State) (seg : BitVec 3) (mbx : BitVec 6) (x : _) (lec : BitVec 3) (bit : _) (eights : BitVec 4), s.Canonical ∧ (s.seg seg.toNat).tx = some x ∧ x.mbx = mbx.toNat ∧ noCommit seg.toNat s ∧ x.trip = false ∧ x.lasting = false ∧ x.cancel = false ∧ s.displaced seg.toNat mbx.toNat = false ∧ (bit = true → mbx.toNat ∉ (s.seg seg.toNat).bitErrs) ∧ s.estate seg.toNat = 0 ∧ lec ≠ 1 ∧ s.get (F.fbErrTec.page seg.toNat) + 8 * eights.toNat < 248) ∧
    (∃ (s : State) (seg : BitVec 3), s.Canonical ∧ s.fbLive seg.toNat = true ∧ s.estate seg.toNat = 2 ∧ s.flag (F.fbCtlAutoRec.page seg.toNat) = true ∧ s.reached (((s.seg seg.toNat).boffAt + s.get (F.fbCtlBoffHold.page seg.toNat)) % 2 ^ 32) = true) ∧
    (∃ (s : State) (seg : BitVec 3) (h : HostId) (m : _), s.Canonical ∧ Passes h (0x05008C + 0x1000 * seg.toNat) 1 m s ∧ getBit m 0 = true ∧ s.estate seg.toNat = 2) ∧
    (∃ (s : State) (seg : BitVec 3), s.Canonical ∧ s.fbLive seg.toNat = true ∧ s.estate seg.toNat = 3) :=
  ⟨⟨bus.put (F.fbStatIntegrating.page 0) 1, (0 : BitVec 3), canonical_of (by decide +kernel), by decide +kernel⟩,
    ⟨(bus.put (F.hdrPageCommitCommit.page 0x050) 1).put F.tideNowNow 32, (0 : BitVec 3), canonical_of (by decide +kernel), by decide +kernel⟩,
    ⟨((bus.put (F.fbCtlOpmode.page 0) 1).put (F.fbDetcfgEn.page 0) 1).setReg 0x050100 0x013E1110, (0 : BitVec 3), .a, pass .a (0x05008C + 0x1000 * (0 : BitVec 3).toNat) 2 (((bus.put (F.fbCtlOpmode.page 0) 1).put (F.fbDetcfgEn.page 0) 1).setReg 0x050100 0x013E1110), canonical_of (by decide +kernel), passes_of (by decide +kernel), by decide +kernel⟩,
    ⟨bus.setSeg 0 { bus.seg 0 with det := some ⟨[0, 1], [0, 1], 1, 2, false, 0⟩ }, (0 : BitVec 3), (⟨[0, 1], [0, 1], 1, 2, false, 0⟩ : Detect), 0, 1, ([] : List Nat), true, canonical_of (by decide +kernel), by decide +kernel⟩,
    ⟨bus.setSeg 0 { bus.seg 0 with det := some ⟨[0, 1], [1], 3, 2, false, 0⟩ }, (0 : BitVec 3), (⟨[0, 1], [1], 3, 2, false, 0⟩ : Detect), 1, true, canonical_of (by decide +kernel), by decide +kernel⟩,
    ⟨bus, (0 : BitVec 3), .a, pass .a (0x050040 + 0x1000 * (0 : BitVec 3).toNat) (setBits (readReg .a (0x050040 + 0x1000 * (0 : BitVec 3).toNat) bus) 15 15 1) bus, canonical_of (by decide +kernel), passes_of (by decide +kernel), by decide +kernel⟩,
    ⟨(bus.put (F.fbStatAsleep.page 0) 1).put (F.fbCtlSleep.page 0) 1, (0 : BitVec 3), .a, pass .a (0x05008C + 0x1000 * (0 : BitVec 3).toNat) 4 ((bus.put (F.fbStatAsleep.page 0) 1).put (F.fbCtlSleep.page 0) 1), canonical_of (by decide +kernel), passes_of (by decide +kernel), by decide +kernel⟩,
    ⟨((bus.put (F.fbStatAsleep.page 0) 1).put (F.fbCtlSleep.page 0) 1).put (F.fbCtlWakeEn.page 0) 1, (0 : BitVec 3), canonical_of (by decide +kernel), by decide +kernel⟩,
    ⟨bus.put (F.fbErrRec.page 0) 127, (0 : BitVec 3), (5 : BitVec 3), (2 : BitVec 4), 144, canonical_of (by decide +kernel), by decide +kernel⟩,
    ⟨sending (tryOf 31) ((bus.put (F.fbTxreqLoReq.page 0) 0x80000000).put (F.fbErrTec.page 0) 239), (0 : BitVec 3), (31 : BitVec 6), tryOf 31, (4 : BitVec 3), true, (1 : BitVec 4), canonical_of (by decide +kernel), by decide +kernel⟩,
    ⟨((bus.put (F.fbStatEstate.page 0) 2).put (F.fbCtlAutoRec.page 0) 1).put F.tideNowNow (bus.get (F.fbCtlBoffHold.page 0)), (0 : BitVec 3), canonical_of (by decide +kernel), by decide +kernel⟩,
    ⟨bus.put (F.fbStatEstate.page 0) 2, (0 : BitVec 3), .a, pass .a (0x05008C + 0x1000 * (0 : BitVec 3).toNat) 1 (bus.put (F.fbStatEstate.page 0) 2), canonical_of (by decide +kernel), passes_of (by decide +kernel), by decide +kernel⟩,
    ⟨(bus.put (F.fbStatEstate.page 0) 3).put (F.fbErrTec.page 0) 77, (0 : BitVec 3), canonical_of (by decide +kernel), by decide +kernel⟩⟩

/-- The hypotheses of `Obligations.PanelFramesTakeEffect` are met, clause by clause. -/
theorem witness_PanelFramesTakeEffect :
    (∃ (s : State), s.Canonical ∧ s.panel.pwr = .lit ∧ 16 ≤ s.panel.row ∧ s.flag (F.hdrPageCommitCommit.page 0x088) = false ∧ Sparse.rising 0 s.panel.latched = true) ∧
    (∃ (s : State), s.Canonical ∧ s.panel.row < 16) ∧
    (∃ (s : State) (r : BitVec 4), s.Canonical ∧ r.toNat ≠ s.panel.row) ∧
    (∃ (s : State) (r : BitVec 4), s.Canonical ∧ s.panel.pwr = .lit ∧ r.toNat = s.panel.row) ∧
    (∃ (s : State), s.Canonical ∧ (s.flag F.lanStatDark = true ∨ ∃ at_, s.panel.tempAt = some at_ ∧ s.since at_ < 32)) ∧
    (∃ (s : State), s.Canonical ∧ s.flag F.lanStatDark = false ∧ (∀ at_, s.panel.tempAt = some at_ → 32 ≤ s.since at_)) ∧
    (∃ (s : State), s.Canonical ∧ s.standby = true ∧ s.now % 32 = 0 ∧ s.flag F.lanBeaconEn = true ∧ s.pageEn 0x088 = true ∧ s.flag F.pwrStatVledFail = false ∧ s.flag F.pwrStatVdd33Warn = false) :=
  ⟨⟨lit.withPanel { lit.panel with row := 16 }, canonical_of (by decide +kernel), by decide +kernel⟩,
    ⟨lit, canonical_of (by decide +kernel), by decide +kernel⟩,
    ⟨lit, (15 : BitVec 4), canonical_of (by decide +kernel), by decide +kernel⟩,
    ⟨lit.withPanel { lit.panel with row := 15 }, (15 : BitVec 4), canonical_of (by decide +kernel), by decide +kernel⟩,
    ⟨lit.withPanel { lit.panel with tempAt := some 0 }, canonical_of (by decide +kernel), by decide +kernel⟩,
    ⟨lit, canonical_of (by decide +kernel), by decide +kernel⟩,
    ⟨((enabled [0x088]).put F.pwrStatState 2).put F.lanBeaconEn 1, canonical_of (by decide +kernel), by decide +kernel⟩⟩

/-- The hypotheses of `Obligations.PanelCommandsTakeEffect` are met, clause by clause. -/
theorem witness_PanelCommandsTakeEffect :
    (∃ (s : State) (h : HostId) (r : BitVec 4) (v : Word), s.Canonical ∧ Passes h (0x088100 + 8 * r.toNat) v 0xFFF0FFFF s) ∧
    (∃ (s : State) (h : HostId) (v : Word) (m : _), s.Canonical ∧ Passes h 0x088058 v m s ∧ m ≠ 0 ∧ Sparse.rising 0 s.panel.hostWin = true ∧ getBits (s.winRec0 (getBits v 24 16)) 30 29 = 0) ∧
    (∃ (s : State) (h : HostId) (v : Word) (m : _), s.Canonical ∧ Passes h 0x088058 v m s ∧ m ≠ 0 ∧ Sparse.rising 0 s.panel.hostWin = true ∧ getBits (s.winRec0 (getBits v 24 16)) 30 29 ≠ 0) ∧
    (∃ (s : State) (h : HostId) (m : _), s.Canonical ∧ Passes h 0x088048 (bitWord 0) m s ∧ getBit m 0 = true ∧ s.panelDark = false) ∧
    (∃ (s : State) (h : HostId) (m : _), s.Canonical ∧ Passes h 0x088048 (bitWord 0) m s ∧ getBit m 0 = true ∧ s.panelDark = true) ∧
    (∃ (s : State) (h : HostId) (m : _), s.Canonical ∧ Passes h 0x088048 (bitWord 1) m s ∧ getBit m 1 = true) ∧
    (∃ (s : State) (a : _) (b : _), s.Canonical ∧ s.panel.hostTest = some a ∧ s.panel.inputTest = some b) ∧
    (∃ (s : State) (level : Bool), s.Canonical ∧ (s.flag F.pwrStatVfieldFail = true ∨ s.diLevel (s.get F.lanCtlLtDi) ≠ level)) ∧
    (∃ (s : State), s.Canonical ∧ s.configured = true ∧ s.flag F.pwrStatVfieldFail = false ∧ s.diLevel (s.get F.lanCtlLtDi) = false) ∧
    (∃ (s : State), s.Canonical ∧ s.configured = true ∧ s.flag F.pwrStatVfieldFail = false ∧ s.diLevel (s.get F.lanCtlLtDi) = true ∧ s.flag F.lanCtlLtEn = true ∧ s.panel.inputSpent = false ∧ s.panel.inputTest = none ∧ s.panelDark = false) ∧
    (∃ (s : State), s.Canonical ∧ s.panel.pwr = .rising ∧ s.panelMay = true ∧ s.panel.offDue = false ∧ s.flag (F.hdrPageCommitCommit.page 0x088) = false) ∧
    (∃ (s : State), s.Canonical ∧ (s.panel.pwr = .lit ∨ s.panel.pwr = .rising) ∧ (s.panel.offDue = true ∨ s.flag F.pwrStatVdd33Warn = true ∨ s.pageEn 0x088 = false)) ∧
    (∃ (s : State), s.Canonical ∧ s.panel.pwr = .falling ∧ s.flag (F.hdrPageCommitCommit.page 0x088) = false) :=
  ⟨⟨lit, .a, (15 : BitVec 4), (0xFFF00001 : Word), canonical_of (by decide +kernel), passes_of (by decide +kernel)⟩,
    ⟨lit, .a, (0x01FF0003 : Word), pass .a 0x088058 (0x01FF0003 : Word) lit, canonical_of (by decide +kernel), passes_of (by decide +kernel), by decide +kernel⟩,
    ⟨lit.setWinWord (winRec 511 0) 0x20000000, .a, (0x01FF0003 : Word), pass .a 0x088058 (0x01FF0003 : Word) (lit.setWinWord (winRec 511 0) 0x20000000), canonical_of (by decide +kernel), passes_of (by decide +kernel), by decide +kernel⟩,
    ⟨lit, .a, pass .a 0x088048 (bitWord 0) lit, canonical_of (by decide +kernel), passes_of (by decide +kernel), by decide +kernel⟩,
    ⟨up, .a, pass .a 0x088048 (bitWord 0) up, canonical_of (by decide +kernel), passes_of (by decide +kernel), by decide +kernel⟩,
    ⟨lit.withPanel { lit.panel with hostTest := some 5 }, .a, pass .a 0x088048 (bitWord 1) (lit.withPanel { lit.panel with hostTest := some 5 }), canonical_of (by decide +kernel), passes_of (by decide +kernel), by decide +kernel⟩,
    ⟨(lit.withPanel { lit.panel with hostTest := some 0, inputTest := some 0 }).put F.tideNowNow 1919, 0, 0, canonical_of (by decide +kernel), by decide +kernel⟩,
    ⟨lit, true, canonical_of (by decide +kernel), by decide +kernel⟩,
    ⟨(lit.put F.lanCtlLtEn 1).withPanel { lit.panel with inputTest := some 5, inputSpent := true }, canonical_of (by decide +kernel), by decide +kernel⟩,
    ⟨(lit.put F.dioDiLoLevel 1).put F.lanCtlLtEn 1, canonical_of (by decide +kernel), by decide +kernel⟩,
    ⟨lit.withPanel { lit.panel with pwr := .rising }, canonical_of (by decide +kernel), by decide +kernel⟩,
    ⟨lit.put F.pwrStatVdd33Warn 1, canonical_of (by decide +kernel), by decide +kernel⟩,
    ⟨lit.withPanel { lit.panel with pwr := .falling }, canonical_of (by decide +kernel), by decide +kernel⟩⟩

/-- The hypotheses of `Obligations.RealTimeClockTakesEffect` are met, clause by clause. -/
theorem witness_RealTimeClockTakesEffect :
    (∃ (s : State), s.Canonical ∧ s.rtc.pre < 128 ∧ s.rtcHalted = false ∧ s.rtc.haltPend = false ∧ s.get F.rtcTimeLoSubsec * 128 + s.rtc.pre + s.tickStep < 2 ^ 15) ∧
    (∃ (s : State), s.Canonical ∧ s.rtc.pre < 128 ∧ s.rtcHalted = false ∧ s.rtc.haltPend = false ∧ 2 ^ 15 ≤ s.get F.rtcTimeLoSubsec * 128 + s.rtc.pre + s.tickStep) ∧
    (∃ (s : State), s.Canonical ∧ s.rtc.pre < 128 ∧ s.rtcHalted = true) ∧
    (∃ (s : State), s.Canonical ∧ s.rtc.pre < 128) ∧
    (∃ (s : State) (h : HostId), s.Canonical ∧ s.answers = true ∧ s.flag F.pwrStatLockout = false ∧ s.shadow h = none) ∧
    (∃ (s : State) (h : HostId) (x : _), s.Canonical ∧ s.answers = true ∧ s.shadow h = some x) ∧
    (∃ (s : State), s.Canonical ∧ s.answers = true ∧ s.flag F.pwrStatLockout = false) ∧
    (∃ (s : State), s.Canonical) ∧
    (∃ (s : State) (h : HostId) (m : _), s.Canonical ∧ Passes h 0x080040 (s.reg 0x080040 ||| bitWord 0) m s ∧ getBit m 0 = true ∧ s.flag F.rtcCtlHalt = false) ∧
    (∃ (s : State) (h : HostId) (m : _), s.Canonical ∧ Passes h 0x080040 (s.reg 0x080040 &&& ~~~(bitWord 0)) m s ∧ getBit m 0 = true ∧ s.flag F.rtcCtlHalt = true) ∧
    (∃ (s : State) (h : HostId) (m : _), s.Canonical ∧ Passes h 0x08004C (osfWord h s) m s ∧ getBit m 31 = true ∧ s.flag F.rtcStatTimeSet = true) ∧
    (∃ (s : State) (h : HostId) (m : _), s.Canonical ∧ Passes h 0x08004C (osfWord h s) m s ∧ getBit m 31 = true ∧ s.flag F.rtcStatTimeSet = false ∧ s.lastingCode 0x080 = 0) :=
  ⟨⟨up, canonical_of (by decide +kernel), by decide +kernel⟩,
    ⟨(up.put F.rtcTimeLoSubsec 255).withRtc { up.rtc with pre := 127 }, canonical_of (by decide +kernel), by decide +kernel⟩,
    ⟨up.put F.rtcCtlHalt 1, canonical_of (by decide +kernel), by decide +kernel⟩,
    ⟨(up.put F.rtcCtlHalt 1).withRtc { up.rtc with haltPend := true }, canonical_of (by decide +kernel), by decide +kernel⟩,
    ⟨up, .a, canonical_of (by decide +kernel), by decide +kernel⟩,
    ⟨up.withRtc { up.rtc with shadowA := some (1, 2) }, .a, ((1, 2) : Word × Word), canonical_of (by decide +kernel), by decide +kernel⟩,
    ⟨up.withRtc { up.rtc with shadowA := some (1, 2) }, canonical_of (by decide +kernel), by decide +kernel⟩,
    ⟨up.withRtc { up.rtc with shadowA := some (1, 2) }, canonical_of (by decide +kernel)⟩,
    ⟨up, .a, pass .a 0x080040 (up.reg 0x080040 ||| bitWord 0) up, canonical_of (by decide +kernel), passes_of (by decide +kernel), by decide +kernel⟩,
    ⟨((up.put F.rtcCtlHalt 1).put F.rtcCtlApplyHeld 1).put F.rtcHaltTicksTicks 33000, .a, pass .a 0x080040 ((((up.put F.rtcCtlHalt 1).put F.rtcCtlApplyHeld 1).put F.rtcHaltTicksTicks 33000).reg 0x080040 &&& ~~~(bitWord 0)) (((up.put F.rtcCtlHalt 1).put F.rtcCtlApplyHeld 1).put F.rtcHaltTicksTicks 33000), canonical_of (by decide +kernel), passes_of (by decide +kernel), by decide +kernel⟩,
    ⟨up.put F.rtcStatTimeSet 1, .a, pass .a 0x08004C (osfWord .a (up.put F.rtcStatTimeSet 1)) (up.put F.rtcStatTimeSet 1), canonical_of (by decide +kernel), passes_of (by decide +kernel), by decide +kernel⟩,
    ⟨up.put F.rtcStatTimeSet 0, .a, pass .a 0x08004C (osfWord .a (up.put F.rtcStatTimeSet 0)) (up.put F.rtcStatTimeSet 0), canonical_of (by decide +kernel), passes_of (by decide +kernel), by decide +kernel⟩⟩

/-- The hypotheses of `Obligations.PortsAndHopsTakeEffect` are met, clause by clause. -/
theorem witness_PortsAndHopsTakeEffect :
    (∃ (s : State) (port : BitVec 2) (phy : PhyRegs), s.Canonical ∧ s.xp.length = 4 ∧ s.xpState port.toNat ≠ 0 ∧ phy.r1.getLsbD 2 = false) ∧
    (∃ (s : State) (port : BitVec 2) (phy : PhyRegs) (k : _), s.Canonical ∧ s.xp.length = 4 ∧ s.xpState port.toNat = 1 ∧ phy.r1.getLsbD 2 = true ∧ s.phySpeed port.toNat phy = some k ∧ (k = 1 ∨ k = 2)) ∧
    (∃ (s : State) (port : BitVec 2) (phy : PhyRegs), s.Canonical ∧ s.xp.length = 4 ∧ s.xpState port.toNat ≠ 0 ∧ phy.r1.getLsbD 2 = true ∧ s.phySpeed port.toNat phy = some 0) ∧
    (∃ (s : State) (port : BitVec 2), s.Canonical ∧ s.xp.length = 4 ∧ s.xpState port.toNat = 2) ∧
    (∃ (s : State) (port : BitVec 2) (frame : List Byte) (r : _), s.Canonical ∧ s.xp.length = 4 ∧ parseFrame frame = some r ∧ r.frame.cls = 0x08 ∧ r.frame.lenOk = true ∧ r.frame.sync = true ∧ r.frame.origin ≠ s.nodeId ∧ s.xpState port.toNat = 2 ∧ leAt r.frame.body 2 1 = facing port.toNat ∧ (s.xport port.toNat).syncAck = false) ∧
    (∃ (s : State) (port : BitVec 2) (frame : List Byte) (r : _), s.Canonical ∧ s.xp.length = 4 ∧ parseFrame frame = some r ∧ r.frame.cls = 0x08 ∧ r.frame.lenOk = true ∧ r.frame.sync = true ∧ r.frame.origin ≠ s.nodeId ∧ s.xpState port.toNat = 2 ∧ leAt r.frame.body 2 1 = facing port.toNat ∧ (s.xport port.toNat).syncAck = true) ∧
    (∃ (s : State) (port : BitVec 2) (frame : List Byte) (r : _), s.Canonical ∧ s.xp.length = 4 ∧ parseFrame frame = some r ∧ r.frame.cls = 0x08 ∧ r.frame.lenOk = true ∧ r.frame.sync = true ∧ r.frame.origin ≠ s.nodeId ∧ s.xpState port.toNat = 2 ∧ leAt r.frame.body 2 1 ≠ facing port.toNat) ∧
    (∃ (s : State) (port : BitVec 2), s.Canonical ∧ s.xp.length = 4 ∧ s.xpState port.toNat = 4 ∧ 32 ≤ s.since (s.xport port.toNat).faultAt) ∧
    (∃ (s : State) (port : BitVec 2) (frame : List Byte) (r : _), s.Canonical ∧ s.xp.length = 4 ∧ parseFrame frame = some r ∧ r.frame.cls = 0x08 ∧ r.frame.lenOk = true ∧ r.frame.sync = false ∧ s.xpState port.toNat = 3 ∧ s.ord.xq = [] ∧ noEpochWrap r.frame s) ∧
    (∃ (s : State) (port : BitVec 2), s.Canonical ∧ s.xp.length = 4 ∧ s.xpState port.toNat = 3 ∧ (s.xport port.toNat).unacked.drop (s.xport port.toNat).resent ≠ []) ∧
    (∃ (s : State) (port : BitVec 2), s.Canonical ∧ s.xp.length = 4 ∧ (s.xport port.toNat).unacked.length ≤ (s.xport port.toNat).resent) ∧
    (∃ (s : State) (port : BitVec 2), s.Canonical ∧ s.xp.length = 4 ∧ s.xpState port.toNat = 3 ∧ (s.xport port.toNat).unacked ≠ [] ∧ 0 < (s.xport port.toNat).resent ∧ s.ord.xq = []) ∧
    (∃ (s : State) (h : HostId) (v : Word) (m : _), s.Canonical ∧ s.xp.length = 4 ∧ Passes h 0x064070 v m s ∧ s.flag F.xnetMdioGo = false ∧ getBit (v &&& m) 31 = true) ∧
    (∃ (s : State), s.Canonical ∧ s.xp.length = 4 ∧ s.configured = true ∧ s.standby = false ∧ s.flag F.xnetMdioGo = true) :=
  ⟨⟨upPort, (3 : BitVec 2), (⟨0, 0, 0, 0, 0⟩ : PhyRegs), canonical_of (by decide +kernel), by decide +kernel⟩,
    ⟨(up.put (F.xpStatState.page 0) 1).put (F.xpCtlSpeed.page 0) 2, (0 : BitVec 2), (⟨0x24, 0, 0, 0x200, 0x800⟩ : PhyRegs), 2, canonical_of (by decide +kernel), by decide +kernel⟩,
    ⟨(up.put (F.xpStatState.page 0) 1).put (F.xpCtlSpeed.page 0) 2, (0 : BitVec 2), (⟨0x24, 0, 0, 0, 0⟩ : PhyRegs), canonical_of (by decide +kernel), by decide +kernel⟩,
    ⟨up.put (F.xpStatState.page 0) 2, (0 : BitVec 2), canonical_of (by decide +kernel), by decide +kernel⟩,
    ⟨up.put (F.xpStatState.page 0) 2, (0 : BitVec 2), syncFrame 1, rx (syncFrame 1), canonical_of (by decide +kernel), by decide +kernel⟩,
    ⟨(up.put (F.xpStatState.page 0) 2).setXport 0 { up.xport 0 with syncAck := true }, (0 : BitVec 2), syncFrame 1, rx (syncFrame 1), canonical_of (by decide +kernel), by decide +kernel⟩,
    ⟨up.put (F.xpStatState.page 0) 2, (0 : BitVec 2), syncFrame 0, rx (syncFrame 0), canonical_of (by decide +kernel), by decide +kernel⟩,
    ⟨(at_ 32).put (F.xpStatState.page 0) 4, (0 : BitVec 2), canonical_of (by decide +kernel), by decide +kernel⟩,
    ⟨upPort.setXport 3 { upPort.xport 3 with unacked := [(1, frameOf 0x06 0 0 0 1 []), (2, frameOf 0x06 0 0 1 2 [])] }, (3 : BitVec 2), (frameOf 0x08 0 5 0 0 ([1, 0, 0, 0] ++ List.replicate 10 0)).bytes 1 5 0, rx ((frameOf 0x08 0 5 0 0 ([1, 0, 0, 0] ++ List.replicate 10 0)).bytes 1 5 0), canonical_of (by decide +kernel), by decide +kernel⟩,
    ⟨upPort.setXport 3 { upPort.xport 3 with unacked := [(1, frameOf 0x06 0 0 0 1 [])] }, (3 : BitVec 2), canonical_of (by decide +kernel), by decide +kernel⟩,
    ⟨upPort, (3 : BitVec 2), canonical_of (by decide +kernel), by decide +kernel⟩,
    ⟨upPort.setXport 3 { upPort.xport 3 with unacked := [(1, frameOf 0x06 0 0 0 1 [])], resent := 1 }, (3 : BitVec 2), canonical_of (by decide +kernel), by decide +kernel⟩,
    ⟨up, .a, (0x80000000 : Word), pass .a 0x064070 (0x80000000 : Word) up, canonical_of (by decide +kernel), by decide +kernel, passes_of (by decide +kernel), (by decide +kernel)⟩,
    ⟨up.put F.xnetMdioGo 1, canonical_of (by decide +kernel), by decide +kernel⟩⟩

/-- The hypotheses of `Obligations.StreamsAndCeilingTakeEffect` are met, clause by clause. -/
theorem witness_StreamsAndCeilingTakeEffect :
    (∃ (s : State) (port : BitVec 2), s.Canonical ∧ (s.xpState port.toNat = 2 ∨ s.xpState port.toNat = 3)) ∧
    (∃ (s : State) (port : BitVec 2) (frame : List Byte) (r : _) (o : _), s.Canonical ∧ s.portUp port.toNat = true ∧ parseFrame frame = some r ∧ r.hseq = s.get (F.xpHseqRxNext.page port.toNat) ∧ r.frame.cls = 0x01 ∧ r.frame.lenOk = true ∧ r.frame.hops < 2048 ∧ r.frame.origin ≠ s.nodeId ∧ s.get F.xnetStatHead ≠ r.frame.origin ∧ s.orig r.frame.origin = some o ∧ o.expect = r.frame.oseq ∧ o.held = [] ∧ s.corrupt r.frame.tally = false ∧ s.forMe r.frame = true ∧ s.callIn = [] ∧ s.mayStamp (receiptTally s.ord.tally r.frame.tally) = true) ∧
    (∃ (s : State) (origin : NodeIdx) (o : _) (q : _) (lim : _) (f : _), s.Canonical ∧ s.orig origin.toNat = some o ∧ o.held = [(q, lim, some f)] ∧ ahead o q ≠ 0 ∧ s.forMe f = false) ∧
    (∃ (s : State) (c : _), s.Canonical ∧ s.ord.ceilWrite = some c ∧ s.ord.waitq = [] ∧ s.ord.xq = [] ∧ s.ceilAon = false) ∧
    (∃ (s : State) (c : _), s.Canonical ∧ s.ord.ceilWrite = some c ∧ s.ord.waitq = [] ∧ s.ord.xq = [] ∧ s.ceilAon = true) ∧
    (∃ (s : State) (c : _), s.Canonical ∧ s.ord.ceilWrite = some c ∧ s.ord.waitq = [] ∧ s.ord.xq = [] ∧ s.ord.ceilAOk = true) :=
  ⟨⟨upPort, (3 : BitVec 2), canonical_of (by decide +kernel), by decide +kernel⟩,
    ⟨streamUp, (3 : BitVec 2), valueFrame, rx valueFrame, (⟨5, 7, 90, [], [], []⟩ : Orig), canonical_of (by decide +kernel), by decide +kernel⟩,
    ⟨up.withXnet { up.xnet with origins := [⟨5, 7, 90, [(9, 10, some f0)], [], [9]⟩] }, (5 : NodeIdx), (⟨5, 7, 90, [(9, 10, some f0)], [], [9]⟩ : Orig), 9, 10, f0, canonical_of (by decide +kernel), by decide +kernel⟩,
    ⟨up.withOrd { up.ord with ceilWrite := some (2 ^ 28) }, 2 ^ 28, canonical_of (by decide +kernel), by decide +kernel⟩,
    ⟨up.withOrd { up.ord with ceilWrite := some (2 ^ 28), ceilAOk := false, ceilBOk := false }, 2 ^ 28, canonical_of (by decide +kernel), by decide +kernel⟩,
    ⟨up.withOrd { up.ord with ceilWrite := some (2 ^ 28) }, 2 ^ 28, canonical_of (by decide +kernel), by decide +kernel⟩⟩

/-- The hypotheses of `Obligations.CensusAndMembershipTakeEffect` are met, clause by clause. -/
theorem witness_CensusAndMembershipTakeEffect :
    (∃ (s : State) (r : Ring), s.Canonical ∧ s.takesPart = true ∧ s.flag (masterFld r) = true) ∧
    (∃ (s : State) (r : Ring), s.Canonical ∧ s.takesPart = true ∧ s.flag (masterFld r) = false ∧ 3 ≤ (s.ring r).quiet) ∧
    (∃ (s : State) (port : BitVec 2) (frame : List Byte) (f : _) (r : _), s.Canonical ∧ parseFrame frame = some f ∧ f.frame.cls = 0x07 ∧ f.frame.lenOk = true ∧ f.frame.hops < 2048 ∧ s.portUp port.toNat = true ∧ leAt f.frame.body 0 1 = 1 ∧ r = (if (leAt f.frame.body 1 1).testBit 0 then Ring.s else .p) ∧ leAt f.frame.body 2 2 % 1024 ≠ s.nodeId ∧ (leAt f.frame.body 2 2 % 1024, ringNo r, leAt f.frame.body 4 2, leAt f.frame.body 1 1 / 4 % 4) ∉ (s.ring r).summaries) ∧
    (∃ (s : State), s.Canonical ∧ s.flag F.xnetStatPassive = true) ∧
    (∃ (s : State) (r : Ring) (rd : _), s.Canonical ∧ s.flag F.xnetStatPassive = false ∧ (s.ring r).round = some rd) ∧
    (∃ (s : State), s.Canonical ∧ s.configured = true ∧ s.standby = false) :=
  ⟨⟨up.put F.xnetStatMasterS 1, Ring.s, canonical_of (by decide +kernel), by decide +kernel⟩,
    ⟨let u := up.put F.xnetStatMasterS 0; u.withXnet { u.xnet with ringS := { u.xnet.ringS with quiet := 3 } }, Ring.s, canonical_of (by decide +kernel), by decide +kernel⟩,
    ⟨upPort, (3 : BitVec 2), summaryFrame, rx summaryFrame, Ring.s, canonical_of (by decide +kernel), by decide +kernel⟩,
    ⟨(up.put F.xnetStatPassive 1).withXnet { up.xnet with ringS := { up.xnet.ringS with round := some ⟨4, [], 3, 1, false⟩ } }, canonical_of (by decide +kernel), by decide +kernel⟩,
    ⟨up.withXnet { up.xnet with ringS := { up.xnet.ringS with round := some ⟨4, [], 3, 1, false⟩ } }, Ring.s, (⟨4, [], 3, 1, false⟩ : Round), canonical_of (by decide +kernel), by decide +kernel⟩,
    ⟨up, canonical_of (by decide +kernel), by decide +kernel⟩⟩

/-- The hypotheses of `Obligations.CrossingCommandsTakeEffect` are met, clause by clause. -/
theorem witness_CrossingCommandsTakeEffect :
    (∃ (s : State) (lo : _) (hi : _) (r : _), s.Canonical ∧ s.configured = true ∧ s.standby = false ∧ s.xnet.replay = some (lo, hi) ∧ lowestRec s.replayLeft = some r) ∧
    (∃ (s : State) (lo : _) (hi : _), s.Canonical ∧ s.configured = true ∧ s.standby = false ∧ s.xnet.replay = some (lo, hi) ∧ lowestRec s.replayLeft = none ∧ s.xnet.rejoinPts = []) ∧
    (∃ (s : State) (h : HostId) (v : Word) (m : _), s.Canonical ∧ Passes h 0x064080 v m s ∧ m ≠ 0 ∧ s.getH h F.xnetRackResBusy ≠ 1) ∧
    (∃ (s : State) (h : HostId) (node : NodeIdx) (m : _), s.Canonical ∧ Passes h 0x06406C (BitVec.ofNat 32 (2 ^ 28 + node.toNat)) m s ∧ m ≠ 0 ∧ s.xnet.lost.getLsbD node.toNat = true) ∧
    (∃ (s : State) (h : HostId) (node : NodeIdx) (m : _), s.Canonical ∧ Passes h 0x06406C (BitVec.ofNat 32 (2 ^ 28 + node.toNat)) m s ∧ m ≠ 0 ∧ s.xnet.lost.getLsbD node.toNat = false) ∧
    (∃ (s : State) (h : HostId) (m : _), s.Canonical ∧ Passes h 0x06406C (BitVec.ofNat 32 (2 * 2 ^ 28)) m s ∧ m ≠ 0 ∧ s.xnet.lost ≠ 0) :=
  ⟨⟨(streamUp.withLg { streamUp.lg with main := [recOf 5, recOf 7] }).withXnet { streamUp.xnet with replay := some (2, 9) }, 2, 9, recOf 5, canonical_of (by decide +kernel), by decide +kernel⟩,
    ⟨(up.withLg { up.lg with main := [recOf 5, recOf 7] }).withXnet { up.xnet with replay := some (8, 9) }, 8, 9, canonical_of (by decide +kernel), by decide +kernel⟩,
    ⟨up, .a, (0x10000405 : Word), pass .a 0x064080 (0x10000405 : Word) up, canonical_of (by decide +kernel), passes_of (by decide +kernel), by decide +kernel⟩,
    ⟨up.withXnet { up.xnet with lost := 0x20 }, .a, (5 : NodeIdx), pass .a 0x06406C (BitVec.ofNat 32 (2 ^ 28 + (5 : NodeIdx).toNat)) (up.withXnet { up.xnet with lost := 0x20 }), canonical_of (by decide +kernel), passes_of (by decide +kernel), by decide +kernel⟩,
    ⟨up.withXnet { up.xnet with lost := 0x20 }, .a, (6 : NodeIdx), pass .a 0x06406C (BitVec.ofNat 32 (2 ^ 28 + (6 : NodeIdx).toNat)) (up.withXnet { up.xnet with lost := 0x20 }), canonical_of (by decide +kernel), passes_of (by decide +kernel), by decide +kernel⟩,
    ⟨up.withXnet { up.xnet with lost := 0x20 }, .a, pass .a 0x06406C (BitVec.ofNat 32 (2 * 2 ^ 28)) (up.withXnet { up.xnet with lost := 0x20 }), canonical_of (by decide +kernel), passes_of (by decide +kernel), by decide +kernel⟩⟩

/-- The hypotheses of `Obligations.ConfigurationTransfersTakeEffect` are met, clause by clause. -/
theorem witness_ConfigurationTransfersTakeEffect :
    (∃ (s : State) (h : HostId) (node : NodeIdx) (m : _), s.Canonical ∧ s.xnet.xferOut = none ∧ node.toNat ≠ s.nodeId ∧ s.isPresent node.toNat = true ∧ m ≠ 0 ∧ Passes h 0x064090 (rcfgWord 1 node.toNat 0) m s) ∧
    (∃ (s : State) (h : HostId) (node : NodeIdx) (m : _) (slot : BitVec 4), s.Canonical ∧ s.xnet.xferOut = none ∧ node.toNat ≠ s.nodeId ∧ s.isPresent node.toNat = true ∧ m ≠ 0 ∧ Passes h 0x064090 (rcfgWord 5 node.toNat slot.toNat) m s) ∧
    (∃ (s : State) (h : HostId) (node : NodeIdx) (m : _) (slot : BitVec 4), s.Canonical ∧ s.xnet.xferOut = none ∧ node.toNat ≠ s.nodeId ∧ s.isPresent node.toNat = true ∧ m ≠ 0 ∧ Passes h 0x064090 (rcfgWord 4 node.toNat slot.toNat) m s) ∧
    (∃ (s : State) (h : HostId) (node : NodeIdx) (m : _), s.Canonical ∧ s.xnet.xferOut = none ∧ s.isPresent node.toNat = false ∧ m ≠ 0 ∧ Passes h 0x064090 (rcfgWord 1 node.toNat 0) m s) ∧
    (∃ (s : State) (h : HostId) (node : NodeIdx) (m : _) (x : _), s.Canonical ∧ s.xnet.xferOut = some x ∧ m ≠ 0 ∧ Passes h 0x064090 (rcfgWord 2 node.toNat 0) m s) ∧
    (∃ (s : State) (h : HostId) (node : NodeIdx) (m : _) (x : _), s.Canonical ∧ s.xnet.xferOut = some x ∧ m ≠ 0 ∧ Passes h 0x064090 (rcfgWord 3 node.toNat 0) m s) ∧
    (∃ (s : State) (h : HostId) (v : Word) (m : _) (x : _), s.Canonical ∧ s.xnet.xferOut = some x ∧ s.flag F.xnetRcfgResReady = true ∧ Passes h 0x064098 v m s ∧ m ≠ 0 ∧ x.buf.length < 60) ∧
    (∃ (s : State) (h : HostId) (v : Word) (m : _) (x : _), s.Canonical ∧ s.xnet.xferOut = some x ∧ s.flag F.xnetRcfgResReady = true ∧ Passes h 0x064098 v m s ∧ m ≠ 0 ∧ x.buf.length = 60) ∧
    (∃ (s : State) (frame : List Byte) (r : _) (x : _), s.Canonical ∧ parseFrame frame = some r ∧ r.frame.cls = 0x09 ∧ r.frame.lenOk = true ∧ leAt r.frame.body 0 1 = 2 ∧ s.forMe r.frame = true ∧ s.xnet.xferOut = some x ∧ x.node = r.frame.origin ∧ leAt r.frame.body 2 2 = s.xnet.xferNo ∧ leAt r.frame.body 8 1 ≠ 0 ∧ s.corrupt r.frame.tally = false ∧ s.mayStamp (receiptTally s.ord.tally r.frame.tally) = true) ∧
    (∃ (s : State) (x : _), s.Canonical ∧ s.xnet.xferOut = some x ∧ s.flag F.xnetRcfgResReady = false ∧ 64 ≤ s.since x.at_) ∧
    (∃ (s : State) (frame : List Byte) (r : _) (x : _), s.Canonical ∧ parseFrame frame = some r ∧ r.frame.cls = 0x09 ∧ r.frame.lenOk = true ∧ leAt r.frame.body 0 1 = 0 ∧ s.corrupt r.frame.tally = false ∧ s.mayStamp (receiptTally s.ord.tally r.frame.tally) = true ∧ s.forMe r.frame = true ∧ s.configured = true ∧ s.flag F.xnetCfgRemoteCfg = true ∧ s.localLoad = false ∧ s.tt.install = none ∧ s.xnet.xferIn = some x ∧ x.stage = true ∧ x.node = r.frame.origin ∧ x.xfer = leAt r.frame.body 2 2 ∧ x.off = leAt r.frame.body 4 4 ∧ 4 ≤ leAt r.frame.body 8 1 ∧ leAt r.frame.body 8 1 ≤ 64 ∧ leAt r.frame.body 8 1 % 4 = 0 ∧ x.off + leAt r.frame.body 8 1 ≤ 0x10000) :=
  ⟨⟨up.withXnet { up.xnet with present := 0x21 }, .a, (5 : NodeIdx), pass .a 0x064090 (rcfgWord 1 (5 : NodeIdx).toNat 0) (up.withXnet { up.xnet with present := 0x21 }), canonical_of (by decide +kernel), by decide +kernel, by decide +kernel, (by decide +kernel), by decide +kernel, passes_of (by decide +kernel)⟩,
    ⟨up.withXnet { up.xnet with present := 0x21 }, .a, (5 : NodeIdx), pass .a 0x064090 (rcfgWord 5 (5 : NodeIdx).toNat (15 : BitVec 4).toNat) (up.withXnet { up.xnet with present := 0x21 }), (15 : BitVec 4), canonical_of (by decide +kernel), by decide +kernel, by decide +kernel, (by decide +kernel), by decide +kernel, passes_of (by decide +kernel)⟩,
    ⟨up.withXnet { up.xnet with present := 0x21 }, .a, (5 : NodeIdx), pass .a 0x064090 (rcfgWord 4 (5 : NodeIdx).toNat (15 : BitVec 4).toNat) (up.withXnet { up.xnet with present := 0x21 }), (15 : BitVec 4), canonical_of (by decide +kernel), by decide +kernel, by decide +kernel, (by decide +kernel), by decide +kernel, passes_of (by decide +kernel)⟩,
    ⟨up.withXnet { up.xnet with present := 0x21 }, .a, (6 : NodeIdx), pass .a 0x064090 (rcfgWord 1 (6 : NodeIdx).toNat 0) (up.withXnet { up.xnet with present := 0x21 }), canonical_of (by decide +kernel), by decide +kernel, by decide +kernel, (by decide +kernel), passes_of (by decide +kernel)⟩,
    ⟨streamUp.withXnet { streamUp.xnet with xferOut := some xo }, .a, (5 : NodeIdx), pass .a 0x064090 (rcfgWord 2 (5 : NodeIdx).toNat 0) (streamUp.withXnet { streamUp.xnet with xferOut := some xo }), xo, canonical_of (by decide +kernel), by decide +kernel, by decide +kernel, passes_of (by decide +kernel)⟩,
    ⟨streamUp.withXnet { streamUp.xnet with xferOut := some xo }, .a, (5 : NodeIdx), pass .a 0x064090 (rcfgWord 3 (5 : NodeIdx).toNat 0) (streamUp.withXnet { streamUp.xnet with xferOut := some xo }), xo, canonical_of (by decide +kernel), by decide +kernel, by decide +kernel, passes_of (by decide +kernel)⟩,
    ⟨(up.put F.xnetRcfgResReady 1).withXnet { up.xnet with xferOut := some { xo with buf := List.replicate 56 0 } }, .a, (0x01020304 : Word), pass .a 0x064098 (0x01020304 : Word) ((up.put F.xnetRcfgResReady 1).withXnet { up.xnet with xferOut := some { xo with buf := List.replicate 56 0 } }), { xo with buf := List.replicate 56 0 }, canonical_of (by decide +kernel), by decide +kernel, by decide +kernel, passes_of (by decide +kernel), by decide +kernel⟩,
    ⟨(streamUp.put F.xnetRcfgResReady 1).withXnet { streamUp.xnet with xferOut := some { xo with buf := List.replicate 60 0 } }, .a, (0x01020304 : Word), pass .a 0x064098 (0x01020304 : Word) ((streamUp.put F.xnetRcfgResReady 1).withXnet { streamUp.xnet with xferOut := some { xo with buf := List.replicate 60 0 } }), { xo with buf := List.replicate 60 0 }, canonical_of (by decide +kernel), by decide +kernel, by decide +kernel, passes_of (by decide +kernel), by decide +kernel⟩,
    ⟨up.withXnet { up.xnet with xferOut := some xo, xferNo := 3 }, resultFrame, rx resultFrame, xo, canonical_of (by decide +kernel), by decide +kernel⟩,
    ⟨((at_ 64).put F.xnetRcfgResReady 0).withXnet { up.xnet with xferOut := some xo }, xo, canonical_of (by decide +kernel), by decide +kernel⟩,
    ⟨(up.put F.xnetCfgRemoteCfg 1).withXnet { up.xnet with xferIn := some ⟨5, 3, true, 15, 0x10000, 0xFFC0⟩ }, dataFrame, rx dataFrame, (⟨5, 3, true, 15, 0x10000, 0xFFC0⟩ : XferIn), canonical_of (by decide +kernel), by decide +kernel⟩⟩

/-- The hypotheses of `Obligations.ImageLoadsTakeEffect` are met, clause by clause. -/
theorem witness_ImageLoadsTakeEffect :
    (∃ (s : State) (h : HostId) (m : _), s.Canonical ∧ Passes h 0x048060 (bitWord 0) m s ∧ getBit m 0 = true ∧ s.loading = false) ∧
    (∃ (s : State), s.Canonical ∧ s.loading = true ∧ s.tt.erasing = true ∧ s.gateClosed = false) ∧
    (∃ (s : State), s.Canonical ∧ s.loading = true ∧ s.tt.erasing = true ∧ s.gateClosed = false) ∧
    (∃ (s : State) (h : HostId) (v : Word) (m : _), s.Canonical ∧ Passes h 0x048068 v m s ∧ m ≠ 0 ∧ s.flag F.ttbImgStatReady = true ∧ s.get F.ttbImgOffOff + 4 < 2 ^ 24 ∧ (s.get F.ttbImgOffOff + 4) % 256 ≠ 0 ∧ s.get F.ttbImgOffOff + 4 < s.tt.len) ∧
    (∃ (s : State) (h : HostId) (v : Word) (m : _), s.Canonical ∧ Passes h 0x048068 v m s ∧ m ≠ 0 ∧ s.flag F.ttbImgStatReady = true ∧ s.get F.ttbImgOffOff + 4 < 2 ^ 24 ∧ (s.get F.ttbImgOffOff + 4) % 256 = 0 ∧ s.tt.page.length ≤ s.get F.ttbImgOffOff ∧ s.gateClosed = false ∧ s.tt.norHeld = []) ∧
    (∃ (s : State) (h : HostId) (m : _), s.Canonical ∧ Passes h 0x048060 (bitWord 1) m s ∧ getBit m 1 = true ∧ s.loading = true ∧ s.tt.copying = false ∧ (s.tt.erasing = true ∨ s.get F.ttbImgOffOff < s.tt.len)) ∧
    (∃ (s : State) (h : HostId) (m : _), s.Canonical ∧ Passes h 0x048060 (bitWord 1) m s ∧ getBit m 1 = true ∧ s.loading = true ∧ s.tt.copying = false ∧ s.tt.erasing = false ∧ s.tt.len ≤ s.get F.ttbImgOffOff ∧ (∀ a n, NorOp.erase a n ∈ s.tt.norHeld → copyBase 1 < a ∨ a + n ≤ copyBase 1)) ∧
    (∃ (s : State) (h : HostId) (m : _) (trip : Bool) (o : _) (u : _) (v : _), s.Canonical ∧ Passes h 0x048060 (bitWord 1) m s ∧ getBit m 1 = true ∧ s.loading = true ∧ s.tt.copying = false ∧ s.tt.erasing = false ∧ s.tt.len ≤ s.get F.ttbImgOffOff ∧ s.tt.endRead = .ok ∧ o = (if trip = true then NorRead.retryOk else .ok) ∧ u = norRead (copyBase 1) o ((loadFlush (noteEndRead o s)).put F.ttbImgStatReady 0) ∧ v = (norFlush (u.withTt { u.tt with endRead := .ok })).copyVerdict 1) ∧
    (∃ (s : State), s.Canonical ∧ s.tt.copying = true ∧ s.gateClosed = false ∧ s.phase = .running) ∧
    (∃ (s : State) (h : HostId) (m : _), s.Canonical ∧ Passes h 0x048060 (bitWord 2) m s ∧ getBit m 2 = true ∧ s.loading = true) ∧
    (∃ (s : State) (src : _) (dst : _) (n : _) (rest : _), s.Canonical ∧ s.tt.repairs = (src, dst, n) :: rest ∧ s.gateClosed = false ∧ s.loading = false) :=
  ⟨⟨up, .a, pass .a 0x048060 (bitWord 0) up, canonical_of (by decide +kernel), passes_of (by decide +kernel), by decide +kernel⟩,
    ⟨(up.put F.ttbImgStatLoading 1).withTt { up.tt with erasing := true, len := 256 }, canonical_of (by decide +kernel), by decide +kernel⟩,
    ⟨(up.put F.ttbImgStatLoading 1).withTt { up.tt with erasing := true, len := 256 }, canonical_of (by decide +kernel), by decide +kernel⟩,
    ⟨((up.put F.ttbImgStatReady 1).put F.ttbImgStatLoading 1).withTt { up.tt with len := 256 }, .a, (7 : Word), pass .a 0x048068 (7 : Word) (((up.put F.ttbImgStatReady 1).put F.ttbImgStatLoading 1).withTt { up.tt with len := 256 }), canonical_of (by decide +kernel), passes_of (by decide +kernel), by decide +kernel⟩,
    ⟨(((up.put F.ttbImgStatReady 1).put F.ttbImgStatLoading 1).put F.ttbImgOffOff 252).withTt { up.tt with len := 256, page := List.replicate 252 0x55 }, .a, (7 : Word), pass .a 0x048068 (7 : Word) ((((up.put F.ttbImgStatReady 1).put F.ttbImgStatLoading 1).put F.ttbImgOffOff 252).withTt { up.tt with len := 256, page := List.replicate 252 0x55 }), canonical_of (by decide +kernel), passes_of (by decide +kernel), by decide +kernel⟩,
    ⟨(up.put F.ttbImgStatLoading 1).withTt { up.tt with len := 256 }, .a, pass .a 0x048060 (bitWord 1) ((up.put F.ttbImgStatLoading 1).withTt { up.tt with len := 256 }), canonical_of (by decide +kernel), passes_of (by decide +kernel), by decide +kernel⟩,
    ⟨((up.put F.ttbImgStatLoading 1).put F.ttbImgOffOff 128).withTt { up.tt with len := 128 }, .a, pass .a 0x048060 (bitWord 1) (((up.put F.ttbImgStatLoading 1).put F.ttbImgOffOff 128).withTt { up.tt with len := 128 }), canonical_of (by decide +kernel), passes_of (by decide +kernel), by decide +kernel, (by decide +kernel), by decide +kernel, by decide +kernel, by decide +kernel, fun _ _ h => nomatch (show _ ∈ ([] : List NorOp) from h)⟩,
    ⟨((up.put F.ttbImgStatLoading 1).put F.ttbImgOffOff 128).withTt { up.tt with len := 128 }, .a, pass .a 0x048060 (bitWord 1) (((up.put F.ttbImgStatLoading 1).put F.ttbImgOffOff 128).withTt { up.tt with len := 128 }), true, NorRead.retryOk, norRead (copyBase 1) NorRead.retryOk ((loadFlush (noteEndRead NorRead.retryOk (((up.put F.ttbImgStatLoading 1).put F.ttbImgOffOff 128).withTt { up.tt with len := 128 }))).put F.ttbImgStatReady 0), (norFlush ((norRead (copyBase 1) NorRead.retryOk ((loadFlush (noteEndRead NorRead.retryOk (((up.put F.ttbImgStatLoading 1).put F.ttbImgOffOff 128).withTt { up.tt with len := 128 }))).put F.ttbImgStatReady 0)).withTt { (norRead (copyBase 1) NorRead.retryOk ((loadFlush (noteEndRead NorRead.retryOk (((up.put F.ttbImgStatLoading 1).put F.ttbImgOffOff 128).withTt { up.tt with len := 128 }))).put F.ttbImgStatReady 0)).tt with endRead := .ok })).copyVerdict 1, canonical_of (by decide +kernel), passes_of (by decide +kernel), by decide +kernel, (by decide +kernel), by decide +kernel, by decide +kernel, by decide +kernel, (by decide +kernel), by decide +kernel, rfl, rfl⟩,
    ⟨(up.put F.ttbImgStatLoading 1).withTt { up.tt with copying := true }, canonical_of (by decide +kernel), by decide +kernel⟩,
    ⟨up.put F.ttbImgStatLoading 1, .a, pass .a 0x048060 (bitWord 2) (up.put F.ttbImgStatLoading 1), canonical_of (by decide +kernel), passes_of (by decide +kernel), by decide +kernel⟩,
    ⟨(up.withTt { up.tt with repairs := [(0xC00000, 0, 8)] }).setNorBytes 0xC00000 [1, 2, 3], 0xC00000, 0, 8, ([] : List (Nat × Nat × Nat)), canonical_of (by decide +kernel), by decide +kernel⟩⟩

/-- The hypotheses of `Obligations.KeyCommandsTakeEffect` are met, clause by clause. -/
theorem witness_KeyCommandsTakeEffect :
    (∃ (s : State) (h : HostId) (v : Word) (m : _), s.Canonical ∧ Passes h 0x007040 v m s ∧ m ≠ 0 ∧ getBits v 23 8 = 0xC3A5 ∧ s.tt.keyCmd = none ∧ getBits v 31 28 = 1 ∧ s.keyProgrammed (getBits v 2 0) = false) ∧
    (∃ (s : State) (h : HostId) (v : Word) (m : _), s.Canonical ∧ Passes h 0x007040 v m s ∧ m ≠ 0 ∧ getBits v 23 8 = 0xC3A5 ∧ s.tt.keyCmd = none ∧ getBits v 31 28 = 2 ∧ s.keyProgrammed (getBits v 2 0) = true) ∧
    (∃ (s : State) (h : HostId) (v : Word) (m : _), s.Canonical ∧ Passes h 0x007040 v m s ∧ m ≠ 0 ∧ getBits v 23 8 = 0xC3A5 ∧ s.tt.keyCmd = none ∧ getBits v 31 28 = 3) ∧
    (∃ (s : State) (h : HostId) (v : Word) (m : _), s.Canonical ∧ Passes h 0x007040 v m s ∧ m ≠ 0 ∧ (getBits v 23 8 ≠ 0xC3A5 ∨ s.tt.keyCmd.isSome = true)) ∧
    (∃ (s : State) (k : _) (bs : _), s.Canonical ∧ s.tt.keyCmd = some (k, bs)) :=
  ⟨⟨up, .a, (0x10C3A507 : Word), pass .a 0x007040 (0x10C3A507 : Word) up, canonical_of (by decide +kernel), passes_of (by decide +kernel), by decide +kernel⟩,
    ⟨up.withTt { up.tt with keys := [(7, [])] }, .a, (0x20C3A507 : Word), pass .a 0x007040 (0x20C3A507 : Word) (up.withTt { up.tt with keys := [(7, [])] }), canonical_of (by decide +kernel), passes_of (by decide +kernel), by decide +kernel⟩,
    ⟨up, .a, (0x30C3A500 : Word), pass .a 0x007040 (0x30C3A500 : Word) up, canonical_of (by decide +kernel), passes_of (by decide +kernel), by decide +kernel⟩,
    ⟨up, .a, (0x10C3A400 : Word), pass .a 0x007040 (0x10C3A400 : Word) up, canonical_of (by decide +kernel), passes_of (by decide +kernel), by decide +kernel⟩,
    ⟨up.withTt { up.tt with keyCmd := some (7, [1]) }, 7, ([1] : List Byte), canonical_of (by decide +kernel), by decide +kernel⟩⟩

/-- The hypotheses of `Obligations.TimetablesTakeEffect` are met, clause by clause. -/
theorem witness_TimetablesTakeEffect :
    (∃ (s : State) (h : HostId) (slot : BitVec 4) (m : _) (bs : _) (v : _), s.Canonical ∧ Passes h 0x048054 (bitWord 31 ||| slot.setWidth 32) m s ∧ getBit m 31 = true ∧ m &&& 0xF = 0xF ∧ s.flag F.ttbInstCmdInstall = false ∧ s.configured = true ∧ bs = s.winBytes (0xE00000 + 0x10000 * slot.toNat) 0x10000 ∧ v = validateTt bs slot.toNat (s.get F.ttbNorSerialSerial) s.tt.norKey s ∧ leAt bs 0 4 ≠ 0 ∧ v.1 = 0) ∧
    (∃ (s : State) (h : HostId) (slot : BitVec 4) (m : _) (bs : _) (v : _), s.Canonical ∧ Passes h 0x048054 (bitWord 31 ||| slot.setWidth 32) m s ∧ getBit m 31 = true ∧ m &&& 0xF = 0xF ∧ s.flag F.ttbInstCmdInstall = false ∧ s.configured = true ∧ bs = s.winBytes (0xE00000 + 0x10000 * slot.toNat) 0x10000 ∧ v = validateTt bs slot.toNat (s.get F.ttbNorSerialSerial) s.tt.norKey s ∧ leAt bs 0 4 ≠ 0 ∧ v.1 ≠ 0) ∧
    (∃ (s : State) (h : HostId) (slot : BitVec 4) (m : _) (bs : _) (v : _), s.Canonical ∧ Passes h 0x048054 (bitWord 31 ||| slot.setWidth 32) m s ∧ getBit m 31 = true ∧ m &&& 0xF = 0xF ∧ s.flag F.ttbInstCmdInstall = false ∧ s.configured = true ∧ bs = s.winBytes (0xE00000 + 0x10000 * slot.toNat) 0x10000 ∧ v = validateTt bs slot.toNat (s.get F.ttbNorSerialSerial) s.tt.norKey s ∧ leAt bs 0 4 = 0 ∧ (slot = 0 ∨ slot.toNat ≠ s.activeTt)) ∧
    (∃ (s : State) (k : _) (bs : _), s.Canonical ∧ s.tt.install = some (k, bs) ∧ s.gateClosed = false ∧ s.xnet.xferIn = none ∧ k < 16 ∧ k ≠ 0 ∧ k ≠ s.activeTt ∧ bs ≠ [] ∧ bs.length ≤ 0x10000) ∧
    (∃ (s : State) (h : HostId) (tt : BitVec 4) (m : _), s.Canonical ∧ Passes h 0x048048 ((s.reg 0x048048 &&& ~~~(0xF : Word)) ||| tt.setWidth 32) m s ∧ m &&& 0xF ≠ 0 ∧ tt.toNat ≠ s.activeTt ∧ tt ≠ 0 ∧ s.slotTt tt.toNat = none) ∧
    (∃ (s : State) (h : HostId) (tt : BitVec 4) (m : _), s.Canonical ∧ Passes h 0x048048 ((s.reg 0x048048 &&& ~~~(0xF : Word)) ||| tt.setWidth 32) m s ∧ m &&& 0xF ≠ 0 ∧ tt.toNat ≠ s.activeTt ∧ (tt = 0 ∨ (s.slotTt tt.toNat).isSome = true) ∧ s.switchWaits = true) ∧
    (∃ (s : State) (h : HostId) (tt : BitVec 4) (m : _), s.Canonical ∧ Passes h 0x048048 ((s.reg 0x048048 &&& ~~~(0xF : Word)) ||| tt.setWidth 32) m s ∧ m &&& 0xF ≠ 0 ∧ tt.toNat ≠ s.activeTt ∧ (tt = 0 ∨ (s.slotTt tt.toNat).isSome = true) ∧ s.switchWaits = false ∧ s.eng.edit.isSome = true) ∧
    (∃ (s : State) (h : HostId) (tt : BitVec 4) (m : _), s.Canonical ∧ Passes h 0x048048 ((s.reg 0x048048 &&& ~~~(0xF : Word)) ||| tt.setWidth 32) m s ∧ m &&& 0xF ≠ 0 ∧ tt.toNat ≠ s.activeTt ∧ (tt = 0 ∨ (s.slotTt tt.toNat).isSome = true) ∧ s.switchWaits = false ∧ s.eng.edit = none) ∧
    (∃ (s : State) (frame : List Byte) (r : _), s.Canonical ∧ parseFrame frame = some r ∧ r.frame.cls = 0x05 ∧ r.frame.lenOk = true ∧ s.configured = true ∧ s.corrupt r.frame.tally = true) ∧
    (∃ (s : State) (frame : List Byte) (r : _), s.Canonical ∧ parseFrame frame = some r ∧ r.frame.cls = 0x05 ∧ r.frame.lenOk = true ∧ s.configured = true ∧ s.corrupt r.frame.tally = false ∧ s.mayStamp (receiptTally s.ord.tally r.frame.tally) = true ∧ s.flag F.ttbCtlFollow = false ∧ s.callIn = []) ∧
    (∃ (s : State) (frame : List Byte) (r : _), s.Canonical ∧ parseFrame frame = some r ∧ r.frame.cls = 0x05 ∧ r.frame.lenOk = true ∧ s.configured = true ∧ s.corrupt r.frame.tally = false ∧ s.mayStamp (receiptTally s.ord.tally r.frame.tally) = true ∧ s.flag F.ttbCtlFollow = true ∧ s.flag F.callStatDutyValid = true ∧ s.get F.callStatDutyNode ≠ r.frame.origin) ∧
    (∃ (s : State) (frame : List Byte) (r : _) (k : _), s.Canonical ∧ parseFrame frame = some r ∧ r.frame.cls = 0x05 ∧ r.frame.lenOk = true ∧ s.configured = true ∧ s.corrupt r.frame.tally = false ∧ s.mayStamp (receiptTally s.ord.tally r.frame.tally) = true ∧ s.flag F.ttbCtlFollow = true ∧ s.flag F.callStatDutyValid = true ∧ s.get F.callStatDutyNode = r.frame.origin ∧ k = leAt r.frame.body 0 1 % 16 ∧ k ≠ s.activeTt ∧ (k = 0 ∨ (s.slotTt k).isSome = true) ∧ s.switchWaits = true) ∧
    (∃ (s : State) (r : _), s.Canonical ∧ s.tt.pending = some r ∧ s.eng.edit = none ∧ s.standby = false ∧ s.tt.queued = none ∧ r.tt < 16 ∧ r.src < 4) :=
  ⟨⟨up.setWinBytes 0xEF0000 tt15, .a, (15 : BitVec 4), pass .a 0x048054 (bitWord 31 ||| (15 : BitVec 4).setWidth 32) (up.setWinBytes 0xEF0000 tt15), (up.setWinBytes 0xEF0000 tt15).winBytes 0xEF0000 0x10000, validateTt ((up.setWinBytes 0xEF0000 tt15).winBytes 0xEF0000 0x10000) 15 0 0 (up.setWinBytes 0xEF0000 tt15), canonical_of (by decide +kernel), passes_of (by decide +kernel), by decide +kernel, (by decide +kernel), by decide +kernel, by decide +kernel, rfl, rfl, by decide +kernel⟩,
    ⟨up.setWinBytes 0xEF0000 [1], .a, (15 : BitVec 4), pass .a 0x048054 (bitWord 31 ||| (15 : BitVec 4).setWidth 32) (up.setWinBytes 0xEF0000 [1]), (up.setWinBytes 0xEF0000 [1]).winBytes 0xEF0000 0x10000, validateTt ((up.setWinBytes 0xEF0000 [1]).winBytes 0xEF0000 0x10000) 15 0 0 (up.setWinBytes 0xEF0000 [1]), canonical_of (by decide +kernel), passes_of (by decide +kernel), by decide +kernel, (by decide +kernel), by decide +kernel, by decide +kernel, rfl, rfl, by decide +kernel⟩,
    ⟨up, .a, (15 : BitVec 4), pass .a 0x048054 (bitWord 31 ||| (15 : BitVec 4).setWidth 32) up, up.winBytes 0xEF0000 0x10000, validateTt (up.winBytes 0xEF0000 0x10000) 15 0 0 up, canonical_of (by decide +kernel), passes_of (by decide +kernel), by decide +kernel, (by decide +kernel), by decide +kernel, by decide +kernel, rfl, rfl, by decide +kernel⟩,
    ⟨up.withTt { up.tt with install := some (15, tt15) }, 15, tt15, canonical_of (by decide +kernel), by decide +kernel⟩,
    ⟨up, .a, (15 : BitVec 4), pass .a 0x048048 ((up.reg 0x048048 &&& ~~~(0xF : Word)) ||| (15 : BitVec 4).setWidth 32) up, canonical_of (by decide +kernel), passes_of (by decide +kernel), by decide +kernel⟩,
    ⟨up.withTt { up.tt with loaded := [(15, tt15)], pending := some ⟨0, 1, 0, 0⟩ }, .a, (15 : BitVec 4), pass .a 0x048048 (((up.withTt { up.tt with loaded := [(15, tt15)], pending := some ⟨0, 1, 0, 0⟩ }).reg 0x048048 &&& ~~~(0xF : Word)) ||| (15 : BitVec 4).setWidth 32) (up.withTt { up.tt with loaded := [(15, tt15)], pending := some ⟨0, 1, 0, 0⟩ }), canonical_of (by decide +kernel), passes_of (by decide +kernel), by decide +kernel⟩,
    ⟨(up.withTt { up.tt with loaded := [(15, tt15)] }).withEng { up.eng with edit := some (0, 0, 0) }, .a, (15 : BitVec 4), pass .a 0x048048 ((((up.withTt { up.tt with loaded := [(15, tt15)] }).withEng { up.eng with edit := some (0, 0, 0) }).reg 0x048048 &&& ~~~(0xF : Word)) ||| (15 : BitVec 4).setWidth 32) ((up.withTt { up.tt with loaded := [(15, tt15)] }).withEng { up.eng with edit := some (0, 0, 0) }), canonical_of (by decide +kernel), passes_of (by decide +kernel), by decide +kernel⟩,
    ⟨up.withTt { up.tt with loaded := [(15, tt15)] }, .a, (15 : BitVec 4), pass .a 0x048048 (((up.withTt { up.tt with loaded := [(15, tt15)] }).reg 0x048048 &&& ~~~(0xF : Word)) ||| (15 : BitVec 4).setWidth 32) (up.withTt { up.tt with loaded := [(15, tt15)] }), canonical_of (by decide +kernel), passes_of (by decide +kernel), by decide +kernel⟩,
    ⟨up, modeFrameAt (2 ^ 48 + 1), rx (modeFrameAt (2 ^ 48 + 1)), canonical_of (by decide +kernel), by decide +kernel⟩,
    ⟨up.put F.ttbCtlFollow 0, modeFrame, rx modeFrame, canonical_of (by decide +kernel), by decide +kernel⟩,
    ⟨(up.put F.ttbCtlFollow 1).put F.callStatDutyValid 1, modeFrame, rx modeFrame, canonical_of (by decide +kernel), by decide +kernel⟩,
    ⟨(((up.put F.ttbCtlFollow 1).put F.callStatDutyValid 1).put F.callStatDutyNode 5).withTt { up.tt with loaded := [(15, tt15)], pending := some ⟨0, 1, 0, 0⟩ }, modeFrame, rx modeFrame, 15, canonical_of (by decide +kernel), by decide +kernel⟩,
    ⟨up.withTt { up.tt with loaded := [(15, tt15)], pending := some ⟨15, 1, 0, 0⟩, plan := ([], tt15) }, (⟨15, 1, 0, 0⟩ : SwitchReq), canonical_of (by decide +kernel), by decide +kernel⟩⟩

/-- The hypotheses of `Obligations.SafetyCyclesTakeEffect` are met, clause by clause. -/
theorem witness_SafetyCyclesTakeEffect :
    (∃ (s : State), s.Canonical ∧ s.safeRuns = true) ∧
    (∃ (s : State), s.Canonical ∧ s.safeRuns = true) ∧
    (∃ (s : State) (c : SafetyCh) (tp : BitVec 2) (levels : BitVec 32) (i : _), s.Canonical ∧ s.safeRuns = true ∧ pulseInputs s.safe.cfg tp.toNat = [i] ∧ (s.ch c).filtBit i = true ∧ levels.getLsbD (if i % 2 = 0 then i / 2 else 16 + i / 2) = true ∧ (∀ ch, i / 2 < (s.ch ch).pairs.length) ∧ Sparse.get (fun _ => 0) (s.ch c).tpFails i = 0) ∧
    (∃ (s : State) (c : SafetyCh) (tp : BitVec 2) (levels : BitVec 32) (i : _), s.Canonical ∧ s.safeRuns = true ∧ pulseInputs s.safe.cfg tp.toNat = [i] ∧ (s.ch c).filtBit i = true ∧ levels.getLsbD (if i % 2 = 0 then i / 2 else 16 + i / 2) = true ∧ (∀ ch, i / 2 < (s.ch ch).pairs.length) ∧ 1 ≤ Sparse.get (fun _ => 0) (s.ch c).tpFails i) ∧
    (∃ (s : State) (c : SafetyCh) (m : BitVec 3), s.Canonical ∧ s.safeRuns = true ∧ (s.ch c).wireOn m.toNat = true ∧ (∀ ch, m.toNat < (s.ch ch).outs.length)) ∧
    (∃ (s : State) (c : SafetyCh) (m : BitVec 3), s.Canonical ∧ s.safeRuns = true ∧ (s.ch c).wireOn m.toNat = true ∧ (∀ ch, m.toNat < (s.ch ch).outs.length)) ∧
    (∃ (s : State) (k : BitVec 2), s.Canonical ∧ s.safeRuns = true ∧ s.safe.stuck.testBit k.toNat = false ∧ s.safe.chA.sackHigh k.toNat = true ∧ 50000 < s.safe.chA.t - s.safe.chA.sackSince k.toNat) :=
  ⟨⟨up, canonical_of (by decide +kernel), by decide +kernel⟩,
    ⟨(safeUp.put F.safeStatSealSafe 1).withSafe { safeUp.safe with sealB := 5 }, canonical_of (by decide +kernel), by decide +kernel⟩,
    ⟨safeUp, SafetyCh.a, (3 : BitVec 2), (0x80000000 : BitVec 32), 31, canonical_of (by decide +kernel), by decide +kernel, by decide +kernel, (by decide +kernel), by decide +kernel, by intro ch; cases ch <;> decide +kernel, by decide +kernel⟩,
    ⟨safeUp.withSafe { safeUp.safe with chA := { safeUp.safe.chA with tpFails := [(31, 1)] } }, SafetyCh.a, (3 : BitVec 2), (0x80000000 : BitVec 32), 31, canonical_of (by decide +kernel), by decide +kernel, by decide +kernel, (by decide +kernel), by decide +kernel, by intro ch; cases ch <;> decide +kernel, by decide +kernel⟩,
    ⟨safeUp, SafetyCh.a, (7 : BitVec 3), canonical_of (by decide +kernel), by decide +kernel, by decide +kernel, by intro ch; cases ch <;> decide +kernel⟩,
    ⟨safeUp, SafetyCh.a, (7 : BitVec 3), canonical_of (by decide +kernel), by decide +kernel, by decide +kernel, by intro ch; cases ch <;> decide +kernel⟩,
    ⟨safeUp.withSafe { safeUp.safe with chA := { safeUp.safe.chA with t := 50001, filt := 0x3FFFFFFFFF } }, (3 : BitVec 2), canonical_of (by decide +kernel), by decide +kernel⟩⟩

/-- The hypotheses of `Obligations.SafetyInputsTakeEffect` are met, clause by clause. -/
theorem witness_SafetyInputsTakeEffect :
    (∃ (s : State), s.part.safety = false) ∧
    (∃ (s : State), s.part.safety = false) ∧
    (∃ (s : State), s.part.safety = false) ∧
    (∃ (s : State) (p : List Byte) (conn : _) (ok : _), s.Canonical ∧ s.part.safety = true ∧ s.safeRuns = true ∧ s.safe.cfg ≠ [] ∧ judgeParcel s.safe.cfg p s.safe.chA = .bad conn ok) ∧
    (∃ (s : State) (p : List Byte) (c : _) (n : _) (at_ : _) (k : _), s.Canonical ∧ s.part.safety = true ∧ s.safeRuns = true ∧ s.safe.cfg ≠ [] ∧ judgeParcel s.safe.cfg p s.safe.chA = .passed c n (some at_) ∧ s.safe.chA.conn c = some k) ∧
    (∃ (s : State), s.Canonical ∧ s.part.safety = true) ∧
    (∃ (s : State), s.Canonical ∧ s.part.safety = true ∧ s.safeRuns = true ∧ s.safe.cfg ≠ [] ∧ cMaster s.safe.cfg = true ∧ s.safe.chA.chain = .closed) ∧
    (∃ (s : State), s.Canonical ∧ s.part.safety = true ∧ s.safeRuns = true ∧ s.safe.cfg ≠ [] ∧ cMaster s.safe.cfg = true ∧ s.safe.chA.chain = .closed) ∧
    (∃ (s : State), s.Canonical ∧ s.part.safety = true ∧ s.safeRuns = true ∧ s.safe.chA.chain = .establishing) ∧
    (∃ (s : State) (code : BitVec 8) (we : Bool) (seenB : Option (BitVec 9)) (b : BitVec 9), s.Canonical ∧ s.part.safety = true ∧ seenB.getD (BitVec.ofNat 9 (code.toNat + 256 * b2n we)) = b) ∧
    (∃ (s : State) (readB : NorRead) (a : _) (b : _) (slot : _) (r : _), s.Canonical ∧ s.part.safety = true ∧ s.configured = true ∧ s.safe.code.toNat % 8 = slot ∧ selectCopy slot s = a ∧ selectCopyB (decide (readB = .bad)) s = b ∧ bothResults a b (slot == s.safe.sealB.toNat % 8) = r) :=
  ⟨⟨up.withPart { up.part with safety := false }, by decide +kernel⟩,
    ⟨up.withPart { up.part with safety := false }, by decide +kernel⟩,
    ⟨up.withPart { up.part with safety := false }, by decide +kernel⟩,
    ⟨safeUp, (List.replicate 32 (1 : Byte)), (none : Option Nat), false, canonical_of (by decide +kernel), by decide +kernel⟩,
    ⟨parcelUp, parcel1, 63, 9, 40, (⟨.run, 0, 0, false, some 8, [(7, 40)]⟩ : SConn), canonical_of (by decide +kernel), by decide +kernel⟩,
    ⟨chainUp .establishing, canonical_of (by decide +kernel), by decide +kernel⟩,
    ⟨chainUp .closed, canonical_of (by decide +kernel), by decide +kernel⟩,
    ⟨chainUp .closed, canonical_of (by decide +kernel), by decide +kernel⟩,
    ⟨chainUp .establishing, canonical_of (by decide +kernel), by decide +kernel⟩,
    ⟨safeUp, (0xFF : BitVec 8), false, some (5 : BitVec 9), (5 : BitVec 9), canonical_of (by decide +kernel), by decide +kernel⟩,
    ⟨up, NorRead.ok, ((0, 37) : Nat × Nat), ((0, 37) : Nat × Nat), 0, 37, canonical_of (by decide +kernel), by decide +kernel⟩⟩

/-- The hypotheses of `Obligations.SafetyWritesTakeEffect` are met, clause by clause. -/
theorem witness_SafetyWritesTakeEffect :
    (∃ (s : State) (h : HostId) (slot : BitVec 3) (m : _), s.Canonical ∧ Passes h 0x071048 (BitVec.ofNat 32 (16 * slot.toNat + 1)) m s ∧ getBit m 0 = true ∧ getBits m 6 4 = 7 ∧ s.safe.write = none) ∧
    (∃ (s : State) (slot : _) (n : _), s.Canonical ∧ s.safe.write = some (slot, .erasing, n) ∧ s.gateClosed = true) ∧
    (∃ (s : State) (slot : _) (n : _), s.Canonical ∧ s.safe.write = some (slot, .erasing, n) ∧ s.gateClosed = false) ∧
    (∃ (s : State) (slot : _) (n : _), s.Canonical ∧ s.safe.write = some (slot, .erasing, n) ∧ s.gateClosed = false) ∧
    (∃ (s : State) (h : HostId) (v : Word) (slot : _) (n : _), s.Canonical ∧ Passes h 0x07104C v 0xFFFFFFFF s ∧ s.safe.write = some (slot, .ready, n) ∧ n < 512 ∧ s.gateClosed = false ∧ s.tt.norHeld = []) ∧
    (∃ (s : State) (h : HostId) (m : Word) (slot : Nat) (n : Nat) (readB : NorRead) (r : Nat), s.Canonical ∧ Passes h 0x071048 (cfgCtlWord 1 s) m s ∧ getBit m 1 = true ∧ s.safe.write = some (slot, .ready, n) ∧ n = 512 ∧ (norFlush s).safeVerdict 1 slot = r ∧ r = 0 ∧ readB ≠ .bad) ∧
    (∃ (s : State) (h : HostId) (m : _) (slot : _) (n : _) (readB : NorRead) (r : _), s.Canonical ∧ Passes h 0x071048 (cfgCtlWord 1 s) m s ∧ getBit m 1 = true ∧ s.safe.write = some (slot, .ready, n) ∧ n = 512 ∧ (norFlush s).safeVerdict 1 slot = r ∧ r ≠ 0 ∧ readB ≠ .bad) ∧
    (∃ (s : State) (h : HostId) (m : _) (slot : _) (n : _) (readB : NorRead) (r : _), s.Canonical ∧ Passes h 0x071048 (cfgCtlWord 1 s) m s ∧ getBit m 1 = true ∧ s.safe.write = some (slot, .ready, n) ∧ n = 512 ∧ (norFlush s).safeVerdict 1 slot = r ∧ readB = .bad) ∧
    (∃ (s : State) (h : HostId) (m : _) (slot : _) (n : _), s.Canonical ∧ Passes h 0x071048 (cfgCtlWord 1 s) m s ∧ getBit m 1 = true ∧ s.safe.write = some (slot, .ready, n) ∧ n < 512) ∧
    (∃ (s : State) (h : HostId) (m : _) (w : _), s.Canonical ∧ Passes h 0x071048 (cfgCtlWord 2 s) m s ∧ getBit m 2 = true ∧ s.safe.write = some w) ∧
    (∃ (s : State), s.Canonical ∧ s.gateClosed = true) ∧
    (∃ (s : State) (slot : _) (n : _), s.Canonical ∧ s.safe.write = some (slot, .copying, n) ∧ s.gateClosed = false ∧ s.tt.norHeld = []) :=
  ⟨⟨unsealed, .a, (7 : BitVec 3), pass .a 0x071048 (BitVec.ofNat 32 (16 * (7 : BitVec 3).toNat + 1)) unsealed, canonical_of (by decide +kernel), passes_of (by decide +kernel), by decide +kernel⟩,
    ⟨(writing 7 .erasing 0).put F.pwrStatNvmGated 1, 7, 0, canonical_of (by decide +kernel), by decide +kernel⟩,
    ⟨writing 7 .erasing 0, 7, 0, canonical_of (by decide +kernel), by decide +kernel⟩,
    ⟨writing 7 .erasing 0, 7, 0, canonical_of (by decide +kernel), by decide +kernel⟩,
    ⟨writing 7 .ready 511, .a, (5 : Word), 7, 511, canonical_of (by decide +kernel), passes_of (by decide +kernel), by decide +kernel⟩,
    ⟨cfgReady, .a, pass .a 0x071048 (cfgCtlWord 1 cfgReady) cfgReady, 7, 512, .retryOk, 0, canonical_cfgReady, passes_of (by decide +kernel), by decide +kernel, by decide +kernel, rfl, safeVerdict_cfgReady, rfl, by decide⟩,
    ⟨writing 7 .ready 512, .a, pass .a 0x071048 (cfgCtlWord 1 (writing 7 .ready 512)) (writing 7 .ready 512), 7, 512, NorRead.ok, 1, canonical_of (by decide +kernel), passes_of (by decide +kernel), by decide +kernel⟩,
    ⟨writing 7 .ready 512, .a, pass .a 0x071048 (cfgCtlWord 1 (writing 7 .ready 512)) (writing 7 .ready 512), 7, 512, NorRead.bad, 1, canonical_of (by decide +kernel), passes_of (by decide +kernel), by decide +kernel⟩,
    ⟨writing 7 .ready 511, .a, pass .a 0x071048 (cfgCtlWord 1 (writing 7 .ready 511)) (writing 7 .ready 511), 7, 511, canonical_of (by decide +kernel), passes_of (by decide +kernel), by decide +kernel⟩,
    ⟨writing 7 .ready 511, .a, pass .a 0x071048 (cfgCtlWord 2 (writing 7 .ready 511)) (writing 7 .ready 511), ((7, .ready, 511) : Nat × CfgStage × Nat), canonical_of (by decide +kernel), passes_of (by decide +kernel), by decide +kernel⟩,
    ⟨up.put F.pwrStatNvmGated 1, canonical_of (by decide +kernel), by decide +kernel⟩,
    ⟨(writing 7 .copying 512).setNorBytes (safeCopy 1 7) [1, 2, 3], 7, 512, canonical_of (by decide +kernel), by decide +kernel⟩⟩

/-- The hypotheses of `Obligations.LogbookTakesEffect` are met, clause by clause. -/
theorem witness_LogbookTakesEffect :
    (∃ (s : State) (r : _) (q : _), s.Canonical ∧ s.logMay = true ∧ s.lg.ingress = r :: q ∧ s.flag F.logStatFailed = false ∧ recHeld r s.lg.main = false ∧ recHeld r s.lg.ring = false ∧ recHeld r s.lg.failover = false ∧ s.ringing = false ∧ s.lg.main.length < s.mainCap) ∧
    (∃ (s : State) (r : _) (q : _), s.Canonical ∧ s.logMay = true ∧ s.lg.ingress = r :: q ∧ s.flag F.logStatFailed = false ∧ recHeld r s.lg.main = false ∧ recHeld r s.lg.ring = false ∧ recHeld r s.lg.failover = false ∧ s.ringing = true ∧ s.lg.ring.length < 512) ∧
    (∃ (s : State) (r : _) (q : _), s.Canonical ∧ s.logMay = true ∧ s.lg.ingress = r :: q ∧ s.flag F.logStatFailed = false ∧ recHeld r s.lg.main = false ∧ recHeld r s.lg.ring = false ∧ recHeld r s.lg.failover = false ∧ s.ringing = false ∧ s.lg.main.length < s.mainCap) ∧
    (∃ (s : State) (r : Rec) (q : List Rec) (slot : BitVec 17) (v : Rec), s.Canonical ∧ s.logMay = true ∧ s.lg.ingress = r :: q ∧ s.flag F.logStatFailed = false ∧ recHeld r s.lg.main = false ∧ recHeld r s.lg.ring = false ∧ recHeld r s.lg.failover = false ∧ s.ringing = false ∧ s.mainCap ≤ s.lg.main.length ∧ mainVictim r s = some v ∧ slot.toNat ∉ s.lg.retired) ∧
    (∃ (s : State) (code : BitVec 16) (b : _), s.Canonical ∧ s.lg.buckets.find? (fun b => b.code == code.toNat) = some b ∧ b.due = true) ∧
    (∃ (s : State) (h : HostId) (m : _), s.Canonical ∧ Passes h 0x078040 (setBits (s.reg 0x078040) 0 0 1) m s ∧ getBit m 0 = true ∧ s.flag F.logStatFailed = false ∧ s.lg.freezeAt = none) ∧
    (∃ (s : State) (h : HostId) (m : _), s.Canonical ∧ Passes h 0x078040 (setBits (s.reg 0x078040) 0 0 0) m s ∧ getBit m 0 = true ∧ s.lg.freezeAt.isSome = true) ∧
    (∃ (s : State) (t0 : _), s.Canonical ∧ s.lg.freezeAt = some t0 ∧ 1920 ≤ s.since t0) ∧
    (∃ (s : State), s.Canonical ∧ s.lg.freezeAt.isSome = true) ∧
    (∃ (s : State), s.Canonical ∧ s.flag F.logStatMerging = true ∧ s.lg.mergeDue = false ∧ s.gateClosed = false ∧ s.standby = false ∧ s.lg.freezeAt = none) ∧
    (∃ (s : State) (h : HostId) (m : _), s.Canonical ∧ Passes h 0x0780D0 (bitWord 0) m s ∧ getBit m 0 = true ∧ h = .a ∧ s.clearBars = false) ∧
    (∃ (s : State) (h : HostId) (m : _), s.Canonical ∧ Passes h 0x0780D0 (bitWord 0) m s ∧ getBit m 0 = true ∧ h = .b) ∧
    (∃ (s : State) (v : Word) (m : _) (k : _) (t0 : _) (n : _), s.Canonical ∧ Passes .a 0x0780D8 v m s ∧ m ≠ 0 ∧ s.lg.clrKey = some (k, t0, n) ∧ getBits v 15 0 = k ∧ getBits v 31 28 = 0 ∧ s.clearBars = false) ∧
    (∃ (s : State) (v : Word) (m : _) (k : _) (t0 : _) (n : _), s.Canonical ∧ Passes .a 0x0780D8 v m s ∧ m ≠ 0 ∧ s.lg.clrKey = some (k, t0, n) ∧ getBits v 15 0 ≠ k ∧ n < 2) ∧
    (∃ (s : State) (k : _) (t0 : _) (n : _), s.Canonical ∧ s.lg.clrKey = some (k, t0, n) ∧ 64 ≤ s.since t0) ∧
    (∃ (s : State) (scope : _) (hi : _), s.Canonical ∧ s.lg.clear = some (scope, hi) ∧ s.gateClosed = false ∧ s.standby = false ∧ s.lg.freezeAt = none) :=
  ⟨⟨up.withLg { up.lg with ingress := [recOf 5], main := [recOf 3, recOf 7] }, recOf 5, ([] : List Rec), canonical_of (by decide +kernel), by decide +kernel⟩,
    ⟨up.withLg { up.lg with ingress := [recOf 5], main := [recOf 3], freezeAt := some 0 }, recOf 5, ([] : List Rec), canonical_of (by decide +kernel), by decide +kernel⟩,
    ⟨up.withLg { up.lg with ingress := [recOf 5] }, recOf 5, ([] : List Rec), canonical_of (by decide +kernel), by decide +kernel⟩,
    ⟨fullLog, recOf 5, [], 131071, low, canonical_of (by decide +kernel), by decide +kernel, rfl, by decide +kernel, by decide +kernel, by decide +kernel, rfl, rfl, fullLog_full, by decide +kernel, fullLog_retired⟩,
    ⟨up.withLg { up.lg with buckets := [⟨0x7826, 1, 0, 3, 2, 4, 5, true⟩] }, (0x7826 : BitVec 16), (⟨0x7826, 1, 0, 3, 2, 4, 5, true⟩ : Bucket), canonical_of (by decide +kernel), by decide +kernel⟩,
    ⟨up, .a, pass .a 0x078040 (setBits (up.reg 0x078040) 0 0 1) up, canonical_of (by decide +kernel), passes_of (by decide +kernel), by decide +kernel⟩,
    ⟨((up.put F.logStatFrozen 1).put F.logCtlFreeze 1).withLg { up.lg with freezeAt := some 0 }, .a, pass .a 0x078040 (setBits ((((up.put F.logStatFrozen 1).put F.logCtlFreeze 1).withLg { up.lg with freezeAt := some 0 }).reg 0x078040) 0 0 0) (((up.put F.logStatFrozen 1).put F.logCtlFreeze 1).withLg { up.lg with freezeAt := some 0 }), canonical_of (by decide +kernel), passes_of (by decide +kernel), by decide +kernel⟩,
    ⟨(at_ 1920).withLg { up.lg with freezeAt := some 0 }, 0, canonical_of (by decide +kernel), by decide +kernel⟩,
    ⟨up.withLg { up.lg with freezeAt := some 0 }, canonical_of (by decide +kernel), by decide +kernel⟩,
    ⟨(up.put F.logStatMerging 1).withLg { up.lg with ring := [recOf 5], main := [recOf 3, recOf 7] }, canonical_of (by decide +kernel), by decide +kernel⟩,
    ⟨up, .a, pass .a 0x0780D0 (bitWord 0) up, canonical_of (by decide +kernel), passes_of (by decide +kernel), by decide +kernel⟩,
    ⟨up.put F.sysOwnOwner 1, .b, pass .b 0x0780D0 (bitWord 0) (up.put F.sysOwnOwner 1), canonical_of (by decide +kernel), passes_of (by decide +kernel), by decide +kernel⟩,
    ⟨up.withLg { up.lg with clrKey := some (7, 0, 2) }, (7 : Word), pass .a 0x0780D8 (7 : Word) (up.withLg { up.lg with clrKey := some (7, 0, 2) }), 7, 0, 2, canonical_of (by decide +kernel), passes_of (by decide +kernel), by decide +kernel⟩,
    ⟨up.withLg { up.lg with clrKey := some (7, 0, 1) }, (8 : Word), pass .a 0x0780D8 (8 : Word) (up.withLg { up.lg with clrKey := some (7, 0, 1) }), 7, 0, 1, canonical_of (by decide +kernel), passes_of (by decide +kernel), by decide +kernel⟩,
    ⟨(at_ 64).withLg { up.lg with clrKey := some (7, 0, 1) }, 7, 0, 1, canonical_of (by decide +kernel), by decide +kernel⟩,
    ⟨up.withLg { up.lg with clear := some (0, 7000), main := [recOf 5, recOf 7] }, 0, 7000, canonical_of (by decide +kernel), by decide +kernel⟩⟩

/-- The hypotheses of `Obligations.GangwaysTakeEffect` are met, clause by clause. -/
theorem witness_GangwaysTakeEffect :
    (∃ (s : State) (h : HostId) (m : _), s.Canonical ∧ s.gwyWait h = false ∧ Passes h 0x079050 1 m s ∧ getBits m 1 0 = 3) ∧
    (∃ (s : State) (h : HostId) (m : _), s.Canonical ∧ s.gwyWait h = false ∧ Passes h 0x079050 2 m s ∧ getBits m 1 0 = 3) ∧
    (∃ (s : State) (h : HostId) (m : _), s.Canonical ∧ s.gwyWait h = false ∧ Passes h 0x079050 3 m s ∧ getBits m 1 0 = 3) ∧
    (∃ (s : State) (h : HostId) (r : _), s.Canonical ∧ s.getH h F.gwyStatWait ≠ 0 ∧ s.gwyHeld = false ∧ s.getH h F.gwyCmdOp = 1 ∧ s.gwyRecs.find? (fun r => decide (s.gwyKey h ≤ r.key) && s.gwyPass h r) = some r) ∧
    (∃ (s : State) (h : HostId) (r : _), s.Canonical ∧ s.getH h F.gwyStatWait ≠ 0 ∧ s.gwyHeld = false ∧ s.getH h F.gwyCmdOp = 3 ∧ s.gwyRecs.reverse.find? (s.gwyPass h) = some r) ∧
    (∃ (s : State) (h : HostId), s.Canonical ∧ s.getH h F.gwyStatWait ≠ 0 ∧ s.gwyHeld = false ∧ s.getH h F.gwyCmdOp = 2 ∧ (∀ r ∈ s.gwyRecs, s.gwyPass h r = false)) ∧
    (∃ (s : State) (h : HostId) (r : _), s.Canonical ∧ s.answers = true ∧ s.gwyWait h = false ∧ s.getH h F.gwyStatLoaded ≠ 0 ∧ s.gwyRecs.find? (fun r => decide (s.gwyKey h + 1 ≤ r.key) && s.gwyPass h r) = some r) ∧
    (∃ (s : State) (h : HostId), s.Canonical ∧ s.answers = true ∧ s.gwyWait h = false ∧ s.getH h F.gwyStatLoaded ≠ 0 ∧ s.gwyRecs.find? (fun r => decide (s.gwyKey h + 1 ≤ r.key) && s.gwyPass h r) = none) :=
  ⟨⟨up, .a, pass .a 0x079050 1 up, canonical_of (by decide +kernel), by decide +kernel, passes_of (by decide +kernel), (by decide +kernel)⟩,
    ⟨up, .a, pass .a 0x079050 2 up, canonical_of (by decide +kernel), by decide +kernel, passes_of (by decide +kernel), (by decide +kernel)⟩,
    ⟨up, .a, pass .a 0x079050 3 up, canonical_of (by decide +kernel), by decide +kernel, passes_of (by decide +kernel), (by decide +kernel)⟩,
    ⟨seeking 1, .a, recOf 5, canonical_of (by decide +kernel), by decide +kernel⟩,
    ⟨seeking 3, .a, recOf 7, canonical_of (by decide +kernel), by decide +kernel⟩,
    ⟨(seeking 2).putH .a F.gwyFiltMinSev 7, .a, canonical_of (by decide +kernel), by decide +kernel⟩,
    ⟨((seeking 1).putH .a F.gwyStatWait 0).putH .a F.gwyStatLoaded 1, .a, recOf 5, canonical_of (by decide +kernel), by decide +kernel⟩,
    ⟨(((seeking 1).putH .a F.gwyStatWait 0).putH .a F.gwyStatLoaded 1).withLg { up.lg with main := [] }, .a, canonical_of (by decide +kernel), by decide +kernel⟩⟩

/-- The hypotheses of `Obligations.UnmappedAccessesAreRecorded` are met, clause by clause. -/
theorem witness_UnmappedAccessesAreRecorded :
    (∃ (s : State) (h : HostId) (a : BitVec 24) (sck : Nat), s.Canonical ∧ s.answers = true ∧ mappedAddr a.toNat = false ∧ a.toNat % 4 = 0 ∧ sckCheck h sck s = some true) ∧
    (∃ (s : State) (h : HostId) (a : BitVec 24) (sck : Nat), s.Canonical ∧ s.answers = true ∧ mappedAddr a.toNat = false ∧ a.toNat % 4 = 0 ∧ s.flag (hostFld F.hostModeCrc h) = false ∧ sckCheck h sck s ≠ none) ∧
    (∃ (s : State) (a : BitVec 24), s.Canonical ∧ s.answers = true ∧ mappedAddr a.toNat = false) ∧
    (∃ (s : State) (a : BitVec 24), s.Canonical ∧ s.answers = true ∧ mappedAddr a.toNat = false) :=
  ⟨⟨up, .a, (0x300000 : BitVec 24), (250 : Nat), canonical_of (by decide +kernel), by decide +kernel⟩,
    ⟨up, .a, (0x300000 : BitVec 24), (250 : Nat), canonical_of (by decide +kernel), by decide +kernel⟩,
    ⟨up, (0x300001 : BitVec 24), canonical_of (by decide +kernel), by decide +kernel⟩,
    ⟨up, (0x300001 : BitVec 24), canonical_of (by decide +kernel), by decide +kernel⟩⟩

/-- The hypotheses of `Obligations.ModeResetReturnsToOneLane` are met, clause by clause. -/
theorem witness_ModeResetReturnsToOneLane :
    (∃ (s : State), s.Canonical ∧ s.answers = true) :=
  ⟨(up.put (hostFld F.hostModeLanes .a) 2).put (hostFld F.hostModeDdr .a) 1, canonical_of (by decide +kernel), by decide +kernel⟩

/-- The hypotheses of `Obligations.EmergencyAlarmsCannotBeShelved` are met, clause by clause. -/
theorem witness_EmergencyAlarmsCannotBeShelved :
    (∃ (s : State) (h : HostId) (i : PointIdx) (p : _) (m : _), s.Canonical ∧ Passes h 0x040060 (opWord 1 i.toNat) m s ∧ m ≠ 0 ∧ s.standby = false ∧ s.get F.pteAdmresBusy = 0 ∧ s.quiet = true ∧ i.toNat ∉ s.eng.restoring ∧ s.pt i.toNat = some p ∧ s.inEdit i.toNat = false ∧ p.oos = false ∧ ((s.pcfg i.toNat).prio = 0 ∨ (s.pcfg i.toNat).cat = 0)) :=
  ⟨withPt 3 pt1 [(9, 0x10000000), (15, 0x10000)] up, .a, (3 : PointIdx), pt1, pass .a 0x040060 (opWord 1 (3 : PointIdx).toNat) (withPt 3 pt1 [(9, 0x10000000), (15, 0x10000)] up), canonical_of (by decide +kernel), passes_of (by decide +kernel), by decide +kernel⟩

/-- The hypotheses of `Obligations.DuplicateRecordsAreDiscarded` are met, clause by clause. -/
theorem witness_DuplicateRecordsAreDiscarded :
    (∃ (s : State) (r : _) (q : _), s.logMay = true ∧ s.lg.ingress = r :: q ∧ (recHeld r s.lg.main = true ∨ recHeld r s.lg.ring = true ∨ recHeld r s.lg.failover = true)) ∧
    (∃ (s : State), s.Canonical ∧ s.flag F.logStatMerging = true ∧ s.lg.mergeDue = false ∧ s.gateClosed = false ∧ s.standby = false ∧ s.lg.freezeAt = none ∧ (∀ r ∈ s.lg.ring, recHeld r s.lg.main = true)) :=
  ⟨⟨(up.withLg { up.lg with ingress := [recOf 5], ring := [recOf 5], freezeAt := some 0 }), recOf 5, ([] : List Rec), by decide +kernel⟩,
    ⟨(up.put F.logStatMerging 1).withLg { up.lg with main := [recOf 5], ring := [recOf 5] }, canonical_of (by decide +kernel), by decide +kernel⟩⟩


end Sys2Proof.Tests
end

section
/-!
The step as a whole: whatever the command, what it leaves is reached by changes that keep the memories canonical, the
part and the queue.
-/

namespace Sys2Proof.Machine

/-- Every field of the state that a command can change, and every register. -/
def allFields : Nat := 0x7ffffffffff3fffffff

/-- Every command changes nothing but those fields: its own touch lemma, widened to all of them. -/
theorem exec_outTouch : ∀ (c : Instr) (s : State), OutTouch allFields s (exec c s)
  | .tideTick .., s => execTideTick_touch rfl (Touch.refl _ s)
  | .tickSourceToLfrc, s => execTickSourceToLfrc_touch rfl (Touch.refl _ s)
  | .tickSourceToLfxo, s => execTickSourceToLfxo_touch rfl (Touch.refl _ s)
  | .engineWake, s => execEngineWake_touch rfl (Touch.refl _ s)
  | .enginePllChangeover, s => execEnginePllChangeover_touch rfl (Touch.refl _ s)
  | .enginePass, s => execEnginePass_touch rfl (Touch.refl _ s)
  | .supplyCoreFail .., s => execSupplyCoreFail_touch rfl (Touch.refl _ s)
  | .avdd5Fail, s => execAvdd5Fail_touch rfl (Touch.refl _ s)
  | .avdd5Recover, s => execAvdd5Recover_touch rfl (Touch.refl _ s)
  | .vfieldFail, s => execVfieldFail_touch rfl (Touch.refl _ s)
  | .vfieldRecover, s => execVfieldRecover_touch rfl (Touch.refl _ s)
  | .vledFail, s => execVledFail_touch rfl (Touch.refl _ s)
  | .vledRecover, s => execVledRecover_touch rfl (Touch.refl _ s)
  | .vdd33Warn .., s => execVdd33Warn_touch rfl (Touch.refl _ s)
  | .dipEnd .., s => execDipEnd_touch rfl (Touch.refl _ s)
  | .nvmGateOpen .., s => execNvmGateOpen_touch rfl (Touch.refl _ s)
  | .lockout, s => execLockout_touch rfl (Touch.refl _ s)
  | .lockoutRelease, s => execLockoutRelease_touch rfl (Touch.refl _ s)
  | .vdd33ResetFall .., s => execVdd33ResetFall_touch rfl (Touch.refl _ s)
  | .backupSwitch, s => execBackupSwitch_touch rfl (Touch.refl _ s)
  | .backupReturn, s => execBackupReturn_touch rfl (Touch.refl _ s)
  | .startUp .., s => execStartUp_touch rfl (Touch.refl _ s)
  | .bootRepair, s => execBootRepair_touch rfl (Touch.refl _ s)
  | .svcMirror .., s => execSvcMirror_touch rfl (Touch.refl _ s)
  | .mirrorNow .., s => execMirrorNow_touch rfl (Touch.refl _ s)
  | .vbatCheck .., s => execVbatCheck_touch rfl (Touch.refl _ s)
  | .hfxoFail, s => execHfxoFail_touch rfl (Touch.refl _ s)
  | .hfxoRetry .., s => execHfxoRetry_touch rfl (Touch.refl _ s)
  | .frcRetrim, s => execFrcRetrim_touch rfl (Touch.refl _ s)
  | .pllLock .., s => execPllLock_touch rfl (Touch.refl _ s)
  | .pllUnlock .., s => execPllUnlock_touch rfl (Touch.refl _ s)
  | .dozeEntry, s => execDozeEntry_touch rfl (Touch.refl _ s)
  | .standbyRequest .., s => execStandbyRequest_touch rfl (Touch.refl _ s)
  | .standbyEnter .., s => execStandbyEnter_touch rfl (Touch.refl _ s)
  | .standbyWakeHost .., s => execStandbyWakeHost_touch rfl (Touch.refl _ s)
  | .diWake .., s => execDiWake_touch rfl (Touch.refl _ s)
  | .standbyExit, s => execStandbyExit_touch rfl (Touch.refl _ s)
  | .phyResetRelease, s => execPhyResetRelease_touch rfl (Touch.refl _ s)
  | .resetButtonArm, s => execResetButtonArm_touch rfl (Touch.refl _ s)
  | .pinReset, s => execPinReset_touch rfl (Touch.refl _ s)
  | .buttonStuck, s => execButtonStuck_touch rfl (Touch.refl _ s)
  | .watchdogReset .., s => execWatchdogReset_touch rfl (Touch.refl _ s)
  | .softReset .., s => execSoftReset_touch rfl (Touch.refl _ s)
  | .blockReset .., s => execBlockReset_touch rfl (Touch.refl _ s)
  | .registerWrite .., s => execRegisterWrite_touch rfl (Touch.refl _ s)
  | .unmappedAccess .., s => execUnmappedAccess_touch rfl (Touch.refl _ s)
  | .windowWrite .., s => execWindowWrite_touch rfl (Touch.refl _ s)
  | .stageWrite .., s => execStageWrite_touch rfl (Touch.refl _ s)
  | .pageCommit .., s => execPageCommit_touch rfl (Touch.refl _ s)
  | .commitApply .., s => execCommitApply_touch rfl (Touch.refl _ s)
  | .pageLock .., s => execPageLock_touch rfl (Touch.refl _ s)
  | .evtClear .., s => execEvtClear_touch rfl (Touch.refl _ s)
  | .evtForce .., s => execEvtForce_touch rfl (Touch.refl _ s)
  | .hostRead .., s => execHostRead_touch rfl (Touch.refl _ s)
  | .hostWrite .., s => execHostWrite_touch rfl (Touch.refl _ s)
  | .hostReread .., s => execHostReread_touch rfl (Touch.refl _ s)
  | .hostStatus .., s => execHostStatus_touch rfl (Touch.refl _ s)
  | .hostIdent .., s => execHostIdent_touch rfl (Touch.refl _ s)
  | .hostBadCmd .., s => execHostBadCmd_touch rfl (Touch.refl _ s)
  | .hostModeReset .., s => execHostModeReset_touch rfl (Touch.refl _ s)
  | .hostModeWrite .., s => execHostModeWrite_touch rfl (Touch.refl _ s)
  | .ownOffer .., s => execOwnOffer_touch rfl (Touch.refl _ s)
  | .ownTake .., s => execOwnTake_touch rfl (Touch.refl _ s)
  | .offerTimeout, s => execOfferTimeout_touch rfl (Touch.refl _ s)
  | .ownClaim .., s => execOwnClaim_touch rfl (Touch.refl _ s)
  | .ownKeep .., s => execOwnKeep_touch rfl (Touch.refl _ s)
  | .claimTransfer, s => execClaimTransfer_touch rfl (Touch.refl _ s)
  | .burstStart, s => execBurstStart_touch rfl (Touch.refl _ s)
  | .hfxoPrestart, s => execHfxoPrestart_touch rfl (Touch.refl _ s)
  | .tsRead .., s => execTsRead_touch rfl (Touch.refl _ s)
  | .slotStart .., s => execSlotStart_touch rfl (Touch.refl _ s)
  | .excitationOn .., s => execExcitationOn_touch rfl (Touch.refl _ s)
  | .checkCurrentEnd .., s => execCheckCurrentEnd_touch rfl (Touch.refl _ s)
  | .conversionStart .., s => execConversionStart_touch rfl (Touch.refl _ s)
  | .monitorMeasure .., s => execMonitorMeasure_touch rfl (Touch.refl _ s)
  | .phaseComplete .., s => execPhaseComplete_touch rfl (Touch.refl _ s)
  | .slotEnd .., s => execSlotEnd_touch rfl (Touch.refl _ s)
  | .resultLinearise .., s => execResultLinearise_touch rfl (Touch.refl _ s)
  | .rangeOverload .., s => execRangeOverload_touch rfl (Touch.refl _ s)
  | .fastOutput .., s => execFastOutput_touch rfl (Touch.refl _ s)
  | .fastMonitor .., s => execFastMonitor_touch rfl (Touch.refl _ s)
  | .curveLoad .., s => execCurveLoad_touch rfl (Touch.refl _ s)
  | .repPeriodBoundary .., s => execRepPeriodBoundary_touch rfl (Touch.refl _ s)
  | .diSample .., s => execDiSample_touch rfl (Touch.refl _ s)
  | .diChangeAccept .., s => execDiChangeAccept_touch rfl (Touch.refl _ s)
  | .diFreqSample .., s => execDiFreqSample_touch rfl (Touch.refl _ s)
  | .doSet .., s => execDoSet_touch rfl (Touch.refl _ s)
  | .doOverload .., s => execDoOverload_touch rfl (Touch.refl _ s)
  | .doOverloadRetry .., s => execDoOverloadRetry_touch rfl (Touch.refl _ s)
  | .runhrsTimer .., s => execRunhrsTimer_touch rfl (Touch.refl _ s)
  | .cntLoad .., s => execCntLoad_touch rfl (Touch.refl _ s)
  | .manOpen .., s => execManOpen_touch rfl (Touch.refl _ s)
  | .manOpenApply, s => execManOpenApply_touch rfl (Touch.refl _ s)
  | .manClose .., s => execManClose_touch rfl (Touch.refl _ s)
  | .editCloseApply, s => execEditCloseApply_touch rfl (Touch.refl _ s)
  | .editAutoClose, s => execEditAutoClose_touch rfl (Touch.refl _ s)
  | .stalenessExpiry .., s => execStalenessExpiry_touch rfl (Touch.refl _ s)
  | .delayExpiry .., s => execDelayExpiry_touch rfl (Touch.refl _ s)
  | .runupExpiry .., s => execRunupExpiry_touch rfl (Touch.refl _ s)
  | .shelveExpiry .., s => execShelveExpiry_touch rfl (Touch.refl _ s)
  | .escalationExpiry .., s => execEscalationExpiry_touch rfl (Touch.refl _ s)
  | .forceAll .., s => execForceAll_touch rfl (Touch.refl _ s)
  | .peakClr .., s => execPeakClr_touch rfl (Touch.refl _ s)
  | .ackPoint .., s => execAckPoint_touch rfl (Touch.refl _ s)
  | .silencePoint .., s => execSilencePoint_touch rfl (Touch.refl _ s)
  | .ackGroup .., s => execAckGroup_touch rfl (Touch.refl _ s)
  | .silenceAll .., s => execSilenceAll_touch rfl (Touch.refl _ s)
  | .ackAll .., s => execAckAll_touch rfl (Touch.refl _ s)
  | .opcmdUndefined .., s => execOpcmdUndefined_touch rfl (Touch.refl _ s)
  | .shelve .., s => execShelve_touch rfl (Touch.refl _ s)
  | .unshelve .., s => execUnshelve_touch rfl (Touch.refl _ s)
  | .oosOn .., s => execOosOn_touch rfl (Touch.refl _ s)
  | .oosOff .., s => execOosOff_touch rfl (Touch.refl _ s)
  | .ackInput, s => execAckInput_touch rfl (Touch.refl _ s)
  | .silenceInput, s => execSilenceInput_touch rfl (Touch.refl _ s)
  | .groupRearm .., s => execGroupRearm_touch rfl (Touch.refl _ s)
  | .maxexpClr .., s => execMaxexpClr_touch rfl (Touch.refl _ s)
  | .eccScrub .., s => execEccScrub_touch rfl (Touch.refl _ s)
  | .eccUncorrectable .., s => execEccUncorrectable_touch rfl (Touch.refl _ s)
  | .rowRestored .., s => execRowRestored_touch rfl (Touch.refl _ s)
  | .egressHoldExpiry, s => execEgressHoldExpiry_touch rfl (Touch.refl _ s)
  | .stageTimerExpiry .., s => execStageTimerExpiry_touch rfl (Touch.refl _ s)
  | .attendExpiry .., s => execAttendExpiry_touch rfl (Touch.refl _ s)
  | .callRefresh, s => execCallRefresh_touch rfl (Touch.refl _ s)
  | .unitFrameTimer, s => execUnitFrameTimer_touch rfl (Touch.refl _ s)
  | .unitTimeout .., s => execUnitTimeout_touch rfl (Touch.refl _ s)
  | .unitAcceptInput .., s => execUnitAcceptInput_touch rfl (Touch.refl _ s)
  | .callFrameReceive .., s => execCallFrameReceive_touch rfl (Touch.refl _ s)
  | .callCancel .., s => execCallCancel_touch rfl (Touch.refl _ s)
  | .dmDisarm .., s => execDmDisarm_touch rfl (Touch.refl _ s)
  | .dmOnInput, s => execDmOnInput_touch rfl (Touch.refl _ s)
  | .dmResetInput, s => execDmResetInput_touch rfl (Touch.refl _ s)
  | .dmOffInput, s => execDmOffInput_touch rfl (Touch.refl _ s)
  | .dmPrewarn, s => execDmPrewarn_touch rfl (Touch.refl _ s)
  | .dmExpired, s => execDmExpired_touch rfl (Touch.refl _ s)
  | .imgBegin .., s => execImgBegin_touch rfl (Touch.refl _ s)
  | .imgEraseDone .., s => execImgEraseDone_touch rfl (Touch.refl _ s)
  | .imgData .., s => execImgData_touch rfl (Touch.refl _ s)
  | .imgEnd .., s => execImgEnd_touch rfl (Touch.refl _ s)
  | .imgCopy1Written .., s => execImgCopy1Written_touch rfl (Touch.refl _ s)
  | .imgAbort .., s => execImgAbort_touch rfl (Touch.refl _ s)
  | .keyProgram .., s => execKeyProgram_touch rfl (Touch.refl _ s)
  | .keyRevoke .., s => execKeyRevoke_touch rfl (Touch.refl _ s)
  | .authReqSet .., s => execAuthReqSet_touch rfl (Touch.refl _ s)
  | .ttInstall .., s => execTtInstall_touch rfl (Touch.refl _ s)
  | .ttInstallDone, s => execTtInstallDone_touch rfl (Touch.refl _ s)
  | .ttRequest .., s => execTtRequest_touch rfl (Touch.refl _ s)
  | .modeFrameReceive .., s => execModeFrameReceive_touch rfl (Touch.refl _ s)
  | .ttSwitchApply, s => execTtSwitchApply_touch rfl (Touch.refl _ s)
  | .canFrameReceived .., s => execCanFrameReceived_touch rfl (Touch.refl _ s)
  | .rxRelease .., s => execRxRelease_touch rfl (Touch.refl _ s)
  | .txRequest .., s => execTxRequest_touch rfl (Touch.refl _ s)
  | .txCancel .., s => execTxCancel_touch rfl (Touch.refl _ s)
  | .txAttemptEnd .., s => execTxAttemptEnd_touch rfl (Touch.refl _ s)
  | .boffHoldExpiry .., s => execBoffHoldExpiry_touch rfl (Touch.refl _ s)
  | .busOffRecovered .., s => execBusOffRecovered_touch rfl (Touch.refl _ s)
  | .recStart .., s => execRecStart_touch rfl (Touch.refl _ s)
  | .matrixSlotStart .., s => execMatrixSlotStart_touch rfl (Touch.refl _ s)
  | .rxExpectationCheck .., s => execRxExpectationCheck_touch rfl (Touch.refl _ s)
  | .fbCommitForce .., s => execFbCommitForce_touch rfl (Touch.refl _ s)
  | .integrationComplete .., s => execIntegrationComplete_touch rfl (Touch.refl _ s)
  | .detect .., s => execDetect_touch rfl (Touch.refl _ s)
  | .detectCandidateTimeout .., s => execDetectCandidateTimeout_touch rfl (Touch.refl _ s)
  | .fbSleep .., s => execFbSleep_touch rfl (Touch.refl _ s)
  | .fbWake .., s => execFbWake_touch rfl (Touch.refl _ s)
  | .wakePattern .., s => execWakePattern_touch rfl (Touch.refl _ s)
  | .phyPoll .., s => execPhyPoll_touch rfl (Touch.refl _ s)
  | .mdioAccess .., s => execMdioAccess_touch rfl (Touch.refl _ s)
  | .mdioComplete .., s => execMdioComplete_touch rfl (Touch.refl _ s)
  | .syncSend .., s => execSyncSend_touch rfl (Touch.refl _ s)
  | .syncReceive .., s => execSyncReceive_touch rfl (Touch.refl _ s)
  | .faultyRecovery .., s => execFaultyRecovery_touch rfl (Touch.refl _ s)
  | .frameReceive .., s => execFrameReceive_touch rfl (Touch.refl _ s)
  | .hopAckReceive .., s => execHopAckReceive_touch rfl (Touch.refl _ s)
  | .hopRetransmit .., s => execHopRetransmit_touch rfl (Touch.refl _ s)
  | .hopLastingFault .., s => execHopLastingFault_touch rfl (Touch.refl _ s)
  | .streamHoldExpiry .., s => execStreamHoldExpiry_touch rfl (Touch.refl _ s)
  | .ceilWriteDone .., s => execCeilWriteDone_touch rfl (Touch.refl _ s)
  | .censusRoundStart .., s => execCensusRoundStart_touch rfl (Touch.refl _ s)
  | .censusMasterTakeover .., s => execCensusMasterTakeover_touch rfl (Touch.refl _ s)
  | .censusFrameReceive .., s => execCensusFrameReceive_touch rfl (Touch.refl _ s)
  | .censusRoundComplete .., s => execCensusRoundComplete_touch rfl (Touch.refl _ s)
  | .membershipInterval, s => execMembershipInterval_touch rfl (Touch.refl _ s)
  | .replaySend, s => execReplaySend_touch rfl (Touch.refl _ s)
  | .remoteAckCommand .., s => execRemoteAckCommand_touch rfl (Touch.refl _ s)
  | .forgetNode .., s => execForgetNode_touch rfl (Touch.refl _ s)
  | .forgetAllLost .., s => execForgetAllLost_touch rfl (Touch.refl _ s)
  | .rcfgBegin .., s => execRcfgBegin_touch rfl (Touch.refl _ s)
  | .rcfgStage .., s => execRcfgStage_touch rfl (Touch.refl _ s)
  | .rcfgEnd .., s => execRcfgEnd_touch rfl (Touch.refl _ s)
  | .rcfgAbort .., s => execRcfgAbort_touch rfl (Touch.refl _ s)
  | .rcfgInstall .., s => execRcfgInstall_touch rfl (Touch.refl _ s)
  | .rcfgData .., s => execRcfgData_touch rfl (Touch.refl _ s)
  | .rcfgResultReceive .., s => execRcfgResultReceive_touch rfl (Touch.refl _ s)
  | .rcfgTimeout, s => execRcfgTimeout_touch rfl (Touch.refl _ s)
  | .configFrameReceive .., s => execConfigFrameReceive_touch rfl (Touch.refl _ s)
  | .safetyCycle .., s => execSafetyCycle_touch rfl (Touch.refl _ s)
  | .safetyInputSample .., s => execSafetyInputSample_touch rfl (Touch.refl _ s)
  | .testPulseCheck .., s => execTestPulseCheck_touch rfl (Touch.refl _ s)
  | .outputDarkTest .., s => execOutputDarkTest_touch rfl (Touch.refl _ s)
  | .sackStuck .., s => execSackStuck_touch rfl (Touch.refl _ s)
  | .parcelReceive .., s => execParcelReceive_touch rfl (Touch.refl _ s)
  | .chainInputChange .., s => execChainInputChange_touch rfl (Touch.refl _ s)
  | .chainDarkPulse .., s => execChainDarkPulse_touch rfl (Touch.refl _ s)
  | .chainEstablishTimeout, s => execChainEstablishTimeout_touch rfl (Touch.refl _ s)
  | .sealChange .., s => execSealChange_touch rfl (Touch.refl _ s)
  | .configSelection .., s => execConfigSelection_touch rfl (Touch.refl _ s)
  | .safetyCfgBegin .., s => execSafetyCfgBegin_touch rfl (Touch.refl _ s)
  | .safetyCfgEraseDone .., s => execSafetyCfgEraseDone_touch rfl (Touch.refl _ s)
  | .safetyCfgData .., s => execSafetyCfgData_touch rfl (Touch.refl _ s)
  | .safetyCfgEnd .., s => execSafetyCfgEnd_touch rfl (Touch.refl _ s)
  | .safetyCfgAbort .., s => execSafetyCfgAbort_touch rfl (Touch.refl _ s)
  | .logRecordWrite .., s => execLogRecordWrite_touch rfl (Touch.refl _ s)
  | .summaryEmit .., s => execSummaryEmit_touch rfl (Touch.refl _ s)
  | .logFreeze .., s => execLogFreeze_touch rfl (Touch.refl _ s)
  | .logUnfreeze .., s => execLogUnfreeze_touch rfl (Touch.refl _ s)
  | .freezeExpiry, s => execFreezeExpiry_touch rfl (Touch.refl _ s)
  | .clrReq .., s => execClrReq_touch rfl (Touch.refl _ s)
  | .clrCmd .., s => execClrCmd_touch rfl (Touch.refl _ s)
  | .clrKeyExpiry, s => execClrKeyExpiry_touch rfl (Touch.refl _ s)
  | .clearComplete, s => execClearComplete_touch rfl (Touch.refl _ s)
  | .seekKey .., s => execSeekKey_touch rfl (Touch.refl _ s)
  | .seekFirst .., s => execSeekFirst_touch rfl (Touch.refl _ s)
  | .seekLast .., s => execSeekLast_touch rfl (Touch.refl _ s)
  | .gwyAdvance .., s => execGwyAdvance_touch rfl (Touch.refl _ s)
  | .rtcTick, s => execRtcTick_touch rfl (Touch.refl _ s)
  | .timeLoRead .., s => execTimeLoRead_touch rfl (Touch.refl _ s)
  | .timeHiRead .., s => execTimeHiRead_touch rfl (Touch.refl _ s)
  | .shadowReleaseTimeout .., s => execShadowReleaseTimeout_touch rfl (Touch.refl _ s)
  | .rtcHalt .., s => execRtcHalt_touch rfl (Touch.refl _ s)
  | .rtcRelease .., s => execRtcRelease_touch rfl (Touch.refl _ s)
  | .osfClear .., s => execOsfClear_touch rfl (Touch.refl _ s)
  | .frameBoundary, s => execFrameBoundary_touch rfl (Touch.refl _ s)
  | .rowSlot .., s => execRowSlot_touch rfl (Touch.refl _ s)
  | .panelTempRead .., s => execPanelTempRead_touch rfl (Touch.refl _ s)
  | .regionRequest .., s => execRegionRequest_touch rfl (Touch.refl _ s)
  | .hostwinWrite .., s => execHostwinWrite_touch rfl (Touch.refl _ s)
  | .lamptest .., s => execLamptest_touch rfl (Touch.refl _ s)
  | .ltStop .., s => execLtStop_touch rfl (Touch.refl _ s)
  | .lamptestExpiry, s => execLamptestExpiry_touch rfl (Touch.refl _ s)
  | .lamptestInput .., s => execLamptestInput_touch rfl (Touch.refl _ s)
  | .panelPowerOnDone, s => execPanelPowerOnDone_touch rfl (Touch.refl _ s)
  | .panelPowerOff, s => execPanelPowerOff_touch rfl (Touch.refl _ s)
  | .panelPowerOffDone, s => execPanelPowerOffDone_touch rfl (Touch.refl _ s)
  | .beaconPulse, s => execBeaconPulse_touch rfl (Touch.refl _ s)
  | .aonRetentionLoss, s => execAonRetentionLoss_touch rfl (Touch.refl _ s)
  | .canRxError .., s => execCanRxError_touch rfl (Touch.refl _ s)
  | .blockResetEnd .., s => execBlockResetEnd_touch rfl (Touch.refl _ s)
  | .curveLoadDone, s => execCurveLoadDone_touch rfl (Touch.refl _ s)
  | .keyProgramDone, s => execKeyProgramDone_touch rfl (Touch.refl _ s)
  | .safetyCfgCopyAWritten, s => execSafetyCfgCopyAWritten_touch rfl (Touch.refl _ s)
  | .logMergeDone .., s => execLogMergeDone_touch rfl (Touch.refl _ s)
  | .gwySeekDone .., s => execGwySeekDone_touch rfl (Touch.refl _ s)

theorem withPending_canonical {s : State} (h : s.Canonical) (q : List Instr) : (s.withPending q).Canonical :=
  ⟨h.regs, h.regsA, h.regsB, h.win, h.nor⟩

theorem exec_next_touch {c : Instr} {s t : State} (h : exec c s = .next t) : Touch allFields s t := by
  have k := exec_outTouch c s
  rwa [h] at k

/-- Settles O3: a step on the front command keeps what its touch keeps, and the idle step keeps everything. -/
theorem stepsKeepTheInvariant : Obligations.StepsKeepTheInvariant := by
  intro s t hc h
  unfold step at h
  split at h
  next hq =>
    cases h
    exact ⟨hc, rfl, by rw [hq]; rfl⟩
  next c rest hq =>
    have k := exec_next_touch h
    exact ⟨k.canon (withPending_canonical hc rest), k.part, by rw [k.pending, hq]; rfl⟩

end Sys2Proof.Machine
end

section
/-!
Words that a host writes: what an access fault leaves in its page, a word of a window, and the registers whose write has
no behaviour of its own.
-/

namespace Sys2Proof.Machine

/-! Faults of an access. -/

/-- The class of the status word of every page header. -/
theorem regClass_status (p : Nat) : regClass (F.hdrPageStatFaultCode.page p).addr = 1 := by
  show regClass (0x008 + p * 0x1000) = 1
  rw [Nat.add_comm, regMask_hdr (by decide)]
  decide

/-- The code of an access fault stands in PAGE_STAT where no lasting fault hides it (R95). -/
theorem faultCode_accessFault {s : State} (hc : s.Canonical) {p k : Nat} (hl : s.lastingCode p = 0) (hk : k < 256) :
    (accessFault p k s).get (F.hdrPageStatFaultCode.page p) = k := by
  unfold accessFault
  rw [if_pos hl, (raise_touch (M := 0x108000000100206210) rfl (Touch.refl _ _)).get (by rw [regClass_status]; decide),
    State.get_put hc rfl]
  exact Nat.mod_eq_of_lt hk

/-! Bytes of a word. -/

theorem length_leBytes : ∀ n v, (leBytes n v).length = n
  | 0, _ => rfl
  | n + 1, v => by rw [leBytes, List.length_cons, length_leBytes n]

theorem leNat_leBytes : ∀ n v, leNat (leBytes n v) = v % 256 ^ n
  | 0, v => by simp [leBytes, leNat, Nat.mod_one]
  | n + 1, v => by
    have hp : 256 ^ (n + 1) = 256 * 256 ^ n := Nat.pow_succ'
    rw [leBytes, leNat, leNat_leBytes n, BitVec.toNat_ofNat, hp]
    exact Nat.mod_mul.symm

/-! Window words. -/

/-- The word written to a window reads back. -/
theorem winWord_setWinWord {s : State} (hc : s.Canonical) (a : Nat) (w : Word) : (s.setWinWord a w).winWord a = w := by
  have h := Sparse.getRange_setRange (leBytes 4 w.toNat) a hc.win
  rw [length_leBytes] at h
  unfold State.winWord State.setWinWord State.setWinBytes State.winBytes
  rw [State.withWin_win, h, leNat_leBytes]
  exact BitVec.eq_of_toNat_eq (by have := w.isLt; rw [BitVec.toNat_ofNat]; omega)

/-- A word written to a window leaves every other byte. -/
theorem winByte_setWinWord_out {s : State} (hc : s.Canonical) {a b : Nat} (w : Word) (h : b < a ∨ a + 4 ≤ b) :
    (s.setWinWord a w).winByte b = s.winByte b := by
  unfold State.setWinWord State.setWinBytes State.winByte
  rw [State.withWin_win]
  exact Sparse.get_setRange_out _ a b hc.win (by rwa [length_leBytes])

/-- A written word that addresses the manifest window, outside STANDBY. -/
theorem storeWord_manifest {s : State} {h : HostId} {a : Nat} (v : Word) (ha : s.answers = true) (h0 : 0x400000 ≤ a)
    (h1 : a < 0xC00000) (h4 : a % 4 = 0) (hs : s.standby = false) :
    storeWord h a v s = if s.isOwner h then
      (if s.inEdit ((a - 0x400000) / 64) then s.setWinWord a v else accessFault 0x044 0x33 s) else accessFault 0x044 0x22 s := by
  have hw : windowOf a = some .manifest := by simp [windowOf, h0, h1]
  have hm : mappedAddr a = true := by simp [mappedAddr, hw]; omega
  have hn : ¬ a < 0x400000 := by omega
  cases ho : s.isOwner h <;> simp [storeWord, writeWord, ha, h4, hm, hn, hw, windowStore, hs, ho, writeWindow, Window.page]

/-! Plain registers. -/

/-- A register of one RW field over the whole word that only the owner writes, in a page that every part has and no
host owns: its write has no behaviour of its own. -/
structure PlainOwn (a : Nat) (f : FieldRow) : Prop where
  known : (regRow a).isSome = true
  fields : regFields a = [f]
  hi : f.hi = 31
  lo : f.lo = 0
  acc : f.acc = .rw
  own : f.own = true
  sl : f.sl = false
  stg : f.stg = false
  perHost : f.perHost = false
  page : a / 0x1000 = 0x001 ∨ a / 0x1000 = 0x004
  body : 0x40 ≤ a % 0x1000
  noWake : a ≠ 0x001040
  aligned : a % 4 = 0
  mapped : mappedAddr a = true
  action : ∀ h v m s, regAction h a v m s = storeFields h a v m s

/-- The plain registers: WAKE_DI (R79) and ALERT_EN (R116). -/
theorem plainOwn_of_mem {a : BitVec 24}
    (h : a ∈ ([0x001058, 0x00105C, 0x004070, 0x004074, 0x004078, 0x00407C] : List (BitVec 24))) :
    ∃ f, PlainOwn a.toNat f := by
  simp only [List.mem_cons, List.not_mem_nil, or_false] at h
  obtain rfl | rfl | rfl | rfl | rfl | rfl := h <;>
    exact ⟨_, rfl, rfl, rfl, rfl, rfl, rfl, rfl, rfl, rfl, by decide, by decide, by decide, rfl, rfl, fun _ _ _ _ => rfl⟩

theorem PlainOwn.fieldMask {a : Nat} {f : FieldRow} (p : PlainOwn a f) : fieldMask f = 0xFFFFFFFF := by
  unfold Machine.fieldMask
  rw [p.hi, p.lo]
  decide

theorem PlainOwn.page_shared {a : Nat} {f : FieldRow} (p : PlainOwn a f) (h : HostId) : a / 0x1000 ≠ hostPage h := by
  cases h <;> rcases p.page with e | e <;> rw [e] <;> decide

theorem PlainOwn.fitted {a : Nat} {f : FieldRow} (p : PlainOwn a f) (s : State) : s.notFitted (a / 0x1000) = false := by
  rcases p.page with e | e <;> simp [State.notFitted, e]

theorem PlainOwn.pageCheck {a : Nat} {f : FieldRow} (p : PlainOwn a f) {s : State} (h : HostId)
    (hl : s.flag (F.hdrPageStatLocked.page (a / 0x1000)) = false) : pageCheck h a s = none := by
  have hr : a / 0x1000 ≠ 0x080 := by rcases p.page with e | e <;> omega
  simp [Machine.pageCheck, hl, p.page_shared, hr]

/-- The field of a plain register passes for the owner, and fails with 0x22 for the other host. -/
theorem PlainOwn.judgeField {a : Nat} {f : FieldRow} (p : PlainOwn a f) {s : State} (h : HostId) (v cur : Word)
    (hs : s.flag (F.hdrPageCtlStage.page (a / 0x1000)) = false) :
    judgeField h a v cur f s = if s.isOwner h then .pass else .fail 0x22 := by
  have hp : ownPage h a = false := by simpa [ownPage] using p.page_shared h
  have hw : wakeExempt a v s = false := by simp [wakeExempt, p.noWake]
  have hg : fieldStages f a s = false := by simp [fieldStages, p.stg, hs]
  cases ho : s.isOwner h <;> simp [Machine.judgeField, p.acc, p.own, p.sl, hp, hw, hg, ho]

theorem PlainOwn.judgeWord {a : Nat} {f : FieldRow} (p : PlainOwn a f) {s : State} (h : HostId) (v : Word)
    (hs : s.flag (F.hdrPageCtlStage.page (a / 0x1000)) = false) :
    judgeWord h a v s = if s.isOwner h then (0xFFFFFFFF, 0) else (0, 0x22) := by
  have hv : v &&& ~~~(0xFFFFFFFF : Word) = 0 := by simp
  unfold Machine.judgeWord
  simp only [p.fields, List.foldl_cons, List.foldl_nil, p.fieldMask, p.judgeField h v _ hs]
  cases s.isOwner h <;> simp [earlierCode]

theorem PlainOwn.stageModeBits {a : Nat} {f : FieldRow} (p : PlainOwn a f) {s : State}
    (hs : s.flag (F.hdrPageCtlStage.page (a / 0x1000)) = false) : stageModeBits a s = 0 := by
  simp [Machine.stageModeBits, p.fields, fieldStages, p.stg, hs]

theorem PlainOwn.passes {a : Nat} {f : FieldRow} (p : PlainOwn a f) {s : State} {h : HostId} (v : Word)
    (ha : s.answers = true) (ho : s.isOwner h = true)
    (hl : s.flag (F.hdrPageStatLocked.page (a / 0x1000)) = false)
    (hs : s.flag (F.hdrPageCtlStage.page (a / 0x1000)) = false) : Passes h a v 0xFFFFFFFF s :=
  ⟨ha, p.fitted s, p.pageCheck h hl, p.known, by rw [p.judgeWord h v hs, if_pos ho], p.stageModeBits hs⟩

theorem PlainOwn.storeFields {a : Nat} {f : FieldRow} (p : PlainOwn a f) {s : State} (h : HostId) (v : Word)
    (hs : s.flag (F.hdrPageCtlStage.page (a / 0x1000)) = false) : Machine.storeFields h a v 0xFFFFFFFF s = s.setReg a v := by
  have e : ∀ w : Word, w &&& 4294967295#32 = w := fun w => BitVec.and_allOnes
  simp [Machine.storeFields, p.fields, p.fieldMask, p.acc, p.perHost, fieldStages, p.stg, hs, e]

theorem PlainOwn.storeWord {a : Nat} {f : FieldRow} (p : PlainOwn a f) {s : State} (h : HostId) (v : Word)
    (ha : s.answers = true) : Machine.storeWord h a v s = hostWord h a v (Machine.storeFields h a v) s := by
  have hlow : a < 0x400000 := by rcases p.page with e | e <;> omega
  have hact : regAction h a v = Machine.storeFields h a v := funext fun m => funext fun s => p.action h v m s
  simp [Machine.storeWord, Machine.writeWord, ha, p.aligned, p.mapped, hlow, hact]

/-- The other host's write of a plain register is an access fault alone (R11). -/
theorem PlainOwn.storeWord_refused {a : Nat} {f : FieldRow} (p : PlainOwn a f) {s : State} {h : HostId} (v : Word)
    (ha : s.answers = true) (ho : s.isOwner h = false)
    (hl : s.flag (F.hdrPageStatLocked.page (a / 0x1000)) = false)
    (hs : s.flag (F.hdrPageCtlStage.page (a / 0x1000)) = false) :
    Machine.storeWord h a v s = accessFault (a / 0x1000) 0x22 s := by
  obtain ⟨r, hr⟩ := Option.isSome_iff_exists.1 p.known
  have hj : Machine.judgeWord h a v s = (0#32, 0x22) := by rw [p.judgeWord h v hs, ho]; rfl
  have e : ∀ w : Word, 0#32 &&& w = 0#32 := fun w => BitVec.zero_and
  rw [p.storeWord h v ha]
  simp only [hostWord, ha, judged, p.fitted, p.pageCheck h hl, hr, hj, e, storeFields_zero, if_true]
  rfl

theorem PlainOwn.reg_accessFault {a : Nat} {f : FieldRow} (p : PlainOwn a f) (q k : Nat) (s : State) :
    (accessFault q k s).reg a = s.reg a := by
  refine (accessFault_touch (M := 0x108000000300206210) rfl (Touch.refl _ s)).reg a ?_
  have hb : ¬ a % 0x1000 < 0x40 := Nat.not_lt.2 p.body
  unfold regClass
  rw [if_neg hb]
  rcases p.page with e | e <;> rw [e] <;> decide

theorem exec_registerWrite (h : HostId) (a : BitVec 24) (v : Word) (s : State) :
    exec (.registerWrite h a v) s = .next (storeWord h a.toNat v s) := rfl

theorem exec_windowWrite (h : HostId) (a : BitVec 24) (v : Word) (s : State) :
    exec (.windowWrite h a v) s = .next (storeWord h a.toNat v s) := rfl

/-- Settles O18: a plain register has one field, which the owner's write passes; the manifest window takes the word. -/
theorem plainWritesTakeEffect : Obligations.PlainWritesTakeEffect := by
  intro s h a v hc ha ho
  refine ⟨fun hm hl hs => ?_, fun h0 h1 h4 hs he => ⟨s.setWinWord a.toNat v, ?_, winWord_setWinWord hc _ _, rfl, rfl,
    fun b hb => winByte_setWinWord_out hc v hb⟩⟩
  · obtain ⟨f, p⟩ := plainOwn_of_mem hm
    have hw := (p.passes v ha ho hl hs).hostWord (Machine.storeFields h a.toNat v)
    rw [exec_registerWrite, p.storeWord h v ha, hw, p.storeFields h v hs]
  · rw [exec_windowWrite, storeWord_manifest v ha h0 h1 h4 hs, if_pos ho, if_pos he]

/-- Settles O19: the ownership check comes first of all checks of a field and of a window. -/
theorem nonOwnerWritesAreRefused : Obligations.NonOwnerWritesAreRefused := by
  intro s h a v hc ha ho
  refine ⟨fun hm hl hlast hs => ?_, fun h0 h1 h4 hs hlast => ⟨accessFault 0x044 0x22 s, ?_, fun b => ?_,
    faultCode_accessFault hc hlast (by decide), raised_accessFault hc _ _⟩⟩
  · obtain ⟨f, p⟩ := plainOwn_of_mem hm
    refine ⟨accessFault (a.toNat / 0x1000) 0x22 s, ?_, p.reg_accessFault _ _ s, faultCode_accessFault hc hlast (by decide),
      raised_accessFault hc _ _⟩
    rw [exec_registerWrite, p.storeWord_refused v ha ho hl hs]
  · rw [exec_windowWrite, storeWord_manifest v ha h0 h1 h4 hs, ho]
    rfl
  · rw [State.winByte, (accessFault_touch (M := 0x108000000300206210) rfl (Touch.refl _ s)).win rfl, State.winByte]

end Sys2Proof.Machine
end

section
/-!
Cancelling transmit requests: a segment at whose own failover mailbox a failover frame of its own waits. No rule of the
chapter brings a segment there (R309 takes another segment as the partner), but the state space holds it.
-/

namespace Sys2Proof.Machine

/-- A failover frame of segment 0 that waits in mailbox 0. -/
def ownFailoverTry : TxTry :=
  { mbx := 0, snap := ⟨false, 1, false, false, false, false, [], 0⟩, made := 0, trip := false, lasting := false, kept := false,
    fromSeg := some 0, cancel := false }

/-- Segment 0 takes part, the requests of mailboxes 0 and 1 are pending, mailbox 1 is an enabled transmit mailbox, and
the failover frame in mailbox 0 is the segment's own. -/
def ownFailover : State :=
  let s := ((State.reset.withPhase .running).put (F.hdrPageCtlEn.page 0x050) 1).put F.clkStatPllBusLock 1
  let s := (s.put (F.fbTxreqLoReq.page 0) 3).setWinWord (mbxAddr 0 1) 0xC0000000
  s.setSeg 0 { Seg.init with tries := [ownFailoverTry] }

theorem canonical_ownFailover : ownFailover.Canonical :=
  ⟨by decide +kernel, by decide +kernel, by decide +kernel, by decide +kernel, by decide +kernel⟩

theorem passes_ownFailover : Passes .a (0x050068 + 0x1000 * (0 : BitVec 3).toNat) 3 0xFFFFFFFF ownFailover :=
  ⟨by decide +kernel, by decide +kernel, by decide +kernel, by decide +kernel, by decide +kernel, by decide +kernel⟩

/-- The cancel of mailbox 0 sends the failover frame back to segment 0 itself, which starts mailbox 1; the cancel of
mailbox 1 then finds it in transmission and leaves its request. -/
theorem requests_txCancel_ownFailover :
    (pairWrite .a 0x050068 3 (fun b => actTxCan 0 b (some 0)) ownFailover).requests 0 = 2 := by decide +kernel

theorem exec_txCancel (h : HostId) (seg : BitVec 3) (mask : BitVec 64) (ran : BitVec 16) (s : State) :
    exec (.txCancel h seg mask ran) s =
      .next (pairWrite h (0x050068 + 0x1000 * seg.toNat) mask.toNat (fun b => actTxCan seg.toNat b (some ran.toNat)) s) := rfl

/-- Refutes O38: TXCAN of mailboxes 0 and 1, with nothing in transmission when it is written, leaves the request of
mailbox 1 in `ownFailover`. -/
theorem not_fieldBusTransmissionTakesEffect : ¬ Obligations.FieldBusTransmissionTakesEffect := by
  intro h
  obtain ⟨-, -, hcan, -⟩ := h ownFailover 0 canonical_ownFailover
  obtain ⟨t, ht, hbits⟩ := hcan .a 3 0xFFFFFFFF 0 (by decide +kernel) (by decide +kernel) passes_ownFailover
  rw [exec_txCancel] at ht
  obtain rfl := Host.Outcome.next.inj ht
  have hbit := hbits 1 (by decide)
  rw [show (pairWrite .a (0x050068 + 0x1000 * (0 : BitVec 3).toNat) ((3 : BitVec 32).setWidth 64).toNat
      (fun b => actTxCan (0 : BitVec 3).toNat b (some (0 : BitVec 16).toNat)) ownFailover).requests (0 : BitVec 3).toNat = 2
    from requests_txCancel_ownFailover] at hbit
  exact absurd hbit (by decide)

end Sys2Proof.Machine
end

section
/-!
The end of an attempt in a state whose segments are listed twice. `State.Canonical` speaks of the registers and the
memories, not of `State.segs`: a list with two entries for one segment is a state, and a segment set back to its initial
value then uncovers the second entry.
-/

namespace Sys2Proof.Machine

/-- The frame of mailbox 0 in its first attempt. -/
def firstTry : TxTry :=
  { mbx := 0, snap := ⟨false, 1, false, false, false, false, [], 0⟩, made := 0, trip := false, lasting := false, kept := false,
    fromSeg := none, cancel := false }

/-- Segment 0 sends mailbox 0, whose request is pending; a second entry of segment 0 notes a bit error of that mailbox. -/
def listedTwice : State :=
  ((State.reset.withPhase .running).put (F.fbTxreqLoReq.page 0) 1).withSegs
    [(0, { Seg.init with tx := some firstTry }), (0, { Seg.init with bitErrs := [0] })]

theorem canonical_listedTwice : listedTwice.Canonical :=
  ⟨by decide +kernel, by decide +kernel, by decide +kernel, by decide +kernel, by decide +kernel⟩

theorem exec_txAttemptEnd (seg : BitVec 3) (mbx : BitVec 6) (o : TxOutcome) (overload : BitVec 4) (ran : BitVec 16) (s : State) :
    exec (.txAttemptEnd seg mbx o overload ran) s =
      .next (txAttemptEnd seg.toNat mbx.toNat o overload.toNat ran.toNat s) := rfl

/-- The frame's end uncovers the second entry: its bit error is taken for the second in a row, a clash (R301), which
gives the request up. -/
theorem requests_txAttemptEnd_listedTwice :
    listedTwice.requests 0 = 1 ∧ (txAttemptEnd 0 0 (.error 0 true 0) 0 0 listedTwice).requests 0 = 0 := by decide +kernel

/-- Refutes O40: in `listedTwice` a transmit error of a mailbox without a noted bit error gives the request up. -/
theorem not_segmentStatesTakeEffect : ¬ Obligations.SegmentStatesTakeEffect := by
  intro h
  obtain ⟨-, herr, -⟩ := h.2 listedTwice 0 canonical_listedTwice
  obtain ⟨t, ht, -, -, hreq⟩ := herr 0 firstTry 0 true 0 0 0 (by decide +kernel) (by decide +kernel)
    ⟨by decide +kernel, by decide +kernel⟩ rfl rfl rfl (by decide +kernel) (fun _ => by decide +kernel) (by decide +kernel)
    (by decide) (by decide +kernel)
  rw [exec_txAttemptEnd] at ht
  obtain rfl := Host.Outcome.next.inj ht
  obtain ⟨before, after⟩ := requests_txAttemptEnd_listedTwice
  exact absurd (after.symm.trans (hreq.trans before)) (by decide)

end Sys2Proof.Machine
end

section
/-!
The inputs of the safety functions: parcels, the chain's wires, the seal switches and the selection of a configuration.
-/

namespace Sys2Proof.Machine

/-! What an event leaves alone. -/

theorem sat_eq_min (m v : Nat) : sat m v = min m v := by
  unfold sat
  split <;> omega

/-- The fields of `Touch` that raising an event changes. -/
def eventMask : Nat := 0x108000000100206210

theorem raise_eventTouch (p b sev : Nat) (ws : List Nat) (s : State) : Touch eventMask s (raise p b sev ws s) :=
  raise_touch rfl (Touch.refl _ _)

theorem record_eventTouch (p c sev : Nat) (ws : List Nat) (s : State) : Touch eventMask s (record p c sev ws s) :=
  record_touch rfl (Touch.refl _ _)

@[simp] theorem raise_safe (p b sev : Nat) (ws : List Nat) (s : State) : (raise p b sev ws s).safe = s.safe :=
  (raise_eventTouch p b sev ws s).safe rfl

@[simp] theorem record_safe (p c sev : Nat) (ws : List Nat) (s : State) : (record p c sev ws s).safe = s.safe :=
  (record_eventTouch p c sev ws s).safe rfl

@[simp] theorem put_safe (f : Fld) (v : Nat) (s : State) : (s.put f v).safe = s.safe := rfl

/-! The end of a safety command. -/

/-- Hushing changes nothing of a channel but when its readbacks are judged. -/
theorem hushChanged_safe (s₀ s : State) : ∃ qa qb, (hushChanged s₀ s).safe =
    { s.safe with chA := { s.safe.chA with quiet := qa }, chB := { s.safe.chB with quiet := qb } } := by
  unfold hushChanged
  dsimp only
  split
  · exact ⟨s.safe.chA.quiet, s.safe.chB.quiet, rfl⟩
  · exact ⟨_, _, rfl⟩

theorem safeDone_safe (s₀ s : State) : ∃ qa qb, (safeDone s₀ s).safe =
    { s.safe with chA := { s.safe.chA with quiet := qa }, chB := { s.safe.chB with quiet := qb } } := by
  have h : (safeDone s₀ s).safe = (hushChanged s₀ s).safe := (safeNotify_touch (M := 0x8000) rfl (Touch.refl _ _)).safe rfl
  rw [h]
  exact hushChanged_safe s₀ s

theorem safeDone_doneTouch (s₀ s : State) : Touch 0x20008000 s (safeDone s₀ s) := safeDone_touch rfl (Touch.refl _ _)

theorem reg_safeDone (s₀ s : State) (a : Nat) : (safeDone s₀ s).reg a = s.reg a :=
  (safeDone_doneTouch s₀ s).reg a (Nat.testBit_lt_two_pow (Nat.lt_of_lt_of_le (by decide : 0x20008000 < 2 ^ 32)
    (Nat.pow_le_pow_right (by decide) (Nat.le_add_right 32 _))))

theorem get_safeDone (s₀ s : State) (f : Fld) : (safeDone s₀ s).get f = s.get f := by
  rw [State.get, reg_safeDone, State.get]

theorem flag_safeDone (s₀ s : State) (f : Fld) : (safeDone s₀ s).flag f = s.flag f := by
  rw [State.flag, get_safeDone, State.flag]

theorem raised_safeDone (s₀ s : State) (p b : Nat) : (safeDone s₀ s).raised p b = s.raised p b := by
  rw [State.raised, reg_safeDone, State.raised]

/-! Parcels (R399). -/

theorem connReg_setConnReg (c : Nat) (r : SConnReg) (s : State) : connReg c (setConnReg c r s) = r := by
  have h : (s.safe.regs.filter fun y => y.1 != c).find? (fun y => y.1 == c) = none := by
    simp [List.find?_eq_none]
  simp [connReg, setConnReg, List.find?_append, h]

theorem connReg_congr {s t : State} (h : t.safe = s.safe) (c : Nat) : connReg c t = connReg c s := by
  rw [connReg, connReg, h]

/-- A parcel that fails check 1 or 2 changes no channel and is counted. -/
theorem connError_spec (c : Option Nat) (s : State) : (connError c s).safe.chA = s.safe.chA ∧
    (connReg (c.getD 64) (connError c s)).integrity = min 0xFFFF ((connReg (c.getD 64) s).integrity + 1) := by
  unfold connError
  dsimp only
  split
  · exact ⟨rfl, by rw [connReg_setConnReg, sat_eq_min]⟩
  · exact ⟨by rw [raise_safe]; rfl, by rw [connReg_congr (raise_safe _ _ _ _ _), connReg_setConnReg, sat_eq_min]⟩

theorem takeParcel_bad {cfg p : List Byte} {x : SCh} {c : Option Nat} {ok : Bool} (h : judgeParcel cfg p x = .bad c ok) :
    takeParcel cfg p x = x := by
  rw [takeParcel, h]

theorem takeParcel_passed {cfg p : List Byte} {x : SCh} {c n t : Nat} {k : SConn}
    (h : judgeParcel cfg p x = .passed c n (some t)) (hk : x.conn c = some k) :
    takeParcel cfg p x = x.setConn c { k with rxLast := some n, rxPermit := leAt p 8 2, fresh := t + 10 * kWd cfg c, got := true } := by
  simp [takeParcel, h, hk]

theorem conn_setConn {x : SCh} {c : Nat} {k : SConn} (k' : SConn) (h : x.conn c = some k) : (x.setConn c k').conn c = some k' := by
  unfold SCh.conn SCh.setConn at *
  dsimp only
  generalize x.conns = l at h
  induction l with
  | nil => simp at h
  | cons y l ih =>
    by_cases hy : y.1 = c
    · simp [hy]
    · have hb : (y.1 == c) = false := beq_eq_false_iff_ne.2 hy
      simp only [List.find?_cons, List.map_cons, hb, Bool.false_eq_true, if_false] at h ⊢
      exact ih h

/-- A parcel that fails check 1 or 2. -/
theorem parcelIn_bad {p : List Byte} {s : State} {c : Option Nat} {ok : Bool} (hr : s.safeRuns = true) (hcfg : s.safe.cfg ≠ [])
    (h : judgeParcel s.safe.cfg p s.safe.chA = .bad c ok) : (parcelIn p s).safe.chA = s.safe.chA ∧
      (connReg (c.getD 64) (parcelIn p s)).integrity = min 0xFFFF ((connReg (c.getD 64) s).integrity + 1) := by
  have he : s.safe.cfg.isEmpty = false := by simpa using hcfg
  obtain ⟨hch, hint⟩ := connError_spec c s
  have hrec : ∀ t : State, t.safe = (connError c s).safe → (mapCh (takeParcel s.safe.cfg p) t).safe.chA = s.safe.chA ∧
      (connReg (c.getD 64) (mapCh (takeParcel s.safe.cfg p) t)).integrity =
        min 0xFFFF ((connReg (c.getD 64) s).integrity + 1) := by
    intro t ht
    refine ⟨?_, ?_⟩
    · show takeParcel s.safe.cfg p t.safe.chA = _
      rw [ht, hch, takeParcel_bad h]
    · rw [← hint, ← connReg_congr ht]
      rfl
  unfold parcelIn
  simp only [hr, he, h, Bool.not_true, Bool.or_false, Bool.false_eq_true, if_false]
  split
  · exact hrec _ (record_safe _ _ _ _ _)
  · exact hrec _ rfl

/-- A parcel that passes every check. -/
theorem parcelIn_passed {p : List Byte} {s : State} {c n t : Nat} {k : SConn} (hr : s.safeRuns = true) (hcfg : s.safe.cfg ≠ [])
    (h : judgeParcel s.safe.cfg p s.safe.chA = .passed c n (some t)) (hk : s.safe.chA.conn c = some k) :
    (parcelIn p s).safe.chA.conn c =
      some { k with rxLast := some n, rxPermit := leAt p 8 2, fresh := t + 10 * kWd s.safe.cfg c, got := true } := by
  have he : s.safe.cfg.isEmpty = false := by simpa using hcfg
  unfold parcelIn
  simp only [hr, he, h, Bool.not_true, Bool.or_false, Bool.false_eq_true, if_false]
  show (takeParcel s.safe.cfg p s.safe.chA).conn c = _
  rw [takeParcel_passed h hk, conn_setConn _ hk]

/-! The chain (R401, R403). -/

/-- RT_MEAS is at most RT. -/
theorem measureLoop_rtMeas {s : State} (hc : s.Canonical) :
    (measureLoop s).get F.safeChainRtMeas ≤ 100 * cRt s.safe.cfg := by
  have hd : (s.draw 16).2.Canonical := (State.draw_touch (M := 1) rfl (Touch.refl _ s)).canon hc
  show ((s.draw 16).2.put F.safeChainRtMeas ((s.draw 16).1 % (100 * cRt s.safe.cfg + 1))).get F.safeChainRtMeas ≤ _
  rw [State.get_put hd rfl]
  exact Nat.le_trans (Nat.mod_le _ _) (Nat.le_of_lt_succ (Nat.mod_lt _ (Nat.succ_pos _)))

@[simp] theorem measureLoop_safe (s : State) : (measureLoop s).safe = s.safe :=
  (measureLoop_touch (M := 0x20000000000000011) rfl (Touch.refl _ s)).safe rfl

theorem chainSettle_wires (s : State) : (chainSettle s).safe.chnA = s.safe.chnA ∧ (chainSettle s).safe.chnB = s.safe.chnB := by
  unfold chainSettle
  split
  · rw [measureLoop_safe]
    exact ⟨rfl, rfl⟩
  · exact ⟨rfl, rfl⟩

/-- The master that is establishing sees both inputs at 1. -/
theorem chainSettle_closes {s : State} (ha : s.safe.chnA = true) (hb : s.safe.chnB = true) (hcfg : s.safe.cfg ≠ [])
    (hm : cMaster s.safe.cfg = true) (he : s.safe.chA.chain = .establishing) :
    chainSettle s = measureLoop (mapCh SCh.chainClosed s) := by
  have hne : s.safe.cfg.isEmpty = false := by simpa using hcfg
  simp [chainSettle, ha, hb, hne, hm, he]

/-- The wires take their levels; the loop of a master that is establishing closes with them. -/
theorem chainInput_wires {s : State} (hp : s.part.safety = true) (a b : Bool) :
    (chainInput a b s).safe.chnA = a ∧ (chainInput a b s).safe.chnB = b := by
  unfold chainInput
  simp only [hp, Bool.not_true, Bool.false_eq_true, if_false]
  split
  · obtain ⟨qa, qb, h⟩ := safeDone_safe s (chainSettle (s.withSafe { s.safe with chnA := a, chnB := b }))
    rw [h]
    exact chainSettle_wires _
  · exact ⟨rfl, rfl⟩

theorem chainInput_closes {s : State} (hc : s.Canonical) (hp : s.part.safety = true) (hr : s.safeRuns = true)
    (hcfg : s.safe.cfg ≠ []) (hm : cMaster s.safe.cfg = true) (he : s.safe.chA.chain = .establishing) :
    (chainInput true true s).safe.chA.chain = .closed ∧ (chainInput true true s).safe.chB.chain = .closed ∧
      (chainInput true true s).get F.safeChainRtMeas ≤ 100 * cRt s.safe.cfg := by
  have h : chainInput true true s =
      safeDone s (measureLoop (mapCh SCh.chainClosed (s.withSafe { s.safe with chnA := true, chnB := true }))) := by
    rw [← chainSettle_closes (s := s.withSafe { s.safe with chnA := true, chnB := true }) rfl rfl hcfg hm he]
    simp [chainInput, hp, hr]
  have hcl : (mapCh SCh.chainClosed (s.withSafe { s.safe with chnA := true, chnB := true })).Canonical :=
    ⟨hc.regs, hc.regsA, hc.regsB, hc.win, hc.nor⟩
  obtain ⟨qa, qb, hs⟩ := safeDone_safe s
    (measureLoop (mapCh SCh.chainClosed (s.withSafe { s.safe with chnA := true, chnB := true })))
  rw [h, hs, get_safeDone, measureLoop_safe]
  exact ⟨rfl, rfl, measureLoop_rtMeas hcl⟩

theorem ch_congr {s t : State} (h : t.safe = s.safe) (c : SafetyCh) : t.ch c = s.ch c := by
  cases c <;> simp [State.ch, h]

/-- Both channels' chain states. -/
def chainsTo (st : ChainSt) (s : State) : State := mapCh (fun x => { x with chain := st }) s

theorem chainsTo_canonical {s : State} (hc : s.Canonical) (st : ChainSt) : (chainsTo st s).Canonical :=
  (mapCh_touch (M := 0x20000000) rfl (Touch.refl _ _)).canon hc

/-- The end of a safety command keeps both chain states. -/
theorem chains_safeDone {s₀ s : State} {st : ChainSt} (ha : s.safe.chA.chain = st) (hb : s.safe.chB.chain = st) :
    (safeDone s₀ s).safe.chA.chain = st ∧ (safeDone s₀ s).safe.chB.chain = st := by
  obtain ⟨qa, qb, h⟩ := safeDone_safe s₀ s
  rw [h]
  exact ⟨ha, hb⟩

/-- The state in which one channel's chain output begins its dark 0.3 ms. -/
def chainDarkened (c : SafetyCh) (s : State) : State := s.setCh c { s.ch c with chainDark := (s.ch c).t + 3 }

/-- The check of the pulse measures the loop or finds a fault. -/
theorem chainPulse_eq {s : State} (c : SafetyCh) (ok : Bool) (hr : s.safeRuns = true) (hcfg : s.safe.cfg ≠ [])
    (hm : cMaster s.safe.cfg = true) (hcl : s.safe.chA.chain = .closed) :
    chainPulse c ok s = if ok then measureLoop (chainDarkened c s) else
      safeDone (chainDarkened c s)
        (raise 0x070 20 7 [] (lastFault 5 0 (chainsTo .fault (chainDarkened c s)))) := by
  have hne : s.safe.cfg.isEmpty = false := by simpa using hcfg
  simp only [chainPulse, hr, hne, hm, hcl]
  rfl

theorem chainDarkened_canonical {s : State} (hc : s.Canonical) (c : SafetyCh) : (chainDarkened c s).Canonical := by
  cases c <;> exact ⟨hc.regs, hc.regsA, hc.regsB, hc.win, hc.nor⟩

theorem chnPin_of_dark {s : State} {c : SafetyCh} (hm : cMaster s.safe.cfg = true) (h : (s.ch c).t < (s.ch c).chainDark) :
    s.chnPin c = false := by
  cases c
  case a =>
    have hd : ¬ s.safe.chA.chainDark ≤ s.safe.chA.t := Nat.not_le.2 h
    unfold cMaster at hm
    simp [State.chnPin, State.chainOut, hm, hd]
  case b =>
    have hd : ¬ s.safe.chB.chainDark ≤ s.safe.chB.t := Nat.not_le.2 h
    unfold cMaster at hm
    simp [State.chnPin, State.chainOut, hm, hd]

/-- The pulse's check passes. -/
theorem chainPulse_ok {s : State} (hc : s.Canonical) (c : SafetyCh) (hr : s.safeRuns = true) (hcfg : s.safe.cfg ≠ [])
    (hm : cMaster s.safe.cfg = true) (hcl : s.safe.chA.chain = .closed) :
    ((chainPulse c true s).ch c).chainDark = (s.ch c).t + 3 ∧ (chainPulse c true s).chnPin c = false ∧
      (chainPulse c true s).safe.chA.chain = .closed ∧ (chainPulse c true s).safe.chB.chain = s.safe.chB.chain ∧
      (chainPulse c true s).get F.safeChainRtMeas ≤ 100 * cRt s.safe.cfg := by
  have hcfg' : (chainDarkened c s).safe.cfg = s.safe.cfg := by cases c <;> rfl
  have hsafe : (chainPulse c true s).safe = (chainDarkened c s).safe := by
    rw [chainPulse_eq c true hr hcfg hm hcl, if_pos rfl, measureLoop_safe]
  have hdark : ((chainDarkened c s).ch c).chainDark = (s.ch c).t + 3 ∧ ((chainDarkened c s).ch c).t = (s.ch c).t := by
    cases c <;> exact ⟨rfl, rfl⟩
  refine ⟨by rw [ch_congr hsafe]; exact hdark.1, chnPin_of_dark (by rw [hsafe, hcfg']; exact hm) ?_, ?_, ?_, ?_⟩
  · rw [ch_congr hsafe, hdark.1, hdark.2]
    omega
  · rw [hsafe]
    cases c <;> exact hcl
  · rw [hsafe]
    cases c <;> rfl
  · rw [chainPulse_eq c true hr hcfg hm hcl, if_pos rfl, ← hcfg']
    exact measureLoop_rtMeas (chainDarkened_canonical hc c)

/-- The pulse's check fails. -/
theorem chainPulse_fault {s : State} (hc : s.Canonical) (c : SafetyCh) (hr : s.safeRuns = true) (hcfg : s.safe.cfg ≠ [])
    (hm : cMaster s.safe.cfg = true) (hcl : s.safe.chA.chain = .closed) :
    (chainPulse c false s).safe.chA.chain = .fault ∧ (chainPulse c false s).safe.chB.chain = .fault ∧
      (chainPulse c false s).raised 0x070 20 = true ∧ (chainPulse c false s).get F.safeLastfaultCause = 5 := by
  have hd : (chainsTo .fault (chainDarkened c s)).Canonical := chainsTo_canonical (chainDarkened_canonical hc c) _
  have hl : (lastFault 5 0 (chainsTo .fault (chainDarkened c s))).Canonical :=
    State.canonical_put (State.canonical_put hd _ _) _ _
  rw [chainPulse_eq c false hr hcfg hm hcl, if_neg Bool.false_ne_true, raised_safeDone, get_safeDone,
    (raise_eventTouch _ _ _ _ _).get (by decide)]
  obtain ⟨ha, hb⟩ := chains_safeDone (s₀ := chainDarkened c s) (st := .fault)
    (s := raise 0x070 20 7 [] (lastFault 5 0 (chainsTo .fault (chainDarkened c s)))) (by rw [raise_safe]; rfl)
    (by rw [raise_safe]; rfl)
  refine ⟨ha, hb, raised_raise hl _ _ (by decide) _, ?_⟩
  unfold lastFault
  rw [State.get_put_ne (State.canonical_put hd _ _) rfl rfl, State.get_put hd rfl]
  exact Nat.mod_eq_of_lt (by decide)

/-- RT passes before the loop closes. -/
theorem chainLate_opens {s : State} (hr : s.safeRuns = true) (he : s.safe.chA.chain = .establishing) :
    (chainLate s).safe.chA.chain = .opened ∧ (chainLate s).safe.chB.chain = .opened := by
  have e : chainLate s = safeDone s (record 0x070 0x7023 7 [] (chainsTo .opened s)) := by
    simp [chainLate, hr, he, chainsTo]
  rw [e]
  exact chains_safeDone (by rw [record_safe]; rfl) (by rw [record_safe]; rfl)

end Sys2Proof.Machine
end

section
/-!
The seal switches and the selection of a safety configuration (R405, R406, R409).
-/

namespace Sys2Proof.Machine

/-! Outputs that are off. -/

/-- No output of the channel is ON. -/
def SCh.NoneOn (x : SCh) : Prop := ∀ o ∈ x.outs, o.st ≠ .on

theorem nth_eq_or_mem {α : Type} (l : List α) (n : Nat) (d : α) : nth l n d = d ∨ nth l n d ∈ l := by
  unfold nth
  cases h : l.drop n with
  | nil => exact .inl rfl
  | cons x xs => exact .inr (List.mem_of_mem_drop (h ▸ List.mem_cons_self))

theorem SCh.NoneOn.out_ne_on {x : SCh} (h : x.NoneOn) (m : Nat) : (x.out m).st ≠ .on := by
  unfold SCh.out
  rcases nth_eq_or_mem x.outs m (SOut.init .unused) with e | e
  · rw [e]
    exact OutSt.noConfusion
  · exact h _ e

theorem allOff_noneOn (x : SCh) (cfg : List Byte) : (x.allOff cfg).NoneOn := by
  intro o ho
  obtain ⟨o', -, rfl⟩ := List.mem_map.1 ho
  cases h : o'.st <;> simp [h]

theorem restart_noneOn (x : SCh) (cfg : List Byte) : (x.restart cfg).NoneOn := by
  intro o ho
  unfold SCh.restart at ho
  dsimp only at ho
  split at ho
  · exact absurd ho List.not_mem_nil
  · obtain ⟨m, -, rfl⟩ := List.mem_map.1 ho
    unfold SOut.init
    split <;> exact OutSt.noConfusion

/-- The end of a safety command switches no output. -/
theorem out_safeDone {s₀ s : State} (ha : s.safe.chA.NoneOn) (hb : s.safe.chB.NoneOn) (c : SafetyCh) (m : Nat) :
    (((safeDone s₀ s).ch c).out m).st ≠ .on := by
  obtain ⟨qa, qb, h⟩ := safeDone_safe s₀ s
  cases c
  · rw [State.ch, h]
    exact SCh.NoneOn.out_ne_on (x := { s.safe.chA with quiet := qa }) ha m
  · rw [State.ch, h]
    exact SCh.NoneOn.out_ne_on (x := { s.safe.chB with quiet := qb }) hb m

/-! The seal switches (R406). -/

/-- What a seal switch that moved changes before its events: the positions are accepted and every output is off. -/
def sealMoved (s : State) : State :=
  (safeAllOff (((acceptSeal s).put F.sealStatStable 0).put F.safeStatSealSafe 1)).bumpSat F.sealChangesCount 1

theorem sealMoved_canonical {s : State} (hc : s.Canonical) : (sealMoved s).Canonical := by
  have h : (acceptSeal s).Canonical := (acceptSeal_touch (M := 0x20000000) rfl (Touch.refl _ _)).canon hc
  exact State.canonical_put ((safeAllOff_touch (M := 0x20000000) rfl (Touch.refl _ _)).canon
    (State.canonical_put (State.canonical_put h _ _) _ _)) _ _

theorem sealMoved_safe (s : State) : (sealMoved s).safe =
    { s.safe with
      accCode := s.safe.code, accWe := s.safe.we, accSealB := s.safe.sealB
      chA := s.safe.chA.allOff s.safe.cfg, chB := s.safe.chB.allOff s.safe.cfg } := rfl

theorem get_withSafe (s : State) (v : Safe) (f : Fld) : (s.withSafe v).get f = s.get f := rfl

theorem get_safeAllOff (s : State) (f : Fld) : (safeAllOff s).get f = s.get f := get_withSafe _ _ _

theorem get_acceptSeal (s : State) (f : Fld) : (acceptSeal s).get f = s.get f := get_withSafe _ _ _

/-- SEAL_SAFE is set, the switches count as moving, and the change is counted. -/
theorem sealMoved_fields {s : State} (hc : s.Canonical) :
    (sealMoved s).flag F.safeStatSealSafe = true ∧ (sealMoved s).flag F.sealStatStable = false ∧
      (sealMoved s).get F.sealChangesCount = min 0xFFFF (s.get F.sealChangesCount + 1) := by
  have h0 : (acceptSeal s).Canonical := (acceptSeal_touch (M := 0x20000000) rfl (Touch.refl _ _)).canon hc
  have h1 := State.canonical_put h0 F.sealStatStable 0
  have h2 := State.canonical_put h1 F.safeStatSealSafe 1
  have h3 : (safeAllOff (((acceptSeal s).put F.sealStatStable 0).put F.safeStatSealSafe 1)).Canonical :=
    (safeAllOff_touch (M := 0x20000000) rfl (Touch.refl _ _)).canon h2
  unfold sealMoved State.bumpSat State.flag
  refine ⟨?_, ?_, ?_⟩
  · rw [State.get_put_ne h3 rfl rfl, get_safeAllOff, State.get_put h1 rfl]
    rfl
  · rw [State.get_put_ne h3 rfl rfl, get_safeAllOff, State.get_put_ne h1 rfl rfl, State.get_put h0 rfl]
    rfl
  · rw [State.get_put h3 rfl, get_safeAllOff, State.get_put_ne h1 rfl rfl, State.get_put_ne h0 rfl rfl, get_acceptSeal,
      sat_eq_min]
    exact Nat.mod_eq_of_lt (Nat.lt_of_le_of_lt (Nat.min_le_left _ _) (by decide))

theorem withSafe_safe (s : State) (v : Safe) : (s.withSafe v).safe = v := rfl

/-- A write that is abandoned changes the result register and the write alone. -/
theorem cfgAbandon_safe (s : State) : ∃ w, (cfgAbandon s).safe = { s.safe with write := w } := by
  unfold cfgAbandon
  split
  · unfold cfgResult
    exact ⟨none, by rw [withSafe_safe, put_safe, put_safe, put_safe]⟩
  · exact ⟨s.safe.write, rfl⟩

theorem get_cfgAbandon {s : State} (hc : s.Canonical) {f : Fld} (hr : F.sealCfgResResult.apart f = true)
    (hd : F.sealCfgResDone.apart f = true) (hy : F.sealCfgResReady.apart f = true) : (cfgAbandon s).get f = s.get f := by
  have h1 := State.canonical_put hc F.sealCfgResResult 35
  have h2 := State.canonical_put h1 F.sealCfgResDone 1
  unfold cfgAbandon
  split
  · unfold cfgResult
    rw [get_withSafe, State.get_put_ne h2 rfl hy, State.get_put_ne h1 rfl hd, State.get_put_ne hc rfl hr]
  · rfl

/-- A moved seal switch is those changes, their events, and the end of a write that SEAL_WE no longer allows. -/
theorem sealSafe_eq (s : State) : ∃ u, Touch eventMask (sealMoved s) u ∧ (sealSafe s = u ∨ sealSafe s = cfgAbandon u) := by
  unfold sealSafe
  extract_lets c was is s1 s2 s3 s4 s5 s6
  have h3 : Touch eventMask (sealMoved s) s3 := Touch.refl _ _
  have h4 : Touch eventMask (sealMoved s) s4 := by
    unfold s4
    split
    · exact h3
    · exact raise_touch rfl h3
  have h5 : Touch eventMask (sealMoved s) s5 := Touch.ite_else h4 fun h => raise_touch rfl h
  have h6 : Touch eventMask (sealMoved s) s6 := Touch.ite_else h5 fun h => raise_touch rfl h
  refine ⟨s6, h6, ?_⟩
  split
  · exact .inr rfl
  · exact .inl rfl

end Sys2Proof.Machine
end

section
/-!
A change at the seal switches as both channels see it (R378, R406).
-/

namespace Sys2Proof.Machine

theorem safe_sealSafe (s : State) : ∃ w, (sealSafe s).safe = { (sealMoved s).safe with write := w } := by
  obtain ⟨u, hu, e⟩ := sealSafe_eq s
  have hs : u.safe = (sealMoved s).safe := hu.safe rfl
  rcases e with e | e
  · exact ⟨u.safe.write, by rw [e, hs]⟩
  · obtain ⟨w, h⟩ := cfgAbandon_safe u
    exact ⟨w, by rw [e, h, hs]⟩

/-- The events of a moved seal switch leave every register outside the headers, the log and the result of a write. -/
theorem get_sealSafe {s : State} (hc : s.Canonical) {f : Fld} (hm : eventMask.testBit (32 + regClass f.addr) = false)
    (hr : F.sealCfgResResult.apart f = true) (hd : F.sealCfgResDone.apart f = true) (hy : F.sealCfgResReady.apart f = true) :
    (sealSafe s).get f = (sealMoved s).get f := by
  obtain ⟨u, hu, e⟩ := sealSafe_eq s
  rcases e with e | e
  · rw [e, hu.get hm]
  · rw [e, get_cfgAbandon (hu.canon (sealMoved_canonical hc)) hr hd hy, hu.get hm]

/-- A moved seal switch: the safe state, until a selection takes a valid copy (R406). -/
theorem sealSafe_fields {s : State} (hc : s.Canonical) :
    (sealSafe s).flag F.safeStatSealSafe = true ∧ (sealSafe s).flag F.sealStatStable = false ∧
      (sealSafe s).get F.sealChangesCount = min 0xFFFF (s.get F.sealChangesCount + 1) := by
  obtain ⟨hs, ht, hn⟩ := sealMoved_fields hc
  unfold State.flag at *
  rw [get_sealSafe hc (by decide) rfl rfl rfl, get_sealSafe hc (by decide) rfl rfl rfl,
    get_sealSafe hc (by decide) rfl rfl rfl]
  exact ⟨hs, ht, hn⟩

/-- The safe state of a moved seal switch, at the end of the command that finds it. -/
theorem sealSafe_done {s : State} (hc : s.Canonical) (s₀ : State) :
    (safeDone s₀ (sealSafe s)).safe.code = s.safe.code ∧ (safeDone s₀ (sealSafe s)).safe.we = s.safe.we ∧
      (safeDone s₀ (sealSafe s)).safe.sealB = s.safe.sealB ∧ (safeDone s₀ (sealSafe s)).safe.accCode = s.safe.code ∧
      (safeDone s₀ (sealSafe s)).safe.accWe = s.safe.we ∧ (safeDone s₀ (sealSafe s)).safe.accSealB = s.safe.sealB ∧
      (safeDone s₀ (sealSafe s)).flag F.safeStatSealSafe = true ∧ (safeDone s₀ (sealSafe s)).flag F.sealStatStable = false ∧
      (safeDone s₀ (sealSafe s)).get F.sealChangesCount = min 0xFFFF (s.get F.sealChangesCount + 1) ∧
      ∀ c m, (((safeDone s₀ (sealSafe s)).ch c).out m).st ≠ .on := by
  obtain ⟨w, hw⟩ := safe_sealSafe s
  rw [sealMoved_safe] at hw
  obtain ⟨qa, qb, hq⟩ := safeDone_safe s₀ (sealSafe s)
  have hoff : ∀ c m, (((safeDone s₀ (sealSafe s)).ch c).out m).st ≠ .on :=
    out_safeDone (by rw [hw]; exact allOff_noneOn _ _) (by rw [hw]; exact allOff_noneOn _ _)
  rw [flag_safeDone, flag_safeDone, get_safeDone, hq, hw]
  obtain ⟨hs, ht, hn⟩ := sealSafe_fields hc
  exact ⟨rfl, rfl, rfl, rfl, rfl, rfl, hs, ht, hn, hoff⟩

/-- The switches as both channels read them from now on. -/
def switchesRead (code : BitVec 8) (we : Bool) (b : BitVec 9) (s : State) : State :=
  s.withSafe { s.safe with
    code := code, we := we, sealB := b
    sealAt := if code != s.safe.code || we != s.safe.we || b != s.safe.sealB then s.safe.chB.t else s.safe.sealAt }

/-- The same while the functions run: switches that move are not stable. -/
def switchesMoved (code : BitVec 8) (we : Bool) (b : BitVec 9) (s : State) : State :=
  if code != s.safe.code || we != s.safe.we || b != s.safe.sealB then (switchesRead code we b s).put F.sealStatStable 0
  else switchesRead code we b s

theorem switchesMoved_safe (code : BitVec 8) (we : Bool) (b : BitVec 9) (s : State) :
    (switchesMoved code we b s).safe = (switchesRead code we b s).safe := by
  unfold switchesMoved
  split <;> rfl

theorem switchesRead_canonical {s : State} (hc : s.Canonical) (code : BitVec 8) (we : Bool) (b : BitVec 9) :
    (switchesRead code we b s).Canonical := ⟨hc.regs, hc.regsA, hc.regsB, hc.win, hc.nor⟩

theorem switchesMoved_canonical {s : State} (hc : s.Canonical) (code : BitVec 8) (we : Bool) (b : BitVec 9) :
    (switchesMoved code we b s).Canonical := by
  unfold switchesMoved
  split
  · exact State.canonical_put (switchesRead_canonical hc code we b) _ _
  · exact switchesRead_canonical hc code we b

theorem get_switchesMoved {s : State} (hc : s.Canonical) (code : BitVec 8) (we : Bool) (b : BitVec 9) {f : Fld}
    (hf : F.sealStatStable.apart f = true) : (switchesMoved code we b s).get f = s.get f := by
  unfold switchesMoved
  split
  · rw [State.get_put_ne (switchesRead_canonical hc code we b) rfl hf]
    exact get_withSafe _ _ _
  · exact get_withSafe _ _ _

theorem sealChange_eq (code : BitVec 8) (we : Bool) (seenB : Option (BitVec 9)) (s : State) :
    sealChange code we seenB s =
      let b := seenB.getD (BitVec.ofNat 9 (code.toNat + 256 * b2n we))
      let t := switchesMoved code we b s
      if !s.safeRuns then switchesRead code we b s
      else if t.sealApart .a || t.sealApart .b then safeDone s (sealSafe t) else t := rfl

theorem b2n_inj : ∀ {x y : Bool}, b2n x = b2n y → x = y := by decide

/-- What channel A reads tells the code and SEAL_WE. -/
theorem sealWord_inj {c c' : BitVec 8} {w w' : Bool}
    (h : BitVec.ofNat 9 (c.toNat + 256 * b2n w) = BitVec.ofNat 9 (c'.toNat + 256 * b2n w')) : c = c' ∧ w = w' := by
  have e := congrArg BitVec.toNat h
  simp only [BitVec.toNat_ofNat] at e
  have hle : ∀ v : Bool, b2n v ≤ 1 := by decide
  have hw := hle w
  have hw' := hle w'
  have hc := c.isLt
  have hc' := c'.isLt
  exact ⟨BitVec.eq_of_toNat_eq (by omega), b2n_inj (by omega)⟩

/-- A switch that differs from its accepted position in what either channel reads. -/
theorem sealApart_of_ne {s : State} (h : s.safe.code ≠ s.safe.accCode ∨ s.safe.we ≠ s.safe.accWe ∨ s.safe.sealB ≠ s.safe.accSealB) :
    (s.sealApart .a || s.sealApart .b) = true := by
  simp only [State.sealApart, State.sealRead, State.sealTaken, Bool.or_eq_true, bne_iff_ne]
  rcases h with h | h | h
  · exact .inl fun e => h (sealWord_inj e).1
  · exact .inl fun e => h (sealWord_inj e).2
  · exact .inr h

/-- The positions that the channels read stand after the command. -/
theorem sealChange_reads {s : State} (hc : s.Canonical) (code : BitVec 8) (we : Bool) (seenB : Option (BitVec 9)) :
    (sealChange code we seenB s).safe.code = code ∧ (sealChange code we seenB s).safe.we = we ∧
      (sealChange code we seenB s).safe.sealB = seenB.getD (BitVec.ofNat 9 (code.toNat + 256 * b2n we)) := by
  rw [sealChange_eq]
  dsimp only
  generalize seenB.getD (BitVec.ofNat 9 (code.toNat + 256 * b2n we)) = b
  split
  · exact ⟨rfl, rfl, rfl⟩
  · split
    · obtain ⟨h1, h2, h3, -⟩ := sealSafe_done (switchesMoved_canonical hc code we b) s
      rw [switchesMoved_safe] at h1 h2 h3
      exact ⟨h1, h2, h3⟩
    · rw [switchesMoved_safe]
      exact ⟨rfl, rfl, rfl⟩

/-- A switch that either channel sees away from its accepted position. -/
theorem sealChange_moved {s : State} (hc : s.Canonical) (hr : s.safeRuns = true) (code : BitVec 8) (we : Bool)
    (seenB : Option (BitVec 9)) {b : BitVec 9} (hb : seenB.getD (BitVec.ofNat 9 (code.toNat + 256 * b2n we)) = b)
    (h : code ≠ s.safe.accCode ∨ we ≠ s.safe.accWe ∨ b ≠ s.safe.accSealB) :
    (sealChange code we seenB s).safe.accCode = code ∧ (sealChange code we seenB s).safe.accWe = we ∧
      (sealChange code we seenB s).safe.accSealB = b ∧ (sealChange code we seenB s).flag F.safeStatSealSafe = true ∧
      (sealChange code we seenB s).flag F.sealStatStable = false ∧
      (sealChange code we seenB s).get F.sealChangesCount = min 0xFFFF (s.get F.sealChangesCount + 1) ∧
      ∀ c m, (((sealChange code we seenB s).ch c).out m).st ≠ .on := by
  have hap := sealApart_of_ne (s := switchesMoved code we b s) (by rw [switchesMoved_safe]; exact h)
  have e : sealChange code we seenB s = safeDone s (sealSafe (switchesMoved code we b s)) := by
    rw [sealChange_eq]
    simp only [hb, hr, hap, Bool.not_true, Bool.false_eq_true, if_false, if_true]
  obtain ⟨-, -, -, ha, hw, hsb, hs, ht, hn, ho⟩ := sealSafe_done (switchesMoved_canonical hc code we b) s
  rw [switchesMoved_safe] at ha hw hsb
  rw [get_switchesMoved hc code we b rfl] at hn
  rw [e]
  exact ⟨ha, hw, hsb, hs, ht, hn, ho⟩

end Sys2Proof.Machine
end

section
/-!
The selection of a safety configuration (R405, R409).
-/

namespace Sys2Proof.Machine

/-! The copies that the channels take. -/

theorem safeResult_le (cfg : List Byte) (slot node : Nat) (sw : Option (BitVec 8)) : safeResult cfg slot node sw ≤ 34 := by
  unfold safeResult
  repeat' split
  all_goals decide

theorem safeVerdict_le (s : State) (b slot : Nat) : s.safeVerdict b slot ≤ 34 := by
  unfold State.safeVerdict
  split
  · decide
  · exact safeResult_le _ _ _ _

theorem selectBy_le (slot : Nat) (code : BitVec 8) (blind : Bool) (s : State) : (selectBy slot code blind s).2 ≤ 37 := by
  have hv : ∀ b, s.safeVerdict b slot ≤ 37 := fun b => Nat.le_trans (safeVerdict_le s b slot) (by decide)
  have hcode : ∀ bs : List Byte, (if leAt bs 6 1 = code.toNat then 0 else 33) ≤ 37 := by
    intro bs
    split <;> decide
  unfold selectBy
  extract_lets a b ra rb codeOk
  have hra : ra ≤ 37 := by
    unfold ra
    split
    · decide
    · exact hv 0
  split
  · exact hcode a
  · split
    · exact hcode b
    · split
      · exact Nat.le_refl 37
      · split
        · exact hra
        · exact hv 1

theorem bothResults_lt {a b : Nat × Nat} (ha : a.2 ≤ 37) (same : Bool) : bothResults a b same < 256 := by
  unfold bothResults
  split
  · decide
  · split
    · decide
    · exact Nat.lt_of_le_of_lt ha (by decide)

/-- Channels that select differently (check 36). -/
theorem bothResults_differ {a b : Nat × Nat} (h : a.2 ≠ b.2) (same : Bool) : bothResults a b same = 36 := if_pos h

/-- A selection reads the NOR and the node's number alone. -/
theorem selectBy_congr {s t : State} (hnor : t.nor = s.nor) (htt : t.tt = s.tt) (hid : t.nodeId = s.nodeId) (slot : Nat)
    (code : BitVec 8) (blind : Bool) : selectBy slot code blind t = selectBy slot code blind s := by
  have hb : ∀ k, t.safeBytes k slot = s.safeBytes k slot := by
    intro k
    rw [State.safeBytes, State.norBytes, hnor, State.safeBytes, State.norBytes]
  have hf : ∀ n, t.norFails n = s.norFails n := by
    intro n
    rw [State.norFails, htt, State.norFails]
  have hv : ∀ k, t.safeVerdict k slot = s.safeVerdict k slot := by
    intro k
    rw [State.safeVerdict, hf, hb, hid, State.safeVerdict]
  have he : ∀ k, t.safeErased k slot = s.safeErased k slot := by
    intro k
    rw [State.safeErased, hf, hb, State.safeErased]
  simp only [selectBy, hb, hv, he]

/-! What a selection leaves. -/

/-- A selection's outcome: the configuration in effect, no output on in either channel, and the result in SEAL.STAT. -/
structure Selected (cfg : List Byte) (r : Nat) (s : State) : Prop where
  canon : s.Canonical
  cfg_eq : s.safe.cfg = cfg
  offA : s.safe.chA.NoneOn
  offB : s.safe.chB.NoneOn
  result : s.get F.sealStatResult = r

theorem noteSelection_canonical {s : State} (hc : s.Canonical) (copy slot r serial : Nat) :
    (noteSelection copy slot r serial s).Canonical :=
  (noteSelection_touch (Sub.refl _) (Touch.refl _ _)).canon hc

theorem get_noteSelection {s : State} (hc : s.Canonical) (copy slot serial : Nat) {r : Nat} (hr : r < 256) :
    (noteSelection copy slot r serial s).get F.sealStatResult = r := by
  have h1 := State.canonical_put hc F.sealStatResult r
  have h2 := State.canonical_put h1 F.sealStatCopy copy
  have h3 := State.canonical_put h2 F.sealStatSlot slot
  unfold noteSelection
  rw [State.get_put_ne h3 rfl rfl, State.get_put_ne h2 rfl rfl, State.get_put_ne h1 rfl rfl, State.get_put hc rfl]
  exact Nat.mod_eq_of_lt hr

theorem get_safeInstall (cfg : List Byte) (s : State) (f : Fld) : (safeInstall cfg s).get f = s.get f := rfl

theorem Selected.of_install {s : State} (hc : s.Canonical) (cfg : List Byte) (copy slot serial : Nat) {r : Nat} (hr : r < 256) :
    Selected cfg r (safeInstall cfg (noteSelection copy slot r serial s)) where
  canon := (safeInstall_touch (Sub.refl _) (Touch.refl _ _)).canon (noteSelection_canonical hc copy slot r serial)
  cfg_eq := rfl
  offA := restart_noneOn _ cfg
  offB := restart_noneOn _ cfg
  result := by rw [get_safeInstall, get_noteSelection hc copy slot serial hr]

section
variable {cfg : List Byte} {r : Nat} {s t : State} (h : Selected cfg r s)
include h

theorem Selected.touch {M : Nat} (k : Touch M s t) (hs : M.testBit 29 = false)
    (hm : M.testBit (32 + regClass F.sealStatResult.addr) = false) : Selected cfg r t where
  canon := k.canon h.canon
  cfg_eq := by rw [k.safe hs, h.cfg_eq]
  offA := by rw [k.safe hs]; exact h.offA
  offB := by rw [k.safe hs]; exact h.offB
  result := by rw [k.get hm, h.result]

theorem Selected.put {f : Fld} (hf : f.ok = true) (ha : f.apart F.sealStatResult = true) (v : Nat) :
    Selected cfg r (s.put f v) where
  canon := State.canonical_put h.canon f v
  cfg_eq := h.cfg_eq
  offA := h.offA
  offB := h.offB
  result := by rw [State.get_put_ne h.canon hf ha, h.result]

theorem Selected.raise (p b sev : Nat) (ws : List Nat) : Selected cfg r (raise p b sev ws s) :=
  h.touch (raise_eventTouch p b sev ws s) rfl (by decide)

theorem Selected.refreshSlots : Selected cfg r (refreshSlots s) := by
  unfold Machine.refreshSlots
  dsimp only
  split
  · exact (h.put rfl rfl _).put rfl rfl _
  · exact h

theorem Selected.faultCodes : Selected cfg r (safeFaultCode (sealFaultCode s)) :=
  (h.touch (sealFaultCode_touch (M := 0x100) rfl (Touch.refl _ _)) rfl (by decide)).touch
    (safeFaultCode_touch (M := 0x100) rfl (Touch.refl _ _)) rfl (by decide)

theorem Selected.repair (n : Option Nat) : Selected cfg r (s.withSafe { s.safe with repair := n }) where
  canon := (State.withSafe_touch (M := 0x20000000) rfl (Touch.refl _ _)).canon h.canon
  cfg_eq := h.cfg_eq
  offA := h.offA
  offB := h.offB
  result := by rw [get_withSafe, h.result]

theorem Selected.norWrite (a : Nat) (bs : List Byte) : Selected cfg r (norWrite a bs s) :=
  h.touch (norWrite_touch (M := 0x10020000) rfl (Touch.refl _ _)) rfl (by decide)

theorem Selected.safeDone (s₀ : State) : (safeDone s₀ s).safe.cfg = cfg ∧ (safeDone s₀ s).get F.sealStatResult = r ∧
    ∀ c m, (((safeDone s₀ s).ch c).out m).st ≠ .on := by
  obtain ⟨qa, qb, hq⟩ := safeDone_safe s₀ s
  refine ⟨?_, ?_, out_safeDone h.offA h.offB⟩
  · rw [hq]
    exact h.cfg_eq
  · rw [get_safeDone, h.result]

end

/-! The registers and faults beside it. -/

theorem get_refreshSlots {s : State} (hc : s.Canonical) {f : Fld} (ha : F.sealSlotsValidA.apart f = true)
    (hb : F.sealSlotsValidB.apart f = true) : (refreshSlots s).get f = s.get f := by
  unfold refreshSlots
  dsimp only
  split
  · rw [State.get_put_ne (State.canonical_put hc _ _) rfl hb, State.get_put_ne hc rfl ha]
  · rfl

theorem refreshSlots_slotTouch (s : State) : Touch 0x40000000000000010 s (refreshSlots s) :=
  refreshSlots_touch rfl (Touch.refl _ _)

/-- Removing a key keeps what every other key reads. -/
theorem Sparse.get_erase_of_ne {α : Type} (d : Nat → α) {k k' : Nat} (h : k' ≠ k) (m : List (Nat × α)) :
    Sparse.get d (Sparse.erase m k) k' = Sparse.get d m k' := by
  induction m with
  | nil => rfl
  | cons x m ih =>
    obtain ⟨a, v⟩ := x
    by_cases ha : a = k
    · simp [Sparse.erase, Sparse.get, ha, h.symm]
    · simp [Sparse.erase, Sparse.get, ha, ih]

theorem lastingCode_setLasting (s : State) (p : Nat) {c : Nat} (h : c ≠ 0) : (s.setLasting p c).lastingCode p = c := by
  show Sparse.get _ (Sparse.set (fun _ => 0) s.lasting p c) p = c
  rw [Sparse.set, if_neg h, Sparse.get_insert, if_pos rfl]

theorem lastingCode_setLasting_ne (s : State) {p q : Nat} (h : q ≠ p) (c : Nat) :
    (s.setLasting p c).lastingCode q = s.lastingCode q := by
  show Sparse.get _ (Sparse.set (fun _ => 0) s.lasting p c) q = Sparse.get _ s.lasting q
  unfold Sparse.set
  split
  · exact Sparse.get_erase_of_ne _ h _
  · rw [Sparse.get_insert, if_neg h]

theorem lastingCode_congr {s t : State} (h : t.lasting = s.lasting) (p : Nat) : t.lastingCode p = s.lastingCode p := by
  rw [State.lastingCode, h, State.lastingCode]

/-- No configuration in effect is a lasting fault of SEAL. -/
theorem lastingCode_faultCodes {s : State} (hp : s.part.safety = true) (hcfg : s.safe.cfg = []) :
    (safeFaultCode (sealFaultCode s)).lastingCode 0x071 = 0x40 := by
  unfold safeFaultCode
  rw [lastingCode_setLasting_ne _ (by decide)]
  unfold sealFaultCode
  rw [hp, hcfg]
  exact lastingCode_setLasting _ _ (by decide)

/-! The selection. -/

theorem put_nor (f : Fld) (v : Nat) (s : State) : (s.put f v).nor = s.nor := rfl

theorem put_tt (f : Fld) (v : Nat) (s : State) : (s.put f v).tt = s.tt := rfl

theorem put_part (f : Fld) (v : Nat) (s : State) : (s.put f v).part = s.part := rfl

/-- The state in which the selection reads: the switches are stable, and channel B's read is counted. -/
def selecting (readB : NorRead) (s : State) : State := readByB readB (s.put F.sealStatStable 1)

theorem selecting_touch (readB : NorRead) (s : State) : Touch 0x400000010 (s.put F.sealStatStable 1) (selecting readB s) :=
  readByB_touch rfl (Touch.refl _ _)

theorem selecting_canonical {s : State} (hc : s.Canonical) (readB : NorRead) : (selecting readB s).Canonical :=
  (selecting_touch readB s).canon (State.canonical_put hc _ _)

theorem safeBytes_selecting (readB : NorRead) (s : State) (b slot : Nat) :
    (selecting readB s).safeBytes b slot = s.safeBytes b slot := by
  have h : (selecting readB s).nor = s.nor := ((selecting_touch readB s).nor rfl).trans (put_nor _ _ _)
  rw [State.safeBytes, State.norBytes, h, State.safeBytes, State.norBytes]

theorem selectBy_put (slot : Nat) (code : BitVec 8) (blind : Bool) {s : State} (hc : s.Canonical) (v : Nat) :
    selectBy slot code blind (s.put F.sealStatStable v) = selectBy slot code blind s := by
  have hid : (s.put F.sealStatStable v).nodeId = s.nodeId := by
    rw [State.nodeId, State.get_put_ne hc rfl rfl, State.nodeId]
  exact selectBy_congr (put_nor _ _ _) (put_tt _ _ _) hid slot code blind

/-- Both channels take a valid copy: before the events of the selection. -/
def selectionTaken (cfg : List Byte) (copy slot : Nat) (s : State) : State :=
  (safeInstall cfg (noteSelection copy slot 0 (leAt cfg 8 4) s)).put F.safeStatSealSafe 0

/-- The selection's rewriting of the other copy (R405). -/
def selectionRepair (cfg : List Byte) (copy slot : Nat) (s : State) : State :=
  if copy = 1 then s.withSafe { s.safe with repair := some slot }
  else if s.safeVerdict 1 slot = 0 then s
  else norWrite (safeCopy 1 slot) cfg s

theorem selectionRepair_touch (cfg : List Byte) (copy slot : Nat) (s : State) :
    Touch 0x30020000 s (selectionRepair cfg copy slot s) := by
  unfold selectionRepair
  split
  · exact State.withSafe_touch rfl (Touch.refl _ _)
  · split
    · exact Touch.refl _ _
    · exact norWrite_touch rfl (Touch.refl _ _)

theorem Selected.selectionRepair {cfg : List Byte} {r : Nat} {s : State} (h : Selected cfg r s) (bs : List Byte)
    (copy slot : Nat) : Selected cfg r (selectionRepair bs copy slot s) := by
  unfold Machine.selectionRepair
  split
  · exact h.repair _
  · split
    · exact h
    · exact h.norWrite _ _

/-- SEAL_SAFE clears with a valid copy. -/
theorem get_selectionTaken {s : State} (hc : s.Canonical) (cfg : List Byte) (copy slot : Nat) :
    (selectionTaken cfg copy slot s).get F.safeStatSealSafe = 0 :=
  State.get_put (Selected.of_install hc cfg copy slot _ (by decide)).canon rfl 0

/-- A selection in which both channels take a valid copy. -/
theorem selectCfg_valid {s : State} (hc : s.Canonical) {readB : NorRead} {a b : Nat × Nat} {slot : Nat}
    (hslot : s.safe.code.toNat % 8 = slot) (ha : selectCopy slot s = a) (hb : selectCopyB (decide (readB = .bad)) s = b)
    (hr : bothResults a b (slot == s.safe.sealB.toNat % 8) = 0) :
    Selected (s.safeBytes a.1 slot) 0 (selectCfg readB (s.put F.sealStatStable 1)) ∧
      (selectCfg readB (s.put F.sealStatStable 1)).flag F.safeStatSealSafe = false ∧
      (selectCfg readB (s.put F.sealStatStable 1)).raised 0x071 4 = true := by
  have ha' : selectCopy slot (s.put F.sealStatStable 1) = a := (selectBy_put _ _ _ hc _).trans ha
  have hb' : selectCopyB (decide (readB = .bad)) (s.put F.sealStatStable 1) = b := (selectBy_put _ _ _ hc _).trans hb
  generalize hcfg : s.safeBytes a.1 slot = cfg
  have hcan := selecting_canonical hc readB
  have e : ∃ ws, selectCfg readB (s.put F.sealStatStable 1) = refreshSlots (raise 0x071 4 7 ws
      (selectionRepair cfg a.1 slot (safeFaultCode (sealFaultCode (selectionTaken cfg a.1 slot (selecting readB s)))))) := by
    refine ⟨[slot + 2 ^ 8 * a.1, leAt cfg 8 4] ++ nameWords cfg 0x00C, ?_⟩
    unfold selectCfg
    simp only [put_safe, hslot, ha', hb', hr, if_true]
    rw [← hcfg, ← safeBytes_selecting readB s]
    rfl
  obtain ⟨ws, e⟩ := e
  have ht : Selected cfg 0 (selectionTaken cfg a.1 slot (selecting readB s)) :=
    (Selected.of_install hcan cfg a.1 slot _ (by decide)).put rfl rfl 0
  have hf := ht.faultCodes.selectionRepair cfg a.1 slot
  have hev := hf.raise 0x071 4 7 ws
  have hfault : Touch 0x100 (selectionTaken cfg a.1 slot (selecting readB s))
      (safeFaultCode (sealFaultCode (selectionTaken cfg a.1 slot (selecting readB s)))) :=
    safeFaultCode_touch rfl (sealFaultCode_touch rfl (Touch.refl _ _))
  rw [e]
  refine ⟨hev.refreshSlots, ?_, ?_⟩
  · rw [State.flag, get_refreshSlots hev.canon rfl rfl, (raise_eventTouch _ _ _ _ _).get (by decide),
      (selectionRepair_touch _ _ _ _).get (by decide), hfault.get (by decide), get_selectionTaken hcan]
    rfl
  · exact (Up.touch (refreshSlots_slotTouch _) rfl).raw hev.canon _ _ (raised_raise hf.canon _ _ (by decide) _)

/-- A selection in which the channels take no copy, or not the same one. -/
theorem selectCfg_invalid {s : State} (hc : s.Canonical) (hp : s.part.safety = true) {readB : NorRead} {a b : Nat × Nat}
    {slot r : Nat} (hslot : s.safe.code.toNat % 8 = slot) (ha : selectCopy slot s = a)
    (hb : selectCopyB (decide (readB = .bad)) s = b) (hr : bothResults a b (slot == s.safe.sealB.toNat % 8) = r)
    (hne : r ≠ 0) : Selected [] r (selectCfg readB (s.put F.sealStatStable 1)) ∧
      (selectCfg readB (s.put F.sealStatStable 1)).lastingCode 0x071 = 0x40 ∧
      (selectCfg readB (s.put F.sealStatStable 1)).raised 0x071 5 = true := by
  have ha' : selectCopy slot (s.put F.sealStatStable 1) = a := (selectBy_put _ _ _ hc _).trans ha
  have hb' : selectCopyB (decide (readB = .bad)) (s.put F.sealStatStable 1) = b := (selectBy_put _ _ _ hc _).trans hb
  have hlt : r < 256 := by
    rw [← hr, ← ha]
    exact bothResults_lt (selectBy_le _ _ _ _) _
  have hcan : (safeAllOff (selecting readB s)).Canonical :=
    (safeAllOff_touch (M := 0x20000000) rfl (Touch.refl _ _)).canon (selecting_canonical hc readB)
  have e : selectCfg readB (s.put F.sealStatStable 1) = refreshSlots (raise 0x071 5 7 [a.2, b.2] (safeFaultCode (sealFaultCode
      (safeInstall [] (noteSelection a.1 slot r 0 (safeAllOff (selecting readB s))))))) := by
    unfold selectCfg
    simp only [put_safe, hslot, ha', hb', hr, if_neg hne]
    rfl
  have ht : Selected [] r (safeInstall [] (noteSelection a.1 slot r 0 (safeAllOff (selecting readB s)))) :=
    Selected.of_install hcan [] a.1 slot 0 hlt
  have hpart : (safeInstall [] (noteSelection a.1 slot r 0 (safeAllOff (selecting readB s)))).part.safety = true := by
    have h : Touch 0x40000000020000010 (selecting readB s)
        (safeInstall [] (noteSelection a.1 slot r 0 (safeAllOff (selecting readB s)))) :=
      safeInstall_touch rfl (noteSelection_touch rfl (safeAllOff_touch rfl (Touch.refl _ _)))
    rw [h.part, (selecting_touch readB s).part, put_part, hp]
  have hf := ht.faultCodes
  have hev := hf.raise 0x071 5 7 [a.2, b.2]
  rw [e]
  refine ⟨hev.refreshSlots, ?_, ?_⟩
  · rw [lastingCode_congr ((refreshSlots_slotTouch _).lasting rfl), lastingCode_congr ((raise_eventTouch _ _ _ _ _).lasting rfl)]
    exact lastingCode_faultCodes hpart ht.cfg_eq
  · exact (Up.touch (refreshSlots_slotTouch _) rfl).raw hev.canon _ _ (raised_raise hf.canon _ _ (by decide) _)

end Sys2Proof.Machine
end

section
/-!
The inputs of the safety functions (R2, R399, R401, R403, R405, R406, R409).
-/

namespace Sys2Proof.Machine

/-! A part without the safety functions (R2). -/

theorem safePins_of_not_safety {s : State} (h : s.part.safety = false) (c : SafetyCh) (k : Nat) :
    s.soPin c k = false ∧ s.chnPin c = false ∧ s.tpPin k = false := by
  simp [State.soPin, State.chnPin, State.tpPin, State.safePinsLive, h]

theorem chainInput_of_not_safety {s : State} (h : s.part.safety = false) (a b : Bool) : chainInput a b s = s := by
  simp [chainInput, h]

theorem exec_parcelReceive (p : List Byte) (s : State) : exec (.parcelReceive p) s = .next (parcelIn p s) := rfl

theorem exec_chainInputChange (a b : Bool) (s : State) : exec (.chainInputChange a b) s = .next (chainInput a b s) := rfl

theorem exec_chainDarkPulse (c : SafetyCh) (ok : Bool) (s : State) :
    exec (.chainDarkPulse c ok) s = .next (chainPulse c ok s) := rfl

theorem exec_chainEstablishTimeout (s : State) : exec .chainEstablishTimeout s = .next (chainLate s) := rfl

theorem exec_sealChange (code : BitVec 8) (we : Bool) (seenB : Option (BitVec 9)) (s : State) :
    exec (.sealChange code we seenB) s = .next (if s.part.safety then sealChange code we seenB s else s) := rfl

theorem exec_configSelection (readB : NorRead) (s : State) :
    exec (.configSelection readB) s = .next (configSelection readB s) := rfl

/-- A selection that takes place. -/
theorem configSelection_eq {s : State} (hp : s.part.safety = true) (hconf : s.configured = true) (readB : NorRead) :
    configSelection readB s = safeDone s (selectCfg readB (s.put F.sealStatStable 1)) := by
  simp [configSelection, hp, hconf]

/-- The outcome of a selection, with its events. -/
theorem configSelection_spec {s : State} (hc : s.Canonical) (hp : s.part.safety = true) (hconf : s.configured = true)
    {readB : NorRead} {a b : Nat × Nat} {slot r : Nat} (hslot : s.safe.code.toNat % 8 = slot) (ha : selectCopy slot s = a)
    (hb : selectCopyB (decide (readB = .bad)) s = b) (hr : bothResults a b (slot == s.safe.sealB.toNat % 8) = r) :
    (configSelection readB s).get F.sealStatResult = r ∧ (a.2 ≠ b.2 → r = 36) ∧
      (r = 0 → (configSelection readB s).safe.cfg = s.safeBytes a.1 slot ∧
        (configSelection readB s).flag F.safeStatSealSafe = false ∧ (configSelection readB s).raised 0x071 4 = true) ∧
      (r ≠ 0 → (configSelection readB s).safe.cfg = [] ∧ (configSelection readB s).lastingCode 0x071 = 0x40 ∧
        (configSelection readB s).raised 0x071 5 = true) ∧
      ∀ c m, (((configSelection readB s).ch c).out m).st ≠ .on := by
  have hdiff : a.2 ≠ b.2 → r = 36 := fun h => hr.symm.trans (bothResults_differ h _)
  rw [configSelection_eq hp hconf, flag_safeDone, raised_safeDone, raised_safeDone,
    lastingCode_congr ((safeDone_doneTouch _ _).lasting rfl)]
  by_cases h0 : r = 0
  · subst h0
    obtain ⟨hsel, hflag, hraised⟩ := selectCfg_valid hc hslot ha hb hr
    obtain ⟨hcfg, hres, hoff⟩ := hsel.safeDone s
    exact ⟨hres, hdiff, fun _ => ⟨hcfg, hflag, hraised⟩, fun h => absurd rfl h, hoff⟩
  · obtain ⟨hsel, hlast, hraised⟩ := selectCfg_invalid hc hp hslot ha hb hr h0
    obtain ⟨hcfg, hres, hoff⟩ := hsel.safeDone s
    exact ⟨hres, hdiff, fun h => absurd h h0, fun _ => ⟨hcfg, hlast, hraised⟩, hoff⟩

/-- Settles O53: each input by the lemma of its operation, and the pins of a part without the functions are never live. -/
theorem safetyInputsTakeEffect : Obligations.SafetyInputsTakeEffect := by
  unfold Obligations.SafetyInputsTakeEffect
  refine ⟨fun s hp => ⟨fun a b => ?_, fun code we seenB => ?_, safePins_of_not_safety hp⟩, fun s hc hp =>
    ⟨fun p c ok hr hcfg hj => ?parcelBad, fun p c n t k hr hcfg hj hk => ?parcelPassed, fun a b => ?chainInput,
      fun c hr hcfg hm hcl => ?chainPulse, fun hr he => ?chainLate, fun code we seenB b hb => ?sealChange,
      fun readB a b slot r hconf hslot ha hb hr => ?selection⟩⟩
  · rw [exec_chainInputChange, chainInput_of_not_safety hp]
  · rw [exec_sealChange, if_neg (by rw [hp]; exact Bool.false_ne_true)]
  case parcelBad => exact ⟨_, exec_parcelReceive p s, parcelIn_bad hr hcfg hj⟩
  case parcelPassed => exact ⟨_, exec_parcelReceive p s, parcelIn_passed hr hcfg hj hk⟩
  case chainInput =>
    obtain ⟨hA, hB⟩ := chainInput_wires hp a b
    refine ⟨_, exec_chainInputChange a b s, hA, hB, fun hr hcfg hm he ha hb => ?_⟩
    subst ha hb
    exact chainInput_closes hc hp hr hcfg hm he
  case chainPulse =>
    exact ⟨⟨_, exec_chainDarkPulse c true s, chainPulse_ok hc c hr hcfg hm hcl⟩,
      ⟨_, exec_chainDarkPulse c false s, chainPulse_fault hc c hr hcfg hm hcl⟩⟩
  case chainLate => exact ⟨_, exec_chainEstablishTimeout s, chainLate_opens hr he⟩
  case sealChange =>
    obtain ⟨hcode, hwe, hsealB⟩ := sealChange_reads hc code we seenB
    refine ⟨sealChange code we seenB s, ?_, hcode, hwe, hsealB.trans hb, fun hr h => sealChange_moved hc hr code we seenB hb h⟩
    rw [exec_sealChange, if_pos hp]
  case selection => exact ⟨_, exec_configSelection readB s, configSelection_spec hc hp hconf hslot ha hb hr⟩

end Sys2Proof.Machine
end
